-- ==== Sys2Proof/Word.lean ====
section
/-! DEFINITION. The words of the DZ-5: the 40-bit word of the object dictionary, the 256-bit HBM line, 80-bit time. -/

namespace Sys2Proof

/-- One byte of memory. -/
abbrev Byte := BitVec 8

/-- One 40-bit word: the unit in which every object value and every line word travels (02, "Types"). -/
abbrev Word := BitVec 40

/-- An 80-bit value: Meridian time and every U80 object (02, "Types"; 03). -/
abbrev U80 := BitVec 80

/-- One 256-bit HBM line: six words and a 16-bit tag (01, R22). -/
abbrev LineData := BitVec 256

/-- A sparse map by numeric key: the listed entries, keys strictly rising, none equal to what its key reads as
when unlisted. What an unlisted key reads as is given to every operation. -/
abbrev SMap (α : Type) := List (Nat × α)

end Sys2Proof
end

