-- ==== Sys2Proof/Syntax.lean ====
section
/-! DEFINITION. Syntax.lean: the commands of the DZ-5, one constructor per row of the table of operations and events, with their operands. -/

namespace Sys2Proof

/-- What an OD transaction carries beside its object and value: its SOURCE (02, bit map of a SOURCE value) and the
role epoch it expects, if it carries one (R72). -/
structure Req where
  src : Word
  epoch : Option (BitVec 8)
  deriving DecidableEq, Repr

/-- A producer of queue cells (10): its burst queue (0 to 47 a cluster's, 48 the device paths') and its unit
(0 sequencer, 1 and 2 ADC0 and ADC1, 3 stamp capture, 4 to 7 RU0 to RU3, 8 PUSH). -/
structure Producer where
  burst : Nat
  unit : Nat
  deriving DecidableEq, Repr

/-- What a producer gives a queue (10, R311 to R314): a whole item, the head of a packet with its CLASS and UNIT,
one line of its open packet, or the end of that packet (TRUNCATED or COMPLETE). -/
inductive QPart where
  | item (lines : List LineData)
  | head (cls unit : Nat)
  | line (l : LineData)
  | done
  deriving DecidableEq, Repr

/-- How the flash programming and verify of a commit end (18, R507, R510): a failure carries the flash byte address. -/
inductive FlashResult where
  | good
  | failed (address : BitVec 26)
  deriving DecidableEq, Repr

/-- A Halo frame (12, bit map of a frame), without the LSEQ and CRC that the link adds. -/
structure Frame where
  ty : BitVec 4
  vc : Bool
  dest : BitVec 24
  src : BitVec 24
  hops : BitVec 16
  payload : List Word
  deriving DecidableEq, Repr

/-- A received FEC codeword (12, R349): the control field's KIND and CW_SEQ, the words, whether the FEC could not
correct it, and the symbols it corrected. -/
structure Codeword where
  kind : BitVec 2
  seq : BitVec 12
  words : List Word
  bad : Bool
  corrected : Nat
  deriving DecidableEq, Repr


/-- What the comparators of a cluster's 24 lanes see at strobe A and at strobe B of one cycle, two bits a lane: 0 L, 1 M,
2 H, 3 a state that did not hold throughout a window (04, R114; 05, R160). -/
structure Samples where
  a : BitVec 48
  b : BitVec 48
  deriving DecidableEq, Repr

/-- A comparator transition (08, table of stamp edge selection). -/
inductive Crossing where
  | intoH | intoL | outOfL | outOfH
  deriving DecidableEq, Repr

/-- What a word of an on-chip bank holds a part of, where that concerns the model: a context's cached line, a vector in a
cluster's loop buffer, a queue's cell in a burst queue (15, R436). -/
inductive BankItem where
  | other
  | context (n : Fin 1048576)
  | vector (c : Fin 48) (addr : Nat)
  | cell (q : Fin 65536) (num : Nat)
  deriving DecidableEq, Repr

/-- What a refresh of a stack brings: the stack, and how many single errors it has corrected since the last one (15, R429). -/
structure StackRefresh where
  stack : Fin 2
  corrected : Nat
  deriving DecidableEq, Repr

/-- What BRINGUP step 2 reads from outside the die: the flash areas whose check fails (bit 0 bank A, bit 1 bank B, bit 2 the factory
Almanac), and the VOUT_MODE that the regulator answers, if it does (19, R536; 21, R569). -/
structure BootRead where
  badFlash : BitVec 3
  vout : Option (BitVec 8)
  deriving DecidableEq, Repr

/-- A word that a background test finds: the fault source of its bank's owner, the bank and the word, whether it fails its
march patterns, whether its saved copy failed parity, and what it belongs to (15, R440, R441). -/
structure BankWord where
  source : Fin 512
  bank : BitVec 8
  word : BitVec 32
  march : Bool
  parity : Bool
  item : BankItem
  deriving DecidableEq, Repr


/-- What an OD transaction meets in the device that is not the model's to know: upsets of HBM lines it reads, the first cell of
a queue whose link fails parity (10, R322), the scratch words that port A writes in the same bank step (15, R443), and at CLEAR
whether the unlocked domains lock again and whether the collector's rebuild passes its check (17, R491). -/
structure Env where
  upset : List (Nat × LineData)
  broken : Option Nat
  clash : List (Nat × Word)
  relocked : Bool
  rebuilt : Bool
  deriving DecidableEq, Repr

/-- Nothing goes wrong. -/
def Env.calm : Env := ⟨[], none, [], true, true⟩

/-- A write to a host-interface or service-port register (13, R382; 20): in BAR0 by offset, size in bytes and value, or a poisoned request to it; the function's
Bus Master Enable, MSI-X Enable and function mask; a service-port register. -/
inductive RegWrite where
  | bar0 (offset size value : Nat)
  | poisoned
  | function (busMaster msixEnable functionMask : Bool)
  | service (reg : Fin 64) (value : BitVec 8)
  deriving DecidableEq, Repr

/-- An instruction of the test access port (21, R582). -/
inductive TapInstr where
  | extest | extestPulse | extestTrain | bypass | sample | preload | idcode
  deriving DecidableEq, Repr
/-- The commands, one constructor per row of opcode_table.json; those that are OD transactions stand last. `t` is the instant of the step on LOCAL, in et. -/
inductive Instr where
  /-- REGISTER_WRITE (R382): A write to a host-interface or service-port register that has no row of its own stores its value, or is discarded and counted as a bad access. -/
  | registerWrite (w : RegWrite) (t : Nat)
  /-- ACQUIRE_GRANT (R69): A waiting ACQUIRE is granted when its range becomes free of held locks and earlier overlapping waiters and a slot is free. -/
  | acquireGrant (src : Word) (t : Nat)
  /-- ACQUIRE_WAIT_EXPIRY (R69): The wait limit of a waiting ACQUIRE expires, and the request ends with 0x0006 or 0x0021. -/
  | acquireWaitExpiry (src : Word) (t : Nat)
  /-- LEASE_EXPIRY (R66): The lease of a held lock expires, and the lock is broken. -/
  | leaseExpiry (slot : Fin 64) (t : Nat)
  /-- ROUTE_LOSS_TIMEOUT (R371): The owner of a lock has stayed unroutable for 1 ms, so the route to it counts as lost and its locks break. -/
  | routeLossTimeout (dev : BitVec 24) (t : Nat)
  /-- LOAD_CMD_TIMEOUT (R93): An armed LOAD_CMD 1 meets no SYNC_IN edge within 1 s and ends with 0x0053. -/
  | loadCmdTimeout (t : Nat)
  /-- SYNC_IN_EDGE (R92): A rising edge on SYNC_IN is stamped into SYNC_IN_LAST, presented as source 0x2008, and performs an armed load. -/
  | syncInEdge (t : Nat)
  /-- OFFSET_SLEW (R90): At each SLEW_INTERVAL a LOCKED slave moves OFFSET by at most 1 mt toward its estimate. -/
  | offsetSlew (t : Nat)
  /-- SYNC_SEND (R83): At each SYNC_INTERVAL a master sends SYNC frames on every sync-enabled port. -/
  | syncSend (t : Nat)
  /-- SYNC_LOSS_TIMEOUT (R83): A LOCKED slave receives no sync frame for 3 sync intervals and moves to HOLDOVER. -/
  | syncLossTimeout (t : Nat)
  /-- DELAY_REQ_SEND (R87): Once per SYNC_INTERVAL a port with a DZ-5 partner sends a stamped delay request. -/
  | delayReqSend (port : Fin 4) (t : Nat)
  /-- SYNC_OUT_PULSE (R94): Meridian time reaches a multiple of SYNC_OUT_PERIOD, and SYNC_OUT rises. -/
  | syncOutPulse (t : Nat)
  /-- SYNC_OUT_PULSE_END (R94): SYNC_OUT falls after being high for 1,280 mt. -/
  | syncOutPulseEnd (t : Nat)
  /-- EVENT_OCCURRENCE (R98): An occurrence on an event line reaches the sinks of that line, is exported over Halo when EXPORT is set, and is counted. -/
  | eventOccurrence (line : Fin 512) (stamp : U80) (timed : Bool)
  /-- EVT_INPUT_EDGE (R103): An active edge on an EVT ball configured as input produces an occurrence. -/
  | evtInputEdge (ball : Fin 8) (rising : Bool) (t : Nat)
  /-- EVT_PULSE_END (R103): The WIDTH of an EVT output pulse expires and the ball returns to inactive. -/
  | evtPulseEnd (ball : Fin 8) (t : Nat)
  /-- TE_FIRE (R107): Meridian time reaches the T of an armed slot, and the slot fires on its line. -/
  | teFire (slot : Fin 64) (t : Nat)
  /-- TE_ISSUE_RX (R106): A received TIMED_EVENT frame of kind ISSUE arms a free slot, fires it late, marks it LATE, or is discarded as a duplicate. -/
  | teIssueRx (port : Fin 4) (f : Frame) (t : Nat)
  /-- TE_CANCEL_RX (R110): A received TIMED_EVENT frame of kind CANCEL cancels a matching ARMED slot, or logs TE_CANCEL_LATE. -/
  | teCancelRx (port : Fin 4) (f : Frame) (t : Nat)
  /-- LOAD_STROBE (R118): A LOAD strobe reaches a cluster, and its pending load values become active in one step. -/
  | loadStrobe (c : Fin 48) (t : Nat)
  /-- LEVEL_SETTLED (R118): The 20 µs settling after a level transition ends, and SETTLING clears. -/
  | levelSettled (c : Fin 48) (t : Nat)
  /-- LVLCLR_ASSERT (R121): A low level on LVLCLR_N is recognised: drivers turn off, and levels and stimulus outputs go to their clear codes. -/
  | lvlclrAssert (t : Nat)
  /-- LVLCLR_RELEASE (R123): LVLCLR_N returns high, and outputs hold their clear codes until the next LOAD strobe. -/
  | lvlclrRelease (t : Nat)
  /-- PMU_RANGE_SETTLED (R137): A PMU range change completes, and SETTLING clears. -/
  | pmuRangeSettled (c : Fin 48) (slice : Fin 25) (t : Nat)
  /-- LANE_MOVE_DONE (R144): A written lane move completes, and the new slice connects to the ball. -/
  | laneMoveDone (c : Fin 48) (t : Nat)
  /-- SLICE_SWAP_DONE (R144): At t1 the spare switch closes, slice 24 serves the lane, and the spare marker is enqueued. -/
  | sliceSwapDone (c : Fin 48) (t : Nat)
  /-- REHOME_DONE (R171): At t1 the rehomed slices resume on TD6, and the rehome marker is enqueued. -/
  | rehomeDone (c : Fin 48) (t : Nat)
  /-- SEQ_ARMED (R224): The stream's read-ahead and target store are loaded, and the sequencer reaches ARMED. -/
  | seqArmed (c : Fin 48) (t : Nat)
  /-- START_LINE_OCCURRENCE (R215): An occurrence on START_LINE fixes the start instant, or is counted in START_MISSED. -/
  | startLineOccurrence (c : Fin 48) (stamp : U80) (timed : Bool) (t : Nat)
  /-- RUN_START (R215): The start instant is reached, and the first vector plays. -/
  | runStart (c : Fin 48) (t : Nat)
  /-- JUMP_LINE_OCCURRENCE (R206): An occurrence on JUMP_LINE places a jump request to JUMP_LINE_TARGET, or is ignored outside RUN. -/
  | jumpLineOccurrence (c : Fin 48) (stamp : U80) (timed : Bool) (t : Nat)
  /-- JUMP_WINDOW_CLOSE (R207): The jump window of a segment closes, and the held request becomes pending for this boundary or deferred. -/
  | jumpWindowClose (c : Fin 48) (t : Nat)
  /-- ADV (R184): An ADV vector plays one cycle with its pin states and timing set, and its strobes are judged. -/
  | adv (c : Fin 48) (sample : Samples)
  /-- RPT (R185): An RPT vector plays for its count of cycles. -/
  | rpt (c : Fin 48) (sample : Samples)
  /-- LOOP (R186): A LOOPn vector loads counter n and records the loop start. -/
  | loop (c : Fin 48) (sample : Samples)
  /-- ENDL (R186): An ENDLn vector decrements counter n and loops back, closes the loop, or ends the run with LOOP_UNMATCHED. -/
  | endl (c : Fin 48) (sample : Samples)
  /-- JMP (R184): A JMP vector continues at the jump-table entry. -/
  | jmp (c : Fin 48) (sample : Samples)
  /-- JMPR (R187): A JMPR vector continues at its address plus a signed offset. -/
  | jmpr (c : Fin 48) (sample : Samples)
  /-- CALL (R187): A CALL vector pushes a + 1 and jumps, or ends the run with STACK_OVERFLOW. -/
  | call (c : Fin 48) (sample : Samples)
  /-- RET (R187): A RET vector pops the return address, or ends the run with STACK_UNDERFLOW. -/
  | ret (c : Fin 48) (sample : Samples)
  /-- MATCH (R192): A MATCH vector opens a match block with its iteration limit. -/
  | matchBlock (c : Fin 48) (sample : Samples)
  /-- ENDM (R194): An ENDM vector ends an iteration, judges the site matches, and repeats or exits the block. -/
  | endm (c : Fin 48) (sample : Samples)
  /-- MATCH_GROUP_RESULT (R194): Match results from the other clusters of a match group arrive through the fabric. -/
  | matchGroupResult (c : Fin 48) (t : Nat)
  /-- SEG (R198): A SEG vector plays one cycle and ends its segment at tb. -/
  | seg (c : Fin 48) (sample : Samples)
  /-- MARK (R189): A MARK vector produces a marker occurrence stamped at its cycle start. -/
  | mark (c : Fin 48) (sample : Samples)
  /-- WAIT (R188): A WAIT vector plays whole cycles until its release instant has passed. -/
  | wait (c : Fin 48) (sample : Samples)
  /-- WAIT_RELEASE (R188): An occurrence on the WAIT line sets the release instant of the WAIT. -/
  | waitRelease (c : Fin 48) (line : Fin 512) (stamp : U80) (timed : Bool) (t : Nat)
  /-- WAIT_TIMEOUT (R188): WAIT_TIMEOUT expires without a release, and a wait-timeout item is enqueued. -/
  | waitTimeout (c : Fin 48) (t : Nat)
  /-- APGS (R235): An APGS vector takes APG-generated pin states for mapped lanes and executes one APG instruction. -/
  | apgs (c : Fin 48) (sample : Samples)
  /-- HALT (R217): A HALT vector ends the run in DONE. -/
  | halt (c : Fin 48) (sample : Samples)
  /-- BAD_OPCODE (R191): A vector with a reserved opcode ends the run in ERROR without playing. -/
  | badOpcode (c : Fin 48)
  /-- SEGMENT_BOUNDARY (R199): At tb the cluster takes the jump decision, activates boundary values, produces step-3 occurrences and items, and starts any gap. -/
  | segmentBoundary (c : Fin 48)
  /-- BOUNDARY_GAP_END (R202): The keep-alive cycles cover the requested gap length, and the next segment starts at ts. -/
  | boundaryGapEnd (c : Fin 48)
  /-- STREAM_REFILL (R226): A stream HBM read completes and delivers vector lines to the loop buffers of the cluster or broadcast group. -/
  | streamRefill (c : Fin 48) (into : Fin 6) (upset : List (Nat × LineData)) (t : Nat)
  /-- STREAM_GAP (R228): A cycle start falls due without the next vector on hand, and a keep-alive cycle plays instead. -/
  | streamGap (c : Fin 48)
  /-- STREAM_GAP_END (R230): The awaited vector arrives, plays at the end of the keep-alive cycle, and the stream-gap marker is enqueued. -/
  | streamGapEnd (c : Fin 48) (t : Nat)
  /-- BCAST_HOLD_LIMIT (R234): A leader has held for HOLD_LIMIT, and the lowest member is detached onto a unicast stream. -/
  | bcastHoldLimit (group : Fin 48) (t : Nat)
  /-- ADC_LINE_TRIGGER (R253): An occurrence on TRIG_LINE releases a LINE step in WAIT_TRIG, or is counted as ignored. -/
  | adcLineTrigger (c : Fin 48) (n : Fin 2) (stamp : U80) (timed : Bool) (t : Nat)
  /-- ADC_AUTO_TRIGGER (R253): AUTO_TIMEOUT expires and releases the waiting step. -/
  | adcAutoTrigger (c : Fin 48) (n : Fin 2) (t : Nat)
  /-- ADC_SAMPLE (R248): An ADC sample is taken on the MREF grid and converted; a level trigger is judged. -/
  | adcSample (c : Fin 48) (n : Fin 2) (code : BitVec 16) (compliance : Bool) (t : Nat)
  /-- ADC_INTERVAL_END (R257): An interval ends: its result is formed and masked, an item is sent, and at the last interval the step ends. -/
  | adcIntervalEnd (c : Fin 48) (n : Fin 2) (upset : List (Nat × LineData)) (t : Nat)
  /-- STAMP (R263): A selected comparator transition is stamped, or is missed in dead time. -/
  | stamp (c : Fin 48) (lane : Fin 24) (edge : Crossing) (t : Nat)
  /-- STAMP_DRAIN (R265): A stamp leaves a slice burst buffer toward the queue pool. -/
  | stampDrain (c : Fin 48) (t : Nat)
  /-- STAMP_GATE_OPEN (R266): The capture gate opens at its release instant. -/
  | stampGateOpen (c : Fin 48) (t : Nat)
  /-- STAMP_GATE_CLOSE (R266): The capture gate closes, and one stamp record per lane is written. -/
  | stampGateClose (c : Fin 48) (t : Nat)
  /-- RU_GATE_OPEN (R268): The first regression gate opens at the release instant. -/
  | ruGateOpen (c : Fin 48) (n : Fin 4) (t : Nat)
  /-- RU_GATE_END (R271): A regression gate ends: the slope gives period and frequency, an item or record is sent, and the next gate opens. -/
  | ruGateEnd (c : Fin 48) (n : Fin 4) (t : Nat)
  /-- RED_UPDATE_APPLY (R280): A reduction engine takes an update from a role input and applies it to its context under the recipe. -/
  | redUpdateApply (c : Fin 48) (role : Fin 16) (evict : Option (Fin 1048576)) (upset : List (Nat × LineData)) (t : Nat)
  /-- DROP_LIST_FLUSH (R289): Room returns in a cluster input, and each drop-list entry sets DROPPED in its context. -/
  | dropListFlush (c : Fin 48) (t : Nat)
  /-- FAIL_UPDATE_SEND (R288): The fail coalescer sends a merged fail update once 64 plays have passed or a boundary or run end comes. -/
  | failUpdateSend (c : Fin 48) (t : Nat)
  /-- SWEEP_STEP (R291): A sweep closes or resets one context at the sweep rate. -/
  | sweepStep (upset : List (Nat × LineData)) (t : Nat)
  /-- LINE_CLOSE_OCCURRENCE (R294): An occurrence on CLOSE_LINE fixes Tc for every context bound to the parameter set. -/
  | lineCloseOccurrence (line : Fin 512) (stamp : U80) (t : Nat)
  /-- LINE_CLOSE_BEGIN (R294): Tc + CLOSE_DELAY is reached, and the engines begin closing the contexts. -/
  | lineCloseBegin (t : Nat)
  /-- TAKEOVER_DONE (R301): At t1 the spare starts applying the role's waiting updates. -/
  | takeoverDone (engine : Fin 18) (t : Nat)
  /-- Q_APPEND (R308): A cell enters a burst queue and is appended to its queue, or meets a full queue. -/
  | qAppend (q : Fin 65536) (prod : Producer) (part : QPart) (broken : Bool) (t : Nat)
  /-- BURST_WRITEBACK (R308): A burst-queue cell is written in the background to its pool line. -/
  | burstWriteback (q : Fin 65536) (num : Nat) (loc : Nat)
  /-- AS_LOAD_STROBE (R333): A LOAD strobe reaches a stimulus output, and its pending values become active. -/
  | asLoadStrobe (n : Fin 32) (t : Nat)
  /-- AS_RANGE_SWITCH (R334): 2 µs after a range-changing strobe, the output range switches while the output holds CLR_V. -/
  | asRangeSwitch (n : Fin 32) (t : Nat)
  /-- AS_RANGE_DONE (R334): 20 µs after the strobe, the new active value is applied and RANGING clears. -/
  | asRangeDone (n : Fin 32) (t : Nat)
  /-- AS_ARMED (R341): Prefetch or the NCO table is loaded, and the output reaches ARMED. -/
  | asArmed (n : Fin 32) (upset : List (Nat × LineData)) (t : Nat)
  /-- AS_START_LINE (R339): An occurrence on START_LINE starts playback, or releases a WAIT entry. -/
  | asStartLine (n : Fin 32) (stamp : U80) (timed : Bool) (t : Nat)
  /-- AS_SAMPLE (R339): A sample instant passes, and the output plays the next waveform or NCO sample. -/
  | asSample (n : Fin 32) (t : Nat)
  /-- AS_PREFETCH (R342): A waveform read completes and fills the output's prefetch. -/
  | asPrefetch (n : Fin 32) (upset : List (Nat × LineData)) (t : Nat)
  /-- SIGNAL_DETECT (R348): Signal appears on at least MIN_WIDTH lanes, and the port starts training. -/
  | signalDetect (port : Fin 4) (lanes : BitVec 4) (t : Nat)
  /-- PORT_TRAINED (R357): Training completes, and the port enters UP or ISOLATED by the checks. -/
  | portTrained (port : Fin 4) (rate : Nat) (lanes : BitVec 4) (t : Nat)
  /-- TRAINING_TIMEOUT (R348): The port has not trained within 50 ms and returns to DOWN. -/
  | trainingTimeout (port : Fin 4) (t : Nat)
  /-- CODEWORD_RX (R349): An FEC codeword is received on a lane, decoded and restored into the word stream by CW_SEQ. -/
  | codewordRx (port lane : Fin 4) (cw : Codeword) (t : Nat)
  /-- LINK_LOSS_TIMEOUT (R355): No valid codeword arrives for 5 µs; the port goes DOWN and raises an S2 fault. -/
  | linkLossTimeout (port : Fin 4) (t : Nat)
  /-- RING_STATE_RESEND (R375): Every 10 ms while the link stays down, RING_STATE BROKEN is resent. -/
  | ringStateResend (port : Fin 4) (t : Nat)
  /-- RESTORE_HOLD_EXPIRY (R376): RESTORE_HOLD after a broken link trains expires, and RING_STATE RESTORED is sent. -/
  | restoreHoldExpiry (port : Fin 4) (t : Nat)
  /-- FRAME_SEND (R353): At a frame boundary the egress sends the first non-empty class, subject to credit and replay limits. -/
  | frameSend (port : Fin 4) (t : Nat)
  /-- OD_REQUEST_RX (R366): A complete OD_REQUEST train is performed, resent from cache, relayed, discarded or answered 0x0066 by SEQ. -/
  | odRequestRx (port : Fin 4) (train : List Frame) (e : Env) (t : Nat)
  /-- OD_REPLY_RX (R367): An OD_REPLY delivers its result to the requester, or triggers a resend on 0x0066. -/
  | odReplyRx (port : Fin 4) (train : List Frame) (t : Nat)
  /-- REPLY_TIMEOUT (R367): The oldest unanswered request gets no reply within REPLY_TIMEOUT; requests are resent or ended with 0x0060. -/
  | replyTimeout (dev : BitVec 24) (t : Nat)
  /-- TRAIN_TIMEOUT (R364): A frame train still incomplete after REPLY_TIMEOUT is discarded. -/
  | trainTimeout (src : BitVec 24) (reply : Bool) (t : Nat)
  /-- EVENT_FRAME_RX (R104): An EVENT frame is accepted once and its occurrences are presented through the IMPORT table. -/
  | eventFrameRx (port : Fin 4) (f : Frame) (t : Nat)
  /-- SYNC_RX (R85): A SYNC frame updates the slave's offset estimate and sync state and is forwarded downstream. -/
  | syncRx (port : Fin 4) (f : Frame) (t : Nat)
  /-- DELAY_REQ_RX (R87): A delay request is stamped and answered with a delay reply. -/
  | delayReqRx (port : Fin 4) (f : Frame) (t : Nat)
  /-- DELAY_REPLY_RX (R87): A delay reply gives the one-way path delay of the port. -/
  | delayReplyRx (port : Fin 4) (f : Frame) (t : Nat)
  /-- RING_BROKEN_RX (R375): RING_STATE BROKEN is accepted, the link is entered in BROKEN, and routes follow. -/
  | ringBrokenRx (port : Fin 4) (f : Frame) (t : Nat)
  /-- RING_RESTORED_RX (R376): RING_STATE RESTORED is accepted, and the link is removed from BROKEN. -/
  | ringRestoredRx (port : Fin 4) (f : Frame) (t : Nat)
  /-- LINK_INFO_RX (R357): A received LINK_INFO is checked, and the port moves between UP and ISOLATED. -/
  | linkInfoRx (port : Fin 4) (f : Frame) (t : Nat)
  /-- RESERVED_FRAME_RX (R350): A frame of a reserved type, or a corrupted frame, is discarded. -/
  | reservedFrameRx (port : Fin 4) (words : List Word) (t : Nat)
  /-- CREDIT_RX (R351): A CREDIT control word returns frame credits for a virtual channel. -/
  | creditRx (port : Fin 4) (vc : Bool) (n : Nat)
  /-- ACK_RX (R352): An ACK releases held frames up to its LSEQ. -/
  | ackRx (port : Fin 4) (lseq : BitVec 8)
  /-- NAK_RX (R352): A NAK makes the sender replay held frames from its LSEQ; the 8th NAK takes the port DOWN. -/
  | nakRx (port : Fin 4) (lseq : BitVec 8) (t : Nat)
  /-- LANE_DROP_RX (R354): A LANE_DROP control word stops dealing to the named lanes and is answered. -/
  | laneDropRx (port : Fin 4) (lanes : BitVec 4) (t : Nat)
  /-- LANE_DROP_ACK_RX (R354): A LANE_DROP_ACK confirms the partner's lane drop. -/
  | laneDropAckRx (port : Fin 4) (lanes : BitVec 4) (t : Nat)
  /-- RETRAIN_WORD_RX (R354): A received RETRAIN control word takes the port to TRAINING. -/
  | retrainWordRx (port : Fin 4) (t : Nat)
  /-- ACK_TIMER (R352): After 1 µs, or 16 frames accepted, an ACK with the last accepted LSEQ is sent. -/
  | ackTimer (port : Fin 4)
  /-- NAK_REPEAT (R352): Every 10 µs while waiting for a frame, the NAK is repeated. -/
  | nakRepeat (port : Fin 4)
  /-- CREDIT_STALL_TIMEOUT (R362): An egress with frames has had no credit for 10 ms, and an S1 fault is raised. -/
  | creditStallTimeout (port : Fin 4) (vc : Bool) (t : Nat)
  /-- LINK_DOWN (R404): A PCI Express DL_Down resets host-interface state and breaks host-path locks. -/
  | linkDown (t : Nat)
  /-- FLR (R404): A function-level reset resets host-interface state and breaks host-path locks. -/
  | flr (t : Nat)
  /-- G1_REG0_READ (R388): A read of G1 register 0 performs one OD READ and fills the read latch. -/
  | g1Reg0Read (addr : BitVec 24) (e : Env) (t : Nat)
  /-- G1_REGN_READ (R388): A read of G1 register 1 to 3 returns the latch, or reads the object first. -/
  | g1RegnRead (addr : BitVec 24) (e : Env) (t : Nat)
  /-- G1_HIGH_WRITE (R389): A write of G1 register 1 to 3 stores its part in the write latch. -/
  | g1HighWrite (addr : BitVec 24) (v : BitVec 32) (t : Nat)
  /-- G1_REG0_WRITE (R389): A write of G1 register 0 performs one OD WRITE with the latched parts and clears the latch. -/
  | g1Reg0Write (addr : BitVec 24) (v : BitVec 32) (e : Env) (t : Nat)
  /-- DOM_DATA_LO_READ (R390): A read of DOM_DATA_LO performs a one-word DOMAIN read at DOM_OFFSET. -/
  | domDataLoRead (e : Env) (t : Nat)
  /-- DOM_DATA_HI_READ (R390): A read of DOM_DATA_HI returns the high bits and advances DOM_OFFSET. -/
  | domDataHiRead (t : Nat)
  /-- DOM_DATA_HI_WRITE (R390): A write of DOM_DATA_HI latches bits [39:32]. -/
  | domDataHiWrite (v : BitVec 32) (t : Nat)
  /-- DOM_DATA_LO_WRITE (R390): A write of DOM_DATA_LO performs a one-word DOMAIN write and advances DOM_OFFSET. -/
  | domDataLoWrite (v : BitVec 32) (e : Env) (t : Nat)
  /-- RES_DATA_READ (R392): A read of RES_DATA at 0x110 performs a result read of RES_CTX and latches it. -/
  | resDataRead (addr : BitVec 24) (e : Env) (t : Nat)
  /-- POP_DATA_READ (R392): A read of POP_DATA at 0x210 pops one cell of POP_QUEUE and latches the slot. -/
  | popDataRead (addr : BitVec 24) (e : Env) (t : Nat)
  /-- G1_ABORT_CLEAR (R391): A write of G1_ABORT clears the register. -/
  | g1AbortClear (t : Nat)
  /-- MB_GO (R393): A write of MB_GO submits a mailbox transaction, locally or to a remote device. -/
  | mbGo (m : Fin 8) (v : BitVec 64) (e : Env) (t : Nat)
  /-- MB_DONE (R394): A mailbox transaction ends: data, count and status are written, and the interrupt is sent. -/
  | mbDone (m : Fin 8) (t : Nat)
  /-- RING_ENABLE (R396): Writing CONTROL ENABLE 1 starts a descriptor ring. -/
  | ringEnable (r : Fin 64) (control : BitVec 32) (t : Nat)
  /-- RING_DISABLE (R402): Writing ENABLE 0 stops fetching and disables the ring after its last completion. -/
  | ringDisable (r : Fin 64) (t : Nat)
  /-- HEAD_DOORBELL (R397): A HEAD write makes descriptors ready for fetch. -/
  | headDoorbell (r : Fin 64) (v : BitVec 32) (t : Nat)
  /-- DESCRIPTOR_FETCH (R397): A DMA read of descriptors completes, and they are handed to the OD service in ring order. -/
  | descriptorFetch (r : Fin 64) (descs : List (List (BitVec 64))) (t : Nat)
  /-- G3_READ (R398): A READ descriptor performs one OD read into the host buffer. -/
  | g3Read (r : Fin 64) (e : Env) (t : Nat)
  /-- G3_WRITE (R398): A WRITE descriptor performs one OD write from the host buffer. -/
  | g3Write (r : Fin 64) (buffer : List (BitVec 64)) (e : Env) (t : Nat)
  /-- G3_DESCRIBE (R398): A DESCRIBE descriptor returns the DESCRIBE reply into the buffer. -/
  | g3Describe (r : Fin 64) (t : Nat)
  /-- G3_STREAM (R399): A STREAM descriptor pops a queue into the buffer until count, buffer or wait ends it. -/
  | g3Stream (r : Fin 64) (e : Env) (t : Nat)
  /-- G3_NOP (R398): A NOP descriptor completes without an OD transaction. -/
  | g3Nop (r : Fin 64) (t : Nat)
  /-- STREAM_WAIT_TIMEOUT (R399): A STREAM descriptor has delivered nothing for WAIT µs and completes. -/
  | streamWaitTimeout (r : Fin 64) (t : Nat)
  /-- G3_COMPLETION (R400): A completion entry is written after its buffer data, and the ring interrupt follows. -/
  | g3Completion (r : Fin 64) (t : Nat)
  /-- DMA_ERROR (R401): A DMA access returns an error or poisoned data, and the ring goes to ERROR. -/
  | dmaError (r : Fin 64) (address : BitVec 64) (t : Nat)
  /-- DMA_TIMEOUT (R401): A DMA read gets no completion within 50 ms, and the ring goes to ERROR. -/
  | dmaTimeout (r : Fin 64) (address : BitVec 64) (t : Nat)
  /-- BAR2_READ (R386): A BAR2 read returns a snapshot of the HBM lines it covers. -/
  | bar2Read (offset len : Nat) (upset : List (Nat × LineData)) (t : Nat)
  /-- BAR2_WRITE (R385): A BAR2 write stores whole or partial lines, or is discarded in system regions. -/
  | bar2Write (offset : Nat) (bytes : List Byte) (poisoned : Bool) (t : Nat)
  /-- MSIX_SEND (R403): An MSI-X message is sent for a vector whose cause arose, or held pending while masked. -/
  | msixSend (vec : Fin 64) (t : Nat)
  /-- PATCH_SWITCH (R420): At its next safe point an engine switches its patch bank and match registers in one step. -/
  | patchSwitch (u : Fin 66) (t : Nat)
  /-- ROUTINE_ENGINE_LOAD (R422): One engine's role is held, its routine store written, and the role released. -/
  | routineEngineLoad (t : Nat)
  /-- SEQ_MCHECK_DONE (R413): The cluster's stores are reloaded and verified, and ARM is accepted again. -/
  | seqMcheckDone (c : Fin 48) (t : Nat)
  /-- HBM_REFRESH (R429): A stack refreshes at the interval its thermal band selects. -/
  | hbmRefresh (refresh : StackRefresh) (t : Nat)
  /-- ROW_REPAIR (R433): In an idle window a listed row is read, repaired by post-package repair, and written back. -/
  | rowRepair (pc : Fin 64) (upset : List (Nat × LineData)) (t : Nat)
  /-- WAKE_DONE (R438): The wake completes, and the sequencer is IDLE. -/
  | wakeDone (c : Fin 48) (t : Nat)
  /-- BANK_TEST (R440): Every TEST_INTERVAL each bank tests one region transparently, sparing failing words. -/
  | bankTest (found : List BankWord) (t : Nat)
  /-- ARB_GRANT (R444): An arbiter grants the waiting request of highest class and effective priority, ageing the others. -/
  | arbGrant (arb : Fin 101) (asks : List (Fin 16 × Nat)) (t : Nat)
  /-- HOLD_CUT (R447): A grant exceeds BEAT_LIMIT or 10 µs without release and is cut. -/
  | holdCut (arb : Fin 101) (beats : Nat) (t : Nat)
  /-- HK_ROUND (R455): Each 1 ms round reads power sensors, advances the thermal model, sets bands and throttle level, samples monitors and drives PMBus. -/
  | hkRound (power : List (Option Nat)) (samples : List (Fin 256 × Int)) (pmbusAck : Option (BitVec 8)) (collectorBad : Bool) (t : Nat)
  /-- VR_ALERT (R465): PMB_ALERT_N low makes the DZ-5 read STATUS_WORD and log VR_ALERT. -/
  | vrAlert (status : BitVec 16) (t : Nat)
  /-- STARFIX_DONE (R477): A Starfix run completes, and its corrections are applied in one step. -/
  | starfixDone (c : Fin 48) (t : Nat)
  /-- CAL_OVERDUE (R474): A calibration request has waited longer than OVERDUE and is logged once. -/
  | calOverdue (c : Fin 48) (t : Nat)
  /-- FAULT_RAISE (R484): A source raises a fault, which is stamped, latched, logged and handled by its severity. -/
  | faultRaise (source : Fin 512) (cause : Fin 128) (sev : Fin 4) (detail : Word) (inj : Bool) (t : Nat)
  /-- ALMANAC_COMMITTED (R507): The flash programming and verify end, and the bank becomes active or the commit fails. -/
  | almanacCommitted (res : FlashResult) (t : Nat)
  /-- JOURNAL_DRAIN (R518): Entries drain from the on-chip journal head to HBM. -/
  | journalDrain (n : Nat)
  /-- JOURNAL_HOLD_RELEASE (R518): A transaction held for lack of journal head room is performed once room exists. -/
  | journalHoldRelease (e : Env) (t : Nat)
  /-- LOG_RECORD (R524): A log record enters the log input, or is lost when the input is full. -/
  | logRecord (code : BitVec 16) (arg0 arg1 : Word) (inj : Bool) (t : Nat)
  /-- LOG_STORE (R522): A record leaves the log input and is stored or merged into the newest record. -/
  | logStore 
  /-- RATE_WINDOW_CLOSE (R523): A rate window closes, and LOG_SUPPRESSED is stored for suppressed occurrences. -/
  | rateWindowClose (code : BitVec 16) (t : Nat)
  /-- POWER_ON (R528): The first rail rises, and the device enters POWERUP. -/
  | powerOn (t : Nat)
  /-- POWER_OFF (R528): Supplies are removed, and the device goes OFF. -/
  | powerOff (t : Nat)
  /-- COLD_RESET (R530): A low level on RESET_N or PERST_N is recognised: balls park, and the device returns to POWERUP. -/
  | coldReset (perst : Bool) (t : Nat)
  /-- RESET_RELEASE (R531): Rails are in range and RESET_N and PERST_N are high; the straps are sampled and BRINGUP starts. -/
  | resetRelease (bootSel : Fin 4) (testmode : Bool) (t : Nat)
  /-- BRINGUP_STEP_DONE (R536): A BRINGUP step completes, and the next step or the end state follows. -/
  | bringupStepDone (domains : List (Fin 48 × Fin 7)) (unlocked : List (Fin 512)) (boot : BootRead) (t : Nat)
  /-- BIST_DONE (R534): The built-in test ends, and BIST_RESULT is recorded. -/
  | bistDone (failed : BitVec 5) (t : Nat)
  /-- WARM_RESET_DONE (R540): The warm form ends, entries are journalled, and the device enters ECLIPSE, RECOVERY or READY. -/
  | warmResetDone (unlocked : List (Fin 512)) (t : Nat)
  /-- SVC_READ (R546): A service-port READ frame shifts out registers from the addressed one. -/
  | svcRead (reg : Fin 64) (edges : Nat) (t : Nat)
  /-- SVC_WRITE (R550): A service-port WRITE frame commits bytes to registers at select release. -/
  | svcWrite (reg : Fin 64) (bytes : List (BitVec 8)) (edges : Nat) (e : Env) (t : Nat)
  /-- SETLEN (R547): A SETLEN frame sets the frame length LEN. -/
  | setlen (len : BitVec 16) (edges : Nat) (t : Nat)
  /-- MBX_WRITE (R557): An MBX_WRITE frame appends words to the inbound mailbox. -/
  | mbxWrite (words : List Word) (edges : Nat) (t : Nat)
  /-- MBX_READ (R557): An MBX_READ frame removes and shifts out words from the outbound mailbox. -/
  | mbxRead (edges : Nat) (t : Nat)
  /-- STATUS (R546): A STATUS frame returns the status byte and does nothing else. -/
  | svcStatus (edges : Nat) (t : Nat)
  /-- SVC_RESERVED_COMMAND (R550): A frame with a reserved command is refused with ERR. -/
  | svcReservedCommand (code : BitVec 8) (edges : Nat) (t : Nat)
  /-- GO (R554): A committed write of GO = 0x01 submits the service-port OD transaction. -/
  | svcGo (e : Env) (t : Nat)
  /-- ATTN_CAUSE_CLEAR (R553): Writing 1 to a latched ATTN_CAUSE bit clears it. -/
  | attnCauseClear (bits : BitVec 8) (t : Nat)
  /-- DATA_ACCESS (R552): An access to DATA register 0x2B advances DATA_PTR at commit. -/
  | dataAccess (t : Nat)
  /-- SVC_OD_DONE (R555): A service-port transaction ends: the buffer and RESULT are filled, DONE is set, and ATTN latches. -/
  | svcOdDone (t : Nat)
  /-- FORWARDED_FRAME_RX (R360): A frame arrives whose DEST is another device; it is routed on by route entry, ring gateway or PARENT, or is found unroutable and discarded or answered 0x0063. -/
  | forwardedFrameRx (port : Fin 4) (f : Frame) (t : Nat)
  /-- CODEWORD_LOCK_LOSS (R354): A Halo receiver loses codeword lock on one lane, finds the lane bad, sends LANE_DROP and raises an S2 lane fault. -/
  | codewordLockLoss (port lane : Fin 4) (t : Nat)
  /-- HOST_LINK_TRAINED (R380): The PCI Express link trains at the highest common rate and width, and LINK_GEN, LINK_WIDTH and FLIT_MODE report it. -/
  | hostLinkTrained (gen width : Nat) (flit : Bool) (t : Nat)
  /-- QUICK_PASS_DONE (R478): The quick pass run for a cluster after its cluster reset ends, and SOURCE becomes QUICK, or FACTORY when it was aborted. -/
  | quickPassDone (c : Fin 48) (t : Nat)
  /-- TEST_ACCESS_PORT_INSTRUCTION (R582): A test access port sequence on TCK and TMS loads an instruction, and EXTEST, EXTEST_PULSE or EXTEST_TRAIN acts only while RESET_N is low and otherwise behaves as BYPASS. -/
  | testAccessPortInstruction (ins : TapInstr) (t : Nat)
  /-- OD_WRITE (R52): An OD WRITE of an object that has no row of its own is checked under R48, then applied, staged or refused, and journalled. -/
  | odWrite (rq : Req) (idx : BitVec 16) (sub : BitVec 8) (off : Nat) (vals : List Word) (e : Env) (t : Nat)
  /-- DESCRIBE (R46): A DESCRIBE transaction returns the type, access code, length and resolved default of an object. -/
  | describe (rq : Req) (idx : BitVec 16) (sub : BitVec 8) (t : Nat)
  /-- ACQUIRE (R69): ACQUIRE requests a sequence lock on an index range; it is granted at once, waits, or is refused. -/
  | acquire (rq : Req) (off : Nat) (vals : List Word) (t : Nat)
  /-- RENEW (R65): RENEW restarts the lease of a lock slot held by the writer. -/
  | renew (rq : Req) (slot : Word) (t : Nat)
  /-- COMMIT (R61): A lock COMMIT rechecks every staged write and applies all of them in one step, or applies none. -/
  | commit (rq : Req) (slot : Word) (t : Nat)
  /-- RELEASE (R70): RELEASE discards the staged writes of a slot and frees the slot. -/
  | release (rq : Req) (slot : Word) (t : Nat)
  /-- COMMIT_RELEASE (R70): COMMIT_RELEASE performs a COMMIT and frees the slot when the COMMIT succeeds. -/
  | commitRelease (rq : Req) (slot : Word) (t : Nat)
  /-- MODE_WRITE (R83): A write of the Meridian MODE moves the sync state to FREE, MASTER or UNSYNCED. -/
  | modeWrite (rq : Req) (v : Word) (t : Nat)
  /-- LOAD_CMD_AT_SYNC_IN (R93): LOAD_CMD 1 arms a load of Meridian time at the next rising edge of SYNC_IN. -/
  | loadCmdAtSyncIn (rq : Req) (t : Nat)
  /-- LOAD_CMD_NOW (R93): LOAD_CMD 2 steps Meridian time to LOAD_VALUE at once. -/
  | loadCmdNow (rq : Req) (t : Nat)
  /-- PULSE (R97): A write of PULSE produces one occurrence from source 0x4000 on that line, or is refused with 0x0054. -/
  | pulse (rq : Req) (line : Fin 512) (v : Word) (t : Nat)
  /-- ISSUE (R105): ISSUE arms a local timed-event slot and sends the timed event to its targets, or is refused. -/
  | issue (rq : Req) (off : Nat) (vals : List Word) (t : Nat)
  /-- CANCEL (R110): CANCEL sends a cancellation of a timed event this device issued to its targets. -/
  | cancel (rq : Req) (off : Nat) (vals : List Word) (t : Nat)
  /-- LOAD_NOW (R117): A write of LOAD_NOW gives the cluster a LOAD strobe. -/
  | loadNow (rq : Req) (c : Fin 48) (v : Word) (t : Nat)
  /-- ENABLE_WRITE (R127): A write of ENABLE parks or enables a slice, subject to the PMU rule. -/
  | enableWrite (rq : Req) (c : Fin 48) (slice : Fin 25) (v : Word) (t : Nat)
  /-- FORCE_STATE_WRITE (R128): A write of FORCE_STATE sets the driver to static VIL, static VIH or off, or returns it to the vector. -/
  | forceStateWrite (rq : Req) (c : Fin 48) (slice : Fin 25) (v : Word) (t : Nat)
  /-- PMU_MODE_WRITE (R135): A write of PMU_MODE connects or disconnects the PMU, checked against the device current budget. -/
  | pmuModeWrite (rq : Req) (c : Fin 48) (slice : Fin 25) (v : Word) (t : Nat)
  /-- PMU_RANGE_WRITE (R136): A write of PMU_RANGE starts a bumpless or gap range change, checked against the range and the budget. -/
  | pmuRangeWrite (rq : Req) (c : Fin 48) (slice : Fin 25) (v : Word) (t : Nat)
  /-- SPARE_LANE_WRITE (R143): A write of SPARE_LANE moves a lane onto slice 24 or back, copying its values and raising the role epoch. -/
  | spareLaneWrite (rq : Req) (c : Fin 48) (v : Word) (t : Nat)
  /-- ARM (R214): ARM of a sequencer clears its counters and starts the stream at START_ADDR. -/
  | arm (rq : Req) (c : Fin 48) (v : Word) (t : Nat)
  /-- START (R215): A write of START fixes the run start instant of an ARMED sequencer. -/
  | start (rq : Req) (c : Fin 48) (v : Word) (t : Nat)
  /-- STOP_AT_BOUNDARY (R216): STOP 1 ends the run at the next boundary that its window allows. -/
  | stopAtBoundary (rq : Req) (c : Fin 48) (t : Nat)
  /-- STOP_ABORT (R216): STOP 2 ends the run at the end of the cycle in progress. -/
  | stopAbort (rq : Req) (c : Fin 48) (t : Nat)
  /-- JUMP_REQUEST (R206): A JUMP_REQUEST write places an external jump request with a jump-table index. -/
  | jumpRequest (rq : Req) (c : Fin 48) (v : Word) (t : Nat)
  /-- BCAST_ARM (R232): The ARM of a broadcast group arms every member and starts the group stream. -/
  | bcastArm (rq : Req) (group : Fin 48) (v : Word) (t : Nat)
  /-- ADC_ARM (R260): ARM of an ADC sequence starts its step list at step 0. -/
  | adcArm (rq : Req) (c : Fin 48) (n : Fin 2) (v : Word) (t : Nat)
  /-- ADC_STOP_AFTER_STEP (R261): STOP 1 lets the step in progress complete and then stops the sequence. -/
  | adcStopAfterStep (rq : Req) (c : Fin 48) (n : Fin 2) (t : Nat)
  /-- ADC_STOP_NOW (R261): STOP 2 ends the step at once with a TRUNCATED record. -/
  | adcStopNow (rq : Req) (c : Fin 48) (n : Fin 2) (t : Nat)
  /-- STAMP_ARM (R266): ARM of stamp capture waits for its release instant. -/
  | stampArm (rq : Req) (c : Fin 48) (v : Word) (t : Nat)
  /-- STAMP_STOP_AT_CLOSE (R267): STOP 1 lets the capture gate run to its close. -/
  | stampStopAtClose (rq : Req) (c : Fin 48) (t : Nat)
  /-- STAMP_STOP_NOW (R267): STOP 2 closes the capture gate at once with TRUNCATED records. -/
  | stampStopNow (rq : Req) (c : Fin 48) (t : Nat)
  /-- RU_ARM (R268): ARM of a regression unit waits for its release instant. -/
  | ruArm (rq : Req) (c : Fin 48) (n : Fin 4) (v : Word) (t : Nat)
  /-- RU_STOP_AFTER_GATE (R268): STOP 1 ends the regression unit after the current gate. -/
  | ruStopAfterGate (rq : Req) (c : Fin 48) (n : Fin 4) (t : Nat)
  /-- RU_STOP_NOW (R268): STOP 2 ends the regression unit at once with a TRUNCATED result. -/
  | ruStopNow (rq : Req) (c : Fin 48) (n : Fin 4) (t : Nat)
  /-- CLOSE (R295): CLOSE of RED_DEVICE starts a sweep that closes a range of contexts. -/
  | close (rq : Req) (v : Word) (t : Nat)
  /-- RESET (R295): RESET of RED_DEVICE starts a sweep that writes a range of contexts empty. -/
  | reset (rq : Req) (v : Word) (t : Nat)
  /-- RESULT_READ (R297): A read of RESULTS returns result lines and sets ALREADY_READ on the first read after a close. -/
  | resultRead (rq : Req) (off cnt : Nat) (upset : List (Nat × LineData)) (t : Nat)
  /-- POP (R319): A read of POP removes up to k cells from the head of a queue and delivers them in slots. -/
  | pop (rq : Req) (off cnt : Nat) (upset : List (Nat × LineData)) (broken : Option Nat) (t : Nat)
  /-- PUSH (R326): A write of PUSH appends k cells as one item, or is refused. -/
  | push (rq : Req) (off : Nat) (vals : List Word) (t : Nat)
  /-- FLUSH (R324): FLUSH empties a queue in one step and re-arms its notification. -/
  | flush (rq : Req) (q : Fin 65536) (v : Word) (broken : Option Nat) (t : Nat)
  /-- CLEAR_HIT (R325): CLEAR_HIT clears LEVEL_HIT of a queue and its summary bit. -/
  | clearHit (rq : Req) (q : Fin 65536) (v : Word) (t : Nat)
  /-- QUEUE_ENABLE (R307): Writing CONFIG ENABLE 1 takes a reserve cell and enables the queue. -/
  | queueEnable (rq : Req) (q : Fin 65536) (v : Word) (t : Nat)
  /-- QUEUE_DISABLE (R307): Writing CONFIG ENABLE 0 returns the reserve and disables the queue. -/
  | queueDisable (rq : Req) (q : Fin 65536) (v : Word) (t : Nat)
  /-- ROLE_WRITE (R327): A write of a queue's ROLE increments its role epoch. -/
  | roleWrite (rq : Req) (q : Fin 65536) (v : Word) (t : Nat)
  /-- AS_LOAD_NOW (R333): A write of AS LOAD_NOW strobes each output whose bit is set. -/
  | asLoadNow (rq : Req) (v : Word) (t : Nat)
  /-- AS_ARM (R341): ARM of a stimulus output starts prefetch or NCO table load. -/
  | asArm (rq : Req) (n : Fin 32) (v : Word) (t : Nat)
  /-- AS_STOP_AFTER_REPEAT (R341): STOP 1 ends playback after the current repeat. -/
  | asStopAfterRepeat (rq : Req) (n : Fin 32) (t : Nat)
  /-- AS_STOP_NOW (R341): STOP 2 ends playback at the next sample. -/
  | asStopNow (rq : Req) (n : Fin 32) (t : Nat)
  /-- LOOPBACK_WRITE (R346): A write of LOOPBACK connects or disconnects an output to slice 24 of its cluster. -/
  | loopbackWrite (rq : Req) (n : Fin 32) (v : Word) (t : Nat)
  /-- PORT_ENABLE (R348): Writing port ENABLE 1 takes the port from DISABLED to DOWN. -/
  | portEnable (rq : Req) (port : Fin 4) (v : Word) (t : Nat)
  /-- PORT_DISABLE (R348): Writing port ENABLE 0 takes the port to DISABLED. -/
  | portDisable (rq : Req) (port : Fin 4) (v : Word) (t : Nat)
  /-- RETRAIN (R354): A write of RETRAIN takes the port to TRAINING. -/
  | retrain (rq : Req) (port : Fin 4) (v : Word) (t : Nat)
  /-- PATCH_APPLY (R420): APPLY 1 checks a patch image and loads it into the idle patch bank of each engine of the class. -/
  | patchApply (rq : Req) (engine : Bool) (t : Nat)
  /-- PATCH_REMOVE (R420): APPLY 2 returns every engine of the class to ROM alone. -/
  | patchRemove (rq : Req) (engine : Bool) (t : Nat)
  /-- ROUTINE_LOAD (R422): LOAD checks a routine image and loads it into the engines, one role at a time. -/
  | routineLoad (rq : Req) (v : Word) (t : Nat)
  /-- GATE_OFF (R437): GATE with [8] = 1 powers a cluster off after draining its burst queue and parking its balls. -/
  | gateOff (rq : Req) (c : Fin 64) (t : Nat)
  /-- GATE_WAKE (R438): GATE with [8] = 0 starts waking a cluster by clearing its banks and reloading microcode. -/
  | gateWake (rq : Req) (c : Fin 64) (t : Nat)
  /-- SCRATCH_DATA_WRITE (R443): A write of scratch DATA stores words, or is refused on a collision with port A. -/
  | scratchDataWrite (rq : Req) (c : Fin 48) (off : Nat) (vals : List Word) (clash : List (Nat × Word)) (t : Nat)
  /-- SCRATCH_SET (R442): A write of SET ORs the value into each word covered. -/
  | scratchSet (rq : Req) (c : Fin 48) (off : Nat) (vals : List Word) (clash : List (Nat × Word)) (t : Nat)
  /-- SCRATCH_CLEAR (R442): A write of CLEAR clears the given bits in each word covered. -/
  | scratchClear (rq : Req) (c : Fin 48) (off : Nat) (vals : List Word) (clash : List (Nat × Word)) (t : Nat)
  /-- ARB_COMMIT (R449): COMMIT makes all shadow arbiter values active together. -/
  | arbCommit (rq : Req) (v : Word) (t : Nat)
  /-- STARFIX_RUN (R473): A write of Starfix RUN requests calibration of the named clusters. -/
  | starfixRun (rq : Req) (off : Nat) (vals : List Word) (t : Nat)
  /-- VALUES_WRITE (R480): An accepted write of VALUES restores a cluster's calibration set. -/
  | valuesWrite (rq : Req) (c : Fin 48) (off : Nat) (vals : List Word) (t : Nat)
  /-- ENTER (R492): A write of ENTER raises SOFTWARE_ECLIPSE. -/
  | enter (rq : Req) (v : Word) (t : Nat)
  /-- CLEAR (R491): A write of CLEAR leaves Eclipse when no real S3 cause persists. -/
  | clear (rq : Req) (v : Word) (relocked rebuilt : Bool) (t : Nat)
  /-- ACK (R485): A write of ACK clears the latched status of the named sources. -/
  | ack (rq : Req) (source : Fin 512) (v : Word) (t : Nat)
  /-- INJECT (R500): In factory test mode, INJECT raises an injected fault. -/
  | inject (rq : Req) (off : Nat) (vals : List Word) (t : Nat)
  /-- ALMANAC_COMMIT (R507): COMMIT 1 captures the RWS values and writes them into the inactive bank. -/
  | almanacCommit (rq : Req) (t : Nat)
  /-- ALMANAC_COMMIT_EMPTY (R507): COMMIT 2 writes an empty bank. -/
  | almanacCommitEmpty (rq : Req) (t : Nat)
  /-- FACTORY_WRITE (R515): In FACTORY, FACTORY_WRITE replaces the factory Almanac with a valid image. -/
  | factoryWrite (rq : Req) (v : Word) (t : Nat)
  /-- LOG_MODE_WRITE (R523): A write of log MODE closes every rate window and discards its counts. -/
  | logModeWrite (rq : Req) (v : Word) (t : Nat)
  /-- SELFTEST (R534): STATE_CMD 1 enters SELFTEST and starts the built-in test. -/
  | selftest (rq : Req) (t : Nat)
  /-- STATE_CMD_READY (R532): STATE_CMD 2 returns the device from SELFTEST or RECOVERY to READY. -/
  | stateCmdReady (rq : Req) (t : Nat)
  /-- WARM_RESET (R540): WARM_RESET makes the pins safe, ends runs, breaks locks, drains queues and reloads microcode. -/
  | warmReset (rq : Req) (v : Word) (t : Nat)
  /-- CLUSTER_RESET (R542): CLUSTER_RESET ends a cluster's run, clears its banks and runs a quick pass. -/
  | clusterReset (rq : Req) (v : Word) (t : Nat)
  /-- FACTORY_ENTER (R535): FACTORY_ENTER with 0xFA enters the FACTORY state. -/
  | factoryEnter (rq : Req) (v : Word) (t : Nat)
  /-- MBX_IN_ACK (R558): MBX_IN_ACK frees the oldest n inbound words. -/
  | mbxInAck (rq : Req) (v : Word) (t : Nat)
  /-- MBX_OUT_APPEND (R558): A write of MBX_OUT appends words for the BMC. -/
  | mbxOutAppend (rq : Req) (off : Nat) (vals : List Word) (t : Nat)
  deriving DecidableEq, Repr

end Sys2Proof
end

