-- ==== Sys2Proof/WellFormed.lean ====
section
/-! DEFINITION. WellFormed.lean: the operands a command may have: sizes and ranges that the spec's formats give and the types do not. -/

namespace Sys2Proof

/-- No entry stands twice. -/
def distinct {α : Type} [BEq α] : List α → Bool
  | [] => true
  | x :: xs => !xs.contains x && distinct xs

/-- The words of one transaction: at least one, at most 4,096 (only VALUES takes more than the 1,024 of R39), within the 2^26 words
that an OFFSET field reaches (12, 13, 20: 26 bits). -/
def spanWf (off n : Nat) : Bool := 1 <= n && n <= 4096 && off + n <= 67108864

/-- A frame of a type: 0x2 to 0xA (12, bit map of a frame), LEN at most 96 (R350). -/
def frameWf (ty : Nat) (f : Frame) : Bool := f.ty.toNat == ty && 2 <= ty && ty <= 10 && f.payload.length <= 96

/-- A train of request or reply frames: at least one (12, R364). -/
def trainWf (ty : Nat) (fs : List Frame) : Bool := !fs.isEmpty && fs.all (frameWf ty)

/-- A producer of the pool (10): burst queues 0 to 48, units 0 to 8. -/
def Producer.wf (p : Producer) : Bool := p.burst <= 48 && p.unit <= 8

/-- What a producer may give (10, R311 to R314): an item has lines, a packet at most 2^20 - 1 after its head. -/
def QPart.wf (p : QPart) : Bool :=
  match p with
  | .item ls => !ls.isEmpty && ls.length <= 1048575
  | .head cls unit => cls < 16 && unit < 16
  | .line _ => true
  | .done => true

/-- A request within the 64 MiB of BAR0 (13), a value that its size holds. -/
def RegWrite.wf (w : RegWrite) : Bool :=
  match w with
  | .bar0 o n v => 1 <= n && o + n <= 67108864 && v < 2 ^ (8 * n)
  | .poisoned | .function _ _ _ => true
  | .service _ _ => true

/-- A command with operands that its row admits. -/
def Instr.wf (i : Instr) : Bool :=
  match i with
  | .registerWrite w _ => w.wf
  | .teIssueRx _ f _ => frameWf 5 f
  | .teCancelRx _ f _ => frameWf 5 f
  | .qAppend _ prod part _ _ => prod.wf && part.wf
  | .signalDetect _ lanes _ => lanes != 0
  | .portTrained _ rate lanes _ => (rate == 1 || rate == 2) && lanes != 0
  | .codewordRx _ _ cw _ => cw.words.length == 128
  | .odRequestRx _ train _ _ => trainWf 2 train
  | .odReplyRx _ train _ => trainWf 3 train
  | .eventFrameRx _ f _ => frameWf 4 f
  | .syncRx _ f _ => frameWf 6 f
  | .delayReqRx _ f _ => frameWf 7 f
  | .delayReplyRx _ f _ => frameWf 8 f
  | .ringBrokenRx _ f _ => frameWf 9 f
  | .ringRestoredRx _ f _ => frameWf 9 f
  | .linkInfoRx _ f _ => frameWf 10 f
  | .g1Reg0Read a _ _ => a.toNat % 16 == 0
  | .g1RegnRead a _ _ => a.toNat % 4 == 0 && a.toNat % 16 != 0
  | .g1HighWrite a _ _ => a.toNat % 4 == 0 && a.toNat % 16 != 0
  | .g1Reg0Write a _ _ _ => a.toNat % 16 == 0
  | .descriptorFetch _ descs _ => descs.length <= 16 && descs.all (fun d => d.length == 8)
  | .bar2Read o n _ _ => 0 < n && o + n <= 4294967296
  | .bar2Write o b _ _ => !b.isEmpty && o + b.length <= 4294967296
  | .bankTest found _ => distinct (found.map (fun w => (w.source, w.bank, w.word)))
  | .arbGrant _ asks _ => asks.all (fun e => e.2 < 256)
  | .hkRound power samples _ _ _ => power.length == 64 && distinct (samples.map (fun e => e.1))
  | .bringupStepDone domains unlocked _ _ => distinct domains && distinct unlocked
  | .warmResetDone unlocked _ => distinct unlocked
  | .svcWrite _ bytes _ _ _ => !bytes.isEmpty
  | .mbxWrite words _ _ => !words.isEmpty
  | .forwardedFrameRx _ f _ => frameWf f.ty.toNat f
  | .hostLinkTrained gen width _ _ => 1 <= gen && gen <= 6 && [1, 2, 4, 8, 16].contains width
  | .odWrite _ _ _ off vals _ _ => spanWf off vals.length
  | .acquire _ off vals _ => spanWf off vals.length
  | .issue _ off vals _ => spanWf off vals.length
  | .cancel _ off vals _ => spanWf off vals.length
  | .resultRead _ off cnt _ _ => spanWf off cnt
  | .pop _ off cnt _ _ _ => spanWf off cnt
  | .push _ off vals _ => spanWf off vals.length
  | .scratchDataWrite _ _ off vals _ _ => spanWf off vals.length
  | .scratchSet _ _ off vals _ _ => spanWf off vals.length
  | .scratchClear _ _ off vals _ _ => spanWf off vals.length
  | .starfixRun _ off vals _ => spanWf off vals.length
  | .valuesWrite _ _ off vals _ => spanWf off vals.length
  | .inject _ off vals _ => spanWf off vals.length
  | .mbxOutAppend _ off vals _ => spanWf off vals.length
  | .acquireGrant .. | .acquireWaitExpiry .. | .leaseExpiry .. | .routeLossTimeout .. | .loadCmdTimeout .. |
  .syncInEdge .. | .offsetSlew .. | .syncSend .. | .syncLossTimeout .. | .delayReqSend .. | .syncOutPulse .. |
  .syncOutPulseEnd .. | .eventOccurrence .. | .evtInputEdge .. | .evtPulseEnd .. | .teFire .. | .loadStrobe .. |
  .levelSettled .. | .lvlclrAssert .. | .lvlclrRelease .. | .pmuRangeSettled .. | .laneMoveDone .. | .sliceSwapDone ..
  | .rehomeDone .. | .seqArmed .. | .startLineOccurrence .. | .runStart .. | .jumpLineOccurrence .. |
  .jumpWindowClose .. | .adv .. | .rpt .. | .loop .. | .endl .. | .jmp .. | .jmpr .. | .call .. | .ret .. |
  .matchBlock .. | .endm .. | .matchGroupResult .. | .seg .. | .mark .. | .wait .. | .waitRelease .. | .waitTimeout ..
  | .apgs .. | .halt .. | .badOpcode .. | .segmentBoundary .. | .boundaryGapEnd .. | .streamRefill .. | .streamGap ..
  | .streamGapEnd .. | .bcastHoldLimit .. | .adcLineTrigger .. | .adcAutoTrigger .. | .adcSample .. |
  .adcIntervalEnd .. | .stamp .. | .stampDrain .. | .stampGateOpen .. | .stampGateClose .. | .ruGateOpen .. |
  .ruGateEnd .. | .redUpdateApply .. | .dropListFlush .. | .failUpdateSend .. | .sweepStep .. |
  .lineCloseOccurrence .. | .lineCloseBegin .. | .takeoverDone .. | .burstWriteback .. | .asLoadStrobe .. |
  .asRangeSwitch .. | .asRangeDone .. | .asArmed .. | .asStartLine .. | .asSample .. | .asPrefetch .. |
  .trainingTimeout .. | .linkLossTimeout .. | .ringStateResend .. | .restoreHoldExpiry .. | .frameSend .. |
  .replyTimeout .. | .trainTimeout .. | .reservedFrameRx .. | .creditRx .. | .ackRx .. | .nakRx .. | .laneDropRx .. |
  .laneDropAckRx .. | .retrainWordRx .. | .ackTimer .. | .nakRepeat .. | .creditStallTimeout .. | .linkDown .. |
  .flr .. | .domDataLoRead .. | .domDataHiRead .. | .domDataHiWrite .. | .domDataLoWrite .. | .resDataRead .. |
  .popDataRead .. | .g1AbortClear .. | .mbGo .. | .mbDone .. | .ringEnable .. | .ringDisable .. | .headDoorbell .. |
  .g3Read .. | .g3Write .. | .g3Describe .. | .g3Stream .. | .g3Nop .. | .streamWaitTimeout .. | .g3Completion .. |
  .dmaError .. | .dmaTimeout .. | .msixSend .. | .patchSwitch .. | .routineEngineLoad .. | .seqMcheckDone .. |
  .hbmRefresh .. | .rowRepair .. | .wakeDone .. | .holdCut .. | .vrAlert .. | .starfixDone .. | .calOverdue .. |
  .faultRaise .. | .almanacCommitted .. | .journalDrain .. | .journalHoldRelease .. | .logRecord .. | .logStore |
  .rateWindowClose .. | .powerOn .. | .powerOff .. | .coldReset .. | .resetRelease .. | .bistDone .. | .svcRead .. |
  .setlen .. | .mbxRead .. | .svcStatus .. | .svcReservedCommand .. | .svcGo .. | .attnCauseClear .. | .dataAccess ..
  | .svcOdDone .. | .codewordLockLoss .. | .quickPassDone .. | .testAccessPortInstruction .. | .describe .. |
  .renew .. | .commit .. | .release .. | .commitRelease .. | .modeWrite .. | .loadCmdAtSyncIn .. | .loadCmdNow .. |
  .pulse .. | .loadNow .. | .enableWrite .. | .forceStateWrite .. | .pmuModeWrite .. | .pmuRangeWrite .. |
  .spareLaneWrite .. | .arm .. | .start .. | .stopAtBoundary .. | .stopAbort .. | .jumpRequest .. | .bcastArm .. |
  .adcArm .. | .adcStopAfterStep .. | .adcStopNow .. | .stampArm .. | .stampStopAtClose .. | .stampStopNow .. |
  .ruArm .. | .ruStopAfterGate .. | .ruStopNow .. | .close .. | .reset .. | .flush .. | .clearHit .. | .queueEnable ..
  | .queueDisable .. | .roleWrite .. | .asLoadNow .. | .asArm .. | .asStopAfterRepeat .. | .asStopNow .. |
  .loopbackWrite .. | .portEnable .. | .portDisable .. | .retrain .. | .patchApply .. | .patchRemove .. |
  .routineLoad .. | .gateOff .. | .gateWake .. | .arbCommit .. | .enter .. | .clear .. | .ack .. | .almanacCommit .. |
  .almanacCommitEmpty .. | .factoryWrite .. | .logModeWrite .. | .selftest .. | .stateCmdReady .. | .warmReset .. |
  .clusterReset .. | .factoryEnter .. | .mbxInAck .. => true

end Sys2Proof
end

