-- ==== Sys2Proof/Decode.lean ====
section
/-! DEFINITION. Decode.lean: the commands that the words of the table of operations spell. -/

namespace Sys2Proof

/-- No row of the table gives bits: a command of the DZ-5 is an access, a frame, an edge or an instant, not a word. -/
def decodeTableWord (_nbits _w : Nat) : Option Instr := none

end Sys2Proof
end

