-- ==== Sys2Proof/Config.lean ====
section
/-! DEFINITION. Config.lean: what the part or its maker fixes and the values the spec leaves open: opaque constants without a body. -/

namespace Sys2Proof

/-- Word `w` of the per-part constant that row `n` of the object tables names (02 IDENTITY: SILICON_REV, SERIAL, ROM_VERSION;
11: GROUP_DELAY). The spec gives them per part, log entry 4; safe: nothing constrains it. -/
opaque Config.partWord : Nat → Nat → Word

/-- Whether the part is a DZ5-1152-HB; a DZ5-1152-ES otherwise (00, R3; 02, R76: ORDER_CODE, FACTORY_LOCKED). Log entry 4, safe. -/
opaque Config.partHb : Bool

/-- What words 0 to 2 of a nanoword make of an engine's datapath (14, table of a nanoword: datapath controls, not a programming
interface). Log entry 15, safe. -/
opaque Config.datapath (nano dp : List Word) : List Word

/-- Condition `n` of a branch micro-operation, from the datapath before and after the step (14, COND). Log entry 15, safe. -/
opaque Config.condition (n : Nat) (before after : List Word) : Bool

/-- The datapath of an engine at the start of a routine, from what the routine reads (14, R423). Log entry 15, safe. -/
opaque Config.datapathIn (inputs : List Word) : List Word

/-- What a routine leaves in the datapath at END (14, R423): words 0 to 4 W1 to W5, word 5 SAT in bit 0 and OVER_RANGE in bit 1. Log
entry 15, safe. -/
opaque Config.datapathOut (dp : List Word) (k : Nat) : Word

/-- A microword of ROM, or of a store where no image has written, of a sequencer or an engine (14, R409). Log entry 15, safe. -/
opaque Config.romWord (sequencer : Bool) (a : Nat) : Word

/-- Word `k` of a nanoword of ROM, or of a store where no image has written (14, R409). Log entry 15, safe. -/
opaque Config.romNano (sequencer : Bool) (a k : Nat) : Word

/-- Whether an image's signature is valid under a key (14, R418): the key number, the ROUTINE_KEYS words, the image. The
signature scheme is RFC 8032's and Sadiwell's key is not in the spec; log entry 16, safe. -/
opaque Config.signatureValid (key : Nat) (keys image : List Word) : Bool

/-- The number of 64-word regions of the on-chip bank with the most: a pass of the slowest bank (15, R440). The spec gives the
size of some banks only; log entry 17, safe. -/
opaque Config.testRegions : Nat

/-- Temperature of node `n` in m°C after one step of the thermal model: the temperatures before it, the powers in mW, T_REF
(16, R455). The model's parameters are set per part; log entry 18, safe. -/
opaque Config.thermalStep (temps : List Int) (powers : List Nat) (tref : Int) (n : Nat) : Int

/-- Maximum power of a thermal node in mW (16, R457). Set per part; log entry 18, safe. -/
opaque Config.nodeMax : Nat → Nat

/-- Word `k` of calibration set `n` (16, R479: words 7 to 4,095 are opaque). Log entry 19, safe. -/
opaque Config.calWord (n k : Nat) : Word

/-- The longest spacing of safe points that the device has observed, in ns (14, R416). Log entry 15, safe. -/
opaque Config.safePointMax (clock : Nat) : Word

/-- Whether a factory Almanac image passes its check (18, R513): its signature under Sadiwell's key 0 and its SERIAL. The image's
form is not in the spec; log entry 16, safe. -/
opaque Config.factoryValid (image : List (Nat × Word)) : Bool

/-- The entries that a factory Almanac image holds, by object word (18, R515). The image's form is not in the spec; log entry 16, safe. -/
opaque Config.factoryEntries (image : List (Nat × Word)) : List (Nat × Word)

/-- The manufacturer field of IDCODE (21, R582), which the spec does not give. Log entry 4, safe. -/
opaque Config.manufacturer : BitVec 11

/-- What the comparator of slice `n` of cluster `c` shows at an instant (04, COMP_STATE): the ball's level is the world's, not the
device's. Taken modulo 3: L, M, H. Log entry 29, safe. -/
opaque Config.comparator (c n clock : Nat) : Nat

/-- Whether the PMU of slice `n` of cluster `c` limits at an instant (04, R131, COMPLIANCE of PMU_STATUS): the load on the ball is the
world's. Log entry 29, safe. -/
opaque Config.limiting (c n clock : Nat) : Bool

/-- How long a range change with a gap leaves the ball of slice `n` of cluster `c` open, in ns above 2,000 and modulo 3,001 (04, R136: 2 µs to
5 µs). Log entry 54, safe. -/
opaque Config.rangeGap (c n : Nat) : Nat

/-- LENGTH in the DESCRIBE reply of an object of more than 65,535 words, which the field cannot hold (02, table DESCRIBE reply).
Log entry 30, safe. -/
opaque Config.longLength (i sub : Nat) : BitVec 16

/-- Thousandths done of the Almanac commit that runs (18, COMMIT_PROGRESS): the flash's timing is not the model's. Taken modulo 1,000.
Log entry 33, safe. -/
opaque Config.commitProgress (clock : Nat) : Nat

end Sys2Proof
end

