-- ==== Sys2Proof/Machine/OdTable.lean ====
section
/-! DEFINITION. Machine/OdTable.lean: the object dictionary's tables: every object of the spec with its index, sub-index,
type, access code, ROM default, range and effect rule (02, R33 to R46; each chapter's object tables). -/

namespace Sys2Proof.Machine

/-- OD data types (02, table of OD data types). -/
inductive OdType where
  | bool | u8 | u16 | u24 | u40 | s40 | u80 | fx40 | enum8 | bits40 | domain | str
  deriving DecidableEq, Repr

/-- Access codes (02, table of access codes); LKW and FT are joined to a base code. -/
inductive Acc where
  | ro | rw | wo | rws | cmd
  deriving DecidableEq, Repr

/-- ROM defaults: one value for every word, one value per word, the number of the word, a value per index of an array,
a constant of the part, or one of two lists, the first on a DZ5-1152-HB part and the second on a DZ5-1152-ES part. -/
inductive Dflt where
  | all (v : Nat) | list (vs : List Nat) | ownIndex | perIndex (vs : List Nat) | perSub (vs : List Nat) | part (n : Nat)
  | byOrder (hb es : List Nat)
  deriving DecidableEq, Repr

/-- The range a table gives for one written word: any value of the type, one of some ranges, a signed range,
only the flags of a mask, or the fields `(high bit, low bit, least, greatest)` with every other bit zero. -/
inductive Rng where
  | any | among (rs : List (Nat × Nat)) | signed (lo hi : Int) | mask (m : Nat)
  | fields (fs : List (Nat × Nat × Nat × Nat))
  deriving DecidableEq, Repr

/-- Effect rules of written values (02, R52). -/
inductive Eff where
  | imm | load | boundary | shadow | reset
  deriving DecidableEq, Repr

/-- What an object does beyond holding its value: the action of a command, the condition of check 10, a read that is worked out. -/
inductive Hook where
  | none | ack | acquire | adcArm | adcSteps | adcStop | almanacCommit | apgBounds | apgMap | apgPerm | apgProgram | arbCommit | arm | asArm | asBusy | asClr | asLoadNow | asMode | asSeq | asStatus | asStop | bcastArm | bcastGroup | bindings | budgetCluster | budgetDevice | cancel | clear | clearCode | clearHit | clusterReset | commit | commitRelease | compState | ctxBase | deviceNumber | eclipseActive | enter | evtDirection | expectPeer | factoryEnter | factoryWrite | faultN | flush | gate | inject | inputLevel | issue | journalEntries | jumpRequest | keepalive | level | lineSource | live | loadCmd | loadNow | local | lockRemaining | logMode | logRecords | loopback | lvlStatus | mapDirty | markerMode | mbxInAck | mbxOut | members | minWidth | modeWrite | monitor | ncoTable | now | patch | peEnable | peForce | pmuFi | pmuMode | pmuRange | pmuStatus | pmuVlim | poolFree | poolRegion | pop | portEnable | portRole | priority | psets | pulse | push | queueConfig | queueLevel | queueLimit | queueRole | queueStatus | readAhead | redClose | redReset | release | renew | replyCache | results | retrain | ringPos | ringSize | routes | routineLoad | ruArm | ruBusy | ruStop | safePointMax | scratch | shadowDirty | slotsArmed | spareLane | stampArm | stampBusy | stampEdge | stampStop | starfixRun | start | stateCmd | stop | streamDemand | syncOutPeriod | syncPortEnable | timingSet | tsPending | values | vecAddr | warmReset
  deriving DecidableEq, Repr

/-- One row of an object table, for every index `base + stride * k`, `k < count`, and every sub-index from `subLo` to `subHi` by `subStep`. -/
structure Obj where
  base : Nat
  stride : Nat
  count : Nat
  subLo : Nat
  subHi : Nat
  subStep : Nat
  ty : OdType
  words : Nat
  acc : Acc
  ft : Bool
  dflt : Dflt
  rng : Rng
  eff : Eff
  hook : Hook
  deriving DecidableEq, Repr

/-- Short form for a table row. -/
abbrev o := Obj.mk

/-- Objects whose first index lies in 0x0000 to 0x0FFF, part 1. -/
def odRows0a : List Obj :=
  [ o 0x0200 0x1 1 0x00 0x00 1 .domain 3 .cmd false (.all 0) .any .imm .acquire -- 02 R70 ACQUIRE
  , o 0x0200 0x1 1 0x01 0x01 1 .u8 1 .cmd false (.all 0) (.among [(0, 63)]) .imm .renew -- 02 R70 RENEW
  , o 0x0200 0x1 1 0x02 0x02 1 .u8 1 .cmd false (.all 0) (.among [(0, 63)]) .imm .commit -- 02 R70 COMMIT
  , o 0x0200 0x1 1 0x03 0x03 1 .u8 1 .cmd false (.all 0) (.among [(0, 63)]) .imm .release -- 02 R70 RELEASE
  , o 0x0200 0x1 1 0x04 0x04 1 .u8 1 .cmd false (.all 0) (.among [(0, 63)]) .imm .commitRelease -- 02 R70 COMMIT_RELEASE
  , o 0x0200 0x1 1 0x05 0x05 1 .u40 1 .rws false (.all 2000) (.among [(10, 60000)]) .imm .none -- 02 R70 DEFAULT_LEASE
  , o 0x0200 0x1 1 0x06 0x06 1 .u8 1 .ro false (.all 0) .any .imm .none -- 02 R70 LOCKS_IN_USE
  , o 0x0200 0x1 1 0x07 0x07 1 .u16 1 .ro false (.all 0) .any .imm .none -- 02 R70 STAGED_IN_USE
  , o 0x0200 0x1 1 0x08 0x08 1 .u40 1 .ro false (.all 0) .any .imm .none -- 02 R70 BROKEN_COUNT
  , o 0x0210 0x1 64 0x00 0x00 1 .enum8 1 .ro false (.all 0) .any .imm .none -- 02 R70 STATE
  , o 0x0210 0x1 64 0x01 0x01 1 .u16 1 .ro false (.all 0) .any .imm .none -- 02 R70 FIRST
  , o 0x0210 0x1 64 0x02 0x02 1 .u16 1 .ro false (.all 0) .any .imm .none -- 02 R70 LAST
  , o 0x0210 0x1 64 0x03 0x03 1 .u40 1 .ro false (.all 0) .any .imm .none -- 02 R70 OWNER
  , o 0x0210 0x1 64 0x04 0x04 1 .u16 1 .ro false (.all 0) .any .imm .none -- 02 R70 LABEL
  , o 0x0210 0x1 64 0x05 0x05 1 .u40 1 .ro false (.all 0) .any .imm .none -- 02 R70 LEASE
  , o 0x0210 0x1 64 0x06 0x06 1 .u40 1 .ro false (.all 0) .any .imm .lockRemaining -- 02 R70 REMAINING
  , o 0x0210 0x1 64 0x07 0x07 1 .u16 1 .ro false (.all 0) .any .imm .none -- 02 R70 STAGED
  , o 0x0210 0x1 64 0x08 0x08 1 .u80 2 .ro false (.all 0) .any .imm .none -- 02 R70 ACQUIRED_AT
  , o 0x0000 0x1 1 0x00 0x00 1 .str 2 .ro false (.list [374891364691, 5000261]) .any .imm .none -- 02 R76 VENDOR
  , o 0x0000 0x1 1 0x01 0x01 1 .str 2 .ro false (.list [892164676, 0]) .any .imm .none -- 02 R76 PART
  , o 0x0000 0x1 1 0x02 0x02 1 .str 3 .ro false (.byOrder [211211868740, 309995910449, 66] [211211868740, 297111008561, 83]) .any .imm .none -- 02 R76 ORDER_CODE
  , o 0x0000 0x1 1 0x03 0x03 1 .u16 1 .ro false (.part 21) .any .imm .none -- 02 R76 SILICON_REV
  , o 0x0000 0x1 1 0x04 0x04 1 .u80 2 .ro false (.part 22) .any .imm .none -- 02 R76 SERIAL
  , o 0x0000 0x1 1 0x05 0x05 1 .u40 1 .ro false (.part 23) .any .imm .none -- 02 R76 ROM_VERSION
  , o 0x0000 0x1 1 0x06 0x06 1 .u16 1 .ro false (.all 1280) .any .imm .none -- 02 R76 OD_VERSION
  , o 0x0000 0x1 1 0x07 0x07 1 .bool 1 .ro false (.byOrder [1] [0]) .any .imm .none -- 02 R76 FACTORY_LOCKED
  , o 0x0000 0x1 1 0x08 0x08 1 .u16 1 .ro false (.all 1200) .any .imm .none -- 02 R76 SLICES_PRESENT
  , o 0x0000 0x1 1 0x09 0x09 1 .u40 1 .ro false (.all 1610612736) .any .imm .none -- 02 R76 HBM_LINES
  , o 0x0900 0x1 1 0x00 0x00 1 .u80 2 .ro false (.all 0) .any .imm .now -- 03 R94 NOW
  , o 0x0900 0x1 1 0x01 0x01 1 .u80 2 .ro false (.all 0) .any .imm .local -- 03 R94 LOCAL
  , o 0x0900 0x1 1 0x02 0x02 1 .u80 2 .ro false (.all 0) .any .imm .none -- 03 R94 OFFSET
  , o 0x0900 0x1 1 0x03 0x03 1 .enum8 1 .rws false (.all 0) (.among [(0, 2)]) .imm .modeWrite -- 03 R94 MODE
  , o 0x0900 0x1 1 0x04 0x04 1 .enum8 1 .ro false (.all 0) .any .imm .none -- 03 R94 STATE
  , o 0x0900 0x1 1 0x05 0x05 1 .u8 1 .rws false (.all 255) (.among [(0, 3), (255, 255)]) .imm .none -- 03 R94 UPSTREAM
  , o 0x0900 0x1 1 0x06 0x06 1 .u8 1 .ro false (.all 0) .any .imm .none -- 03 R94 HOPS
  , o 0x0900 0x1 1 0x07 0x07 1 .u40 1 .ro false (.all 0) .any .imm .none -- 03 R94 ERROR_BOUND
  , o 0x0900 0x1 1 0x08 0x08 1 .u24 1 .ro false (.all 16777213) .any .imm .none -- 03 R94 MASTER_DEVICE
  , o 0x0900 0x1 1 0x09 0x09 1 .u40 1 .rws false (.all 1000) (.among [(125, 100000)]) .imm .none -- 03 R94 SYNC_INTERVAL
  , o 0x0900 0x1 1 0x0A 0x0A 1 .u40 1 .rws false (.all 100) (.among [(10, 10000)]) .imm .none -- 03 R94 SLEW_INTERVAL
  , o 0x0900 0x1 1 0x0B 0x0B 1 .u40 1 .rws false (.all 128) (.among [(8, 65535)]) .imm .none -- 03 R94 STEP_THRESHOLD
  ]

/-- Objects whose first index lies in 0x0000 to 0x0FFF, part 2. -/
def odRows0b : List Obj :=
  [ o 0x0900 0x1 1 0x0C 0x0C 1 .bool 1 .rws false (.all 0) .any .imm .none -- 03 R94 STEP_IN_RUN
  , o 0x0900 0x1 1 0x0D 0x0D 1 .u80 2 .rw false (.all 0) .any .imm .none -- 03 R94 LOAD_VALUE
  , o 0x0900 0x1 1 0x0E 0x0E 1 .u8 1 .cmd false (.all 0) (.among [(1, 2)]) .imm .loadCmd -- 03 R94 LOAD_CMD
  , o 0x0900 0x1 1 0x0F 0x0F 1 .u40 1 .ro false (.all 0) .any .imm .none -- 03 R94 STEP_COUNT
  , o 0x0900 0x1 1 0x10 0x10 1 .u80 2 .ro false (.all 0) .any .imm .none -- 03 R94 SYNC_IN_LAST
  , o 0x0900 0x1 1 0x11 0x11 1 .u40 1 .rws false (.all 0) (.among [(0, 0), (2560, 549755813888)]) .imm .syncOutPeriod -- 03 R94 SYNC_OUT_PERIOD
  , o 0x0900 0x1 1 0x12 0x12 1 .u16 1 .ro false (.all 0) .any .imm .none -- 03 R94 TD_UNLOCKED
  , o 0x0900 0x1 1 0x13 0x13 1 .domain 48 .ro false (.all 0) .any .imm .none -- 03 R94 TD_LOCK_MAP
  , o 0x0904 0x1 4 0x00 0x00 1 .bool 1 .rws false (.all 1) .any .imm .syncPortEnable -- 03 R94 ENABLE
  , o 0x0904 0x1 4 0x01 0x01 1 .s40 1 .rws false (.all 0) (.signed (-10000) (10000)) .imm .none -- 03 R94 ASYMMETRY
  , o 0x0904 0x1 4 0x02 0x02 1 .u40 1 .ro false (.all 0) .any .imm .none -- 03 R94 PATH_DELAY
  , o 0x0904 0x1 4 0x03 0x03 1 .u8 1 .ro false (.all 255) .any .imm .none -- 03 R94 PEER_HOPS
  , o 0x0904 0x1 4 0x04 0x04 1 .u24 1 .ro false (.all 0) .any .imm .none -- 03 R94 PEER_MASTER
  , o 0x0904 0x1 4 0x05 0x05 1 .enum8 1 .ro false (.all 0) .any .imm .none -- 03 R94 STATUS
  , o 0x0980 0x1 8 0x00 0x00 1 .enum8 1 .rws false (.all 0) (.among [(0, 1)]) .imm .evtDirection -- 03 R103 DIRECTION
  , o 0x0980 0x1 8 0x01 0x01 1 .u16 1 .rws false (.all 65535) (.among [(0, 511), (65535, 65535)]) .imm .none -- 03 R103 LINE
  , o 0x0980 0x1 8 0x02 0x02 1 .u40 1 .rws false (.all 1280) (.among [(640, 1048576)]) .imm .none -- 03 R103 WIDTH
  , o 0x0980 0x1 8 0x03 0x03 1 .bool 1 .rws false (.all 0) .any .imm .none -- 03 R103 ACTIVE_LOW
  , o 0x0A00 0x1 512 0x00 0x00 1 .u16 1 .rws false (.all 0) .any .imm .lineSource -- 03 R104 SRC0
  , o 0x0A00 0x1 512 0x01 0x01 1 .u16 1 .rws false (.all 0) .any .imm .lineSource -- 03 R104 SRC1
  , o 0x0A00 0x1 512 0x02 0x02 1 .u16 1 .rws false (.all 0) .any .imm .lineSource -- 03 R104 SRC2
  , o 0x0A00 0x1 512 0x03 0x03 1 .u16 1 .rws false (.all 0) .any .imm .lineSource -- 03 R104 SRC3
  , o 0x0A00 0x1 512 0x04 0x04 1 .bool 1 .rws false (.all 0) .any .imm .none -- 03 R104 EXPORT
  , o 0x0A00 0x1 512 0x05 0x05 1 .u8 1 .cmd false (.all 0) (.among [(1, 1)]) .imm .pulse -- 03 R104 PULSE
  , o 0x0A00 0x1 512 0x06 0x06 1 .u40 1 .ro false (.all 0) .any .imm .none -- 03 R104 COUNT
  , o 0x0A00 0x1 512 0x07 0x07 1 .u40 1 .ro false (.all 0) .any .imm .none -- 03 R104 MERGED
  , o 0x0A00 0x1 512 0x08 0x08 1 .u80 2 .ro false (.all 0) .any .imm .none -- 03 R104 LAST_TIME
  , o 0x0990 0x1 1 0x00 0x00 1 .domain 128 .rws false (.all 0) (.fields [(39, 16, 0, 16777215), (9, 9, 0, 1), (8, 0, 0, 511)]) .imm .none -- 03 R104 IMPORT
  , o 0x0990 0x1 1 0x01 0x01 1 .u40 1 .ro false (.all 0) .any .imm .none -- 03 R104 IMPORT_UNMATCHED
  , o 0x0910 0x1 1 0x00 0x00 1 .domain 4 .cmd false (.all 0) .any .imm .issue -- 03 R110 ISSUE
  , o 0x0910 0x1 1 0x01 0x01 1 .domain 1 .cmd false (.all 0) .any .imm .cancel -- 03 R110 CANCEL
  , o 0x0910 0x1 1 0x02 0x02 1 .u40 1 .ro false (.all 0) .any .imm .none -- 03 R110 LATE_COUNT
  , o 0x0910 0x1 1 0x03 0x03 1 .u8 1 .ro false (.all 0) .any .imm .slotsArmed -- 03 R110 SLOTS_ARMED
  , o 0x0920 0x1 64 0x00 0x00 1 .enum8 1 .ro false (.all 0) .any .imm .none -- 03 R110 STATE
  , o 0x0920 0x1 64 0x01 0x01 1 .u80 2 .ro false (.all 0) .any .imm .none -- 03 R110 EFFECT_TIME
  , o 0x0920 0x1 64 0x02 0x02 1 .u16 1 .ro false (.all 0) .any .imm .none -- 03 R110 LINE
  , o 0x0920 0x1 64 0x03 0x03 1 .u24 1 .ro false (.all 0) .any .imm .none -- 03 R110 ORIGIN
  , o 0x0920 0x1 64 0x04 0x04 1 .u16 1 .ro false (.all 0) .any .imm .none -- 03 R110 EVENT_ID
  , o 0x0920 0x1 64 0x05 0x05 1 .u80 2 .ro false (.all 0) .any .imm .none -- 03 R110 FIRED_AT
  , o 0x0E00 0x1 1 0x00 0x00 1 .u40 1 .ro false (.all 0) .any .imm .none -- 14 R426 SEQ_PATCH_VERSION
  ]

/-- Objects whose first index lies in 0x0000 to 0x0FFF, part 3. -/
def odRows0c : List Obj :=
  [ o 0x0E00 0x1 1 0x01 0x01 1 .u40 1 .ro false (.all 0) .any .imm .none -- 14 R426 RE_PATCH_VERSION
  , o 0x0E00 0x1 1 0x02 0x02 1 .u40 1 .ro false (.all 0) .any .imm .none -- 14 R426 ROUTINE_VERSION
  , o 0x0E00 0x1 1 0x03 0x03 1 .domain 21 .rws false (.all 0) .any .imm .none -- 14 R426 ROUTINE_KEYS
  , o 0x0E00 0x1 1 0x04 0x04 1 .u40 1 .ro false (.all 0) .any .imm .safePointMax -- 14 R426 SAFE_POINT_MAX
  , o 0x0E00 0x1 1 0x05 0x05 1 .u40 1 .ro false (.all 0) .any .imm .none -- 14 R426 MCHECK_COUNT
  , o 0x0E00 0x1 1 0x06 0x06 1 .domain 3 .ro false (.all 0) .any .imm .none -- 14 R426 LAST_MCHECK
  , o 0x0E00 0x1 1 0x07 0x07 1 .u40 1 .ro false (.all 0) .any .imm .none -- 14 R426 ROUTINE_FAULTS
  , o 0x0E01 0x1 1 0x00 0x00 1 .domain 2112 .rws false (.all 0) .any .imm .none -- 14 R426 IMAGE
  , o 0x0E01 0x1 1 0x01 0x01 1 .u8 1 .cmd false (.all 0) (.among [(1, 2)]) .imm .patch -- 14 R426 APPLY
  , o 0x0E02 0x1 1 0x00 0x00 1 .domain 6208 .rws false (.all 0) .any .imm .none -- 14 R426 IMAGE
  , o 0x0E02 0x1 1 0x01 0x01 1 .u8 1 .cmd false (.all 0) (.among [(1, 2)]) .imm .patch -- 14 R426 APPLY
  , o 0x0E03 0x1 1 0x00 0x00 1 .domain 98848 .rws false (.all 0) .any .imm .none -- 14 R426 IMAGE
  , o 0x0E03 0x1 1 0x01 0x01 1 .u8 1 .cmd false (.all 0) (.among [(1, 1)]) .imm .routineLoad -- 14 R426 LOAD
  , o 0x0E10 0x1 1 0x00 0x00 1 .domain 66 .ro false (.all 0) .any .imm .none -- 14 R426 UNITS
  , o 0x0C00 0x1 1 0x00 0x00 1 .u8 1 .cmd false (.all 0) (.among [(1, 1)]) .imm .arbCommit -- 15 R453 COMMIT
  , o 0x0C00 0x1 1 0x01 0x01 1 .bool 1 .ro false (.all 0) .any .imm .shadowDirty -- 15 R453 SHADOW_DIRTY
  , o 0x0C00 0x1 1 0x02 0x02 1 .u16 1 .rws false (.all 64) (.among [(32, 1024)]) .shadow .none -- 15 R453 BEAT_LIMIT
  , o 0x0C00 0x1 1 0x03 0x03 1 .u40 1 .ro false (.all 0) .any .imm .none -- 15 R453 HOLD_CUT_TOTAL
  , o 0x0C01 0x1 1 0x00 0x00 1 .domain 16 .rws false (.list [15, 15, 15, 8, 6, 6, 4, 10, 2, 8, 5, 15, 8, 8, 8, 8]) (.fields [(3, 0, 0, 15)]) .shadow .priority -- 15 R453 PRIORITY
  , o 0x0C01 0x1 1 0x01 0x01 1 .domain 16 .ro false (.all 0) .any .imm .none -- 15 R453 HOLD_CUTS
  , o 0x0D00 0x1 1 0x00 0x00 1 .u40 1 .rws false (.all 100) (.among [(0, 0), (10, 1000000)]) .imm .none -- 15 R453 TEST_INTERVAL
  , o 0x0D00 0x1 1 0x01 0x01 1 .u40 1 .ro false (.all 0) .any .imm .none -- 15 R453 TEST_PASSES
  , o 0x0D00 0x1 1 0x02 0x02 1 .u40 1 .ro false (.all 0) .any .imm .none -- 15 R453 BANK_REPAIRS
  , o 0x0D00 0x1 1 0x03 0x03 1 .u80 2 .ro false (.all 0) .any .imm .none -- 15 R453 ECC_CORRECTED
  , o 0x0D00 0x1 1 0x04 0x04 1 .u40 1 .ro false (.all 0) .any .imm .none -- 15 R453 POISON_EVENTS
  , o 0x0D00 0x1 1 0x05 0x05 1 .u16 1 .ro false (.all 0) .any .imm .none -- 15 R453 REPAIR_PENDING
  , o 0x0D00 0x1 1 0x06 0x06 1 .u40 1 .ro false (.all 0) .any .imm .none -- 15 R453 REPAIRS_DONE
  , o 0x0D00 0x1 1 0x07 0x07 1 .domain 2 .ro false (.all 1) .any .imm .none -- 15 R453 REFRESH
  , o 0x0D00 0x1 1 0x08 0x08 1 .u16 1 .cmd false (.all 0) (.fields [(8, 8, 0, 1), (5, 0, 0, 47)]) .imm .gate -- 15 R453 GATE
  , o 0x0D00 0x1 1 0x09 0x09 1 .domain 2 .ro false (.all 0) .any .imm .none -- 15 R453 GATED
  , o 0x0D01 0x1 1 0x00 0x00 1 .domain 64 .ro false (.all 274877906944) .any .imm .none -- 15 R453 REPAIR_STATUS
  , o 0x0D40 0x1 48 0x00 0x00 1 .domain 13056 .rw false (.all 0) .any .imm .scratch -- 15 R453 DATA
  , o 0x0D40 0x1 48 0x01 0x01 1 .domain 13056 .wo false (.all 0) .any .imm .scratch -- 15 R453 SET
  , o 0x0D40 0x1 48 0x02 0x02 1 .domain 13056 .wo false (.all 0) .any .imm .scratch -- 15 R453 CLEAR
  , o 0x0D40 0x1 48 0x03 0x03 1 .u40 1 .ro false (.all 0) .any .imm .none -- 15 R453 COLLIDES
  , o 0x0700 0x1 1 0x00 0x00 1 .fx40 1 .rws false (.all 40000) (.signed (0) (85000)) .imm .none -- 16 R481 T_REF
  , o 0x0700 0x1 1 0x01 0x01 1 .fx40 1 .ro false (.all 0) .any .imm .none -- 16 R481 TMAX
  , o 0x0700 0x1 1 0x02 0x02 1 .u8 1 .ro false (.all 0) .any .imm .none -- 16 R481 HOT_NODE
  , o 0x0700 0x1 1 0x03 0x03 1 .enum8 1 .ro false (.all 0) .any .imm .none -- 16 R481 DEVICE_BAND
  , o 0x0700 0x1 1 0x04 0x04 1 .u16 1 .ro false (.all 0) .any .imm .none -- 16 R481 THROTTLE_LEVEL
  ]

/-- Objects whose first index lies in 0x0000 to 0x0FFF, part 4. -/
def odRows0d : List Obj :=
  [ o 0x0700 0x1 1 0x05 0x05 1 .bool 1 .ro false (.all 0) .any .imm .none -- 16 R481 THROTTLE_ACTIVE
  , o 0x0700 0x1 1 0x06 0x06 1 .u16 1 .rws false (.all 100) (.among [(0, 400)]) .imm .none -- 16 R481 GAP_PERCENT
  , o 0x0700 0x1 1 0x07 0x07 1 .u40 1 .rws false (.all 1000) (.among [(1, 100000)]) .imm .none -- 16 R481 GAP_MAX
  , o 0x0700 0x1 1 0x08 0x08 1 .u40 1 .ro false (.all 0) .any .imm .none -- 16 R481 THROTTLE_TIME
  , o 0x0700 0x1 1 0x09 0x09 1 .u40 1 .ro false (.all 0) .any .imm .none -- 16 R481 THROTTLE_GAPS
  , o 0x0700 0x1 1 0x0A 0x0A 1 .u80 2 .ro false (.all 0) .any .imm .none -- 16 R481 ROUNDS
  , o 0x0701 0x1 1 0x00 0x00 1 .domain 64 .ro false (.all 0) .any .imm .none -- 16 R481 NODE_TEMP
  , o 0x0701 0x1 1 0x01 0x01 1 .domain 64 .ro false (.all 0) .any .imm .none -- 16 R481 NODE_POWER
  , o 0x0701 0x1 1 0x02 0x02 1 .domain 64 .ro false (.all 0) .any .imm .none -- 16 R481 NODE_BAND
  , o 0x0701 0x1 1 0x03 0x03 1 .domain 2 .ro false (.all 0) .any .imm .none -- 16 R481 SENSOR_INVALID
  , o 0x0701 0x1 1 0x04 0x04 1 .domain 48 .ro false (.all 0) .any .imm .none -- 16 R481 CLUSTER_TEMP
  , o 0x0701 0x1 1 0x05 0x05 1 .domain 48 .ro false (.all 0) .any .imm .none -- 16 R481 CLUSTER_BAND
  , o 0x0702 0x1 1 0x00 0x00 1 .fx40 1 .rws false (.all 750000) (.signed (700000) (850000)) .imm .none -- 16 R481 VDD_CORE_SET
  , o 0x0702 0x1 1 0x01 0x01 1 .fx40 1 .ro false (.all 0) .any .imm .none -- 16 R481 VDD_CORE_REQ
  , o 0x0702 0x1 1 0x02 0x02 1 .u8 1 .rws false (.all 64) (.among [(8, 119)]) .imm .none -- 16 R481 PMB_ADDR
  , o 0x0702 0x1 1 0x03 0x03 1 .u40 1 .ro false (.all 0) .any .imm .none -- 16 R481 PMB_ERRORS
  , o 0x0702 0x1 1 0x04 0x04 1 .u16 1 .ro false (.all 0) .any .imm .none -- 16 R481 VR_STATUS
  , o 0x0710 0x1 1 0x00 0x00 1 .domain 256 .rws false (.list [665000, 855000, 855000, 1045000, 380000, 1710000, 5700000, 1099509002776, 1710000, 1710000, 0, 0, 0, 0, 0, 0, 0, 0, 0, 0, 0, 0, 0, 0, 0, 0, 0, 0, 0, 0, 0, 0, 0, 0, 0, 0, 0, 0, 0, 0, 0, 0, 0, 0, 0, 0, 0, 0, 0, 0, 0, 0, 0, 0, 0, 0, 0, 0, 0, 0, 0, 0, 0, 0, 0, 0, 0, 0, 0, 0, 0, 0, 0, 0, 0, 0, 0, 0, 0, 0, 0, 0, 0, 0, 0, 0, 0, 0, 0, 0, 0, 0, 0, 0, 0, 0, 0, 0, 0, 0, 0, 0, 0, 0, 0, 0, 0, 0, 0, 0, 0, 0, 0]) .any .imm .monitor -- 16 R481 LOW
  , o 0x0710 0x1 1 0x01 0x01 1 .domain 256 .rws false (.list [890000, 945000, 945000, 1155000, 420000, 1890000, 6300000, 1099509252776, 1890000, 1890000, 0, 0, 0, 0, 0, 0, 250000, 250000, 250000, 250000, 250000, 250000, 250000, 250000, 250000, 250000, 250000, 250000, 250000, 250000, 250000, 250000, 250000, 250000, 250000, 250000, 250000, 250000, 250000, 250000, 250000, 250000, 250000, 250000, 250000, 250000, 250000, 250000, 250000, 250000, 250000, 250000, 250000, 250000, 250000, 250000, 250000, 250000, 250000, 250000, 250000, 250000, 250000, 250000, 2100000, 450000, 450000, 450000, 450000, 450000, 450000, 450000, 450000, 450000, 450000, 450000, 450000, 450000, 450000, 450000, 450000, 450000, 450000, 450000, 450000, 450000, 450000, 450000, 450000, 450000, 450000, 450000, 450000, 450000, 450000, 450000, 450000, 450000, 450000, 450000, 450000, 450000, 450000, 450000, 450000, 450000, 450000, 450000, 450000, 450000, 450000, 450000, 450000]) .any .imm .monitor -- 16 R481 HIGH
  , o 0x0710 0x1 1 0x02 0x02 1 .domain 256 .rws false (.list [10000, 10000, 10000, 10000, 5000, 15000, 50000, 25000, 15000, 15000, 0, 0, 0, 0, 0, 0, 10000, 10000, 10000, 10000, 10000, 10000, 10000, 10000, 10000, 10000, 10000, 10000, 10000, 10000, 10000, 10000, 10000, 10000, 10000, 10000, 10000, 10000, 10000, 10000, 10000, 10000, 10000, 10000, 10000, 10000, 10000, 10000, 10000, 10000, 10000, 10000, 10000, 10000, 10000, 10000, 10000, 10000, 10000, 10000, 10000, 10000, 10000, 10000, 50000, 10000, 10000, 10000, 10000, 10000, 10000, 10000, 10000, 10000, 10000, 10000, 10000, 10000, 10000, 10000, 10000, 10000, 10000, 10000, 10000, 10000, 10000, 10000, 10000, 10000, 10000, 10000, 10000, 10000, 10000, 10000, 10000, 10000, 10000, 10000, 10000, 10000, 10000, 10000, 10000, 10000, 10000, 10000, 10000, 10000, 10000, 10000, 10000]) (.signed (0) (549755813887)) .imm .monitor -- 16 R481 HYST
  , o 0x0710 0x1 1 0x03 0x03 1 .domain 256 .rws false (.all 53) (.fields [(7, 4, 0, 15), (3, 0, 0, 15)]) .imm .monitor -- 16 R481 FILTER
  , o 0x0710 0x1 1 0x04 0x04 1 .domain 256 .rws false (.list [1, 1, 1, 1, 1, 1, 1, 1, 1, 1, 0, 0, 0, 0, 0, 0, 1, 1, 1, 1, 1, 1, 1, 1, 1, 1, 1, 1, 1, 1, 1, 1, 1, 1, 1, 1, 1, 1, 1, 1, 1, 1, 1, 1, 1, 1, 1, 1, 1, 1, 1, 1, 1, 1, 1, 1, 1, 1, 1, 1, 1, 1, 1, 1, 2, 1, 1, 1, 1, 1, 1, 1, 1, 1, 1, 1, 1, 1, 1, 1, 1, 1, 1, 1, 1, 1, 1, 1, 1, 1, 1, 1, 1, 1, 1, 1, 1, 1, 1, 1, 1, 1, 1, 1, 1, 1, 1, 1, 1, 1, 1, 1, 1]) (.fields [(1, 0, 0, 3)]) .imm .monitor -- 16 R481 ACTION
  , o 0x0710 0x1 1 0x05 0x05 1 .domain 256 .ro false (.all 0) .any .imm .none -- 16 R481 STATE
  , o 0x0710 0x1 1 0x06 0x06 1 .domain 256 .ro false (.all 0) .any .imm .none -- 16 R481 LAST
  , o 0x0710 0x1 1 0x07 0x07 1 .domain 256 .ro false (.all 0) .any .imm .none -- 16 R481 ALARMS
  , o 0x0800 0x1 1 0x00 0x00 1 .domain 2 .cmd false (.all 0) .any .imm .starfixRun -- 16 R481 RUN
  , o 0x0800 0x1 1 0x01 0x01 1 .bool 1 .rws false (.all 1) .any .imm .none -- 16 R481 AUTO
  , o 0x0800 0x1 1 0x02 0x02 1 .fx40 1 .rws false (.all 2000) (.signed (500) (10000)) .imm .none -- 16 R481 TRIGGER_DELTA
  , o 0x0800 0x1 1 0x03 0x03 1 .u40 1 .rws false (.all 60000) (.among [(0, 0), (1000, 3600000)]) .imm .none -- 16 R481 OVERDUE
  , o 0x0800 0x1 1 0x04 0x04 1 .u40 1 .ro false (.all 0) .any .imm .none -- 16 R481 RUNS
  , o 0x0800 0x1 1 0x05 0x05 1 .u40 1 .ro false (.all 0) .any .imm .none -- 16 R481 ABORTS
  , o 0x0800 0x1 1 0x06 0x06 1 .u40 1 .ro false (.all 0) .any .imm .none -- 16 R481 QUICK_TIME
  , o 0x0810 0x1 48 0x00 0x00 1 .enum8 1 .ro false (.all 0) .any .imm .none -- 16 R481 STATE
  , o 0x0810 0x1 48 0x01 0x01 1 .enum8 1 .ro false (.all 0) .any .imm .none -- 16 R481 SOURCE
  , o 0x0810 0x1 48 0x02 0x02 1 .bool 1 .ro false (.all 1) .any .imm .none -- 16 R481 CAL_STALE
  , o 0x0810 0x1 48 0x03 0x03 1 .u80 2 .ro false (.all 0) .any .imm .none -- 16 R481 STALE_SINCE
  , o 0x0810 0x1 48 0x04 0x04 1 .fx40 1 .ro false (.all 0) .any .imm .none -- 16 R481 LAST_RUN_TEMP
  , o 0x0810 0x1 48 0x05 0x05 1 .u80 2 .ro false (.all 0) .any .imm .none -- 16 R481 LAST_RUN_TIME
  , o 0x0810 0x1 48 0x06 0x06 1 .bool 1 .ro false (.all 0) .any .imm .none -- 16 R481 ADC_PENDING
  , o 0x0810 0x1 48 0x07 0x07 1 .domain 4096 .rw false (.all 0) .any .imm .values -- 16 R481 VALUES
  ]

/-- Objects whose first index lies in 0x0000 to 0x0FFF, part 5. -/
def odRows0e : List Obj :=
  [ o 0x0600 0x1 1 0x00 0x00 1 .bool 1 .ro false (.all 0) .any .imm .eclipseActive -- 17 R503 ECLIPSE_ACTIVE
  , o 0x0600 0x1 1 0x01 0x01 1 .u16 1 .ro false (.all 0) .any .imm .none -- 17 R503 ECLIPSE_CAUSE
  , o 0x0600 0x1 1 0x02 0x02 1 .u80 2 .ro false (.all 0) .any .imm .none -- 17 R503 ECLIPSE_TIME
  , o 0x0600 0x1 1 0x03 0x03 1 .u16 1 .ro false (.all 0) .any .imm .none -- 17 R503 PERSISTING
  , o 0x0600 0x1 1 0x04 0x04 1 .u8 1 .cmd false (.all 0) (.among [(1, 1)]) .imm .enter -- 17 R503 ENTER
  , o 0x0600 0x1 1 0x05 0x05 1 .u8 1 .cmd false (.all 0) (.among [(1, 1)]) .imm .clear -- 17 R503 CLEAR
  , o 0x0600 0x1 1 0x06 0x06 1 .u40 1 .ro false (.all 0) .any .imm .none -- 17 R503 ECLIPSES
  , o 0x0600 0x1 1 0x07 0x07 1 .domain 4 .ro false (.all 0) .any .imm .none -- 17 R503 SEVERITY_COUNTS
  , o 0x0600 0x1 1 0x08 0x08 1 .bool 1 .ro false (.all 0) .any .imm .faultN -- 17 R503 FAULT_N_STATE
  , o 0x0600 0x1 1 0x09 0x09 1 .domain 4 .ro false (.all 0) .any .imm .none -- 17 R503 LAST_FAULT
  , o 0x0601 0x1 1 0x00 0x00 1 .domain 512 .ro false (.all 0) .any .imm .none -- 17 R503 STATUS
  , o 0x0601 0x1 1 0x01 0x01 1 .domain 512 .cmd false (.all 0) (.among [(0, 1)]) .imm .ack -- 17 R503 ACK
  , o 0x0601 0x1 1 0x02 0x02 1 .domain 512 .ro false (.all 0) .any .imm .none -- 17 R503 DETAIL
  , o 0x0300 0x1 1 0x00 0x00 1 .u8 1 .cmd false (.all 0) (.among [(1, 2)]) .imm .almanacCommit -- 18 R527 COMMIT
  , o 0x0300 0x1 1 0x01 0x01 1 .enum8 1 .ro false (.all 0) .any .imm .none -- 18 R527 ACTIVE_BANK
  , o 0x0300 0x1 1 0x02 0x02 1 .enum8 1 .ro false (.all 0) .any .imm .none -- 18 R527 STATE_A
  , o 0x0300 0x1 1 0x03 0x03 1 .enum8 1 .ro false (.all 0) .any .imm .none -- 18 R527 STATE_B
  , o 0x0300 0x1 1 0x04 0x04 1 .u40 1 .ro false (.all 0) .any .imm .none -- 18 R527 GENERATION_A
  , o 0x0300 0x1 1 0x05 0x05 1 .u40 1 .ro false (.all 0) .any .imm .none -- 18 R527 GENERATION_B
  , o 0x0300 0x1 1 0x06 0x06 1 .u40 1 .ro false (.all 0) .any .imm .none -- 18 R527 COMMITS_A
  , o 0x0300 0x1 1 0x07 0x07 1 .u40 1 .ro false (.all 0) .any .imm .none -- 18 R527 COMMITS_B
  , o 0x0300 0x1 1 0x08 0x08 1 .u40 1 .ro false (.all 0) .any .imm .none -- 18 R527 BYTES_USED
  , o 0x0300 0x1 1 0x09 0x09 1 .u16 1 .ro false (.all 0) .any .imm .none -- 18 R527 COMMIT_PROGRESS
  , o 0x0300 0x1 1 0x0A 0x0A 1 .enum8 1 .ro false (.all 0) .any .imm .none -- 18 R527 FACTORY_STATE
  , o 0x0300 0x1 1 0x0B 0x0B 1 .u40 1 .ro false (.all 0) .any .imm .none -- 18 R527 REJECTED_ENTRIES
  , o 0x0400 0x1 1 0x00 0x00 1 .u40 1 .ro false (.all 0) .any .imm .none -- 18 R527 FIRST_SEQ
  , o 0x0400 0x1 1 0x01 0x01 1 .u40 1 .ro false (.all 0) .any .imm .none -- 18 R527 NEXT_SEQ
  , o 0x0400 0x1 1 0x02 0x02 1 .u40 1 .ro false (.all 1) .any .imm .none -- 18 R527 BOOT_COUNT
  , o 0x0400 0x1 1 0x03 0x03 1 .domain 8388608 .ro false (.all 0) .any .imm .journalEntries -- 18 R527 ENTRIES
  , o 0x0400 0x1 1 0x04 0x04 1 .u16 1 .ro false (.all 0) .any .imm .none -- 18 R527 HEAD_LEVEL
  , o 0x0400 0x1 1 0x05 0x05 1 .u40 1 .ro false (.all 0) .any .imm .none -- 18 R527 HOLDS
  , o 0x0500 0x1 1 0x00 0x00 1 .enum8 1 .rws false (.all 0) (.among [(0, 1)]) .imm .logMode -- 18 R527 MODE
  , o 0x0500 0x1 1 0x01 0x01 1 .u16 1 .rws false (.all 16) (.among [(1, 4096)]) .imm .none -- 18 R527 RATE_N
  , o 0x0500 0x1 1 0x02 0x02 1 .u40 1 .rws false (.all 1000) (.among [(10, 3600000)]) .imm .none -- 18 R527 RATE_WINDOW
  , o 0x0500 0x1 1 0x03 0x03 1 .u40 1 .ro false (.all 0) .any .imm .none -- 18 R527 NEXT_RECORD
  , o 0x0500 0x1 1 0x04 0x04 1 .domain 32768 .ro false (.all 0) .any .imm .logRecords -- 18 R527 RECORDS
  , o 0x0500 0x1 1 0x05 0x05 1 .u40 1 .ro false (.all 0) .any .imm .none -- 18 R527 OVERWRITTEN
  , o 0x0500 0x1 1 0x06 0x06 1 .u40 1 .ro false (.all 0) .any .imm .none -- 18 R527 SUPPRESSED
  , o 0x0500 0x1 1 0x07 0x07 1 .u40 1 .ro false (.all 0) .any .imm .none -- 18 R527 LOST
  , o 0x0500 0x1 1 0x08 0x08 1 .u40 1 .ro false (.all 0) .any .imm .none -- 18 R527 CRC_ERRORS
  ]

/-- Objects whose first index lies in 0x0000 to 0x0FFF, part 6. -/
def odRows0f : List Obj :=
  [ o 0x0100 0x1 1 0x00 0x00 1 .enum8 1 .ro false (.all 1) .any .imm .none -- 19 R544 STATE
  , o 0x0100 0x1 1 0x01 0x01 1 .u8 1 .cmd false (.all 0) (.among [(1, 2)]) .imm .stateCmd -- 19 R544 STATE_CMD
  , o 0x0100 0x1 1 0x02 0x02 1 .u8 1 .cmd false (.all 0) (.among [(1, 1)]) .imm .warmReset -- 19 R544 WARM_RESET
  , o 0x0100 0x1 1 0x03 0x03 1 .u8 1 .cmd false (.all 0) (.among [(0, 47)]) .imm .clusterReset -- 19 R544 CLUSTER_RESET
  , o 0x0100 0x1 1 0x04 0x04 1 .enum8 1 .ro false (.all 0) .any .imm .none -- 19 R544 BOOT_SEL
  , o 0x0100 0x1 1 0x05 0x05 1 .bool 1 .ro false (.all 0) .any .imm .none -- 19 R544 TESTMODE_SAMPLED
  , o 0x0100 0x1 1 0x06 0x06 1 .enum8 1 .ro false (.all 1) .any .imm .none -- 19 R544 LAST_RESET
  , o 0x0100 0x1 1 0x07 0x07 1 .u40 1 .ro false (.all 0) .any .imm .none -- 19 R544 WARM_RESETS
  , o 0x0100 0x1 1 0x08 0x08 1 .u8 1 .ro false (.all 0) .any .imm .none -- 19 R544 BRINGUP_STEP
  , o 0x0100 0x1 1 0x09 0x09 1 .u40 1 .ro false (.all 0) .any .imm .none -- 19 R544 BRINGUP_TIME
  , o 0x0100 0x1 1 0x0A 0x0A 1 .u80 2 .ro false (.all 0) .any .imm .none -- 19 R544 READY_TIME
  , o 0x0100 0x1 1 0x0B 0x0B 1 .enum8 1 .ro false (.all 0) .any .imm .none -- 19 R544 BIST_STATE
  , o 0x0100 0x1 1 0x0C 0x0C 1 .bits40 1 .ro false (.all 0) .any .imm .none -- 19 R544 BIST_RESULT
  , o 0x0100 0x1 1 0x0D 0x0D 1 .u40 1 .ro false (.all 0) .any .imm .none -- 19 R544 CLUSTER_RESETS
  , o 0x0100 0x1 1 0x0F 0x0F 1 .bits40 1 .ro false (.all 0) .any .imm .none -- 19 R544 RECOVERY_CAUSE
  ]

/-- Objects whose first index lies in 0x1000 to 0x1FFF, part 1. -/
def odRows1a : List Obj :=
  [ o 0x1100 0x1 1 0x00 0x00 1 .u24 1 .rws false (.all 16777213) (.among [(0, 16777199), (16777213, 16777213)]) .imm .deviceNumber -- 12 R379 DEVICE_NUMBER
  , o 0x1100 0x1 1 0x01 0x01 1 .u40 1 .rws false (.all 1000) (.among [(10, 1000000)]) .imm .none -- 12 R379 REPLY_TIMEOUT
  , o 0x1100 0x1 1 0x02 0x02 1 .u8 1 .rws false (.all 3) (.among [(0, 15)]) .imm .none -- 12 R379 RETRIES
  , o 0x1100 0x1 1 0x03 0x03 1 .u40 1 .rws false (.all 1593835520) .any .reset .replyCache -- 12 R379 REPLY_CACHE_BASE
  , o 0x1100 0x1 1 0x04 0x04 1 .u16 1 .ro false (.all 0) .any .imm .none -- 12 R379 OUTSTANDING
  , o 0x1100 0x1 1 0x05 0x05 1 .u40 1 .ro false (.all 0) .any .imm .none -- 12 R379 UNROUTABLE
  , o 0x1100 0x1 1 0x06 0x06 1 .u40 1 .ro false (.all 0) .any .imm .none -- 12 R379 BUSY_DISCARDS
  , o 0x1100 0x1 1 0x07 0x07 1 .u40 1 .ro false (.all 0) .any .imm .none -- 12 R379 CACHED_REPLIES
  , o 0x1100 0x1 1 0x08 0x08 1 .u40 1 .ro false (.all 0) .any .imm .none -- 12 R379 SEQ_LOST
  , o 0x1101 0x1 1 0x00 0x00 1 .domain 192 .rws false (.all 0) .any .imm .routes -- 12 R379 ROUTES
  , o 0x1102 0x1 1 0x00 0x00 1 .u24 1 .rws false (.all 0) (.among [(0, 0), (3, 16777213)]) .imm .ringSize -- 12 R379 RING_SIZE
  , o 0x1102 0x1 1 0x01 0x01 1 .u24 1 .rws false (.all 0) .any .imm .ringPos -- 12 R379 RING_POS
  , o 0x1102 0x1 1 0x02 0x02 1 .domain 8 .ro false (.all 0) .any .imm .none -- 12 R379 BROKEN
  , o 0x1102 0x1 1 0x03 0x03 1 .u40 1 .rws false (.all 1000) (.among [(0, 1000000)]) .imm .none -- 12 R379 RESTORE_HOLD
  , o 0x1102 0x1 1 0x04 0x04 1 .u40 1 .ro false (.all 0) .any .imm .none -- 12 R379 WRAPS
  , o 0x1102 0x1 1 0x05 0x05 1 .u80 2 .ro false (.all 0) .any .imm .none -- 12 R379 LAST_WRAP_TIME
  , o 0x1110 0x1 4 0x00 0x00 1 .bool 1 .rws false (.all 1) .any .imm .portEnable -- 12 R379 ENABLE
  , o 0x1110 0x1 4 0x01 0x01 1 .enum8 1 .rws false (.all 0) (.among [(0, 3)]) .imm .portRole -- 12 R379 ROLE
  , o 0x1110 0x1 4 0x02 0x02 1 .enum8 1 .rws false (.all 2) (.among [(1, 2)]) .imm .none -- 12 R379 MAX_RATE
  , o 0x1110 0x1 4 0x03 0x03 1 .u8 1 .rws false (.all 1) (.among [(1, 4)]) .imm .minWidth -- 12 R379 MIN_WIDTH
  , o 0x1110 0x1 4 0x04 0x04 1 .bool 1 .rws false (.all 0) .any .imm .none -- 12 R379 DATELINE
  , o 0x1110 0x1 4 0x05 0x05 1 .u24 1 .rws false (.all 16777215) .any .imm .expectPeer -- 12 R379 EXPECT_PEER
  , o 0x1110 0x1 4 0x06 0x06 1 .u8 1 .cmd false (.all 0) (.among [(1, 1)]) .imm .retrain -- 12 R379 RETRAIN
  , o 0x1110 0x1 4 0x07 0x07 1 .enum8 1 .ro false (.all 0) .any .imm .none -- 12 R379 STATE
  , o 0x1110 0x1 4 0x08 0x08 1 .enum8 1 .ro false (.all 0) .any .imm .none -- 12 R379 RATE
  , o 0x1110 0x1 4 0x09 0x09 1 .bits40 1 .ro false (.all 0) .any .imm .none -- 12 R379 LANES
  , o 0x1110 0x1 4 0x0A 0x0A 1 .u24 1 .ro false (.all 16777213) .any .imm .none -- 12 R379 PEER_DEVICE
  , o 0x1110 0x1 4 0x0B 0x0B 1 .enum8 1 .ro false (.all 0) .any .imm .none -- 12 R379 PEER_KIND
  , o 0x1110 0x1 4 0x0C 0x0C 1 .u8 1 .ro false (.all 0) .any .imm .none -- 12 R379 PEER_PORT
  , o 0x1110 0x1 4 0x0D 0x0D 1 .u80 2 .ro false (.all 0) .any .imm .none -- 12 R379 FEC_CORRECTED
  , o 0x1110 0x1 4 0x0E 0x0E 1 .u40 1 .ro false (.all 0) .any .imm .none -- 12 R379 FEC_UNCORRECTABLE
  , o 0x1110 0x1 4 0x0F 0x0F 1 .u40 1 .ro false (.all 0) .any .imm .none -- 12 R379 REPLAYS
  , o 0x1110 0x1 4 0x10 0x10 1 .u40 1 .ro false (.all 0) .any .imm .none -- 12 R379 DISCARDS
  , o 0x1110 0x1 4 0x11 0x11 1 .bits40 1 .ro false (.all 0) .any .imm .none -- 12 R379 LANE_FAULTS
  , o 0x1110 0x1 4 0x12 0x12 1 .u80 2 .ro false (.all 0) .any .imm .none -- 12 R379 TX_FRAMES
  , o 0x1110 0x1 4 0x13 0x13 1 .u80 2 .ro false (.all 0) .any .imm .none -- 12 R379 RX_FRAMES
  , o 0x1110 0x1 4 0x14 0x14 1 .u40 1 .ro false (.all 0) .any .imm .none -- 12 R379 CREDIT_STALLS
  , o 0x1000 0x1 1 0x00 0x00 1 .enum8 1 .ro false (.all 0) .any .imm .none -- 13 R408 LINK_GEN
  , o 0x1000 0x1 1 0x01 0x01 1 .u8 1 .ro false (.all 0) .any .imm .none -- 13 R408 LINK_WIDTH
  , o 0x1000 0x1 1 0x02 0x02 1 .bool 1 .ro false (.all 0) .any .imm .none -- 13 R408 FLIT_MODE
  ]

/-- Objects whose first index lies in 0x1000 to 0x1FFF, part 2. -/
def odRows1b : List Obj :=
  [ o 0x1000 0x1 1 0x03 0x03 1 .u8 1 .rws false (.all 6) (.among [(1, 6)]) .imm .none -- 13 R408 MAX_GEN
  , o 0x1000 0x1 1 0x04 0x04 1 .u40 1 .rws false (.all 0) (.fields [(30, 20, 0, 1535)]) .imm .none -- 13 R408 BAR2_BASE
  , o 0x1000 0x1 1 0x05 0x05 1 .u40 1 .ro false (.all 0) .any .imm .none -- 13 R408 BAD_ACCESS
  , o 0x1000 0x1 1 0x06 0x06 1 .u40 1 .ro false (.all 0) .any .imm .none -- 13 R408 POISONED_RX
  , o 0x1000 0x1 1 0x07 0x07 1 .u40 1 .ro false (.all 0) .any .imm .none -- 13 R408 FLR_COUNT
  , o 0x1000 0x1 1 0x08 0x08 1 .u40 1 .ro false (.all 0) .any .imm .none -- 13 R408 LINK_DOWNS
  , o 0x1010 0x1 1 0x00 0x00 1 .domain 64 .rws false (.all 65535) (.among [(0, 511), (65535, 65535)]) .imm .none -- 13 R408 MSIX_LINE
  , o 0x1010 0x1 1 0x01 0x01 1 .u40 1 .ro false (.all 0) .any .imm .none -- 13 R408 SENT
  , o 0x1200 0x1 1 0x00 0x00 1 .domain 256 .ro false (.all 0) .any .imm .none -- 20 R558 MBX_IN
  , o 0x1200 0x1 1 0x01 0x01 1 .u8 1 .ro false (.all 0) .any .imm .none -- 20 R558 MBX_IN_FIRST
  , o 0x1200 0x1 1 0x02 0x02 1 .u16 1 .ro false (.all 0) .any .imm .none -- 20 R558 MBX_IN_COUNT
  , o 0x1200 0x1 1 0x03 0x03 1 .u16 1 .cmd false (.all 0) .any .imm .mbxInAck -- 20 R558 MBX_IN_ACK
  , o 0x1200 0x1 1 0x04 0x04 1 .domain 256 .wo false (.all 0) .any .imm .mbxOut -- 20 R558 MBX_OUT
  , o 0x1200 0x1 1 0x05 0x05 1 .u16 1 .ro false (.all 0) .any .imm .none -- 20 R558 MBX_OUT_COUNT
  , o 0x1200 0x1 1 0x06 0x06 1 .u40 1 .ro false (.all 0) .any .imm .none -- 20 R558 FRAMES
  , o 0x1200 0x1 1 0x07 0x07 1 .u40 1 .ro false (.all 0) .any .imm .none -- 20 R558 BAD_FRAMES
  , o 0x1200 0x1 1 0x08 0x08 1 .u16 1 .ro false (.all 48) .any .imm .none -- 20 R558 LEN
  ]

/-- Objects whose first index lies in 0x2000 to 0x2FFF, part 1. -/
def odRows2a : List Obj :=
  [ o 0x2000 0x40 48 0x00 0x18 1 .enum8 1 .rw false (.all 0) (.among [(0, 1)]) .imm .peEnable -- 04 R151 ENABLE
  , o 0x2001 0x40 48 0x00 0x18 1 .enum8 1 .rw false (.all 0) (.among [(0, 3)]) .imm .peForce -- 04 R151 FORCE_STATE
  , o 0x2002 0x40 48 0x00 0x18 1 .enum8 1 .rws false (.all 0) (.among [(0, 2)]) .load .none -- 04 R151 TERM_MODE
  , o 0x2003 0x40 48 0x00 0x18 1 .enum8 1 .rw false (.all 0) (.among [(0, 3)]) .imm .pmuMode -- 04 R151 PMU_MODE
  , o 0x2004 0x40 48 0x00 0x18 1 .enum8 1 .rws false (.all 2) (.among [(0, 4)]) .imm .pmuRange -- 04 R151 PMU_RANGE
  , o 0x2005 0x40 48 0x00 0x18 1 .fx40 1 .rws false (.all 0) (.signed (-1500000) (4000000)) .imm .none -- 04 R151 PMU_FV
  , o 0x2006 0x40 48 0x00 0x18 1 .fx40 1 .rws false (.all 0) .any .imm .pmuFi -- 04 R151 PMU_FI
  , o 0x2007 0x40 48 0x00 0x18 1 .fx40 1 .rws false (.all 1000000) (.signed (-1500000) (4000000)) .imm .pmuVlim -- 04 R151 PMU_VLIM_H
  , o 0x2008 0x40 48 0x00 0x18 1 .fx40 1 .rws false (.all 1099511127776) (.signed (-1500000) (4000000)) .imm .pmuVlim -- 04 R151 PMU_VLIM_L
  , o 0x2009 0x40 48 0x00 0x18 1 .enum8 1 .rws false (.all 0) (.among [(0, 1)]) .imm .none -- 04 R151 RANGE_CHANGE
  , o 0x200A 0x40 48 0x00 0x18 1 .fx40 1 .rws false (.all 0) (.signed (-1500000) (4000000)) .load .level -- 04 R151 VIH
  , o 0x200B 0x40 48 0x00 0x18 1 .fx40 1 .rws false (.all 0) (.signed (-1500000) (4000000)) .load .level -- 04 R151 VIL
  , o 0x200C 0x40 48 0x00 0x18 1 .fx40 1 .rws false (.all 0) (.signed (-1500000) (4000000)) .load .level -- 04 R151 VOH
  , o 0x200D 0x40 48 0x00 0x18 1 .fx40 1 .rws false (.all 0) (.signed (-1500000) (4000000)) .load .level -- 04 R151 VOL
  , o 0x200E 0x40 48 0x00 0x18 1 .fx40 1 .rws false (.all 0) (.signed (-1500000) (4000000)) .load .level -- 04 R151 VTT
  , o 0x200F 0x40 48 0x00 0x18 1 .fx40 1 .rws false (.all 500000) (.signed (-1500000) (4000000)) .load .level -- 04 R151 CLH
  , o 0x2010 0x40 48 0x00 0x18 1 .fx40 1 .rws false (.all 1099511127776) (.signed (-1500000) (4000000)) .load .level -- 04 R151 CLL
  , o 0x2011 0x40 48 0x00 0x18 1 .fx40 1 .rws false (.all 0) (.signed (0) (24000000)) .load .none -- 04 R151 IOH
  , o 0x2012 0x40 48 0x00 0x18 1 .fx40 1 .rws false (.all 0) (.signed (0) (24000000)) .load .none -- 04 R151 IOL
  , o 0x2013 0x40 48 0x00 0x18 1 .fx40 1 .rws false (.all 0) (.signed (-1500000) (4000000)) .load .clearCode -- 04 R151 VIH_CLR
  , o 0x2014 0x40 48 0x00 0x18 1 .fx40 1 .rws false (.all 0) (.signed (-1500000) (4000000)) .load .clearCode -- 04 R151 VIL_CLR
  , o 0x2015 0x40 48 0x00 0x18 1 .fx40 1 .rws false (.all 0) (.signed (-1500000) (4000000)) .load .clearCode -- 04 R151 VOH_CLR
  , o 0x2016 0x40 48 0x00 0x18 1 .fx40 1 .rws false (.all 0) (.signed (-1500000) (4000000)) .load .clearCode -- 04 R151 VOL_CLR
  , o 0x2017 0x40 48 0x00 0x18 1 .fx40 1 .rws false (.all 0) (.signed (-1500000) (4000000)) .load .clearCode -- 04 R151 VTT_CLR
  , o 0x2018 0x40 48 0x00 0x18 1 .fx40 1 .rws false (.all 500000) (.signed (-1500000) (4000000)) .load .clearCode -- 04 R151 CLH_CLR
  , o 0x2019 0x40 48 0x00 0x18 1 .fx40 1 .rws false (.all 1099511127776) (.signed (-1500000) (4000000)) .load .clearCode -- 04 R151 CLL_CLR
  , o 0x201A 0x40 48 0x00 0x18 1 .bits40 1 .ro false (.all 0) .any .imm .lvlStatus -- 04 R151 LVL_STATUS
  , o 0x201B 0x40 48 0x00 0x18 1 .enum8 1 .ro false (.all 0) .any .imm .compState -- 04 R151 COMP_STATE
  , o 0x201C 0x40 48 0x00 0x18 1 .enum8 1 .ro false (.perSub [0, 0, 0, 0, 0, 0, 0, 0, 0, 0, 0, 0, 0, 0, 0, 0, 0, 0, 0, 0, 0, 0, 0, 0, 1]) .any .imm .none -- 04 R151 SLICE_STATE
  , o 0x201D 0x40 48 0x00 0x18 1 .u8 1 .ro false (.perSub [0, 1, 2, 3, 4, 5, 6, 7, 8, 9, 10, 11, 12, 13, 14, 15, 16, 17, 18, 19, 20, 21, 22, 23, 255]) .any .imm .none -- 04 R151 LANE
  , o 0x201E 0x40 48 0x00 0x18 1 .bits40 1 .ro false (.all 0) .any .imm .pmuStatus -- 04 R151 PMU_STATUS
  , o 0x201F 0x40 48 0xF0 0xF0 1 .u16 1 .rws false (.all 65535) (.among [(0, 511), (65535, 65535)]) .imm .none -- 04 R151 LOAD_LINE
  , o 0x201F 0x40 48 0xF1 0xF1 1 .u8 1 .cmd false (.all 0) (.among [(1, 1)]) .imm .loadNow -- 04 R151 LOAD_NOW
  , o 0x201F 0x40 48 0xF2 0xF2 1 .u8 1 .rws false (.all 255) (.among [(0, 23), (255, 255)]) .imm .spareLane -- 04 R151 SPARE_LANE
  , o 0x201F 0x40 48 0xF3 0xF3 1 .u40 1 .ro false (.all 0) .any .imm .budgetCluster -- 04 R151 PMU_BUDGET_CLUSTER
  , o 0x201F 0x40 48 0xF4 0xF4 1 .u40 1 .ro false (.all 0) .any .imm .budgetDevice -- 04 R151 PMU_BUDGET_DEVICE
  , o 0x201F 0x40 48 0xF5 0xF5 1 .u40 1 .ro false (.all 0) .any .imm .none -- 04 R151 LOAD_COUNT
  , o 0x201F 0x40 48 0xF6 0xF6 1 .enum8 1 .ro false (.all 0) .any .imm .none -- 04 R151 LVLCLR_STATE
  , o 0x201F 0x40 48 0xF7 0xF7 1 .bool 1 .ro false (.all 0) .any .imm .mapDirty -- 04 R151 MAP_DIRTY
  , o 0x201F 0x40 48 0xF8 0xF8 1 .u40 1 .ro false (.all 0) .any .imm .none -- 04 R151 SWAP_TIME
  ]

/-- Objects whose first index lies in 0x2000 to 0x2FFF, part 2. -/
def odRows2b : List Obj :=
  [ o 0x201F 0x40 48 0xF9 0xF9 1 .bits40 1 .ro false (.all 0) .any .imm .none -- 04 R151 LOST_LANES
  , o 0x2020 0x40 48 0x00 0x18 1 .s40 1 .rws false (.all 0) (.signed (-40960) (40960)) .boundary .none -- 05 R177 DSK_DRV_T0
  , o 0x2021 0x40 48 0x00 0x18 1 .s40 1 .rws false (.all 0) (.signed (-40960) (40960)) .boundary .none -- 05 R177 DSK_DRV_T1
  , o 0x2022 0x40 48 0x00 0x18 1 .s40 1 .rws false (.all 0) (.signed (-40960) (40960)) .boundary .none -- 05 R177 DSK_DRV_T2
  , o 0x2023 0x40 48 0x00 0x18 1 .s40 1 .rws false (.all 0) (.signed (-40960) (40960)) .boundary .none -- 05 R177 DSK_DRV_T3
  , o 0x2024 0x40 48 0x00 0x18 1 .s40 1 .rws false (.all 0) (.signed (-40960) (40960)) .boundary .none -- 05 R177 DSK_CMP_T0
  , o 0x2025 0x40 48 0x00 0x18 1 .s40 1 .rws false (.all 0) (.signed (-40960) (40960)) .boundary .none -- 05 R177 DSK_CMP_T1
  , o 0x2026 0x40 48 0x00 0x18 1 .s40 1 .rws false (.all 0) (.signed (-40960) (40960)) .boundary .none -- 05 R177 DSK_CMP_T2
  , o 0x2027 0x40 48 0x00 0x18 1 .s40 1 .rws false (.all 0) (.signed (-40960) (40960)) .boundary .none -- 05 R177 DSK_CMP_T3
  , o 0x2028 0x40 48 0x00 0x18 1 .u8 1 .ro false (.perSub [0, 0, 0, 0, 1, 1, 1, 1, 2, 2, 2, 2, 3, 3, 3, 3, 4, 4, 4, 4, 5, 5, 5, 5, 6]) .any .imm .none -- 05 R177 TD_HOME
  , o 0x2029 0x40 48 0xF0 0xF0 1 .bits40 1 .ro false (.all 0) .any .imm .none -- 05 R177 TD_FAILED
  , o 0x2029 0x40 48 0xF1 0xF1 1 .u40 1 .ro false (.all 0) .any .imm .none -- 05 R177 REHOME_TIME
  , o 0x2029 0x40 48 0xF2 0xF2 1 .enum8 1 .ro false (.all 0) .any .imm .none -- 05 R177 TABLE_BAND
  , o 0x2029 0x40 48 0xF3 0xF3 1 .u40 1 .ro false (.all 0) .any .imm .none -- 05 R177 CROWD_COUNT
  , o 0x2029 0x40 48 0xF4 0xF4 1 .u80 2 .ro false (.all 0) .any .imm .none -- 05 R177 LAST_CROWD
  ]

/-- Objects whose first index lies in 0x3000 to 0x3FFF, part 1. -/
def odRows3a : List Obj :=
  [ o 0x3000 0x40 48 0x00 0x00 1 .enum8 1 .ro false (.all 0) .any .imm .none -- 06 R218 STATE
  , o 0x3000 0x40 48 0x01 0x01 1 .u8 1 .cmd false (.all 0) (.among [(1, 1)]) .imm .arm -- 06 R218 ARM
  , o 0x3000 0x40 48 0x02 0x02 1 .u8 1 .cmd false (.all 0) (.among [(1, 1)]) .imm .start -- 06 R218 START
  , o 0x3000 0x40 48 0x03 0x03 1 .u8 1 .cmd false (.all 0) (.among [(1, 2)]) .imm .stop -- 06 R218 STOP
  , o 0x3000 0x40 48 0x04 0x04 1 .u40 1 .rw false (.all 0) (.among [(0, 3221225471)]) .imm .vecAddr -- 06 R218 START_ADDR
  , o 0x3000 0x40 48 0x05 0x05 1 .u16 1 .rws false (.all 65535) (.among [(0, 511), (65535, 65535)]) .imm .none -- 06 R218 START_LINE
  , o 0x3000 0x40 48 0x06 0x06 1 .domain 3 .rw false (.all 0) .any .boundary .keepalive -- 06 R218 KEEPALIVE
  , o 0x3000 0x40 48 0x07 0x07 1 .enum8 1 .ro false (.all 0) .any .imm .none -- 06 R218 END_CAUSE
  , o 0x3000 0x40 48 0x08 0x08 1 .u40 1 .ro false (.all 0) .any .imm .none -- 06 R218 ERROR_ADDR
  , o 0x3000 0x40 48 0x09 0x09 1 .u40 1 .ro false (.all 0) .any .imm .none -- 06 R218 PC
  , o 0x3000 0x40 48 0x0A 0x0A 1 .u80 2 .ro false (.all 0) .any .imm .none -- 06 R218 VECTOR_COUNT
  , o 0x3000 0x40 48 0x0B 0x0B 1 .u40 1 .ro false (.all 0) .any .imm .none -- 06 R218 SEG_COUNT
  , o 0x3000 0x40 48 0x0C 0x0C 1 .u80 2 .ro false (.all 0) .any .imm .none -- 06 R218 RUN_START
  , o 0x3000 0x40 48 0x0D 0x0D 1 .u80 2 .ro false (.all 0) .any .imm .none -- 06 R218 SEG_START
  , o 0x3000 0x40 48 0x0E 0x0E 1 .u40 1 .ro false (.all 0) .any .imm .none -- 06 R218 GAP_TIME
  , o 0x3000 0x40 48 0x0F 0x0F 1 .u8 1 .ro false (.all 0) .any .imm .none -- 06 R218 STACK_DEPTH
  , o 0x3000 0x40 48 0x10 0x10 1 .enum8 1 .ro false (.all 0) .any .imm .markerMode -- 06 R218 MARKER_MODE
  , o 0x3000 0x40 48 0x11 0x11 1 .bool 1 .rw false (.all 0) .any .boundary .none -- 06 R218 SEG_ITEMS
  , o 0x3001 0x40 48 0x00 0x03 1 .u40 1 .rw false (.all 1) (.among [(1, 1099511627775)]) .boundary .none -- 06 R218 LOOP_COUNT0 to LOOP_COUNT3
  , o 0x3001 0x40 48 0x04 0x04 1 .u40 1 .rw false (.all 1) (.among [(1, 1099511627775)]) .boundary .none -- 06 R218 RPT_COUNT
  , o 0x3001 0x40 48 0x05 0x05 1 .u40 1 .rw false (.all 1024) (.among [(1, 1099511627775)]) .boundary .none -- 06 R218 MATCH_LIMIT
  , o 0x3001 0x40 48 0x06 0x06 1 .bits40 1 .rw false (.all 16777215) (.mask 0xFFFFFF) .boundary .none -- 06 R218 MATCH_MASK
  , o 0x3001 0x40 48 0x07 0x07 1 .u8 1 .rw false (.all 0) (.among [(0, 47)]) .boundary .none -- 06 R218 MATCH_GROUP
  , o 0x3001 0x40 48 0x08 0x08 1 .u40 1 .rw false (.all 0) .any .boundary .none -- 06 R218 WAIT_TIMEOUT
  , o 0x3001 0x40 48 0x09 0x09 1 .domain 16384 .rw false (.all 0) (.among [(0, 3221225471)]) .boundary .vecAddr -- 06 R218 JUMP_TABLE
  , o 0x3002 0x40 48 0x00 0x00 1 .u16 1 .cmd false (.all 0) (.among [(0, 16383)]) .imm .jumpRequest -- 06 R218 JUMP_REQUEST
  , o 0x3002 0x40 48 0x01 0x01 1 .u16 1 .rws false (.all 65535) (.among [(0, 511), (65535, 65535)]) .imm .none -- 06 R218 JUMP_LINE
  , o 0x3002 0x40 48 0x02 0x02 1 .u16 1 .rw false (.all 0) (.among [(0, 16383)]) .imm .none -- 06 R218 JUMP_LINE_TARGET
  , o 0x3002 0x40 48 0x03 0x03 1 .enum8 1 .ro false (.all 0) .any .imm .none -- 06 R218 JUMP_STATUS
  , o 0x3002 0x40 48 0x04 0x04 1 .u40 1 .ro false (.all 0) .any .imm .none -- 06 R218 JUMPS_TAKEN
  , o 0x3002 0x40 48 0x05 0x05 1 .u40 1 .ro false (.all 0) .any .imm .none -- 06 R218 JUMPS_DEFERRED
  , o 0x3002 0x40 48 0x06 0x06 1 .u40 1 .ro false (.all 0) .any .imm .none -- 06 R218 JUMPS_LATE
  , o 0x3002 0x40 48 0x07 0x07 1 .u40 1 .ro false (.all 0) .any .imm .none -- 06 R218 JUMPS_REPLACED
  , o 0x3002 0x40 48 0x08 0x08 1 .u40 1 .ro false (.all 0) .any .imm .none -- 06 R218 JUMPS_IGNORED
  , o 0x3002 0x40 48 0x09 0x09 1 .u80 2 .ro false (.all 0) .any .imm .none -- 06 R218 LAST_REQUEST_TIME
  , o 0x3002 0x40 48 0x0A 0x0A 1 .u80 2 .ro false (.all 0) .any .imm .none -- 06 R218 LAST_JUMP_TIME
  , o 0x3003 0x40 48 0x00 0x00 1 .domain 24 .rw false (.all 0) (.fields [(12, 12, 0, 1), (11, 0, 0, 4095)]) .boundary .none -- 06 R218 SITE_MAP
  , o 0x3003 0x40 48 0x01 0x01 1 .u24 1 .rw false (.all 16777215) (.among [(0, 65535), (16777215, 16777215)]) .boundary .none -- 06 R218 FAIL_QUEUE
  , o 0x3003 0x40 48 0x02 0x02 1 .enum8 1 .rw false (.all 1) (.among [(0, 2)]) .boundary .none -- 06 R218 FAIL_CAPTURE
  , o 0x3003 0x40 48 0x03 0x03 1 .u40 1 .rw false (.all 4096) (.among [(1, 16777216)]) .boundary .none -- 06 R218 FAIL_LIMIT
  ]

/-- Objects whose first index lies in 0x3000 to 0x3FFF, part 2. -/
def odRows3b : List Obj :=
  [ o 0x3003 0x40 48 0x04 0x04 1 .bits40 1 .ro false (.all 0) .any .imm .none -- 06 R218 FAIL_LANES
  , o 0x3003 0x40 48 0x05 0x05 1 .u40 1 .ro false (.all 0) .any .imm .none -- 06 R218 FAIL_VECTORS
  , o 0x3003 0x40 48 0x06 0x06 1 .u40 1 .ro false (.all 0) .any .imm .none -- 06 R218 FIRST_FAIL_ADDR
  , o 0x3003 0x40 48 0x07 0x07 1 .u80 2 .ro false (.all 0) .any .imm .none -- 06 R218 FIRST_FAIL_TIME
  , o 0x3003 0x40 48 0x08 0x08 1 .u40 1 .ro false (.all 0) .any .imm .none -- 06 R218 MATCH_TIMEOUTS
  , o 0x3003 0x40 48 0x09 0x09 1 .u40 1 .ro false (.all 0) .any .imm .none -- 06 R218 WAIT_TIMEOUTS
  , o 0x3003 0x40 48 0x0A 0x0A 1 .u40 1 .ro false (.all 0) .any .imm .none -- 06 R218 START_MISSED
  , o 0x3020 0x40 48 0x00 0x00 1 .u8 1 .rws false (.all 0) (.among [(0, 47)]) .imm .bcastGroup -- 07 R242 BCAST_GROUP
  , o 0x3020 0x40 48 0x01 0x01 1 .domain 3 .rw false (.all 0) (.fields [(14, 14, 0, 1), (13, 0, 0, 16383)]) .boundary .none -- 07 R242 PREFETCH_TARGETS
  , o 0x3020 0x40 48 0x02 0x02 1 .u16 1 .ro false (.all 0) .any .imm .readAhead -- 07 R242 READ_AHEAD
  , o 0x3020 0x40 48 0x03 0x03 1 .bits40 1 .ro false (.all 0) .any .imm .none -- 07 R242 RESIDENT
  , o 0x3020 0x40 48 0x04 0x04 1 .u40 1 .ro false (.all 0) .any .imm .none -- 07 R242 GAP_COUNT
  , o 0x3020 0x40 48 0x05 0x05 1 .u40 1 .ro false (.all 0) .any .imm .none -- 07 R242 GAP_CYCLES
  , o 0x3020 0x40 48 0x06 0x06 1 .u80 2 .ro false (.all 0) .any .imm .none -- 07 R242 LAST_GAP_START
  , o 0x3020 0x40 48 0x07 0x07 1 .enum8 1 .ro false (.all 0) .any .imm .none -- 07 R242 LAST_GAP_CAUSE
  , o 0x3020 0x40 48 0x08 0x08 1 .bool 1 .ro false (.all 0) .any .imm .none -- 07 R242 STREAM_GAP_ACTIVE
  , o 0x3020 0x40 48 0x09 0x09 1 .enum8 1 .ro false (.all 0) .any .imm .none -- 07 R242 BCAST_STATE
  , o 0x3021 0x40 48 0x00 0x00 1 .domain 16384 .rw false (.all 0) .any .boundary .apgProgram -- 07 R242 APG_PROGRAM
  , o 0x3022 0x40 48 0x00 0x00 1 .u8 1 .rw false (.all 24) (.among [(1, 24)]) .boundary .apgBounds -- 07 R242 XBITS
  , o 0x3022 0x40 48 0x01 0x01 1 .u24 1 .rw false (.all 0) .any .boundary .apgBounds -- 07 R242 XBASE
  , o 0x3022 0x40 48 0x02 0x02 1 .u24 1 .rw false (.all 16777215) .any .boundary .apgBounds -- 07 R242 XMAX
  , o 0x3022 0x40 48 0x03 0x03 1 .u24 1 .rw false (.all 1) (.among [(1, 16777215)]) .boundary .apgBounds -- 07 R242 XINC
  , o 0x3022 0x40 48 0x04 0x04 1 .u8 1 .rw false (.all 24) (.among [(1, 24)]) .boundary .apgBounds -- 07 R242 YBITS
  , o 0x3022 0x40 48 0x05 0x05 1 .u24 1 .rw false (.all 0) .any .boundary .apgBounds -- 07 R242 YBASE
  , o 0x3022 0x40 48 0x06 0x06 1 .u24 1 .rw false (.all 16777215) .any .boundary .apgBounds -- 07 R242 YMAX
  , o 0x3022 0x40 48 0x07 0x07 1 .u24 1 .rw false (.all 1) (.among [(1, 16777215)]) .boundary .apgBounds -- 07 R242 YINC
  , o 0x3022 0x40 48 0x08 0x0B 1 .u24 1 .rw false (.all 0) .any .boundary .none -- 07 R242 BG0 to BG3
  , o 0x3022 0x40 48 0x0C 0x0C 1 .u24 1 .rw false (.all 1) .any .boundary .none -- 07 R242 DINC
  , o 0x3023 0x40 48 0x00 0x00 1 .domain 24 .rw false .ownIndex (.fields [(4, 0, 0, 31)]) .boundary .apgPerm -- 07 R242 XPERM
  , o 0x3023 0x40 48 0x01 0x01 1 .domain 24 .rw false .ownIndex (.fields [(4, 0, 0, 31)]) .boundary .apgPerm -- 07 R242 YPERM
  , o 0x3023 0x40 48 0x02 0x02 1 .u24 1 .rw false (.all 0) .any .boundary .none -- 07 R242 XXOR
  , o 0x3023 0x40 48 0x03 0x03 1 .u24 1 .rw false (.all 0) .any .boundary .none -- 07 R242 YYOR
  , o 0x3023 0x40 48 0x04 0x04 1 .domain 8 .rw false (.all 0) (.fields [(5, 5, 0, 1), (4, 0, 0, 23)]) .boundary .none -- 07 R242 DSCR_SEL
  , o 0x3023 0x40 48 0x05 0x05 1 .domain 256 .rw false (.all 0) (.among [(0, 1)]) .boundary .none -- 07 R242 DSCR_TABLE
  , o 0x3024 0x40 48 0x00 0x00 1 .domain 24 .rw false (.all 0) .any .boundary .apgMap -- 07 R242 APG_MAP
  , o 0x3024 0x40 48 0x01 0x01 1 .bool 1 .rw false (.all 0) .any .boundary .none -- 07 R242 APG_CAPTURE
  , o 0x3025 0x40 48 0x00 0x00 1 .u24 1 .ro false (.all 0) .any .imm .none -- 07 R242 APG_X
  , o 0x3025 0x40 48 0x01 0x01 1 .u24 1 .ro false (.all 0) .any .imm .none -- 07 R242 APG_Y
  , o 0x3025 0x40 48 0x02 0x02 1 .u24 1 .ro false (.all 0) .any .imm .none -- 07 R242 APG_D
  , o 0x3C00 0x1 1 0x00 0x00 1 .u40 1 .ro false (.all 0) .any .imm .streamDemand -- 07 R243 STREAM_DEMAND
  ]

/-- Objects whose first index lies in 0x3000 to 0x3FFF, part 3. -/
def odRows3c : List Obj :=
  [ o 0x3C00 0x1 1 0x01 0x01 1 .u40 1 .ro false (.all 24000000000) .any .imm .none -- 07 R243 STREAM_RESERVE
  , o 0x3C00 0x1 1 0x02 0x02 1 .u40 1 .ro false (.all 0) .any .imm .none -- 07 R243 GAPS_DEVICE
  , o 0x3C01 0x1 47 0x00 0x00 1 .domain 2 .ro false (.all 0) .any .imm .members -- 07 R243 MEMBERS
  , o 0x3C01 0x1 47 0x01 0x01 1 .u8 1 .cmd false (.all 0) (.among [(1, 1)]) .imm .bcastArm -- 07 R243 ARM
  , o 0x3C01 0x1 47 0x02 0x02 1 .u40 1 .rw false (.all 0) (.among [(0, 3221225471)]) .imm .vecAddr -- 07 R243 START_ADDR
  , o 0x3C01 0x1 47 0x03 0x03 1 .u40 1 .rws false (.all 100) (.among [(1, 1000000)]) .imm .none -- 07 R243 HOLD_LIMIT
  , o 0x3C01 0x1 47 0x04 0x04 1 .enum8 1 .ro false (.all 0) .any .imm .none -- 07 R243 STATE
  , o 0x3C01 0x1 47 0x05 0x05 1 .u40 1 .ro false (.all 0) .any .imm .none -- 07 R243 HOLDS
  , o 0x3C01 0x1 47 0x06 0x06 1 .domain 2 .ro false (.all 0) .any .imm .none -- 07 R243 DETACHED
  ]

/-- Objects whose first index lies in 0x4000 to 0x4FFF, part 1. -/
def odRows4a : List Obj :=
  [ o 0x4000 0x1 1536 0x00 0x90 6 .u40 1 .rw false (.all 1099511627775) (.among [(0, 68718591), (1099511627775, 1099511627775)]) .boundary .timingSet -- 05 R176 E0
  , o 0x4000 0x1 1536 0x01 0x91 6 .u40 1 .rw false (.all 1099511627775) (.among [(0, 68718591), (1099511627775, 1099511627775)]) .boundary .timingSet -- 05 R176 E1
  , o 0x4000 0x1 1536 0x02 0x92 6 .u40 1 .rw false (.all 1099511627775) (.among [(0, 68718591), (1099511627775, 1099511627775)]) .boundary .timingSet -- 05 R176 E2
  , o 0x4000 0x1 1536 0x03 0x93 6 .u40 1 .rw false (.all 1099511627775) (.among [(0, 68718591), (1099511627775, 1099511627775)]) .boundary .timingSet -- 05 R176 E3
  , o 0x4000 0x1 1536 0x04 0x94 6 .u40 1 .rw false (.all 1099511627775) (.among [(0, 68718591), (1099511627775, 1099511627775)]) .boundary .timingSet -- 05 R176 C0
  , o 0x4000 0x1 1536 0x05 0x95 6 .u40 1 .rw false (.all 1099511627775) (.among [(0, 68718591), (1099511627775, 1099511627775)]) .boundary .timingSet -- 05 R176 C1
  , o 0x4000 0x1 1536 0xF0 0xF0 1 .u40 1 .rw false (.all 40960) (.among [(5120, 68718592)]) .boundary .timingSet -- 05 R176 PERIOD
  , o 0x4000 0x1 1536 0xF1 0xF1 1 .domain 25 .rw false (.all 0) (.fields [(3, 0, 0, 4)]) .boundary .timingSet -- 05 R176 DRIVE_FORMAT
  , o 0x4000 0x1 1536 0xF2 0xF2 1 .domain 25 .rw false (.all 0) (.fields [(3, 0, 0, 1)]) .boundary .timingSet -- 05 R176 STROBE_MODE
  , o 0x4000 0x1 1536 0xF3 0xF3 1 .bool 1 .ro false (.all 0) .any .imm .tsPending -- 05 R176 PENDING
  ]

/-- Objects whose first index lies in 0x5000 to 0x5FFF, part 1. -/
def odRows5a : List Obj :=
  [ o 0x5000 0x40 48 0x00 0x00 1 .enum8 1 .ro false (.all 0) .any .imm .none -- 08 R272 STATE
  , o 0x5001 0x40 48 0x00 0x00 1 .enum8 1 .ro false (.all 0) .any .imm .none -- 08 R272 STATE
  , o 0x5000 0x40 48 0x01 0x01 1 .u8 1 .cmd false (.all 0) (.among [(1, 1)]) .imm .adcArm -- 08 R272 ARM
  , o 0x5001 0x40 48 0x01 0x01 1 .u8 1 .cmd false (.all 0) (.among [(1, 1)]) .imm .adcArm -- 08 R272 ARM
  , o 0x5000 0x40 48 0x02 0x02 1 .u8 1 .cmd false (.all 0) (.among [(1, 2)]) .imm .adcStop -- 08 R272 STOP
  , o 0x5001 0x40 48 0x02 0x02 1 .u8 1 .cmd false (.all 0) (.among [(1, 2)]) .imm .adcStop -- 08 R272 STOP
  , o 0x5000 0x40 48 0x03 0x03 1 .domain 1536 .rw false (.all 0) .any .imm .adcSteps -- 08 R272 STEPS
  , o 0x5001 0x40 48 0x03 0x03 1 .domain 1536 .rw false (.all 0) .any .imm .adcSteps -- 08 R272 STEPS
  , o 0x5000 0x40 48 0x04 0x04 1 .u16 1 .rws false (.all 65535) (.among [(0, 511), (65535, 65535)]) .imm .none -- 08 R272 TRIG_LINE
  , o 0x5001 0x40 48 0x04 0x04 1 .u16 1 .rws false (.all 65535) (.among [(0, 511), (65535, 65535)]) .imm .none -- 08 R272 TRIG_LINE
  , o 0x5000 0x40 48 0x05 0x05 1 .u40 1 .rws false (.all 10000) (.among [(1, 10000000)]) .imm .none -- 08 R272 AUTO_TIMEOUT
  , o 0x5001 0x40 48 0x05 0x05 1 .u40 1 .rws false (.all 10000) (.among [(1, 10000000)]) .imm .none -- 08 R272 AUTO_TIMEOUT
  , o 0x5000 0x40 48 0x06 0x06 1 .u16 1 .rws false (.all 16) (.among [(0, 4096)]) .imm .none -- 08 R272 TRIG_HYST
  , o 0x5001 0x40 48 0x06 0x06 1 .u16 1 .rws false (.all 16) (.among [(0, 4096)]) .imm .none -- 08 R272 TRIG_HYST
  , o 0x5000 0x40 48 0x07 0x07 1 .bool 1 .rw false (.all 0) .any .imm .none -- 08 R272 REPEAT
  , o 0x5001 0x40 48 0x07 0x07 1 .bool 1 .rw false (.all 0) .any .imm .none -- 08 R272 REPEAT
  , o 0x5000 0x40 48 0x08 0x08 1 .u24 1 .rw false (.all 16777215) (.among [(0, 65535), (16777215, 16777215)]) .imm .none -- 08 R272 QUEUE
  , o 0x5001 0x40 48 0x08 0x08 1 .u24 1 .rw false (.all 16777215) (.among [(0, 65535), (16777215, 16777215)]) .imm .none -- 08 R272 QUEUE
  , o 0x5000 0x40 48 0x09 0x09 1 .u8 1 .ro false (.all 0) .any .imm .none -- 08 R272 STEP
  , o 0x5001 0x40 48 0x09 0x09 1 .u8 1 .ro false (.all 0) .any .imm .none -- 08 R272 STEP
  , o 0x5000 0x40 48 0x0A 0x0A 1 .enum8 1 .ro false (.all 0) .any .imm .none -- 08 R272 END_CAUSE
  , o 0x5001 0x40 48 0x0A 0x0A 1 .enum8 1 .ro false (.all 0) .any .imm .none -- 08 R272 END_CAUSE
  , o 0x5000 0x40 48 0x0B 0x0B 1 .u40 1 .ro false (.all 0) .any .imm .none -- 08 R272 RECORDS
  , o 0x5001 0x40 48 0x0B 0x0B 1 .u40 1 .ro false (.all 0) .any .imm .none -- 08 R272 RECORDS
  , o 0x5000 0x40 48 0x0C 0x0C 1 .u40 1 .ro false (.all 0) .any .imm .none -- 08 R272 TRIG_IGNORED
  , o 0x5001 0x40 48 0x0C 0x0C 1 .u40 1 .ro false (.all 0) .any .imm .none -- 08 R272 TRIG_IGNORED
  , o 0x5000 0x40 48 0x0D 0x0D 1 .u40 1 .ro false (.all 0) .any .imm .none -- 08 R272 AUTO_COUNT
  , o 0x5001 0x40 48 0x0D 0x0D 1 .u40 1 .ro false (.all 0) .any .imm .none -- 08 R272 AUTO_COUNT
  , o 0x5000 0x40 48 0x0E 0x0E 1 .u40 1 .ro false (.all 0) .any .imm .none -- 08 R272 MASK_STOPS
  , o 0x5001 0x40 48 0x0E 0x0E 1 .u40 1 .ro false (.all 0) .any .imm .none -- 08 R272 MASK_STOPS
  , o 0x5000 0x40 48 0x0F 0x0F 1 .s40 1 .ro false (.all 0) .any .imm .none -- 08 R272 LAST_VALUE
  , o 0x5001 0x40 48 0x0F 0x0F 1 .s40 1 .ro false (.all 0) .any .imm .none -- 08 R272 LAST_VALUE
  , o 0x5000 0x40 48 0x10 0x10 1 .u80 2 .ro false (.all 0) .any .imm .none -- 08 R272 LAST_TIME
  , o 0x5001 0x40 48 0x10 0x10 1 .u80 2 .ro false (.all 0) .any .imm .none -- 08 R272 LAST_TIME
  , o 0x5002 0x40 48 0x00 0x17 1 .enum8 1 .rws false (.all 0) (.among [(0, 5)]) .imm .stampEdge -- 08 R272 STAMP_EDGE
  , o 0x5003 0x40 48 0x00 0x00 1 .enum8 1 .ro false (.all 0) .any .imm .none -- 08 R272 STATE
  , o 0x5003 0x40 48 0x01 0x01 1 .u8 1 .cmd false (.all 0) (.among [(1, 1)]) .imm .stampArm -- 08 R272 ARM
  , o 0x5003 0x40 48 0x02 0x02 1 .u8 1 .cmd false (.all 0) (.among [(1, 2)]) .imm .stampStop -- 08 R272 STOP
  , o 0x5003 0x40 48 0x03 0x03 1 .bits40 1 .rw false (.all 0) (.mask 0xFFFFFF) .imm .stampBusy -- 08 R272 LANES
  , o 0x5003 0x40 48 0x04 0x04 1 .u16 1 .rws false (.all 65535) (.among [(0, 511), (65535, 65535)]) .imm .stampBusy -- 08 R272 TRIG_LINE
  ]

/-- Objects whose first index lies in 0x5000 to 0x5FFF, part 2. -/
def odRows5b : List Obj :=
  [ o 0x5003 0x40 48 0x05 0x05 1 .u40 1 .rw false (.all 100000) (.among [(1000, 4000000000)]) .imm .stampBusy -- 08 R272 GATE
  , o 0x5003 0x40 48 0x06 0x06 1 .u40 1 .rw false (.all 4096) (.among [(1, 1048575)]) .imm .stampBusy -- 08 R272 MAX_STAMPS
  , o 0x5003 0x40 48 0x07 0x07 1 .u16 1 .rw false (.all 0) .any .imm .stampBusy -- 08 R272 MEAS_NUM
  , o 0x5003 0x40 48 0x08 0x08 1 .u24 1 .rw false (.all 16777215) (.among [(0, 65535), (16777215, 16777215)]) .imm .stampBusy -- 08 R272 QUEUE
  , o 0x5003 0x40 48 0x09 0x09 1 .u40 1 .ro false (.all 0) .any .imm .none -- 08 R272 LOST
  , o 0x5003 0x40 48 0x0A 0x0A 1 .u40 1 .ro false (.all 0) .any .imm .none -- 08 R272 DEAD_MISSED
  , o 0x5004 0x40 48 0x00 0x00 1 .enum8 1 .ro false (.all 0) .any .imm .none -- 08 R272 STATE
  , o 0x5005 0x40 48 0x00 0x00 1 .enum8 1 .ro false (.all 0) .any .imm .none -- 08 R272 STATE
  , o 0x5006 0x40 48 0x00 0x00 1 .enum8 1 .ro false (.all 0) .any .imm .none -- 08 R272 STATE
  , o 0x5007 0x40 48 0x00 0x00 1 .enum8 1 .ro false (.all 0) .any .imm .none -- 08 R272 STATE
  , o 0x5004 0x40 48 0x01 0x01 1 .u8 1 .cmd false (.all 0) (.among [(1, 1)]) .imm .ruArm -- 08 R272 ARM
  , o 0x5005 0x40 48 0x01 0x01 1 .u8 1 .cmd false (.all 0) (.among [(1, 1)]) .imm .ruArm -- 08 R272 ARM
  , o 0x5006 0x40 48 0x01 0x01 1 .u8 1 .cmd false (.all 0) (.among [(1, 1)]) .imm .ruArm -- 08 R272 ARM
  , o 0x5007 0x40 48 0x01 0x01 1 .u8 1 .cmd false (.all 0) (.among [(1, 1)]) .imm .ruArm -- 08 R272 ARM
  , o 0x5004 0x40 48 0x02 0x02 1 .u8 1 .cmd false (.all 0) (.among [(1, 2)]) .imm .ruStop -- 08 R272 STOP
  , o 0x5005 0x40 48 0x02 0x02 1 .u8 1 .cmd false (.all 0) (.among [(1, 2)]) .imm .ruStop -- 08 R272 STOP
  , o 0x5006 0x40 48 0x02 0x02 1 .u8 1 .cmd false (.all 0) (.among [(1, 2)]) .imm .ruStop -- 08 R272 STOP
  , o 0x5007 0x40 48 0x02 0x02 1 .u8 1 .cmd false (.all 0) (.among [(1, 2)]) .imm .ruStop -- 08 R272 STOP
  , o 0x5004 0x40 48 0x03 0x03 1 .u8 1 .rw false (.all 0) (.among [(0, 23)]) .imm .ruBusy -- 08 R272 LANE
  , o 0x5005 0x40 48 0x03 0x03 1 .u8 1 .rw false (.all 0) (.among [(0, 23)]) .imm .ruBusy -- 08 R272 LANE
  , o 0x5006 0x40 48 0x03 0x03 1 .u8 1 .rw false (.all 0) (.among [(0, 23)]) .imm .ruBusy -- 08 R272 LANE
  , o 0x5007 0x40 48 0x03 0x03 1 .u8 1 .rw false (.all 0) (.among [(0, 23)]) .imm .ruBusy -- 08 R272 LANE
  , o 0x5004 0x40 48 0x04 0x04 1 .enum8 1 .rw false (.all 0) (.among [(0, 1)]) .imm .ruBusy -- 08 R272 EDGE
  , o 0x5005 0x40 48 0x04 0x04 1 .enum8 1 .rw false (.all 0) (.among [(0, 1)]) .imm .ruBusy -- 08 R272 EDGE
  , o 0x5006 0x40 48 0x04 0x04 1 .enum8 1 .rw false (.all 0) (.among [(0, 1)]) .imm .ruBusy -- 08 R272 EDGE
  , o 0x5007 0x40 48 0x04 0x04 1 .enum8 1 .rw false (.all 0) (.among [(0, 1)]) .imm .ruBusy -- 08 R272 EDGE
  , o 0x5004 0x40 48 0x05 0x05 1 .u40 1 .rw false (.all 100000) (.among [(1000, 4000000000)]) .imm .ruBusy -- 08 R272 GATE
  , o 0x5005 0x40 48 0x05 0x05 1 .u40 1 .rw false (.all 100000) (.among [(1000, 4000000000)]) .imm .ruBusy -- 08 R272 GATE
  , o 0x5006 0x40 48 0x05 0x05 1 .u40 1 .rw false (.all 100000) (.among [(1000, 4000000000)]) .imm .ruBusy -- 08 R272 GATE
  , o 0x5007 0x40 48 0x05 0x05 1 .u40 1 .rw false (.all 100000) (.among [(1000, 4000000000)]) .imm .ruBusy -- 08 R272 GATE
  , o 0x5004 0x40 48 0x06 0x06 1 .u16 1 .rws false (.all 65535) (.among [(0, 511), (65535, 65535)]) .imm .ruBusy -- 08 R272 TRIG_LINE
  , o 0x5005 0x40 48 0x06 0x06 1 .u16 1 .rws false (.all 65535) (.among [(0, 511), (65535, 65535)]) .imm .ruBusy -- 08 R272 TRIG_LINE
  , o 0x5006 0x40 48 0x06 0x06 1 .u16 1 .rws false (.all 65535) (.among [(0, 511), (65535, 65535)]) .imm .ruBusy -- 08 R272 TRIG_LINE
  , o 0x5007 0x40 48 0x06 0x06 1 .u16 1 .rws false (.all 65535) (.among [(0, 511), (65535, 65535)]) .imm .ruBusy -- 08 R272 TRIG_LINE
  , o 0x5004 0x40 48 0x07 0x07 1 .u40 1 .rw false (.all 1) .any .imm .ruBusy -- 08 R272 GATES
  , o 0x5005 0x40 48 0x07 0x07 1 .u40 1 .rw false (.all 1) .any .imm .ruBusy -- 08 R272 GATES
  , o 0x5006 0x40 48 0x07 0x07 1 .u40 1 .rw false (.all 1) .any .imm .ruBusy -- 08 R272 GATES
  , o 0x5007 0x40 48 0x07 0x07 1 .u40 1 .rw false (.all 1) .any .imm .ruBusy -- 08 R272 GATES
  , o 0x5004 0x40 48 0x08 0x08 1 .u16 1 .rw false (.all 0) .any .imm .ruBusy -- 08 R272 MEAS_NUM
  , o 0x5005 0x40 48 0x08 0x08 1 .u16 1 .rw false (.all 0) .any .imm .ruBusy -- 08 R272 MEAS_NUM
  ]

/-- Objects whose first index lies in 0x5000 to 0x5FFF, part 3. -/
def odRows5c : List Obj :=
  [ o 0x5006 0x40 48 0x08 0x08 1 .u16 1 .rw false (.all 0) .any .imm .ruBusy -- 08 R272 MEAS_NUM
  , o 0x5007 0x40 48 0x08 0x08 1 .u16 1 .rw false (.all 0) .any .imm .ruBusy -- 08 R272 MEAS_NUM
  , o 0x5004 0x40 48 0x09 0x09 1 .enum8 1 .rw false (.all 0) (.among [(0, 2)]) .imm .ruBusy -- 08 R272 DEST
  , o 0x5005 0x40 48 0x09 0x09 1 .enum8 1 .rw false (.all 0) (.among [(0, 2)]) .imm .ruBusy -- 08 R272 DEST
  , o 0x5006 0x40 48 0x09 0x09 1 .enum8 1 .rw false (.all 0) (.among [(0, 2)]) .imm .ruBusy -- 08 R272 DEST
  , o 0x5007 0x40 48 0x09 0x09 1 .enum8 1 .rw false (.all 0) (.among [(0, 2)]) .imm .ruBusy -- 08 R272 DEST
  , o 0x5004 0x40 48 0x0A 0x0A 1 .u24 1 .rw false (.all 16777215) (.among [(0, 65535), (16777215, 16777215)]) .imm .ruBusy -- 08 R272 QUEUE
  , o 0x5005 0x40 48 0x0A 0x0A 1 .u24 1 .rw false (.all 16777215) (.among [(0, 65535), (16777215, 16777215)]) .imm .ruBusy -- 08 R272 QUEUE
  , o 0x5006 0x40 48 0x0A 0x0A 1 .u24 1 .rw false (.all 16777215) (.among [(0, 65535), (16777215, 16777215)]) .imm .ruBusy -- 08 R272 QUEUE
  , o 0x5007 0x40 48 0x0A 0x0A 1 .u24 1 .rw false (.all 16777215) (.among [(0, 65535), (16777215, 16777215)]) .imm .ruBusy -- 08 R272 QUEUE
  , o 0x5004 0x40 48 0x0B 0x0B 1 .u40 1 .ro false (.all 0) .any .imm .none -- 08 R272 FREQ
  , o 0x5005 0x40 48 0x0B 0x0B 1 .u40 1 .ro false (.all 0) .any .imm .none -- 08 R272 FREQ
  , o 0x5006 0x40 48 0x0B 0x0B 1 .u40 1 .ro false (.all 0) .any .imm .none -- 08 R272 FREQ
  , o 0x5007 0x40 48 0x0B 0x0B 1 .u40 1 .ro false (.all 0) .any .imm .none -- 08 R272 FREQ
  , o 0x5004 0x40 48 0x0C 0x0C 1 .u40 1 .ro false (.all 0) .any .imm .none -- 08 R272 PERIOD
  , o 0x5005 0x40 48 0x0C 0x0C 1 .u40 1 .ro false (.all 0) .any .imm .none -- 08 R272 PERIOD
  , o 0x5006 0x40 48 0x0C 0x0C 1 .u40 1 .ro false (.all 0) .any .imm .none -- 08 R272 PERIOD
  , o 0x5007 0x40 48 0x0C 0x0C 1 .u40 1 .ro false (.all 0) .any .imm .none -- 08 R272 PERIOD
  , o 0x5004 0x40 48 0x0D 0x0D 1 .u40 1 .ro false (.all 0) .any .imm .none -- 08 R272 EDGES
  , o 0x5005 0x40 48 0x0D 0x0D 1 .u40 1 .ro false (.all 0) .any .imm .none -- 08 R272 EDGES
  , o 0x5006 0x40 48 0x0D 0x0D 1 .u40 1 .ro false (.all 0) .any .imm .none -- 08 R272 EDGES
  , o 0x5007 0x40 48 0x0D 0x0D 1 .u40 1 .ro false (.all 0) .any .imm .none -- 08 R272 EDGES
  , o 0x5004 0x40 48 0x0E 0x0E 1 .u80 2 .ro false (.all 0) .any .imm .none -- 08 R272 GATE_OPEN
  , o 0x5005 0x40 48 0x0E 0x0E 1 .u80 2 .ro false (.all 0) .any .imm .none -- 08 R272 GATE_OPEN
  , o 0x5006 0x40 48 0x0E 0x0E 1 .u80 2 .ro false (.all 0) .any .imm .none -- 08 R272 GATE_OPEN
  , o 0x5007 0x40 48 0x0E 0x0E 1 .u80 2 .ro false (.all 0) .any .imm .none -- 08 R272 GATE_OPEN
  , o 0x5004 0x40 48 0x0F 0x0F 1 .bits40 1 .ro false (.all 0) .any .imm .none -- 08 R272 MFLAGS
  , o 0x5005 0x40 48 0x0F 0x0F 1 .bits40 1 .ro false (.all 0) .any .imm .none -- 08 R272 MFLAGS
  , o 0x5006 0x40 48 0x0F 0x0F 1 .bits40 1 .ro false (.all 0) .any .imm .none -- 08 R272 MFLAGS
  , o 0x5007 0x40 48 0x0F 0x0F 1 .bits40 1 .ro false (.all 0) .any .imm .none -- 08 R272 MFLAGS
  ]

/-- Objects whose first index lies in 0x6000 to 0x6FFF, part 1. -/
def odRows6a : List Obj :=
  [ o 0x6000 0x1 1 0x00 0x00 1 .u40 1 .rws false (.all 1608515584) .any .reset .ctxBase -- 09 R305 CTX_BASE
  , o 0x6000 0x1 1 0x01 0x01 1 .u40 1 .cmd false (.all 0) .any .imm .redClose -- 09 R305 CLOSE
  , o 0x6000 0x1 1 0x02 0x02 1 .u40 1 .cmd false (.all 0) .any .imm .redReset -- 09 R305 RESET
  , o 0x6000 0x1 1 0x03 0x03 1 .u80 2 .ro false (.all 0) .any .imm .none -- 09 R305 UPDATES_APPLIED
  , o 0x6000 0x1 1 0x04 0x04 1 .u80 2 .ro false (.all 0) .any .imm .none -- 09 R305 CACHE_MISSES
  , o 0x6000 0x1 1 0x05 0x05 1 .u40 1 .ro false (.all 0) .any .imm .none -- 09 R305 UNBOUND
  , o 0x6000 0x1 1 0x06 0x06 1 .u40 1 .ro false (.all 0) .any .imm .none -- 09 R305 RECIPE_CLASH
  , o 0x6000 0x1 1 0x07 0x07 1 .u40 1 .ro false (.all 0) .any .imm .none -- 09 R305 RECIPE_MISMATCH
  , o 0x6000 0x1 1 0x08 0x08 1 .u40 1 .ro false (.all 0) .any .imm .none -- 09 R305 LATE_UPDATES
  , o 0x6000 0x1 1 0x09 0x09 1 .domain 16 .ro false .ownIndex .any .imm .none -- 09 R305 ROLE_MAP
  , o 0x6001 0x1 1 0x00 0x00 1 .domain 8388608 .ro false (.all 0) .any .imm .results -- 09 R305 RESULTS
  , o 0x6002 0x1 1 0x00 0x00 1 .domain 8388608 .ro false (.all 0) .any .imm .live -- 09 R305 LIVE
  , o 0x6003 0x1 1 0x00 0x00 1 .domain 131072 .rw false (.all 0) .any .imm .bindings -- 09 R305 BINDINGS
  , o 0x6004 0x1 1 0x00 0x00 1 .domain 32768 .rw false (.all 0) .any .imm .psets -- 09 R305 PSETS
  , o 0x6010 0x1 18 0x00 0x00 1 .enum8 1 .ro false (.perIndex [0, 0, 0, 0, 0, 0, 0, 0, 0, 0, 0, 0, 0, 0, 0, 0, 1, 1]) .any .imm .none -- 09 R305 STATE
  , o 0x6010 0x1 18 0x01 0x01 1 .bits40 1 .ro false (.perIndex [1, 2, 4, 8, 16, 32, 64, 128, 256, 512, 1024, 2048, 4096, 8192, 16384, 32768, 0, 0]) .any .imm .none -- 09 R305 ROLES
  , o 0x6010 0x1 18 0x02 0x02 1 .u8 1 .ro false (.all 0) .any .imm .none -- 09 R305 ROLE_EPOCH
  , o 0x6010 0x1 18 0x03 0x03 1 .u80 2 .ro false (.all 0) .any .imm .none -- 09 R305 UPDATES
  , o 0x6010 0x1 18 0x04 0x04 1 .u40 1 .ro false (.all 0) .any .imm .none -- 09 R305 TAKEOVER_TIME
  , o 0x6040 0x1 48 0x00 0x00 1 .u24 1 .rws false (.all 0) (.mask 0x1FFFF) .boundary .none -- 09 R305 FAIL_MEAS
  , o 0x6040 0x1 48 0x01 0x01 1 .u40 1 .ro false (.all 0) .any .imm .none -- 09 R305 ITEMS_DROPPED
  , o 0x6040 0x1 48 0x02 0x02 1 .bool 1 .ro false (.all 0) .any .imm .none -- 09 R305 DROP_LIST_FULL
  , o 0x6040 0x1 48 0x03 0x03 1 .u16 1 .ro false (.all 0) .any .imm .inputLevel -- 09 R305 INPUT_LEVEL
  ]

/-- Objects whose first index lies in 0x7000 to 0x7FFF, part 1. -/
def odRows7a : List Obj :=
  [ o 0x7000 0x1 1 0x00 0x00 1 .u40 1 .rws false (.all 1073741824) .any .reset .poolRegion -- 10 R329 POOL_BASE
  , o 0x7000 0x1 1 0x01 0x01 1 .u40 1 .rws false (.all 268435456) .any .reset .poolRegion -- 10 R329 POOL_LINES
  , o 0x7000 0x1 1 0x02 0x02 1 .u40 1 .ro false (.all 0) .any .imm .poolFree -- 10 R329 POOL_FREE
  , o 0x7000 0x1 1 0x03 0x03 1 .u40 1 .ro false (.all 0) .any .imm .none -- 10 R329 POOL_LEAKED
  , o 0x7000 0x1 1 0x04 0x04 1 .domain 1639 .ro false (.all 0) .any .imm .none -- 10 R329 HIT_SUMMARY
  , o 0x7000 0x1 1 0x05 0x05 1 .u40 1 .ro false (.all 0) .any .imm .none -- 10 R329 FLUSH_DISCARDED
  , o 0x7001 0x1 1 0x00 0x00 1 .domain 67108864 .ro false (.all 0) .any .imm .pop -- 10 R329 POP
  , o 0x7001 0x1 1 0x01 0x01 1 .domain 67108864 .wo false (.all 0) .any .imm .push -- 10 R329 PUSH
  , o 0x7010 0x1 1 0x00 0x00 1 .domain 65536 .rws false (.all 0) (.fields [(39, 39, 0, 1), (38, 38, 0, 1), (19, 0, 0, 1048575)]) .imm .queueConfig -- 10 R329 CONFIG
  , o 0x7011 0x1 1 0x00 0x00 1 .domain 65536 .rws false (.all 65536) (.among [(1, 268435456)]) .imm .queueLimit -- 10 R329 LIMIT
  , o 0x7012 0x1 1 0x00 0x00 1 .domain 65536 .rws false (.all 0) .any .imm .queueLevel -- 10 R329 LEVEL
  , o 0x7013 0x1 1 0x00 0x00 1 .domain 65536 .rws false (.all 255) (.among [(0, 63), (255, 255)]) .imm .none -- 10 R329 NOTIFY_VECTOR
  , o 0x7014 0x1 1 0x00 0x00 1 .domain 65536 .rw false (.all 0) .any .imm .queueRole -- 10 R329 ROLE
  , o 0x7015 0x1 1 0x00 0x00 1 .domain 65536 .ro false (.all 0) .any .imm .none -- 10 R329 EPOCH
  , o 0x7016 0x1 1 0x00 0x00 1 .domain 65536 .cmd false (.all 0) (.among [(0, 1)]) .imm .flush -- 10 R329 FLUSH
  , o 0x7017 0x1 1 0x00 0x00 1 .domain 65536 .ro false (.all 0) .any .imm .queueStatus -- 10 R329 STATUS
  , o 0x7018 0x1 1 0x00 0x00 1 .domain 65536 .ro false (.all 0) .any .imm .none -- 10 R329 APPENDED
  , o 0x7019 0x1 1 0x00 0x00 1 .domain 65536 .ro false (.all 0) .any .imm .none -- 10 R329 DROPPED_ITEMS
  , o 0x701A 0x1 1 0x00 0x00 1 .domain 65536 .ro false (.all 0) .any .imm .none -- 10 R329 FLUSH_COUNT
  , o 0x701B 0x1 1 0x00 0x00 1 .domain 65536 .cmd false (.all 0) (.among [(1, 1)]) .imm .clearHit -- 10 R329 CLEAR_HIT
  ]

/-- Objects whose first index lies in 0x8000 to 0x8FFF, part 1. -/
def odRows8a : List Obj :=
  [ o 0x8000 0x1 32 0x00 0x00 1 .enum8 1 .rw false (.all 0) (.among [(0, 3)]) .load .asMode -- 11 R347 MODE
  , o 0x8000 0x1 32 0x01 0x01 1 .enum8 1 .rws false (.all 0) (.among [(0, 1)]) .load .asMode -- 11 R347 RANGE
  , o 0x8000 0x1 32 0x02 0x02 1 .fx40 1 .rws false (.all 0) (.signed (-1500000) (4000000)) .load .none -- 11 R347 DC_V
  , o 0x8000 0x1 32 0x03 0x03 1 .fx40 1 .rws false (.all 0) .any .load .asClr -- 11 R347 CLR_V
  , o 0x8000 0x1 32 0x04 0x04 1 .fx40 1 .rws false (.all 0) (.signed (0) (5500000)) .load .none -- 11 R347 AMPL_V
  , o 0x8000 0x1 32 0x05 0x05 1 .fx40 1 .rws false (.all 0) (.signed (-1500000) (4000000)) .load .none -- 11 R347 OFFSET_V
  , o 0x8000 0x1 32 0x06 0x06 1 .u40 1 .rw false (.all 16) (.among [(16, 16777216)]) .imm .asBusy -- 11 R347 SAMPLE_DIV
  , o 0x8000 0x1 32 0x07 0x07 1 .domain 768 .rw false (.all 0) .any .imm .asSeq -- 11 R347 SEQUENCE
  , o 0x8000 0x1 32 0x08 0x08 1 .u8 1 .rw false (.all 0) .any .imm .none -- 11 R347 FIRST_ENTRY
  , o 0x8000 0x1 32 0x09 0x09 1 .u40 1 .rws false (.all 0) .any .load .none -- 11 R347 FREQ_WORD
  , o 0x8000 0x1 32 0x0A 0x0A 1 .u40 1 .rws false (.all 0) .any .load .none -- 11 R347 PHASE0
  , o 0x8000 0x1 32 0x0B 0x0B 1 .u40 1 .rw false (.all 0) (.among [(0, 2147483647)]) .imm .ncoTable -- 11 R347 NCO_TABLE
  , o 0x8000 0x1 32 0x0C 0x0C 1 .u16 1 .rws false (.all 65535) (.among [(0, 511), (65535, 65535)]) .imm .none -- 11 R347 LOAD_LINE
  , o 0x8000 0x1 32 0x0D 0x0D 1 .u16 1 .rws false (.all 65535) (.among [(0, 511), (65535, 65535)]) .imm .none -- 11 R347 START_LINE
  , o 0x8000 0x1 32 0x0E 0x0E 1 .u8 1 .cmd false (.all 0) (.among [(1, 1)]) .imm .asArm -- 11 R347 ARM
  , o 0x8000 0x1 32 0x0F 0x0F 1 .u8 1 .cmd false (.all 0) (.among [(1, 2)]) .imm .asStop -- 11 R347 STOP
  , o 0x8000 0x1 32 0x10 0x10 1 .bool 1 .rw false (.all 0) .any .imm .loopback -- 11 R347 LOOPBACK
  , o 0x8000 0x1 32 0x11 0x11 1 .enum8 1 .ro false (.all 0) .any .imm .none -- 11 R347 STATE
  , o 0x8000 0x1 32 0x12 0x12 1 .enum8 1 .ro false (.all 0) .any .imm .none -- 11 R347 END_CAUSE
  , o 0x8000 0x1 32 0x13 0x13 1 .bits40 1 .ro false (.all 0) .any .imm .asStatus -- 11 R347 STATUS
  , o 0x8000 0x1 32 0x14 0x14 1 .u40 1 .ro false (.all 0) .any .imm .none -- 11 R347 UNDERRUN_SAMPLES
  , o 0x8000 0x1 32 0x15 0x15 1 .u8 1 .ro false (.all 0) .any .imm .none -- 11 R347 ENTRY
  , o 0x8000 0x1 32 0x16 0x16 1 .u80 2 .ro false (.all 0) .any .imm .none -- 11 R347 START_TIME
  , o 0x8020 0x1 1 0x00 0x00 1 .u40 1 .cmd false (.all 0) (.among [(0, 4294967295)]) .imm .asLoadNow -- 11 R347 LOAD_NOW
  , o 0x8020 0x1 1 0x01 0x01 1 .u40 1 .ro false (.part 345) .any .imm .none -- 11 R347 GROUP_DELAY
  , o 0x8020 0x1 1 0x02 0x02 1 .u40 1 .ro false (.all 0) .any .imm .none -- 11 R347 UNDERRUNS
  ]

/-- Objects whose first index lies in 0xF000 to 0xFFFF, part 1. -/
def odRowsFa : List Obj :=
  [ o 0xF010 0x1 1 0x00 0x00 1 .bool 1 .rw true (.all 0) .any .imm .none -- 17 R503 INJECT_ENABLE
  , o 0xF010 0x1 1 0x01 0x01 1 .domain 2 .cmd true (.all 0) .any .imm .inject -- 17 R503 INJECT
  , o 0xF010 0x1 1 0x02 0x02 1 .u40 1 .ro true (.all 0) .any .imm .none -- 17 R503 INJECTED
  , o 0xF020 0x1 1 0x00 0x00 1 .domain 1677721 .rw true (.all 0) .any .imm .none -- 18 R527 FACTORY_IMAGE
  , o 0xF020 0x1 1 0x01 0x01 1 .u8 1 .cmd true (.all 0) (.among [(1, 1)]) .imm .factoryWrite -- 18 R527 FACTORY_WRITE
  , o 0xF000 0x1 1 0x00 0x00 1 .u8 1 .cmd false (.all 0) (.among [(250, 250)]) .imm .factoryEnter -- 19 R544 FACTORY_ENTER
  ]

/-- The table rows that can hold an object of index page `p` (`index / 0x1000`). -/
def odPage (p : Nat) : List Obj :=
  match p with
  | 0 => odRows0a ++ odRows0b ++ odRows0c ++ odRows0d ++ odRows0e ++ odRows0f
  | 1 => odRows1a ++ odRows1b
  | 2 => odRows2a ++ odRows2b
  | 3 => odRows3a ++ odRows3b ++ odRows3c
  | 4 => odRows4a
  | 5 => odRows5a ++ odRows5b ++ odRows5c
  | 6 => odRows6a
  | 7 => odRows7a
  | 8 => odRows8a
  | 15 => odRowsFa
  | _ => []

/-- Whether a row holds an index. -/
def Obj.hasIndex (r : Obj) (i : Nat) : Bool :=
  r.base ≤ i && (i - r.base) % r.stride == 0 && (i - r.base) / r.stride < r.count

/-- Whether a row that holds an index holds a sub-index too. -/
def Obj.hasSub (r : Obj) (sub : Nat) : Bool :=
  r.subLo ≤ sub && sub ≤ r.subHi && (sub - r.subLo) % r.subStep == 0

/-- The row of an object. -/
def odFind (i sub : Nat) : Option Obj :=
  (odPage (i / 0x1000)).find? (fun r => r.hasIndex i && r.hasSub sub)

/-- The store key of one word of an object. -/
def odKey (i sub w : Nat) : Nat := (i * 256 + sub) * 134217728 + w

/-- The ROM default of one word of a row's object (02, R46). -/
def Obj.romDefault (r : Obj) (i sub w : Nat) : Word :=
  match r.dflt with
  | .all v => if w < r.words then BitVec.ofNat 40 v else 0
  | .list vs => BitVec.ofNat 40 (vs.getD w 0)
  | .ownIndex => BitVec.ofNat 40 w
  | .perIndex vs => BitVec.ofNat 40 (vs.getD ((i - r.base) / r.stride) 0)
  | .perSub vs => BitVec.ofNat 40 (vs.getD sub 0)
  | .part n => if r.ty = .u16 then BitVec.ofNat 40 ((Config.partWord n w).toNat % 65536) else Config.partWord n w
  | .byOrder hb es => BitVec.ofNat 40 ((if Config.partHb then hb else es).getD w 0)

/-- What an unlisted word of the object store reads as: the object's ROM default. -/
def romDefault (k : Nat) : Word :=
  let i := k / 134217728 / 256
  let sub := k / 134217728 % 256
  match odFind i sub with
  | some r => r.romDefault i sub (k % 134217728)
  | none => 0

end Sys2Proof.Machine
end

