-- ==== Sys2Proof/Machine/Operands.lean ====
section
/-! DEFINITION. Machine/Operands.lean: the operand forms: fields of words, signed values, HBM lines and their tags, SOURCE values. -/

namespace Sys2Proof.Machine

/-- Bits `[lo + n - 1 : lo]` of a word, as a number. -/
def fld (w : Word) (lo n : Nat) : Nat := (w.toNat >>> lo) % 2 ^ n

/-- One bit of a word. -/
def bit (w : Word) (i : Nat) : Bool := w.getLsbD i

/-- A number placed at bit `lo` of a word. -/
def at_ (lo n : Nat) : Word := BitVec.ofNat 40 (n <<< lo)

/-- A word from a number. -/
def wd (n : Nat) : Word := BitVec.ofNat 40 n

/-- A word from an integer, two's complement (S40, FX40). -/
def wdI (n : Int) : Word := BitVec.ofInt 40 n

/-- A BOOL or a flag as a number. -/
def b2n (b : Bool) : Nat := if b then 1 else 0

/-- `v` with bit `i` set or cleared. -/
def setBit (v : Word) (i : Nat) (b : Bool) : Word :=
  if b then v ||| at_ i 1 else v &&& ~~~ (at_ i 1)

/-- `v` with the `n` bits from `lo` replaced by `x`. -/
def setFld (v : Word) (lo n x : Nat) : Word :=
  (v &&& ~~~ (at_ lo (2 ^ n - 1))) ||| at_ lo (x % 2 ^ n)

/-- The two words of a U80, low word first (02, table of OD data types). -/
def loWord (v : U80) : Word := v.setWidth 40
/-- The high word of a U80. -/
def hiWord (v : U80) : Word := (v >>> 40).setWidth 40
/-- A U80 from its two words. -/
def u80 (lo hi : Word) : U80 := hi ++ lo

/-- The SOURCE value of a path, ring and device (02, bit map of a SOURCE value). -/
def sourceOf (path ring dev : Nat) : Word := wd (path <<< 36 + ring <<< 30 + dev)
/-- PATH of a SOURCE. -/
def srcPath (s : Word) : Nat := fld s 36 4
/-- RING of a SOURCE. -/
def srcRing (s : Word) : Nat := fld s 30 6
/-- DEVICE of a SOURCE. -/
def srcDevice (s : Word) : Nat := fld s 0 24

/-- Word `k` (0 to 5) of a line (01, bit map of one HBM line). -/
def lineWord (l : LineData) (k : Nat) : Word := l.extractLsb' (40 * k) 40
/-- The 16 tag bits of a line. -/
def lineTag (l : LineData) : Nat := (l.extractLsb' 240 16).toNat
/-- PAR of a line. -/
def linePar (l : LineData) : BitVec 6 := l.extractLsb' 240 6
/-- POISON of a line. -/
def linePoison (l : LineData) : Bool := l.getLsbD 246
/-- FORMAT of a line. -/
def lineFormat (l : LineData) : Nat := (l.extractLsb' 247 4).toNat
/-- ROLE_EPOCH of a line. -/
def lineEpoch (l : LineData) : Nat := (l.extractLsb' 251 5).toNat

/-- Whether an odd number of a word's bits are ones. -/
def oddParity (w : Word) : Bool := (List.range 40).foldl (fun p i => p != w.getLsbD i) false

/-- PAR of six words: each makes its word and itself hold an even number of ones (01, R22). -/
def parOf (w0 w1 w2 w3 w4 w5 : Word) : BitVec 6 :=
  BitVec.ofNat 6 (b2n (oddParity w0) + 2 * b2n (oddParity w1) + 4 * b2n (oddParity w2) +
    8 * b2n (oddParity w3) + 16 * b2n (oddParity w4) + 32 * b2n (oddParity w5))

/-- A line from its fields, PAR computed (01, R22). -/
def mkLine (fmt epoch : Nat) (poison : Bool) (w0 w1 w2 w3 w4 w5 : Word) : LineData :=
  (BitVec.ofNat 5 epoch ++ BitVec.ofNat 4 fmt ++ BitVec.ofBool poison ++ parOf w0 w1 w2 w3 w4 w5 ++
    w5 ++ w4 ++ w3 ++ w2 ++ w1 ++ w0 : BitVec (5 + 4 + 1 + 6 + 40 + 40 + 40 + 40 + 40 + 40))

/-- The line with its tag fields replaced and its words kept. -/
def retag (l : LineData) (fmt epoch : Nat) (poison : Bool) : LineData :=
  mkLine fmt epoch poison (lineWord l 0) (lineWord l 1) (lineWord l 2) (lineWord l 3) (lineWord l 4) (lineWord l 5)

/-- The line with word `k` and its PAR bit replaced: the other words keep what is stored, a mismatch included (01, R22, R23). -/
def withWord (l : LineData) (k : Nat) (v : Word) : LineData :=
  l &&& ~~~ (BitVec.ofNat 256 (2 ^ 40 - 1) <<< (40 * k) ||| BitVec.ofNat 256 1 <<< (240 + k)) |||
    v.setWidth 256 <<< (40 * k) ||| BitVec.ofNat 256 (b2n (oddParity v)) <<< (240 + k)

/-- The line with PAR computed for every word, as a write of a whole line leaves it (01, R22). -/
def repar (l : LineData) : LineData := retag l (lineFormat l) (lineEpoch l) (linePoison l)

/-- A line with POISON set and nothing else changed (01, R23: the words and PAR keep what is stored). -/
def poisoned (l : LineData) : LineData := l ||| (BitVec.ofNat 256 1 <<< 246)

/-- Whether some word of the line disagrees with its parity bit (01, R22). -/
def parityBad (l : LineData) : Bool :=
  parOf (lineWord l 0) (lineWord l 1) (lineWord l 2) (lineWord l 3) (lineWord l 4) (lineWord l 5) ≠ linePar l

/-- The eight words in which a slot presents a line: W0 to W5, the tag, and a last word (10, R319; 18, R519). -/
def slotWords (l : LineData) (last : Word) : List Word :=
  [lineWord l 0, lineWord l 1, lineWord l 2, lineWord l 3, lineWord l 4, lineWord l 5, wd (lineTag l), last]

/-- Index of per-cluster object `obj` (02, R35). -/
def peIdx (obj c : Nat) : Nat := 0x2000 + 0x40 * c + obj
/-- Index of sequencer or stream object `obj` of cluster `c` (06, 07). -/
def seqIdx (obj c : Nat) : Nat := 0x3000 + 0x40 * c + obj
/-- Index of measurement object `obj` of cluster `c` (08). -/
def meaIdx (obj c : Nat) : Nat := 0x5000 + 0x40 * c + obj
/-- Index of timing set `n` of cluster `c` (02, R36). -/
def tsIdx (c n : Nat) : Nat := 0x4000 + 0x20 * c + n

end Sys2Proof.Machine
end

