-- ==== Sys2Proof/Machine/Flags.lean ====
section
/-! DEFINITION. Machine/Flags.lean: status and flag computations: CRC-32, the FFLAGS of a fail, CMD status words, fault status words. -/

namespace Sys2Proof.Machine

/-- One bit into the CRC-32 of R350, most significant bit first. -/
def crcBit (c : BitVec 32) (b : Bool) : BitVec 32 :=
  let x := (c <<< 1)
  if c.msb != b then x ^^^ 0x04C11DB7#32 else x

/-- The CRC-32 of R350 over a list of words, bit 39 of each first (18, R521). -/
def crcWords (ws : List Word) : BitVec 32 :=
  ~~~ (ws.foldl (fun c w => (List.range 40).foldl (fun c i => crcBit c (w.getLsbD (39 - i))) c) 0xFFFFFFFF#32)

/-- The 20 MFLAGS that items, records and context updates carry (08, bit map of MFLAGS). -/
abbrev MFlags := BitVec 20

/-- MFLAGS with one flag set or clear. -/
def mflag (i : Nat) (b : Bool) : MFlags := if b then BitVec.ofNat 20 (2 ^ i) else 0
/-- POISON of MFLAGS. -/
def mPoison : MFlags := 0x80000#20
/-- TIME_UNCERTAIN of MFLAGS. -/
def mTimeUncertain : MFlags := 0x40000#20
/-- TIME_STEP of MFLAGS. -/
def mTimeStep : MFlags := 0x20000#20
/-- CAL_STALE of MFLAGS. -/
def mCalStale : MFlags := 0x10000#20
/-- SPARE_SWAP of MFLAGS. -/
def mSpareSwap : MFlags := 0x08000#20
/-- TD_REHOME of MFLAGS. -/
def mTdRehome : MFlags := 0x04000#20
/-- STREAM_GAP of MFLAGS. -/
def mStreamGap : MFlags := 0x02000#20
/-- LANE_LOST of MFLAGS. -/
def mLaneLost : MFlags := 0x01000#20
/-- PMU_SETTLING of MFLAGS. -/
def mPmuSettling : MFlags := 0x00800#20
/-- AUTO_TRIGGERED of MFLAGS. -/
def mAutoTriggered : MFlags := 0x00400#20
/-- MASK_FAIL of MFLAGS. -/
def mMaskFail : MFlags := 0x00200#20
/-- OVER_RANGE of MFLAGS. -/
def mOverRange : MFlags := 0x00100#20
/-- COMPLIANCE of MFLAGS. -/
def mCompliance : MFlags := 0x00080#20
/-- PMU_OFF of MFLAGS. -/
def mPmuOff : MFlags := 0x00040#20
/-- PRE_SHORT of MFLAGS. -/
def mPreShort : MFlags := 0x00020#20
/-- TRUNCATED of MFLAGS. -/
def mTruncated : MFlags := 0x00010#20
/-- NO_SIGNAL of MFLAGS. -/
def mNoSignal : MFlags := 0x00008#20
/-- DEAD_TIME of MFLAGS. -/
def mDeadTime : MFlags := 0x00004#20
/-- STAMP_LOST of MFLAGS. -/
def mStampLost : MFlags := 0x00002#20
/-- RANGE_CHANGED of MFLAGS. -/
def mRangeChanged : MFlags := 0x00001#20

/-- FFLAGS of a FAIL cell: MFLAGS [19:12] in [11:4], EDGE_CROWD in [3] (10, R312). -/
def fflags (f : MFlags) (crowd : Bool) : Nat := (f.toNat >>> 12) * 16 + 8 * b2n crowd

/-- A CMD status word: RUNNING in [39], RESULT in [38:16], CODE in [15:0] (02, R42). -/
def cmdStatusWord (running : Bool) (result code : Nat) : Word :=
  wd (b2n running * 2 ^ 39 + (result % 2 ^ 23) * 65536 + code)

/-- The running status: RUNNING 1, RESULT 0, CODE 0x0007 (02, R42). -/
def cmdRunning : Word := cmdStatusWord true 0 7

/-- The fault code of a cause and a source (17, R482). -/
def faultCode (cause source : Nat) : Nat := cause * 512 + source

end Sys2Proof.Machine
end

