-- ==== Sys2Proof/Machine/State.lean ====
section
/-! DEFINITION. Machine/State.lean: the whole state of the block as plain data, its faults and refusals, and the state right after reset. -/

namespace Sys2Proof.Machine

/-- Memory: the bytes of HBM, 32 to a line, byte `j` of line `L` at `32 * L + j`, least significant first, in canonical form. -/
abbrev Memory := List Host.Cell

/-- What an unlisted byte of HBM reads as: BRINGUP writes every line zero (19, R536). DESIGN CHOICE before that, log entry 5. -/
abbrev Memory.dflt : Nat → Byte := fun _ => 0

/-- The canonical form of memory: addresses strictly rising, no listed byte equal to what an unlisted one reads as. -/
abbrev Memory.wf (m : Memory) : Prop := m.Pairwise (fun a b => a.1 < b.1) ∧ ∀ e ∈ m, e.2 ≠ Memory.dflt e.1

/-- The block raises no stop of its own: every condition the spec names has an effect. -/
inductive Fault where
  deriving DecidableEq, Repr

/-- Why a command has no meaning in this model. -/
inductive Refusal where
  /-- A command whose meaning is not written yet: raised by its arm of `exec`; safe (the model stops). -/
  | notModelled (mnemonic : String)
  deriving DecidableEq, Repr

/-- The operations a path offers (02, "Transactions"); a COMMAND is a WRITE of a CMD object. -/
inductive OdOp where
  | read | write | describe
  deriving DecidableEq, Repr

/-- Where the answer to a transaction goes. -/
inductive ReplyTo where
  /-- The answer stays in `reply`: a transaction that comes from no modelled path register. -/
  | here 
  /-- An OD_REPLY to the Halo requester `dev` by the port its request came on. -/
  | halo (port dev : Nat) (seq : BitVec 16) (relayed : Bool)
  /-- A G1 access: 0 a read of register `reg` of an object, 1 a write, 2 DOM_DATA_LO read, 3 RES_DATA, 4 POP_DATA; `addr` its G1 address. -/
  | g1 (act : Nat) (addr reg : Nat)
  /-- Mailbox `m`, unless the host interface was reset since. -/
  | mbox (m gen : Nat)
  /-- The descriptor in progress of ring `r`, unless the host interface was reset since. -/
  | ring (r gen : Nat)
  /-- The service port. -/
  | service 
  deriving DecidableEq, Repr

/-- One OD transaction on its way through the service (02; 18, R518). -/
structure Tx where
  req : Req
  op : OdOp
  idx : Nat
  sub : Nat
  off : Nat
  cnt : Nat
  data : List Word
  dst : ReplyTo
  deriving DecidableEq, Repr

/-- The answer to a transaction: an abort code, 0 for none, the current role epoch when the code is 0x0008, the words read (02). -/
structure OdReply where
  code : Nat
  epoch : Nat
  data : List Word
  deriving DecidableEq, Repr

/-- What is staged of an object under a lock: the words by number, and the epochs that the transactions which staged them carried,
by word number (02, R57, R60, R74). -/
structure Staged where
  idx : Nat
  sub : Nat
  words : List (Nat × Word)
  epochs : List (Nat × BitVec 8)
  deriving DecidableEq, Repr

/-- A waiting ACQUIRE (02, R69). -/
structure Waiter where
  src : Word
  first : Nat
  last : Nat
  lease : Nat
  label : Nat
  deadline : Nat
  deriving DecidableEq, Repr

/-- What the sequence locks hold beside their objects: staged writes and lease starts by slot, the waiters in order of
arrival, and the breaks not yet reported to a former owner (02, R56 to R69). -/
structure LockSt where
  staged : SMap (List Staged)
  leaseFrom : SMap Nat
  waiters : List Waiter
  reports : List (Nat × Word)
  deriving DecidableEq, Repr

/-- A log record on its way or in the log SRAM (18, R521). -/
structure LogRec where
  code : Nat
  inj : Bool
  afterLoss : Bool
  rep : Nat
  num : Nat
  time : U80
  arg0 : Word
  arg1 : Word
  crc : BitVec 32
  deriving DecidableEq, Repr

/-- An open rate window of a log code: when it opened, what it stored and what it suppressed (18, R523). -/
structure RateWin where
  opened : Nat
  stored : Nat
  held : Nat
  deriving DecidableEq, Repr

/-- The event log: the input of 256 records, the SRAM by slot, whether records were lost since the last one entered,
the open rate windows by code (18, R521 to R524). -/
structure LogSt where
  input : List LogRec
  slots : SMap (Option LogRec)
  lossPending : Bool
  windows : SMap (Option RateWin)
  deriving DecidableEq, Repr

/-- A user bank in flash: its state and header generation, its entries by object word, and its size (18, R504 to R507). -/
structure Bank where
  st : Nat
  gen : Nat
  entries : SMap (Option Word)
  bytes : Nat
  deriving DecidableEq, Repr

/-- A running Almanac commit: who asked, the bank number being written, what it captured (18, R507). -/
structure CommitRun where
  src : Word
  bank : Nat
  gen : Nat
  entries : SMap (Option Word)
  bytes : Nat
  deriving DecidableEq, Repr

/-- The records beside the objects (18): the flash, the journal's on-chip head and the transactions held for room in it. -/
structure AlmanacSt where
  bankA : Bank
  bankB : Bank
  factory : SMap (Option Word)
  run : Option CommitRun
  head : List LineData
  held : List Tx
  deriving DecidableEq, Repr

/-- One cell of a queue, in queue order (10): its number in append order, its place in its item, the packet it belongs
to (by the number of the packet's head), and whether it is still on chip (then `line`) or in the pool (then at `loc`). -/
structure QCell where
  num : Nat
  first : Bool
  last : Bool
  pkt : Option Nat
  burst : Nat
  onChip : Bool
  line : LineData
  loc : Nat
  deriving DecidableEq, Repr

/-- What became of an open packet: it goes on, its cells were dropped for a gap cell, or it was flushed or discarded. -/
inductive PktSt where
  | live | gap (num : Nat) | flushed | discarded
  deriving DecidableEq, Repr

/-- A packet its producer has not ended (10, R314): the number of its head cell, the lines appended and the cells popped. -/
structure OpenPkt where
  prod : Producer
  id : Nat
  lines : Nat
  popped : Nat
  st : PktSt
  deriving DecidableEq, Repr

/-- A result queue (10): its cells in queue order, the reserve cell, a broken link, the open packets. -/
structure QState where
  cells : List QCell
  reserve : Bool
  broken : Bool
  opens : List OpenPkt
  deriving DecidableEq, Repr

/-- An empty queue. -/
def QState.empty : QState := { cells := [], reserve := false, broken := false, opens := [] }

/-- The fault collector beside its objects (17): the kind of the reaction last started per source (0 none, 1 real, 2 injected),
the real causes that persist, whether its own registers were found bad, the device state before Eclipse, the withdrawn ADCs
(cluster * 2 + n). -/
structure FaultSt where
  reaction : SMap Nat
  persisting : List (Nat × Nat)
  selfBad : Bool
  before : Nat
  adcGone : List Nat
  deriving DecidableEq, Repr

/-- A value that OFFSET had: until when (LOCAL in mt), the value, and whether a step ended it, not a slew (03, R79, R91). -/
structure PastOffset where
  till : Nat
  offset : U80
  step : Bool
  deriving DecidableEq, Repr

/-- Meridian time and the event router beside their objects (03): armed loads (source, instant of the write), the last offset
estimates of ACQUIRING, its frame count, the offset estimate, the last sync frame's instant, the upstream port, by port for how many
frames in a row it has been better, the masters heard by port (port, master, instant), whether a deferred step was logged, SYNC and
DELAY sequence numbers, the delay requests sent by port (number, t1 as LOCAL in mt), the end of the SYNC_OUT pulse and of the EVT
pulses in et, the age of the timed-event slots, and the values that OFFSET had since LOCAL started, oldest first. -/
structure SyncSt where
  loads : List (Word × Nat)
  ests : List U80
  frames : Nat
  est : U80
  lastSync : Nat
  upstream : Option Nat
  better : SMap Nat
  heard : List (Nat × Nat × Nat)
  deferred : Bool
  seq : BitVec 16
  asked : SMap (Option (Nat × Nat))
  syncOut : Option Nat
  evtOut : SMap (Option Nat)
  teAge : SMap Nat
  teNext : Nat
  past : List PastOffset
  deriving DecidableEq, Repr

/-- A slice beside its objects (04, 05): what the vectors make its driver do (0 off, 1 VIL, 2 VIH), its present data state,
and a PMU range change under way: the old range, when it is complete, and whether it leaves a gap (04, R136). -/
structure SliceSt where
  drive : Nat
  data : Bool
  oldRange : Nat
  settle : Option Nat
  gap : Bool
  deriving DecidableEq, Repr

/-- A slice at the start of a run: off, present data state 0 (05, R159). -/
def SliceSt.idle : SliceSt := ⟨0, false, 0, none, false⟩

/-- A recovery of a slice or timing domain under way (04, R144; 05, R171): lane, slice or domain, fault code, t0 as Meridian
time and on LOCAL in et, and when the segment containing t0 began. -/
structure Recovery where
  lane : Nat
  unit : Nat
  code : Nat
  t0 : U80
  at0 : Nat
  segBegan : U80
  deriving DecidableEq, Repr

/-- The pin electronics of a cluster beside its objects (04, 05): its role epoch, the level transitions that settle (instant, slices),
a written lane move under way (lanes parked, value of SPARE_LANE), the swap and the rehome under way, whether results carry
SPARE_SWAP and TD_REHOME, and faults that wait for the recovery before them (cause, detail, code, t0, at0, start of t0's segment). -/
structure PeSt where
  epoch : Nat
  settling : List (Nat × List Nat)
  moving : Option (List Nat × Nat)
  swap : Option Recovery
  rehome : Option Recovery
  swapFlag : Bool
  rehomeFlag : Bool
  waiting : List (Nat × Nat × Nat × U80 × Nat × U80)
  deriving DecidableEq, Repr

/-- The pin electronics of a cluster after reset. -/
def PeSt.idle : PeSt := ⟨0, [], none, none, none, false, false, []⟩

/-- The pin electronics beside the objects (04): clusters, slices (cluster * 25 + slice), the LVLCLR_N ball. -/
structure PinSt where
  clusters : SMap PeSt
  slices : SMap SliceSt
  lvlclrLow : Bool
  deriving DecidableEq, Repr

/-- A vector as the stream delivers it: its three words and whether its line was poisoned (06, R178, R180). -/
structure Vec where
  w0 : Word
  w1 : Word
  w2 : Word
  poison : Bool
  deriving DecidableEq, Repr

/-- An open loop: its counter, its start, whether its first iteration is playing, the addresses played in it (06, R186; 07, R221). -/
structure LoopSt where
  count : Nat
  start : Nat
  first : Bool
  lo : Nat
  hi : Nat
  resident : Bool
  deriving DecidableEq, Repr

/-- Control flow: the next vector address, the four loops, the return stack (06, R186, R187). -/
structure Ctl where
  pc : Nat
  loops : List (Option LoopSt)
  stack : List Nat
  deriving DecidableEq, Repr

/-- Control flow at an address, with no loop open and an empty stack. -/
def Ctl.at (a : Nat) : Ctl := ⟨a, [none, none, none, none], []⟩

/-- A prefetcher: where fetch order has come to, whether it stopped, the vectors it fetched, oldest first (07, R220, R225). -/
structure Fetch where
  ctl : Ctl
  stopped : Bool
  ahead : List (Nat × Vec)
  deriving DecidableEq, Repr

/-- A prefetcher with nothing to fetch. -/
def Fetch.idle : Fetch := ⟨Ctl.at 0, true, []⟩

/-- A site of an open match block: its lanes, and the iteration in which it matched with that iteration's end (06, R193). -/
structure SiteSt where
  site : Nat
  lanes : Nat
  matched : Option (Nat × Nat)
  deriving DecidableEq, Repr

/-- An open match block: its MATCH address, limit and iteration, the start of this iteration, its sites, lanes that failed in
this iteration, lanes held, the results of the iterations played (number, end, lanes failed), when the group's last site
matched, the block's first play, and whether MATCH is reached again from ENDM (06, R192 to R194). -/
structure BlockSt where
  start : Nat
  limit : Nat
  iter : Nat
  began : Nat
  sites : List SiteSt
  failed : Nat
  held : Nat
  results : List (Nat × Nat × Nat)
  groupDone : Option Nat
  firstPlay : Nat
  back : Bool
  deriving DecidableEq, Repr

/-- A WAIT that is playing: its first cycle's start, its line, its LATCHED flag, and its release instant in et (06, R188). -/
structure WaitSt where
  first : Nat
  line : Nat
  latched : Bool
  release : Option Nat
  deriving DecidableEq, Repr

/-- A held jump request: its table index, arrival instant and the instant it reached the sequencer, in et, and whether it was
found deferred (06, R206 to R209). -/
structure JumpReq where
  target : Nat
  arrival : Nat
  reached : Nat
  deferred : Bool
  deriving DecidableEq, Repr

/-- The fail items of a vector that wait for the next play's crowding check (05, R166): the lane mask and flags of each, the
address, the play count, the cycle start, the lanes already crowded, X and Y, their queue; and the later items of the
sequencer, each with its queue, that follow them. -/
structure FailRec where
  items : List (Nat × BitVec 20)
  addr : Nat
  count : Nat
  time : U80
  crowd : Nat
  xy : Option (Nat × Nat)
  queue : Nat
  after : List (Nat × List LineData)
  deriving DecidableEq, Repr

/-- What a play leaves for the next one (05, R158, R166): its set, the cycle start, and per slice the last data transition and
the last strobe, in et. -/
structure PlayRec where
  set : Nat
  at_ : Nat
  data : List (Option Nat)
  strobe : List (Option Nat)
  deriving DecidableEq, Repr

/-- A stream gap under way (07): c, the keep-alive cycles played, its cause. -/
structure GapSt where
  from_ : Nat
  cycles : Nat
  cause : Nat
  deriving DecidableEq, Repr

/-- Where a run stands between vectors. -/
inductive Phase where
  | play | boundary (calSafe : Bool) | gap (till : Nat)
  deriving DecidableEq, Repr

/-- A sequencer and its stream beside their objects (06, 07). All instants are in et of LOCAL: the next cycle start, the
start of the segment, the boundary instant, the start of its first vector, a fixed start instant (and whether START gave it). `rpt` is
the repeats left of an RPT with its first cycle start, `rptFails` and `rptCrowd` the lanes failed and crowded in the cycles so far of an
RPT or WAIT, `history` the cycle starts of the last 32 plays of the
segment with the first play of their block or WAIT, `writes` the boundary writes made in RUN, `seen` by line the release
instant its first occurrence in this segment gives, and by 512 + line twice the last one's stamp plus 1 for a timed event, `coming` the
target of a pending jump with its vectors, fetched since the window closed, `lineTargets` the values that JUMP_LINE_TARGET had, with their
end, `wave` and `strobes` the driver transitions (slice, instant, level) and the strobes (slice, instant) of the last play. -/
structure SeqSt where
  ctl : Ctl
  due : Nat
  phase : Phase
  opening : Bool
  segFrom : Nat
  tb : Nat
  ts : Nat
  start : Option (Nat × Bool)
  rpt : Option (Nat × Nat)
  rptFails : Nat
  rptCrowd : Nat
  block : Option BlockSt
  wait : Option WaitSt
  stopReq : Option Nat
  jump : Option JumpReq
  closed : Option Nat
  plays : Nat
  history : List (Nat × Option Nat)
  writes : List (Nat × Word × Nat)
  seen : SMap Nat
  prev : Option PlayRec
  failRec : Option FailRec
  segFails : Nat
  segLanes : Nat
  overflow : Nat
  lastPlayed : Nat
  fetch : Fetch
  kept : SMap (Option Vec)
  store : List Fetch
  targets : List Nat
  gap : Option GapSt
  external : Bool
  coming : Option (Nat × Fetch)
  lineTargets : List (Nat × Nat)
  taken : Nat
  wave : List (Nat × Int × Nat)
  strobes : List (Nat × Int)
  deriving DecidableEq, Repr

/-- A sequencer after reset. -/
def SeqSt.idle : SeqSt :=
  ⟨Ctl.at 0, 0, .play, false, 0, 0, 0, none, none, 0, 0, none, none, none, none, none, 0, [], [], [], none, none, 0, 0, 0, 0,
    Fetch.idle, [], [], [], none, false, none, [], 0, [], []⟩

/-- A broadcast group beside its objects (07): the next address of its stream, and since when a leader has held. -/
structure GroupSt where
  next : Nat
  holding : Option Nat
  deriving DecidableEq, Repr

/-- A sample before s0: its value times 65,536, its flags, the range it was taken with (08). -/
structure PreSample where
  value : Int
  flags : BitVec 20
  range : Nat
  deriving DecidableEq, Repr

/-- An ADC sequence beside its objects (08). Instants are in et of LOCAL: the mux instant's bound on the first sample, the entry
to WAIT_TRIG, the grid w of its samples when it samples there, the release r with its kind (0 CHAIN, 1 LINE, 2 LEVEL, 3 AUTO),
the acceptance of an ARM whose CHAIN release is not yet taken, s0, the next sample. `mux` is the lane and quantity selected,
`low` whether a level trigger is armed, `hist` the samples before s0, latest first; `sum`, `count` and
`accFrom` the interval under way with its flags and site word; then the record: its queue, its first sample, results and fields. -/
structure AdcSt where
  mux : Option (Nat × Nat)
  muxOk : Nat
  entry : Nat
  grid : Option Nat
  release : Option Nat
  kind : Nat
  armed : Option Nat
  s0 : Option Nat
  next : Nat
  low : Bool
  hist : List PreSample
  sum : Int
  count : Nat
  accFrom : Nat
  itemFlags : BitVec 20
  itemSite : Word
  post : Nat
  results : List Word
  preCount : Nat
  flags : BitVec 20
  violation : Nat
  stopping : Bool
  started : Bool
  range : Nat
  lastRange : Nat
  slice : Nat
  site : Word
  queue : Nat
  first : Nat
  deriving DecidableEq, Repr

/-- An ADC with no sequence. -/
def AdcSt.idle : AdcSt :=
  ⟨none, 0, 0, none, none, 0, none, none, 0, false, [], 0, 0, 0, 0, 0, 0, [], 0, 0, 0xFFFFF, false, false, 0, 0, 0, 0, 0, 0⟩

/-- One lane of a stamp capture: the burst buffer, the stamps drained toward the queue, the lost count, flags, the site
word and the slice at the gate opening. -/
structure StampLane where
  buffer : List Word
  stamps : List Word
  lost : Nat
  flags : BitVec 20
  site : Word
  slice : Nat
  deriving DecidableEq, Repr

/-- A lane with no stamps. -/
def StampLane.empty : StampLane := ⟨[], [], 0, 0, 0, 0⟩

/-- A stamp taken before the gate that may hold it opened: its lane, its instant in mt, whether it falls, its flags (08, R263: DSK_CMP
puts a stamp before or after the instant at the ball). -/
structure EarlyStamp where
  lane : Nat
  mt : Nat
  falling : Bool
  flags : BitVec 20
  deriving DecidableEq, Repr

/-- The stamp capture of a cluster beside its objects (08): acceptance of the ARM, release r, its lanes, DEAD_MISSED by lane since ARM,
the slice whose buffer was drained last, stamps that came before the gate opened. -/
structure StampSt where
  armed : Nat
  release : Option Nat
  lanes : SMap StampLane
  missed : SMap Nat
  turn : Nat
  early : List EarlyStamp
  deriving DecidableEq, Repr

/-- A stamp capture at rest. -/
def StampSt.idle : StampSt := ⟨0, none, [], [], 24, []⟩

/-- A regression unit beside its objects (08): acceptance of the ARM, release r, the present gate's opening and number, its
stamps with the sums of their offsets (mt) and of number times offset, flags, whether it stops after this gate, the site word at the
opening, stamps that came before the gate that holds them opened. -/
structure RuSt where
  armed : Nat
  release : Option Nat
  opened : Nat
  gate : Nat
  m : Nat
  st : Int
  snt : Int
  flags : BitVec 20
  stopping : Bool
  site : Word
  early : List EarlyStamp
  deriving DecidableEq, Repr

/-- A regression unit at rest. -/
def RuSt.idle : RuSt := ⟨0, none, 0, 0, 0, 0, 0, 0, false, 0, []⟩

/-- The measurement units beside the objects (08): ADCs (cluster * 2 + n), stamp captures, regression units (cluster * 4 + n), the
instant of the last stamp of each lane (cluster * 24 + lane), in mt, for the dead time. -/
structure MeaSt where
  adcs : SMap AdcSt
  stamps : SMap StampSt
  rus : SMap RuSt
  lastStamp : SMap (Option Nat)
  deriving DecidableEq, Repr

/-- An update on its way to a context (09): its measurement number, producer, site and time, its flags, the KIND (0 voltage, 1 current,
2 frequency) and value of a measurement item or (none) the plays and partial map of a fail update, and whether it sets DROPPED. -/
structure Upd where
  meas : Nat
  cluster : Nat
  lane : Nat
  site : Nat
  time : U80
  flags : BitVec 20
  kind : Nat
  value : Option Word
  plays : Nat
  map : BitVec 160
  drop : Bool
  deriving DecidableEq, Repr

/-- The fails of a site that a cluster's coalescer has merged, the play count at the first of them, and whether they wait only for room in
the input (09, R288). -/
structure Coal where
  upd : Upd
  since : Nat
  due : Bool
  deriving DecidableEq, Repr

/-- A line close: its parameter set, Tc, the Meridian time at which the engines begin, and, once begun, the contexts left (09, R294). -/
structure LineClose where
  pset : Nat
  tc : U80
  begins : U80
  left : Option (List Nat)
  deriving DecidableEq, Repr

/-- A CLOSE or RESET of a range on its way: the next context, how many are left, who asked (09, R295). -/
structure Sweep where
  reset : Bool
  next : Nat
  left : Nat
  src : Word
  deriving DecidableEq, Repr

/-- A takeover into an engine: the roles, the failed engine and its instant t0 (09, R301). -/
structure Takeover where
  roles : List Nat
  failed : Nat
  at0 : Nat
  deriving DecidableEq, Repr

/-- The reduction beside its objects (09): cluster inputs, coalescers and drop lists, line closes and the last Tc that closed a
context, updates held behind a line close, sweeps, the context cache (line, dirty), takeovers by engine. -/
structure RedSt where
  inputs : SMap (List Upd)
  coal : SMap (List Coal)
  drops : SMap (List Nat)
  closes : List LineClose
  closedTc : SMap U80
  held : List Upd
  sweeps : List Sweep
  cache : SMap (Option (LineData × Bool))
  takeovers : SMap (Option Takeover)
  deriving DecidableEq, Repr

/-- A stimulus output beside its objects (11). Instants in et of LOCAL: a range change's strobe; the next sample instant, the end of
the entry before a WAIT. `range` is the range switched in, `mode` and `clr` the MODE and CLR_V that the output stage has taken from the active set;
`cleared` holds CLR_V until a strobe, `clrPlay` until a start; `sample`
the last sample played, times 65,536. Then the repeat and position played, where prefetch stands (entry, repeat, position) and
whether it has ended, the samples on hand with the line of a poisoned one, skipped ones still to be fetched, the NCO table and phase,
whether the phase restarts, the STOP asked for (0 none), whether an underrun goes on. -/
structure AsSt where
  change : Option Nat
  range : Nat
  mode : Nat
  clr : Int
  cleared : Bool
  clrPlay : Bool
  sample : Option Int
  next : Nat
  lastEnd : Nat
  rep : Nat
  pos : Nat
  fetch : Nat × Nat × Nat
  ended : Bool
  ahead : List (Int × Option Nat)
  skip : Nat
  table : List Int
  phase : Nat
  rephase : Bool
  stop : Nat
  under : Bool
  deriving DecidableEq, Repr

/-- A stimulus output after reset. -/
def AsSt.idle : AsSt := ⟨none, 0, 0, 0, false, false, none, 0, 0, 0, 0, (0, 0, 0), false, [], 0, [], 0, false, 0, false⟩

/-- A frame held for replay, with its LSEQ (12, R352). -/
structure Held where
  lseq : BitVec 8
  frame : Frame
  deriving DecidableEq, Repr

/-- A frame that waits for an egress (12): its class of R353, the port it came in on (none: it is local), and the VC of the buffer there
that it still fills (R351; none: it fills none). -/
structure TxFrame where
  cls : Nat
  frame : Frame
  inp : Option Nat
  owes : Option Bool
  deriving DecidableEq, Repr

/-- A Halo port beside its objects (12): control words and frames waiting for the egress,
frames held for replay, LSEQ counters, credits per VC and the instants since when there are none (reported: none), whether the partner has
granted credits since the link came, the receiver's NAK state, the codeword window, the word stream's
unfinished frame, uncorrectable codewords by lane and instant, the partner's LINK_INFO since the port entered TRAINING, whether it has trained,
the instant of the last change of state, whether RING_STATE RESTORED is due (R376), and the last words sent. -/
structure PortSt where
  ctl : List Word
  txq : List TxFrame
  replay : List Held
  txSeq : BitVec 8
  rxSeq : BitVec 8
  credit0 : Nat
  credit1 : Nat
  dry0 : Option Nat
  dry1 : Option Nat
  granted : Bool
  naks : Nat
  nakSeq : BitVec 8
  nakWait : Bool
  unacked : Nat
  cwNext : BitVec 12
  cwHeld : List (BitVec 12 × List Word)
  stream : List Word
  badCw : List (Nat × Nat)
  peer : List Word
  trained : Bool
  since : Nat
  restoring : Bool
  lastTx : List Word
  deriving DecidableEq, Repr

/-- A port with no link. -/
def PortSt.idle : PortSt :=
  ⟨[], [], [], 0, 0, 0, 0, some 0, some 0, false, 0, 0, false, 0, 0, [], [], [], [], false, 0, false, []⟩

/-- A request sent to another device and not answered (12, R366, R367). -/
structure RemReq where
  seq : BitVec 16
  tx : Tx
  relay : Option Nat
  sentAt : Nat
  retries : Nat
  deriving DecidableEq, Repr

/-- What a requester keeps of one target: the next SEQ, whether the next request restarts the sequence, the unanswered
requests in order of issue, and those that wait because 16 are unanswered (12, R366). -/
structure Target where
  next : BitVec 16
  reset : Bool
  out : List RemReq
  waiting : List RemReq
  deriving DecidableEq, Repr

/-- A target never asked: the first request carries SEQ_RESET. DESIGN CHOICE, log entry 14. -/
def Target.fresh : Target := ⟨0, true, [], []⟩

/-- What a target keeps of one requester: its number, the next expected SEQ and the last 16 stored replies with the
frames they answer (12, R366). -/
structure Requester where
  dev : Nat
  expected : BitVec 16
  stored : List (BitVec 16 × List Frame)
  deriving DecidableEq, Repr

/-- A train of frames not yet complete: its sender, whether it is of replies, its SEQ, its frames in order, its first instant (12, R364). -/
structure Train where
  dev : Nat
  reply : Bool
  seq : Nat
  frames : List Frame
  since : Nat
  deriving DecidableEq, Repr

/-- Halo beside its objects (12). -/
structure HaloSt where
  ports : SMap PortSt
  bseq : BitVec 16
  seen : List (Nat × Nat × Nat × Nat)
  targets : SMap Target
  requesters : List Requester
  trains : List Train
  events : List (Nat × Nat × U80)
  deriving DecidableEq, Repr

/-- A G2 mailbox (13, table of mailbox registers): STATE 0 IDLE, 1 BUSY, 2 DONE, and the answer that is to be written. -/
structure Mbx where
  cmd : Word
  range : Word
  target : Word
  irq : Word
  state : Nat
  epoch : Nat
  abort : Nat
  count : Nat
  data : SMap Word
  answer : Option OdReply
  deriving DecidableEq, Repr

/-- A mailbox after reset. -/
def Mbx.idle : Mbx := ⟨0, 0, 0, 0, 0, 0, 0, 0, [], none⟩

/-- A G3 descriptor in progress (13): its ring index, its fields D0 to D7, the cells a STREAM has delivered, when it last
delivered or began, whether its transaction is with the OD service, whether one has been handed to it, whether its fetch failed. -/
structure Desc where
  idx : Nat
  d : List Nat
  cells : Nat
  since : Nat
  out : Bool
  begun : Bool
  bad : Bool
  deriving DecidableEq, Repr

/-- A completion that waits to be written (13, table of completion entries). -/
structure Cpl where
  idx : Nat
  tag : Nat
  abort : Nat
  blocked : Bool
  epoch : Nat
  count : Nat
  irq : Bool
  deriving DecidableEq, Repr

/-- A G3 ring (13): its registers, STATE 0 DISABLED, 1 RUNNING, 2 ERROR, the index after the last descriptor fetched, descriptors in
progress and completions to write in ring order, whether ENABLE was written 0, a low half that waits for its high half (offset, value), and how often it has started or failed. -/
structure RingSt where
  desc : Nat
  cpl : Nat
  size : Nat
  vecOn : Bool
  vec : Nat
  state : Nat
  abort : Nat
  head : Nat
  tail : Nat
  phase : Bool
  fetched : Nat
  prog : List Desc
  done : List Cpl
  stopping : Bool
  half : Option (Nat × Nat)
  starts : Nat
  deriving DecidableEq, Repr

/-- A ring after reset. -/
def RingSt.idle : RingSt := ⟨0, 0, 0, false, 0, 0, 0, 0, 0, false, 0, [], [], false, none, 0⟩

/-- The host interface (13). The G1 read latch (object, words) and write latch (object, registers 1 to 3), G1_ABORT (count, code) and
G1_ABORT_ADDR, RES_CTX, POP_QUEUE and their latches, the DOM port with its write and read latches; mailboxes; rings; the MSI-X table by
dword, pending bits, Bus Master Enable, MSI-X Enable, function mask; a number that each reset of the interface raises. `read` is the
value the last host read returned and `dma` what the last step wrote to host memory, as (address, 64-bit value). -/
structure HostSt where
  latch : Option (Nat × Nat × List Word)
  wlatch : Option (Nat × Nat × List Nat)
  aborts : Nat × Nat
  abortAddr : Nat
  resCtx : Nat
  resData : List Word
  popQueue : Nat
  popData : List Word
  domTarget : Nat
  domOffset : Nat
  domWrite : Nat
  domRead : Word
  mailboxes : SMap Mbx
  rings : SMap RingSt
  msix : SMap Nat
  pendingBits : List Nat
  busMaster : Bool
  msixEnable : Bool
  functionMask : Bool
  gen : Nat
  read : Nat
  dma : List (Nat × Nat)
  deriving DecidableEq, Repr

/-- The host interface after reset. -/
def HostSt.idle (gen : Nat) : HostSt :=
  ⟨none, none, (0, 0), 0, 0, [], 0, [], 0, 0, 0, 0, [], [], [], [], false, false, false, gen, 0, []⟩

/-- A patch being applied to a class of engines (14, R420): who asked, its VERSION, the units still to switch, how many have. -/
structure PatchRun where
  src : Word
  version : Word
  left : List Nat
  done : Nat
  deriving DecidableEq, Repr

/-- A routine image being loaded (14, R422): who asked (none when defaults loaded it), the image, the engines still to load. -/
structure LoadRun where
  src : Option Word
  image : List Word
  left : List Nat
  done : Nat
  deriving DecidableEq, Repr

/-- A cluster microcode restart under way (14, R413): t0 in et, the store and address that failed. -/
structure Restart where
  at0 : Nat
  store : Nat
  addr : Nat
  deriving DecidableEq, Repr

/-- Microcode beside the objects (14): the routine image in effect (once accepted) and in each reduction engine's routine store, the active
patch images by class (1 sequencer, 2 engine), by unit the patch in its active bank and match registers, the patches being applied by
class, the routine load, the restarts, and by cluster the store, address and t1 of the last machine check. -/
structure MicroSt where
  image : List Word
  routines : SMap (List Word)
  patches : SMap (List Word)
  banks : SMap (List Word)
  runs : SMap (Option PatchRun)
  load : Option LoadRun
  restarts : SMap (Option Restart)
  last : SMap (Option (Nat × Nat × Nat))
  deriving DecidableEq, Repr

/-- An arbiter (15): the waiting requester instances with their effective priorities, the key of the last one granted, the grant in
progress (requester, instance, instant, beat limit), and the cuts of the last 1 ms. -/
structure ArbSt where
  waiting : List (Nat × Nat × Nat)
  last : Nat
  grant : Option (Nat × Nat × Nat × Nat)
  cuts : List (Nat × Nat × Nat)
  deriving DecidableEq, Repr

/-- An arbiter that has granted nothing. -/
def ArbSt.idle : ArbSt := ⟨[], 0, none, []⟩

/-- On-chip memory and HBM beside the objects (15): rows listed for repair (pseudo-channel, row), clusters that are waking with who
asked, spare words used by bank (source * 256 + bank), background test rounds, the arbiters, the pool lines of cells that a broken queue
link leaked (10, R322). -/
structure MemSt where
  repairs : List (Nat × Nat)
  waking : SMap (Option Word)
  spares : SMap Nat
  rounds : Nat
  arbs : SMap ArbSt
  leaked : List Nat
  deriving DecidableEq, Repr

/-- A housekeeping monitor's filter (16): its last samples, oldest first, since it started empty; whether it has decided; the
hysteresis band in which it is UNRESOLVED (0 none, 1 high, 2 low). -/
structure MonSt where
  hist : List Int
  decided : Bool
  band : Nat
  deriving DecidableEq, Repr

/-- Starfix of a cluster beside its objects (16): when the pending request was raised and whether it was logged overdue, the
temperature at the start of the run, a restore that waits for a boundary (words, instant), whether a quick pass runs and was aborted,
and the free values its calibration set holds (0 the words a restore gave). -/
structure CalSt where
  asked : Nat
  logged : Bool
  temp : Word
  restore : Option (List Word × Nat)
  quick : Option Bool
  values : Nat
  deriving DecidableEq, Repr

/-- Thermal model and Starfix beside the objects (16): valid readings in a row by node, monitors, failed PMBus transactions in a row,
calibration by cluster, how many calibration sets there have been, the VOUT_MODE that the regulator reported (21, R569; none before it has been
read) and the mantissa of the last VOUT_COMMAND. `sets` numbers free values: it is the model's own field. -/
structure ThermSt where
  valid : SMap Nat
  mons : SMap MonSt
  naks : Nat
  cals : SMap CalSt
  sets : Nat
  vout : Option (BitVec 8)
  mantissa : Option Nat
  deriving DecidableEq, Repr

/-- A warm reset under way (19, R540): who asked, the state before it, the Meridian time and the LOCAL instant of acceptance, the locks it
broke (slot, owner, FIRST, LAST, objects discarded). -/
structure WarmRun where
  src : Word
  before : Nat
  at_ : U80
  since : Nat
  broken : List (Nat × Word × Nat × Nat × Nat)
  deriving DecidableEq, Repr

/-- Start-up beside its objects (19): whether RESET_N and PERST_N are low; the time that has passed while LOCAL stood still, before the
housekeeping domain locks (03, R78), in et, and when in it BRINGUP began; a warm reset under way; cluster resets that wait for a recovery
to end, with who asked. -/
structure StartSt where
  resetLow : Bool
  perstLow : Bool
  timer : Nat
  began : Nat
  warm : Option WarmRun
  waiting : List (Nat × Word)
  deriving DecidableEq, Repr

/-- The service port beside its objects (20): the frame flags SHORT, LONG, OVR and ERR, BUSY, DONE, ATTN_MASK, the latched bits of
ATTN_CAUSE, the request registers, RESULT, RES_EPOCH, RES_COUNT, DATA_PTR, the data buffer, the outbound mailbox, the answer that is to be
taken, and the bytes the last frame shifted out, the status byte first. -/
structure SvcSt where
  short : Bool
  long : Bool
  ovr : Bool
  err : Bool
  busy : Bool
  done : Bool
  mask : Nat
  cause : Nat
  cmd : Word
  range : Word
  target : Nat
  flags : Nat
  result : Nat
  epoch : Nat
  count : Nat
  ptr : Nat
  data : SMap Word
  outbox : List Word
  answer : Option OdReply
  shifted : List Nat
  deriving DecidableEq, Repr

/-- The service port after a cold or power-on reset. -/
def SvcSt.idle : SvcSt :=
  ⟨false, false, false, false, false, false, 3, 0, 0, 0, 0, 0, 0, 0, 0, 0, [], [], none, []⟩

/-- The test access port (21): the instruction loaded, and the data register it captures. -/
structure TapSt where
  loaded : TapInstr
  captured : BitVec 32
  deriving DecidableEq, Repr


/-- The state of the block. `agenda` holds the steps that earlier steps have brought due; `posted` is empty between steps. -/
structure State where
  pending : List Instr
  agenda : List Instr
  hbm : Memory
  posted : List (Nat × LineData)
  clock : Nat
  regs : SMap Word
  act : SMap Word
  cmdStat : SMap Word
  reply : OdReply
  locks : LockSt
  log : LogSt
  alm : AlmanacSt
  queues : SMap QState
  faults : FaultSt
  sync : SyncSt
  pins : PinSt
  seqs : SMap SeqSt
  groups : SMap GroupSt
  mea : MeaSt
  red : RedSt
  stim : SMap AsSt
  halo : HaloSt
  host : HostSt
  micro : MicroSt
  mem : MemSt
  therm : ThermSt
  start : StartSt
  svc : SvcSt
  tap : TapSt
  deriving DecidableEq, Repr

/-- A user bank that holds no header (18, table of bank states). -/
def Bank.erased : Bank := { st := 0, gen := 0, entries := [], bytes := 0 }

/-- The machine right after a power-on reset: state POWERUP (19, R528), every object at its ROM default, every queue,
buffer and list empty. -/
def State.reset : State :=
  { pending := [], agenda := [], hbm := [], posted := [], clock := 0, regs := [], act := [], cmdStat := []
    reply := { code := 0, epoch := 0, data := [] }
    locks := { staged := [], leaseFrom := [], waiters := [], reports := [] }
    log := { input := [], slots := [], lossPending := false, windows := [] }
    alm := { bankA := Bank.erased, bankB := Bank.erased, factory := [], run := none, head := [], held := [] }
    queues := []
    faults := { reaction := [], persisting := [], selfBad := false, before := 0, adcGone := [] }
    sync := ⟨[], [], 0, 0, 0, none, [], [], false, 0, [], none, [], [], 1, []⟩
    pins := ⟨[], [], false⟩
    seqs := []
    groups := []
    mea := ⟨[], [], [], []⟩
    red := ⟨[], [], [], [], [], [], [], [], []⟩
    stim := []
    halo := { ports := [], bseq := 0, seen := [], targets := [], requesters := [], trains := [], events := [] }
    host := HostSt.idle 0
    micro := ⟨[], [], [], [], [], none, [], []⟩
    mem := ⟨[], [], [], 0, [], []⟩
    therm := ⟨[], [], 0, [], 0, none, none⟩
    start := ⟨true, false, 0, 0, none, []⟩
    svc := SvcSt.idle
    tap := ⟨.idcode, 0⟩
  }

end Sys2Proof.Machine
end

