-- ==== Sys2Proof/Machine/Store.lean ====
section
/-! DEFINITION. Machine/Store.lean: reading and writing a sparse map held in canonical form. -/

namespace Sys2Proof.Machine

/-- The value at key `k`: the entry listed for it, or `d k`. -/
def SMap.get {α : Type} (d : Nat → α) : SMap α → Nat → α
  | [], k => d k
  | (j, v) :: m, k => if j = k then v else SMap.get d m k

/-- `m` without any entry for `k`. -/
def SMap.erase {α : Type} (m : SMap α) (k : Nat) : SMap α :=
  m.filter (fun e => e.1 ≠ k)

/-- `m`, in which `k` is not listed, with `x`, if it is a value, put at the place of `k` in the rising order. -/
def SMap.place {α : Type} : SMap α → Nat → Option α → SMap α
  | [], k, x => x.elim [] (fun v => [(k, v)])
  | (j, w) :: m, k, x =>
    if k < j then x.elim ((j, w) :: m) (fun v => (k, v) :: (j, w) :: m) else (j, w) :: SMap.place m k x

/-- `m` with key `k` reading as `v`. A value that an unlisted key reads as is not listed. -/
def SMap.set {α : Type} [DecidableEq α] (d : Nat → α) (m : SMap α) (k : Nat) (v : α) : SMap α :=
  SMap.place (SMap.erase m k) k (if v = d k then none else some v)

/-- The canonical form: keys strictly rising, and no entry equal to what its key reads as when unlisted. -/
abbrev SMap.wf {α : Type} (d : Nat → α) (m : SMap α) : Prop :=
  m.Pairwise (fun a b => a.1 < b.1) ∧ ∀ e ∈ m, e.2 ≠ d e.1

end Sys2Proof.Machine
end

