-- ==== Sys2Proof/Machine/Ops.lean ====
section
/-! DEFINITION. Machine/Ops.lean: the named operations over the state: registers, time, memory, the log, the journal, faults, occurrences. -/

namespace Sys2Proof.Machine

/-- Word `w` of an object. -/
def State.reg (s : State) (i sub : Nat) (w : Nat := 0) : Word := SMap.get romDefault s.regs (odKey i sub w)

/-- ATTN_CAUSE [3] of the service port latches at each change of the device state (20, R553). -/
def State.attention (s : State) (before : Word) : State :=
  if s.reg 0x0100 0x00 = before then s else { s with svc := { s.svc with cause := s.svc.cause ||| 8 } }

/-- The 32 bytes of a line are written to memory. -/
def Memory.putLine (m : Memory) (a : Nat) (l : LineData) : Memory :=
  (List.range 32).foldl (fun m j => SMap.set Memory.dflt m (32 * a + j) (l.extractLsb' (8 * j) 8)) m
/-- The writes that a step posted land, the last one of a line last. -/
def Memory.land (m : Memory) (posted : List (Nat × LineData)) : Memory := posted.foldr (fun e m => Memory.putLine m e.1 e.2) m

/-- Run `f` as one step. The HBM writes it posts land together at its end, the queue of waiting commands is not its
business, and LOCAL never runs back. -/
def State.perform (s : State) (f : State → State) : Host.Outcome State Fault Refusal :=
  let r := (f { s with posted := [] }).attention (s.reg 0x0100 0x00)
  .next { r with pending := s.pending, hbm := Memory.land s.hbm r.posted, posted := [], clock := max s.clock r.clock }

/-- As `State.perform`, for the steps that start LOCAL again (03, R78) and lose what HBM held: a power-on or cold reset. -/
def State.performReset (s : State) (f : State → State) : Host.Outcome State Fault Refusal :=
  let r := (f { s with posted := [] }).attention (s.reg 0x0100 0x00)
  .next { r with pending := s.pending, hbm := [], posted := [], clock := 0 }

/-- `n` applications of `f`, numbered from 0. -/
def State.repeat (s : State) (n : Nat) (f : Nat → State → State) : State :=
  (List.range n).foldl (fun s i => f i s) s

/-- Apply `f` when `b`. -/
def State.when (s : State) (b : Bool) (f : State → State) : State := if b then f s else s

/-! ## Registers -/

/-- Word `w` of an object, as a number. -/
def State.regN (s : State) (i sub : Nat) (w : Nat := 0) : Nat := (s.reg i sub w).toNat
/-- Bit 0 of an object (BOOL). -/
def State.regB (s : State) (i sub : Nat) (w : Nat := 0) : Bool := (s.reg i sub w).getLsbD 0
/-- A U80 object. -/
def State.reg80 (s : State) (i sub : Nat) : U80 := u80 (s.reg i sub 0) (s.reg i sub 1)

/-- Write word `w` of an object. -/
def State.setRegW (s : State) (i sub w : Nat) (v : Word) : State :=
  { s with regs := SMap.set romDefault s.regs (odKey i sub w) v }
/-- Write a one-word object. -/
def State.setReg (s : State) (i sub : Nat) (v : Word) : State := s.setRegW i sub 0 v
/-- Write a one-word object from a number. -/
def State.setRegN (s : State) (i sub : Nat) (n : Nat) : State := s.setRegW i sub 0 (wd n)
/-- Write a U80 object. -/
def State.setReg80 (s : State) (i sub : Nat) (v : U80) : State :=
  (s.setRegW i sub 0 (loWord v)).setRegW i sub 1 (hiWord v)
/-- Add to a counter, modulo 2^40. -/
def State.addReg (s : State) (i sub : Nat) (n : Nat) (w : Nat := 0) : State :=
  s.setRegW i sub w (s.reg i sub w + BitVec.ofNat 40 n)
/-- Add to a U80 counter. -/
def State.addReg80 (s : State) (i sub : Nat) (n : Nat) : State :=
  s.setReg80 i sub (s.reg80 i sub + BitVec.ofNat 80 n)
/-- Put an object back to its ROM default. -/
def State.clearReg (s : State) (i sub : Nat) (w : Nat := 0) : State :=
  s.setRegW i sub w (romDefault (odKey i sub w))

/-- The active value of word `w` of an object whose effect rule is load, boundary, shadow or reset (02, R52). -/
def State.act? (s : State) (i sub : Nat) (w : Nat := 0) : Word := SMap.get romDefault s.act (odKey i sub w)
/-- The active value, as a number. -/
def State.actN (s : State) (i sub : Nat) (w : Nat := 0) : Nat := (s.act? i sub w).toNat
/-- Make word `w` of an object active with value `v`. -/
def State.setAct (s : State) (i sub w : Nat) (v : Word) : State :=
  { s with act := SMap.set romDefault s.act (odKey i sub w) v }
/-- Make the written value of word `w` active. -/
def State.activate (s : State) (i sub : Nat) (w : Nat := 0) : State := s.setAct i sub w (s.reg i sub w)

/-- The words of an object that `regs` lists, as (word number, value). -/
def State.listedWords (s : State) (i sub : Nat) : List (Nat × Word) :=
  s.regs.filterMap (fun e =>
    if odKey i sub 0 ≤ e.1 ∧ e.1 < odKey i sub 0 + 134217728 then some (e.1 - odKey i sub 0, e.2) else none)

/-! ## Time -/

/-- LOCAL runs (03, R78): the device is powered, and BRINGUP step 3, in which the housekeeping domain locks, is past (19, R536). -/
def State.localOn (s : State) : Bool :=
  1 < s.regN 0x0100 0x00 && (s.regN 0x0100 0x08 = 0 || 3 < s.regN 0x0100 0x08)

/-- Let the instant `t` of a step come: LOCAL reaches it, or, while LOCAL does not run, the time before it does. -/
def State.tick (s : State) (t : Nat) : State :=
  { s with
    clock := if s.localOn then max s.clock t else s.clock
    start := { s.start with timer := if s.localOn then s.start.timer else max s.start.timer t } }

/-- LOCAL in mt (03): one mt is 32 et. -/
def State.localMt (s : State) : Nat := s.clock / 32
/-- OFFSET (0x0900.02). -/
def State.offset (s : State) : U80 := s.reg80 0x0900 0x02
/-- Meridian time now: LOCAL + OFFSET (03). -/
def State.now (s : State) : U80 := BitVec.ofNat 80 s.localMt + s.offset
/-- The OFFSET that was in effect at an instant of LOCAL given in mt. -/
def State.offsetAt (s : State) (mt : Nat) : U80 :=
  match s.sync.past.find? (fun e => mt < e.till) with
  | some e => e.offset
  | none => s.offset
/-- Meridian time of an instant of LOCAL given in mt, by the OFFSET in effect at it (03, R79). -/
def State.meridianOf (s : State) (mt : Nat) : U80 := BitVec.ofNat 80 mt + s.offsetAt mt
/-- Whether Meridian time stepped after the instant `a` of LOCAL and not after `b`, both in et (03, R91). -/
def State.stepped (s : State) (a b : Nat) : Bool := s.sync.past.any (fun e => e.step && a / 32 < e.till && e.till ≤ b / 32)
/-- OFFSET takes a value; the value it had is kept, for instants before this one. -/
def State.setOffset (s : State) (v : U80) (step : Bool) : State :=
  ({ s with sync := { s.sync with past := s.sync.past ++ [⟨s.localMt, s.offset, step⟩] } } : State).setReg80 0x0900 0x02 v
/-- Milliseconds, microseconds and nanoseconds in et: 1 ns = 128 mt = 4,096 et. -/
def msEt (n : Nat) : Nat := n * 4096000000
/-- Microseconds in et. -/
def usEt (n : Nat) : Nat := n * 4096000
/-- Nanoseconds in et. -/
def nsEt (n : Nat) : Nat := n * 4096

/-! ## The device -/

/-- Device state (0x0100.00 STATE): 0 OFF, 1 POWERUP, 2 BRINGUP, 3 READY, 4 RUN, 5 SELFTEST, 6 RECOVERY, 7 ECLIPSE, 8 FACTORY. -/
def State.devState (s : State) : Nat := s.regN 0x0100 0x00
/-- The device's own number (0x1100.00). -/
def State.ownDevice (s : State) : Nat := s.regN 0x1100 0x00
/-- The SOURCE of an internal write (02; PATH 0x6). -/
def State.internal (s : State) : Word := sourceOf 6 0 s.ownDevice

/-- Put a step on the agenda. -/
def State.due (s : State) (i : Instr) : State := { s with agenda := s.agenda ++ [i] }

/-- A number with sign from an 80-bit difference. -/
def diff80 (a b : U80) : Int := (a - b).toInt

/-- The instant of LOCAL at which Meridian time was `m`: `past` are the values that OFFSET had, latest first, `off` the one after them. -/
def localIn (past : List PastOffset) (off m : U80) : Nat :=
  match past with
  | [] => (diff80 m off).toNat
  | e :: es => if (e.till : Int) ≤ diff80 m off then (diff80 m off).toNat else localIn es e.offset m

/-- The instant of LOCAL in mt at which Meridian time is `m` (03, R79): a stamp of this device names the instant it was taken. -/
def State.localOf (s : State) (m : U80) : Nat := localIn s.sync.past.reverse s.offset m

/-- Line and stamp of a step that is an occurrence in the router. -/
def occurrenceOf (c : Instr) : Option (Nat × U80) :=
  match c with
  | .eventOccurrence line stamp _ => some (line.val, stamp)
  | _ => none

/-- Whether a step on the agenda can be served now (03, R98): an occurrence not before its instant, where the device knew it up to 64 ns
ahead, and not before one of its line with an earlier stamp; every other step at once. -/
def State.servable (s : State) (c : Instr) : Bool :=
  match occurrenceOf c with
  | none => true
  | some (l, m) => (diff80 m s.now ≤ 0 || 8192 < diff80 m s.now) &&
      s.agenda.all (fun d => match occurrenceOf d with
        | some (k, n) => k ≠ l || 0 ≤ diff80 n m
        | none => true)

/-- The step to serve next and what then stands on the agenda: the one longest due of those that can be served (log entry 1). -/
def State.serve (s : State) : Option (Instr × List Instr) :=
  match s.agenda.findIdx? s.servable with
  | some n => (s.agenda[n]?).map (fun c => (c, s.agenda.eraseIdx n))
  | none => none

/-! ## The event log (18) -/

/-- The CRC of a record over W0 to W5 (18, R521). -/
def LogRec.crcOf (r : LogRec) : BitVec 32 :=
  crcWords [wd (r.code * 2 ^ 24 + b2n r.inj * 2 ^ 23 + b2n r.afterLoss * 2 ^ 22 + r.rep), wd r.num,
    loWord r.time, hiWord r.time, r.arg0, r.arg1]

/-- The record with its CRC computed again. -/
def LogRec.seal (r : LogRec) : LogRec := { r with crc := r.crcOf }

/-- A record with no repeat yet, not yet numbered. -/
def LogRec.fresh (code : Nat) (arg0 arg1 : Word) (inj afterLoss : Bool) (time : U80) : LogRec :=
  ⟨code, inj, afterLoss, 0, 0, time, arg0, arg1, 0⟩

/-- A record enters the log input, or is lost when it holds 256 (18, R524). -/
def State.logEnter (s : State) (code : Nat) (arg0 arg1 : Word) (inj : Bool) (time : U80) : State :=
  if s.log.input.length < 256 then
    let r := LogRec.fresh code arg0 arg1 inj s.log.lossPending time
    { s with log := { s.log with input := s.log.input ++ [r], lossPending := false } }
  else { s.addReg 0x0500 0x07 1 with log := { s.log with lossPending := true } }

/-- Whether the RATE rule can hold a code back (18, R523). -/
def rateLimited (code : Nat) : Bool :=
  !((0x0100 ≤ code && code ≤ 0x01FF) || code == 0x0B02 || code == 0x0B03)

/-- The open rate window of a log code, if it has one. -/
def State.rateWin (s : State) (code : Nat) : Option RateWin := SMap.get (fun _ => none) s.log.windows code
/-- Open, change or close the rate window of a log code. -/
def State.setRateWin (s : State) (code : Nat) (w : Option RateWin) : State :=
  { s with log := { s.log with windows := SMap.set (fun _ => none) s.log.windows code w } }

/-- The rate window of a code closes when it has lasted RATE_WINDOW ms (18, R523): LOG_SUPPRESSED, stamped at the close, tells what it
held back. -/
def State.closeRateWin (s : State) (code : Nat) : State :=
  match s.rateWin code with
  | none => s
  | some w =>
    let till := w.opened + msEt (s.regN 0x0500 0x02)
    if s.clock < till then s
    else
      let s := s.setRateWin code none
      s.when (w.held ≠ 0) (fun s => s.logEnter 0x0107 (wd code) (wd w.held) false (s.meridianOf (till / 32)))

/-- An occurrence is logged at Meridian time `time`: under MODE 1 the code's window counts it first (18, R522 to R524). -/
def State.logAt (s : State) (code : Nat) (arg0 arg1 : Word) (inj : Bool) (time : U80) : State :=
  if s.regN 0x0500 0x00 = 1 ∧ rateLimited code = true then
    let s := s.closeRateWin code
    match s.rateWin code with
    | none => (s.setRateWin code (some ⟨s.clock, 1, 0⟩)).logEnter code arg0 arg1 inj time
    | some w =>
      if w.stored < s.regN 0x0500 0x01 then
        (s.setRateWin code (some { w with stored := w.stored + 1 })).logEnter code arg0 arg1 inj time
      else (s.setRateWin code (some { w with held := w.held + 1 })).addReg 0x0500 0x06 1
  else s.logEnter code arg0 arg1 inj time

/-- An occurrence is logged now. -/
def State.logPut (s : State) (code : Nat) (arg0 arg1 : Word) (inj : Bool := false) : State :=
  s.logAt code arg0 arg1 inj s.now

/-! ## The journal (18) -/

/-- A journal entry as a line (18, bit map of a journal entry). -/
def journalLine (kind : Nat) (seq : Word) (idx sub status : Nat) (time : U80) (src : Word) (locked : Bool)
    (value : Word) : LineData :=
  mkLine kind 0 false seq (wd (idx * 2 ^ 24 + sub * 2 ^ 16 + status)) (loWord time) (hiWord time)
    (src ||| at_ 29 (b2n locked)) value

/-- An entry enters the on-chip head (18, R517, R518): NEXT_SEQ rises, FIRST_SEQ follows 2^20 behind. -/
def State.journalAt (s : State) (kind idx sub status : Nat) (time : U80) (src : Word) (locked : Bool)
    (value : Word) : State :=
  let seq := s.reg 0x0400 0x01
  let l := journalLine kind seq idx sub status time src locked value
  let s := { s with alm := { s.alm with head := s.alm.head ++ [l] } }
  let s := s.setReg 0x0400 0x01 (seq + 1)
  let s := s.setRegN 0x0400 0x04 s.alm.head.length
  s.when ((s.reg 0x0400 0x01 - s.reg 0x0400 0x00).toNat > 1048576) (fun s => s.addReg 0x0400 0x00 1)

/-- A journal event (kind 0x5) now, by internal (18, table of journal events). -/
def State.journalEvent (s : State) (code idx : Nat) (value : Word) : State :=
  s.journalAt 5 idx 0 code s.now s.internal false value

/-- An internal write of one word: the value, its journal entry with PATH 0x6 (17, R496; 02, R585). -/
def State.internalWrite (s : State) (i sub : Nat) (v : Word) : State :=
  (s.journalAt 1 i sub 0 s.now s.internal false v).setReg i sub v

/-! ## Command status (02, R42) -/

/-- The key under which a source's last command on an object is kept. -/
def cmdKey (src : Word) (i sub : Nat) : Nat := src.toNat * 16777216 + i * 256 + sub
/-- The status of a source's last command on an object; 0 when it has never written it. -/
def State.cmdStatus (s : State) (src : Word) (i sub : Nat) : Word := SMap.get (fun _ => 0) s.cmdStat (cmdKey src i sub)
/-- Set a command status. -/
def State.setCmd (s : State) (src : Word) (i sub : Nat) (v : Word) : State :=
  { s with cmdStat := SMap.set (fun _ => 0) s.cmdStat (cmdKey src i sub) v }
/-- A command ends with a result and a code. -/
def State.endCmd (s : State) (src : Word) (i sub result code : Nat) : State :=
  s.setCmd src i sub (cmdStatusWord false result code)
/-- Whether a source's command on an object is running. -/
def State.cmdBusy (s : State) (src : Word) (i sub : Nat) : Bool := (s.cmdStatus src i sub).getLsbD 39

/-! ## Faults and occurrences -/

/-- Bring a fault due at the collector (17, R484). -/
def State.raiseFault (s : State) (source cause sev : Nat) (detail : Word) (inj : Bool := false) : State :=
  s.due (.faultRaise (Fin.ofNat 512 source) (Fin.ofNat 128 cause) (Fin.ofNat 4 sev) detail inj s.clock)

/-- The lines one of whose sources SRC0 to SRC3 names a code. -/
def State.linesOf (s : State) (code : Nat) : List Nat :=
  ((s.regs.filterMap (fun e =>
    let i := e.1 / 134217728 / 256
    if 0x0A00 ≤ i ∧ i < 0x0C00 ∧ e.1 / 134217728 % 256 < 4 ∧ e.1 % 134217728 = 0 ∧ e.2 = wd code
    then some (i - 0x0A00) else none))).eraseDups

/-- An occurrence from a source, with its time stamp, enters the router (03, R97): every line that names the source gets it. -/
def State.raiseEvent (s : State) (code : Nat) (stamp : U80) : State :=
  (s.linesOf code).foldl (fun s n => s.due (.eventOccurrence (Fin.ofNat 512 n) stamp false)) s

/-- The clusters, outputs or other units whose one-word sink object holds a line number (03, R101). -/
def State.sinksAt (s : State) (base stride count sub line : Nat) : List Nat :=
  s.regs.filterMap (fun e =>
    let i := e.1 / 134217728 / 256
    if base ≤ i ∧ (i - base) % stride = 0 ∧ (i - base) / stride < count ∧ e.1 / 134217728 % 256 = sub ∧
        e.1 % 134217728 = 0 ∧ e.2 = wd line
    then some ((i - base) / stride) else none)

/-- The clusters whose sequencer is in a state (06, table of sequencer states). -/
def State.seqsIn (s : State) (st : Nat) : List Nat := s.sinksAt 0x3000 0x40 48 0 st
/-- Whether some sequencer of the device is in RUN. -/
def State.anyRun (s : State) : Bool := s.seqsIn 3 ≠ []

/-! ## HBM (01) -/

/-- The stored line at an address: what this step has posted, else what memory holds. -/
def State.hbmRaw (s : State) (a : Nat) : LineData :=
  match s.posted.find? (fun e => e.1 = a) with
  | some e => e.2
  | none => (List.range 32).foldl
      (fun l j => l ||| ((SMap.get Memory.dflt s.hbm (32 * a + j)).setWidth 256 <<< (8 * j))) 0

/-- Post a write of a stored line. Addresses of 0x6000_0000 and above are not implemented (01, R25). -/
def State.hbmPut (s : State) (a : Nat) (l : LineData) : State :=
  if a < 0x60000000 then { s with posted := (a, l) :: s.posted } else s

/-- What the memory cells have suffered since they were written: lines with the bits of a mask turned over. -/
def State.upset (s : State) (ms : List (Nat × LineData)) : State :=
  ms.foldl (fun s e => s.hbmPut e.1 (s.hbmRaw e.1 ^^^ e.2)) s

/-- Read a line with its parity checked (01, R22, R23; 15, R432): a mismatch found with POISON clear sets POISON in the
stored line and the copy, lists the row for repair, logs HBM_POISON with the reader and raises HBM_LINE. -/
def State.hbmRead (s : State) (a reader : Nat) : LineData × State :=
  if 0x60000000 ≤ a then (mkLine 0 0 true 0 0 0 0 0 0, s)
  else
    let l := s.hbmRaw a
    if parityBad l then
      if linePoison l then (l, s)
      else
        let p := a % 64
        let e := (p, a / 2048)
        let s := s.hbmPut a (poisoned l)
        let s := s.addReg 0x0D00 0x04 1
        let s := if e ∈ s.mem.repairs then s
          else
            let w := s.reg 0x0D01 0x00 p
            let s := { s with mem := { s.mem with repairs := s.mem.repairs ++ [e] } }
            (s.addReg 0x0D00 0x05 1).setRegW 0x0D01 0x00 p (setFld w 21 7 (min 127 (fld w 21 7 + 1)))
        let s := s.logPut 0x0905 (wd a) (wd reader)
        (poisoned l, s.raiseFault (0x46 + p) 0x13 1 (wd a))
    else (l, s)

end Sys2Proof.Machine
end

