-- ==== Sys2Proof/Machine/Queues.lean ====
section
/-! DEFINITION. Machine/Queues.lean: result queues (10): appending, gap cells, popping, flushing, enabling, roles, and the rows of the queue logic. -/

namespace Sys2Proof.Machine

/-- Queue `q`. -/
def State.queue (s : State) (q : Nat) : QState := SMap.get (fun _ => QState.empty) s.queues q
/-- Put queue `q`. -/
def State.setQueue (s : State) (q : Nat) (x : QState) : State :=
  { s with queues := SMap.set (fun _ => QState.empty) s.queues q x }

/-- ENABLE of CONFIG (0x7010). -/
def State.qEnabled (s : State) (q : Nat) : Bool := bit (s.reg 0x7010 0 q) 39
/-- CUT_THROUGH of CONFIG. -/
def State.qCut (s : State) (q : Nat) : Bool := bit (s.reg 0x7010 0 q) 38
/-- Queue state: 0 DISABLED, 1 ENABLED, 2 BROKEN (10, table of queue states). -/
def State.qState (s : State) (q : Nat) : Nat :=
  if (s.queue q).broken then 2 else b2n (s.qEnabled q)
/-- Pool cells taken: those of every queue and the reserves. -/
def State.poolUsed (s : State) : Nat :=
  s.queues.foldl (fun n e => n + e.2.cells.length + b2n e.2.reserve) 0
/-- POOL_FREE: free cells, reserves excluded (10, R307, R322). -/
def State.poolFree (s : State) : Nat := s.actN 0x7000 0x01 - s.poolUsed - s.regN 0x7000 0x03

/-- LEVEL_HIT of queue `q`, held in HIT_SUMMARY. -/
def State.levelHit (s : State) (q : Nat) : Bool := bit (s.reg 0x7000 0x04 (q / 40)) (q % 40)
/-- Set LEVEL_HIT of queue `q` and its bit of HIT_SUMMARY. -/
def State.setLevelHit (s : State) (q : Nat) (b : Bool) : State :=
  s.setRegW 0x7000 0x04 (q / 40) (setBit (s.reg 0x7000 0x04 (q / 40)) (q % 40) b)

/-- STATUS of queue `q` (0x7017). -/
def State.qStatusWord (s : State) (q : Nat) : Word :=
  let x := s.queue q
  let headOpen := match x.cells.head? with
    | some c => x.opens.any (fun p => p.st = .live && c.pkt = some p.id)
    | none => false
  wd (s.qState q * 2 ^ 38 + b2n (s.levelHit q) * 2 ^ 37 + b2n headOpen * 2 ^ 36 + x.cells.length)

/-- A cell's line with the queue's role epoch, as it is appended; capture record lines keep ROLE_EPOCH 0 (10, R311). -/
def State.cellLine (s : State) (q : Nat) (l : LineData) : LineData :=
  let f := lineFormat l
  retag l f (if 2 ≤ f ∧ f ≤ 6 then 0 else fld (s.reg 0x7015 0 q) 0 5) (linePoison l)

/-- Request the level notification when OCCUPANCY has crossed LEVEL upward from `before` (10, R325). -/
def State.qNotify (s : State) (q before : Nat) : State :=
  let lvl := s.regN 0x7012 0 q
  if lvl ≠ 0 ∧ before < lvl ∧ lvl ≤ (s.queue q).cells.length then
    let s := s.setLevelHit q true
    let v := s.regN 0x7013 0 q
    s.when (v < 64) (fun s => s.due (.msixSend (Fin.ofNat 64 v) s.clock))
  else s

/-- Number cells in append order and put them at place `pos` of the queue. -/
def State.qPut (s : State) (q pos : Nat) (cs : List QCell) : State :=
  let x := s.queue q
  let n0 := s.regN 0x7018 0 q
  let cs := cs.zipIdx.map (fun e => { e.1 with num := n0 + e.2 })
  let before := x.cells.length
  let s := s.setQueue q { x with cells := x.cells.take pos ++ cs ++ x.cells.drop pos }
  (s.addReg 0x7018 0 cs.length q).qNotify q before

/-- A QUEUE_GAP cell (10, table QUEUE_GAP cell). -/
def gapLine (cause items lines : Nat) (first last : U80) : LineData :=
  mkLine 0xD 0 false (wd (cause * 2 ^ 36 + min items (2 ^ 36 - 1))) (wd (min lines (2 ^ 40 - 1)))
    (loWord first) (hiWord first) (loWord last) (hiWord last)

/-- The stored line of a cell, on chip or in the pool. -/
def State.cellRaw (s : State) (c : QCell) : LineData := if c.onChip then c.line else s.hbmRaw c.loc

/-- Rewrite the line of the cell numbered `num` of queue `q`, wherever it is; in HBM its parity is checked as it is read (01, R22). -/
def State.qRewrite (s : State) (q num : Nat) (f : LineData → LineData) : State :=
  let x := s.queue q
  match x.cells.find? (fun c => c.num = num) with
  | none => s
  | some c =>
    if c.onChip then
      s.setQueue q { x with cells := x.cells.map (fun d => if d.num = num then { d with line := f d.line } else d) }
    else
      let r := s.hbmRead c.loc 5
      r.2.hbmPut c.loc (f r.1)

/-- Add lost items and lines to a QUEUE_GAP line, and move its T_LAST (10, R318). -/
def gapAdd (items lines : Nat) (now : U80) (l : LineData) : LineData :=
  let w0 := lineWord l 0
  mkLine 0xD (lineEpoch l) (linePoison l)
    (wd (fld w0 36 4 * 2 ^ 36 + min (fld w0 0 36 + items) (2 ^ 36 - 1)))
    (wd (min ((lineWord l 1).toNat + lines) (2 ^ 40 - 1))) (lineWord l 2) (lineWord l 3)
    (if items = 0 then lineWord l 4 else loWord now) (if items = 0 then lineWord l 5 else hiWord now)

/-- Record a dropped item of `lines` cells: added to a gap cell at the end of the queue, or in the queue's reserve cell as a
new gap cell; where neither is at hand, only counted (10, R318). DROPPED_ITEMS rises and QUEUE_DROP is logged.
Gives the number of the gap cell, if there is one. -/
def State.qDrop (s : State) (q burst cause lines : Nat) : Option Nat × State :=
  let x := s.queue q
  let s := s.addReg 0x7019 0 1 q
  match x.cells.getLast? with
  | some c =>
    if lineFormat (s.cellRaw c) = 0xD then
      let s := s.qRewrite q c.num (gapAdd 1 lines s.now)
      (some c.num, s.logPut 0x0606 (wd q) (wd (fld (lineWord (s.cellRaw c) 0) 36 4)))
    else newGap s x
  | none => newGap s x
where
  newGap (s : State) (x : QState) : Option Nat × State :=
    if x.reserve then
      let num := s.regN 0x7018 0 q
      let l := s.cellLine q (gapLine cause 1 lines s.now s.now)
      let s := s.setQueue q { x with reserve := false }
      let s := s.qPut q x.cells.length [⟨num, true, true, none, burst, true, l, 0⟩]
      (some num, s.logPut 0x0606 (wd q) (wd cause))
    else (none, s.logPut 0x0606 (wd q) (wd cause))

/-- A used reserve is taken again from the pool before the next item (10, R318). -/
def State.qTakeReserve (s : State) (q : Nat) : State :=
  let x := s.queue q
  if !x.reserve && s.poolFree ≠ 0 then s.setQueue q { x with reserve := true } else s

/-- Why queue `q` is full for an item of `n` cells: 0 it is not, 1 LIMIT, 2 POOL (10, R317, R318). -/
def State.qFull (s : State) (q n : Nat) : Nat :=
  let x := s.queue q
  if s.regN 0x7011 0 q < x.cells.length + n then 1
  else if !x.reserve || s.poolFree < n then 2
  else 0

/-- Append a whole item, or drop it whole (10, R308, R317). -/
def State.qItem (s : State) (q burst : Nat) (ls : List LineData) : State :=
  if s.qState q ≠ 1 then s.addReg 0x7019 0 1 q
  else
    let s := s.qTakeReserve q
    let cause := s.qFull q ls.length
    if cause ≠ 0 then (s.qDrop q burst cause ls.length).2
    else
      let n := ls.length
      let cs := ls.zipIdx.map (fun e => (⟨0, e.2 = 0, e.2 + 1 = n, none, burst, true, s.cellLine q e.1, 0⟩ : QCell))
      s.qPut q (s.queue q).cells.length cs

/-- Change the open packet of a producer. -/
def State.qSetOpen (s : State) (q : Nat) (p : OpenPkt) : State :=
  let x := s.queue q
  s.setQueue q { x with opens := x.opens.map (fun o => if o.prod = p.prod then p else o) }

/-- Start a packet: its head cell, STATUS OPEN, LINES 0 (10, R314, table PACKET_HEAD). -/
def State.qHead (s : State) (q : Nat) (prod : Producer) (cls unit : Nat) : State :=
  let opened (s : State) (id : Nat) (st : PktSt) : State :=
    let x := s.queue q
    s.setQueue q { x with opens := x.opens.filter (fun o => o.prod ≠ prod) ++ [⟨prod, id, 0, 0, st⟩] }
  if s.qState q ≠ 1 then opened (s.addReg 0x7019 0 1 q) 0 .discarded
  else
    let s := s.qTakeReserve q
    let cause := s.qFull q 1
    if cause ≠ 0 then
      let r := s.qDrop q prod.burst cause 1
      opened r.2 0 (match r.1 with | some n => .gap n | none => .discarded)
    else
      let id := s.regN 0x7018 0 q
      let l := mkLine 0xE 0 false 0 (wd (cls * 2 ^ 36 + prod.burst * 2 ^ 30 + unit * 2 ^ 24 + s.ownDevice))
        (loWord s.now) (hiWord s.now) 0 0
      let s := s.qPut q (s.queue q).cells.length [⟨id, true, true, some id, prod.burst, true, s.cellLine q l, 0⟩]
      opened s id .live

/-- The place of the next line of packet `id`: after the packet's last cell, or at the head when all were popped (10, R309). -/
def pktEnd (id : Nat) (cs : List QCell) : Nat :=
  cs.zipIdx.foldl (fun n e => if e.1.pkt = some id then e.2 + 1 else n) 0

/-- Write STATUS and LINES into the head of packet `id`, in one step (10, R314). -/
def headEnd (status lines : Nat) (l : LineData) : LineData := withWord l 0 (wd (status * 2 ^ 36 + lines))

/-- Mark the last cell of packet `id`, and no other of it, as the last of its item. -/
def markLast (id : Nat) (cs : List QCell) : List QCell :=
  let e := pktEnd id cs
  cs.zipIdx.map (fun x => if x.1.pkt = some id then { x.1 with last := x.2 + 1 = e } else x.1)

/-- A packet that meets a full queue with `cause` (10, R318): its head becomes the gap cell and its lines return to the pool;
when a cut-through pop has taken its head, there is none to become the gap cell: it ends TRUNCATED, its last kept line LAST, and a gap
cell follows. -/
def State.qCutPacket (s : State) (q : Nat) (p : OpenPkt) (cause : Nat) : State :=
  let x := s.queue q
  if p.popped ≠ 0 then
    let s := s.qRewrite q p.id (headEnd 2 p.lines)
    let s := s.setQueue q { s.queue q with cells := markLast p.id (s.queue q).cells }
    let pos := pktEnd p.id (s.queue q).cells
    let num := s.regN 0x7018 0 q
    let s := s.addReg 0x7019 0 1 q
    let s := s.logPut 0x0606 (wd q) (wd cause)
    if x.reserve then
      let s := s.setQueue q { s.queue q with reserve := false }
      let l := s.cellLine q (gapLine cause 1 1 s.now s.now)
      (s.qPut q pos [⟨num, true, true, none, p.prod.burst, true, l, 0⟩]).qSetOpen q { p with st := .gap num }
    else s.qSetOpen q { p with st := .discarded }
  else
    let cs := x.cells.filter (fun c => c.pkt ≠ some p.id || c.num = p.id)
    let s := s.setQueue q { x with cells := cs.map (fun c => if c.num = p.id then { c with pkt := none, last := true } else c) }
    let s := s.qRewrite q p.id (fun l => retag (gapLine cause 1 (p.lines + 2) s.now s.now) 0xD (lineEpoch l) false)
    let s := s.addReg 0x7019 0 1 q
    (s.logPut 0x0606 (wd q) (wd cause)).qSetOpen q { p with st := .gap p.id }

/-- One line of a producer's open packet (10, R308, R317, R318, R324). -/
def State.qLine (s : State) (q : Nat) (prod : Producer) (l : LineData) : State :=
  match (s.queue q).opens.find? (fun o => o.prod = prod) with
  | none => s
  | some p =>
    match p.st with
    | .flushed => s.addReg 0x7000 0x05 1
    | .discarded => s
    | .gap n => s.qRewrite q n (gapAdd 0 1 s.now)
    | .live =>
      let s := s.qTakeReserve q
      let cause := s.qFull q 1
      if cause ≠ 0 then s.qCutPacket q p cause
      else
        let num := s.regN 0x7018 0 q
        let pos := pktEnd p.id (s.queue q).cells
        let s := s.qPut q pos [⟨num, false, false, some p.id, prod.burst, true, s.cellLine q l, 0⟩]
        s.qSetOpen q { p with lines := p.lines + 1 }

/-- The producer ends its packet: STATUS COMPLETE and LINES in one step (10, R314). -/
def State.qDone (s : State) (q : Nat) (prod : Producer) : State :=
  match (s.queue q).opens.find? (fun o => o.prod = prod) with
  | none => s
  | some p =>
    let s := if p.st = .live then
        let s := s.qRewrite q p.id (headEnd 1 p.lines)
        let x := s.queue q
        let cs := markLast p.id x.cells
        s.setQueue q { x with cells := cs.map (fun c => if c.num = p.id ∧ p.lines ≠ 0 then { c with last := false } else c) }
      else s
    let x := s.queue q
    s.setQueue q { x with opens := x.opens.filter (fun o => o.prod ≠ prod) }

/-- What a producer gives queue `q` (10). -/
def State.qAppendPart (s : State) (q : Nat) (prod : Producer) (part : QPart) : State :=
  match part with
  | .item ls => s.qItem q prod.burst ls
  | .head cls unit => s.qHead q prod cls unit
  | .line l => s.qLine q prod l
  | .done => s.qDone q prod

/-- A link read finds a parity mismatch after the first `n` cells: the queue goes to BROKEN, what lies behind is leaked,
QUEUE_LINK_LOST is logged and an S1 fault raised (10, R322). -/
def State.qBreak (s : State) (q n : Nat) : State :=
  let x := s.queue q
  let lost := x.cells.length - n
  let away := ((x.cells.drop n).filter (fun c => !c.onChip)).map (fun c => c.loc)
  let s := s.setQueue q { x with cells := x.cells.take n, broken := true, opens := x.opens.map (fun o => { o with st := .discarded }) }
  let s := { s with mem := { s.mem with leaked := s.mem.leaked ++ away } }
  let s := s.addReg 0x7000 0x03 lost
  (s.logPut 0x0607 (wd q) 0).raiseFault 0xAB 0x15 1 (wd q)

/-- How the cell at the head of a queue stands to a pop: deliver it, marked PARTIAL or not, or stop (10, R315, R316). -/
def State.qHeadOpen (s : State) (q : Nat) (c : Option QCell) : Option Bool :=
  let x := s.queue q
  match x.opens.find? (fun p => p.st = .live && (c.bind (·.pkt) = some p.id)) with
  | some p =>
    if s.qCut q && (p.popped ≠ 0 || fld (s.reg 0x7010 0 q) 0 20 ≤ p.lines) then some true else none
  | none =>
    if x.opens.any (fun p => p.st = .live && p.popped ≠ 0) then none
    else if c.isSome then some false else none

/-- A cell's line as a pop reads it, its parity checked on chip as in HBM (10, R321). That a mismatch on chip raises HBM_LINE under the
cluster's own source is a DESIGN CHOICE, log entry 52. -/
def State.cellRead (s : State) (c : QCell) : LineData × State :=
  if !c.onChip then s.hbmRead c.loc 5
  else if parityBad c.line && !linePoison c.line then (poisoned c.line, s.raiseFault (min c.burst 47) 0x13 1 (wd c.num))
  else (c.line, s)

/-- Take up to `k` cells from the head of queue `q`, each with its slot (10, R319 to R321). -/
def State.qPopCells (s : State) (q : Nat) : Nat → List Word × State
  | 0 => ([], s)
  | k + 1 =>
    let x := s.queue q
    match x.cells, s.qHeadOpen q x.cells.head? with
    | c :: cs, some part =>
      let r := s.cellRead c
      let opens := x.opens.map (fun p => if c.pkt = some p.id then { p with popped := p.popped + 1 } else p)
      let s := r.2.setQueue q { x with cells := cs, opens := opens }
      let flags := 2 ^ 39 + b2n c.first * 2 ^ 38 + b2n c.last * 2 ^ 37 + b2n part * 2 ^ 36 + c.num % 2 ^ 32
      let t := s.qPopCells q k
      (slotWords r.1 (wd flags) ++ t.1, t.2)
    | _, _ => ([], s)

/-- A pop of up to `k` cells: the slots, zero after the last cell; slot 0 reports BLOCKED when an OPEN packet holds the head (10, R319). -/
def State.qPop (s : State) (q k : Nat) : List Word × State :=
  let blocked := (s.queue q).opens.any (fun p => p.st = .live) && (s.qHeadOpen q (s.queue q).cells.head?).isNone
  let r := s.qPopCells q k
  let ws := if r.1.isEmpty && blocked then (List.replicate 7 0) ++ [at_ 35 1] else r.1
  (ws ++ List.replicate (8 * k - ws.length) 0, r.2)

/-- FLUSH of queue `q` (10, R324); a link found broken leaks what lies behind it (R322). -/
def State.qFlush (s : State) (q : Nat) (broken : Option Nat) : State :=
  let s := match broken with | some n => s.qBreak q n | none => s
  let x := s.queue q
  let s := s.setQueue q { x with cells := [], broken := false, opens := x.opens.map (fun o => if o.st = .live then { o with st := .flushed } else o) }
  s.addReg 0x701A 0 1 q

/-- Replace the OPEN packets that `sel` picks by QUEUE_GAP cells with CAUSE RESET in place of their heads (10, R328). Where a cut-through pop
has taken the head, the packet's first cell still there becomes it, or the reserve cell where none is: DESIGN CHOICE, log entry 53. -/
def State.qResetOpens (s : State) (q : Nat) (sel : OpenPkt → Bool) : State :=
  ((s.queue q).opens.filter (fun p => p.st = .live && sel p)).foldl (fun s p =>
    let x := s.queue q
    let gap := gapLine 3 1 (p.lines + 1) s.now s.now
    let opens := x.opens.filter (fun o => o.prod ≠ p.prod)
    match x.cells.find? (fun c => c.pkt = some p.id) with
    | some h =>
      let cs := x.cells.filter (fun c => c.pkt ≠ some p.id || c.num = h.num)
      let s := s.setQueue q { x with cells := cs.map (fun c => if c.num = h.num then { c with pkt := none, first := true, last := true } else c), opens := opens }
      s.qRewrite q h.num (fun l => retag gap 0xD (lineEpoch l) false)
    | none =>
      let s := s.setQueue q { x with reserve := false, opens := opens }
      s.when x.reserve (fun s => s.qPut q 0 [⟨0, true, true, none, p.prod.burst, true, s.cellLine q gap, 0⟩])) s

/-- A line of the pool that no cell and no leaked cell occupies (10, R307, R322). -/
def State.poolLineFree (s : State) (a : Nat) : Bool :=
  let base := s.actN 0x7000 0x00
  base ≤ a && a < base + s.actN 0x7000 0x01 && !s.mem.leaked.contains a &&
    !(s.queues.any (fun e => e.2.cells.any (fun c => !c.onChip && c.loc = a)))

/-- Write CONFIG of queue `q`: enabling takes the reserve, disabling returns it (10, R307). -/
def State.qConfig (s : State) (q : Nat) (v : Word) : State :=
  let x := s.queue q
  (s.setQueue q { x with reserve := if bit v 39 then x.reserve || !(s.qEnabled q) else false }).setRegW 0x7010 0 q v

/-- Write every on-chip cell that `sel` picks to the lowest free line of the pool (10, R308; 15, R437; 19, R540). -/
def State.drainBurst (s : State) (sel : QCell → Bool) : State :=
  let base := s.actN 0x7000 0
  let used := s.mem.leaked ++ s.queues.flatMap (fun e => (e.2.cells.filter (fun c => !c.onChip)).map (fun c => c.loc))
  let todo := s.queues.flatMap (fun e => (e.2.cells.filter (fun c => c.onChip && sel c)).map (fun c => (e.1, c.num)))
  let free := (List.range (used.length + todo.length)).map (base + ·) |>.filter (fun a => a ∉ used)
  (todo.zip free).foldl (fun s e =>
    let x := s.queue e.1.1
    match x.cells.find? (fun c => c.num = e.1.2 && c.onChip) with
    | none => s
    | some c => (s.hbmPut e.2 c.line).setQueue e.1.1 { x with cells := x.cells.map (fun d => if d.num = e.1.2 && d.onChip then { d with onChip := false, line := 0, loc := e.2 } else d) }) s

/-- The open packets and burst cells that `sel` picks by their burst queue leave the banks (10, R328; R540 step 4). -/
def State.settleQueues (s : State) (sel : Nat → Bool) : State :=
  ((s.queues.map (fun e => e.1)).foldl (fun s q => s.qResetOpens q (fun p => sel p.prod.burst)) s).drainBurst (fun c => sel c.burst)

end Sys2Proof.Machine
end

