-- ==== Sys2Proof/Machine/Pins.lean ====
section
/-! DEFINITION. Machine/Pins.lean: channel slices (04) and the moves of lanes and domains (04, 05): drive, levels, LOAD, PMU budget, sparing, rehoming. -/

namespace Sys2Proof.Machine

/-- The pin electronics of cluster `c`. -/
def State.pe (s : State) (c : Nat) : PeSt := SMap.get (fun _ => PeSt.idle) s.pins.clusters c
/-- Change the pin electronics of cluster `c`. -/
def State.onPe (s : State) (c : Nat) (f : PeSt → PeSt) : State :=
  { s with pins := { s.pins with clusters := SMap.set (fun _ => PeSt.idle) s.pins.clusters c (f (s.pe c)) } }
/-- Slice `n` of cluster `c`. -/
def State.slice (s : State) (c n : Nat) : SliceSt := SMap.get (fun _ => SliceSt.idle) s.pins.slices (25 * c + n)
/-- Change slice `n` of cluster `c`. -/
def State.onSlice (s : State) (c n : Nat) (f : SliceSt → SliceSt) : State :=
  { s with pins := { s.pins with slices := SMap.set (fun _ => SliceSt.idle) s.pins.slices (25 * c + n) (f (s.slice c n)) } }

/-- The sequencer of cluster `c`. -/
def State.sq (s : State) (c : Nat) : SeqSt := SMap.get (fun _ => SeqSt.idle) s.seqs c
/-- Change the sequencer of cluster `c`. -/
def State.onSq (s : State) (c : Nat) (f : SeqSt → SeqSt) : State :=
  { s with seqs := SMap.set (fun _ => SeqSt.idle) s.seqs c (f (s.sq c)) }

/-- ENABLE of a slice (object 0x00). -/
def State.enabled (s : State) (c n : Nat) : Bool := s.regN (peIdx 0x00 c) n = 1
/-- PMU_MODE of a slice (object 0x03). -/
def State.pmuMode (s : State) (c n : Nat) : Nat := s.regN (peIdx 0x03 c) n
/-- SLICE_STATE of a slice (object 0x1C): 0 IN_SERVICE, 1 SPARE_IDLE, 2 SPARE_SERVING, 3 IDLE, 4 FAILED, 5 UNCLOCKED. -/
def State.sliceState (s : State) (c n : Nat) : Nat := s.regN (peIdx 0x1C c) n
/-- LVLCLR_STATE of a cluster (0x1F.F6): 0 normal, 1 LVLCLR_N low, 2 released, 3 ECLIPSE. -/
def State.lvlclr (s : State) (c : Nat) : Nat := s.regN (peIdx 0x1F c) 0xF6
/-- SPARE_LANE of a cluster. -/
def State.spareLane (s : State) (c : Nat) : Nat := s.regN (peIdx 0x1F c) 0xF2
/-- LOST_LANES of a cluster. -/
def State.lostLanes (s : State) (c : Nat) : Nat := s.regN (peIdx 0x1F c) 0xF9
/-- STATE of a cluster's sequencer (06): 0 IDLE, 1 ARMING, 2 ARMED, 3 RUN, 4 DONE, 5 STOPPED, 6 ERROR, 7 GATED. -/
def State.seqState (s : State) (c : Nat) : Nat := s.regN (seqIdx 0x00 c) 0x00

/-- The slice that serves lane `l` of cluster `c`: slice 24 for the lane in SPARE_LANE, else its own; none when lost (04, R139). -/
def State.servedBy (s : State) (c l : Nat) : Option Nat :=
  if (s.lostLanes c).testBit l then none
  else if s.spareLane c = l then some 24 else some l

/-- Whether a stimulus output has LOOPBACK 1 to cluster `c`: ASn reaches C(n) for n up to 15, C(n + 8) from 16 on (11). -/
def State.looped (s : State) (c : Nat) : Bool :=
  if c < 16 then s.regB (0x8000 + c) 0x10 else 24 ≤ c && c < 40 && s.regB (0x8000 + (c - 8)) 0x10

/-! ## The slice at the ball (04, R112 to R130, R136) -/

/-- Whether a slice's ball switch is open: slice 24 while it serves no lane, a slice IDLE, FAILED or UNCLOCKED (04, R114, R142). -/
def State.switchOpen (s : State) (c n : Nat) : Bool := if n = 24 then s.sliceState c 24 ≠ 2 else 3 ≤ s.sliceState c n
/-- Whether a slice is on one end of a written lane move under way (04, R144). -/
def State.onMove (s : State) (c n : Nat) : Bool :=
  match (s.pe c).moving with
  | some m => n = 24 || m.1.contains n
  | none => false
/-- Whether a slice is parked: not enabled, its ball switch open, its lane on the move, its cluster gated (04, R125, R130, R144; 01, R19). -/
def State.parked (s : State) (c n : Nat) : Bool := !s.enabled c n || s.switchOpen c n || s.onMove c n || s.seqState c = 7
/-- Whether the 100 kΩ pull to analogue ground holds a ball (04, R125): the ball's slice is parked, or no slice serves it. -/
def State.pulled (s : State) (c lane : Nat) : Bool :=
  match s.servedBy c lane with
  | none => true
  | some n => s.parked c n
/-- Whether a slice's PMU is connected: a mode other than DISCONNECTED of an enabled slice that is neither FAILED nor UNCLOCKED nor on the move,
outside ECLIPSE and a gated cluster (04, R125, R129, R134). -/
def State.pmuOn (s : State) (c n : Nat) : Bool :=
  s.pmuMode c n ≠ 0 && s.enabled c n && s.sliceState c n ≠ 4 && s.sliceState c n ≠ 5 && !s.onMove c n && s.seqState c ≠ 7 &&
    s.regN 0x0100 0x00 ≠ 7
/-- Whether a connected PMU in mode FVMI or FIMV turns the driver, the termination and the clamps off (04, R112, R113). -/
def State.pmuForces (s : State) (c n : Nat) : Bool := s.pmuOn c n && (s.pmuMode c n = 1 || s.pmuMode c n = 2)
/-- The current ranges that a slice's PMU has connected (04, R136): during a bumpless change both for 1 µs, then the new one; during a
change with a gap none while the ball is open. -/
def State.pmuRanges (s : State) (c n : Nat) : List Nat :=
  let x := s.slice c n
  let new := s.regN (peIdx 0x04 c) n
  match x.settle with
  | none => [new]
  | some e =>
    let since := s.clock + usEt 10 - e
    if x.gap then (if since < nsEt (2000 + Config.rangeGap c n % 3001) then [] else [new])
    else if since < usEt 1 then [x.oldRange, new] else [new]

/-- Whether a slice's timing domain is being rehomed: its driver is off (05, table of rehome steps). -/
def State.onRehome (s : State) (c n : Nat) : Bool :=
  match (s.pe c).rehome with
  | some r => n < 24 && s.regN (peIdx 0x28 c) n = r.unit
  | none => false

/-- What the driver of a slice puts on its ball: 0 off, 1 VIL, 2 VIH (04, R112, R121, R125, R128, R129, R130; 11, R346). -/
def State.driver (s : State) (c n : Nat) : Nat :=
  if s.parked c n || s.pmuForces c n || s.lvlclr c ≠ 0 || s.onRehome c n || n = 24 && s.looped c then 0
  else match s.regN (peIdx 0x01 c) n with
    | 0 => (s.slice c n).drive
    | 3 => 0
    | f => f

/-- Whether a slice's termination and clamps act: its driver is off, and neither parking, a forcing PMU nor a LOOPBACK turns them off
(04, R113, R125; 11, R346). -/
def State.receives (s : State) (c n : Nat) : Bool :=
  s.driver c n = 0 && !s.parked c n && !s.pmuForces c n && !(n = 24 && s.looped c)
/-- The termination that acts at a slice: 0 none, 1 50 Ω to VTT, 2 the active load (04, R113). -/
def State.termination (s : State) (c n : Nat) : Nat := if s.receives c n then s.actN (peIdx 0x02 c) n else 0
/-- The currents IOH and IOL, in nA, that a slice's active load can carry: 0 at clear codes (04, R121, R129). -/
def State.loadCurrents (s : State) (c n : Nat) : Int × Int :=
  if s.lvlclr c = 0 ∧ s.termination c n = 2 then ((s.act? (peIdx 0x11 c) n).toInt, (s.act? (peIdx 0x12 c) n).toInt) else (0, 0)

/-- What level DAC `k` of a slice is set to, in µV, in the order VIH VIL VOH VOL VTT CLH CLL: the active level, or the active clear code
while LVLCLR_STATE is not normal (04, R121, R123, R129, R130). -/
def State.levelOut (s : State) (c n k : Nat) : Int := (s.act? (peIdx ((if s.lvlclr c = 0 then 0x0A else 0x13) + k) c) n).toInt
/-- The code that a level DAC takes for a level in µV: (V + 1.5 V) × 262,143 / 5.5 V to the nearest integer, halves upward (04, R115). -/
def dacCode (v : Int) : Nat := (((v + 1500000) * 262143 * 2 + 5500000) / 11000000).toNat
/-- The code that level DAC `k` of a slice applies. -/
def State.levelCode (s : State) (c n k : Nat) : Nat := dacCode (s.levelOut c n k)
/-- The levels between which the clamps of a slice hold the ball, while they act (04, R113). -/
def State.clamps (s : State) (c n : Nat) : Option (Int × Int) :=
  if s.receives c n then some (s.levelOut c n 6, s.levelOut c n 5) else none

/-- COMP_STATE of a slice (04, R114): 0 L, 1 M, 2 H. A ball's level is the world's, and a FAILED slice's result is not assured; a slice whose
ball switch is open judges 0 V against VOH and VOL, and what it shows at a threshold of 0 V itself is free (log entry 29). -/
def State.compState (s : State) (c n : Nat) : Nat :=
  let free := Config.comparator c n s.clock % 3
  if !s.switchOpen c n || s.sliceState c n = 4 || n = 24 && s.looped c then free
  else if s.levelOut c n 2 < 0 then 2
  else if 0 < s.levelOut c n 3 then 0
  else if s.levelOut c n 3 < 0 ∧ 0 < s.levelOut c n 2 then 1
  else free

/-- The 17 per-slice objects with the effect rule load: TERM_MODE and 0x0A to 0x19 (04, R118). -/
def isLoadObj (obj : Nat) : Bool := obj = 2 || (0x0A ≤ obj && obj ≤ 0x19)

/-- Make active the written values of every key that `sel` picks (02, R52). -/
def State.activateKeys (s : State) (sel : Nat → Bool) : State :=
  let kept := s.act.filter (fun e => !sel e.1)
  { s with act := (s.regs.filter (fun e => sel e.1)).foldr (fun e m => SMap.set romDefault m e.1 e.2) kept }

/-- Keys of the load objects of cluster `c`. -/
def loadKey (c k : Nat) : Bool :=
  let i := k / 134217728 / 256
  peIdx 0 c ≤ i && i < peIdx 0x1A c && isLoadObj (i - peIdx 0 c)

/-- Whether a load object of slice `n` has a pending value that differs from its active one (LVL_STATUS PENDING). -/
def State.levelPending (s : State) (c n : Nat) : Bool :=
  (List.range 0x1A).any (fun o => isLoadObj o && s.reg (peIdx o c) n ≠ s.act? (peIdx o c) n)

/-- LVL_STATUS of a slice (object 0x1A). -/
def State.lvlStatus (s : State) (c n : Nat) : Word :=
  wd (4 * b2n (s.lvlclr c ≠ 0) + 2 * b2n ((s.pe c).settling.any (fun e => e.2.contains n)) + b2n (s.levelPending c n))

/-- The slices of cluster `c` with an active load value that is listed. -/
def State.loadedSlices (s : State) (c : Nat) : List Nat :=
  (s.act.filterMap (fun e => if loadKey c e.1 then some (e.1 / 134217728 % 256) else none)).eraseDups

/-- The level DACs of a cluster that differ from `was` start their transition (04, R118 step 3, R122). -/
def State.levelsMove (s was : State) (c : Nat) : State :=
  let ns := ((was.loadedSlices c ++ s.loadedSlices c).eraseDups).filter
    (fun n => (List.range 7).any (fun k => was.levelOut c n k ≠ s.levelOut c n k))
  if ns = [] then s else s.onPe c (fun p => { p with settling := p.settling ++ [(s.clock, ns)] })

/-- LVLCLR_STATE of a cluster takes a value, and its levels move with it. -/
def State.setLvlclr (s : State) (c v : Nat) : State := (s.setRegN (peIdx 0x1F c) 0xF6 v).levelsMove s c

/-- A LOAD strobe reaches a cluster (04, R118, R123, R130): every pending load value becomes active in one step; a released
cluster leaves its clear codes; at clear codes that stay, no output changes. A gated cluster takes no notice. -/
def State.loadStrobe (s : State) (c : Nat) : State :=
  if s.seqState c = 7 then s
  else
    let was := s
    let s := s.activateKeys (loadKey c)
    let s := s.when (s.lvlclr c = 2) (fun s => s.setRegN (peIdx 0x1F c) 0xF6 0)
    (s.when (s.lvlclr c = 0) (fun s => s.levelsMove was c)).addReg (peIdx 0x1F c) 0xF5 1

/-! ## The PMU (04, R131 to R137) -/

/-- Full scale of a PMU range in µA (04, table of PMU current ranges). -/
def rangeScale (r : Nat) : Nat :=
  match r with
  | 0 => 2 | 1 => 20 | 2 => 200 | 3 => 2000 | _ => 16000

/-- µA that a slice counts in the budget (04, R134), which goes by PMU_MODE: of the slices whose PMU is disconnected, only those FAILED or
UNCLOCKED are left out. -/
def State.budgetOf (s : State) (c n : Nat) : Nat :=
  if (s.pmuMode c n = 1 || s.pmuMode c n = 2) && s.sliceState c n ≠ 4 && s.sliceState c n ≠ 5 then
    let r := rangeScale (s.regN (peIdx 0x04 c) n)
    if (s.slice c n).settle.isSome then max r (rangeScale (s.slice c n).oldRange) else r
  else 0

/-- The slices of a cluster whose PMU_MODE is written non-zero. -/
def State.pmuSlices (s : State) (c : Nat) : List Nat :=
  s.regs.filterMap (fun e =>
    let i := e.1 / 134217728
    if i / 256 = peIdx 0x03 c ∧ i % 256 < 25 then some (i % 256) else none)

/-- PMU_BUDGET_CLUSTER. -/
def State.budgetCluster (s : State) (c : Nat) : Nat := (s.pmuSlices c).foldl (fun n k => n + s.budgetOf c k) 0
/-- PMU_BUDGET_DEVICE. -/
def State.budgetDevice (s : State) : Nat := (List.range 48).foldl (fun n c => n + s.budgetCluster c) 0

/-- Whether PMU_FI lies within the full scale of a slice's range (04, R132); PMU_FI counts pA, the full scale µA. -/
def State.fiFits (s : State) (c n : Nat) : Bool :=
  (s.reg (peIdx 0x06 c) n).toInt.natAbs ≤ rangeScale (s.regN (peIdx 0x04 c) n) * 1000000

/-- The level relations of R116 among seven objects from `base` in the order VIH VIL VOH VOL VTT CLH CLL. -/
def State.levelsOk (s : State) (c n base : Nat) : Bool :=
  let v := fun k => (s.reg (peIdx (base + k) c) n).toInt
  let vih := v 0; let vil := v 1; let voh := v 2; let vol := v 3; let vtt := v 4; let clh := v 5; let cll := v 6
  cll ≤ vil && vil ≤ vih && vih ≤ clh && cll ≤ vtt && vtt ≤ clh && vol ≤ voh && 500000 ≤ clh - cll

/-- PMU_RANGE takes a value that differs: SETTLING for 10 µs, the old range kept in the count, in the way that RANGE_CHANGE asks for
(04, R134, R136, R137). -/
def State.pmuRangeChange (s : State) (c n old : Nat) : State :=
  s.onSlice c n (fun x => { x with oldRange := old, settle := some (s.clock + usEt 10), gap := s.regN (peIdx 0x09 c) n = 1 })

/-- PMU_STATUS SETTLING, bit 1 (object 0x1E). -/
def State.pmuSettling (s : State) (c n : Nat) : Bool := (s.slice c n).settle.isSome

/-- PMU_STATUS of a slice (object 0x1E): OVER_RANGE as the last sample left it, SETTLING, and COMPLIANCE while a PMU in FVMI or FIMV limits
(04, R131, R137). -/
def State.pmuStatus (s : State) (c n : Nat) : Word :=
  setBit (setBit (s.reg (peIdx 0x1E c) n) 1 (s.pmuSettling c n)) 0 (s.pmuForces c n && Config.limiting c n s.clock)

/-! ## Lanes on the move (04, R138 to R150) -/

/-- A Constellation map change raises the cluster's role epoch by one, modulo 256 (04, R141). -/
def State.epochUp (s : State) (c : Nat) : State := s.onPe c (fun p => { p with epoch := (p.epoch + 1) % 256 })

/-- Copy one word of an object of cluster `c` from one sub-index or word to another, active and pending, as an internal write; a value that
waits for a boundary waits there too (05, R168). -/
def State.copyVal (s : State) (c i : Nat) (sub w sub' w' : Nat) (block : Bool) : State :=
  let k := odKey i sub w
  let k' := odKey i sub' w'
  let ws := (s.sq c).writes
  let s := if ws = [] then s else s.onSq c (fun q => { q with
    writes := ws.filter (fun e => e.1 ≠ k') ++ (ws.filter (fun e => e.1 = k)).map (fun e => (k', e.2)) })
  let v := s.reg i sub w
  let a := s.act? i sub w
  let s := if block then s.journalAt 2 i sub' 0 s.now s.internal false (wd (w' * 16384)) else s.journalAt 1 i sub' 0 s.now s.internal false v
  (s.setRegW i sub' w' v).setAct i sub' w' a

/-- Copy a slice's values onto another slice: objects 0x00 to 0x19, its six edges, DRIVE_FORMAT and STROBE_MODE in all 32
sets, objects 0x20 to 0x27 (04, R140; 05, R168). -/
def State.copySlice (s : State) (c a b : Nat) : State :=
  let was := s
  let s := s.repeat 0x1A (fun o s => s.copyVal c (peIdx o c) a 0 b 0 false)
  let s := s.repeat 32 (fun n s => s.repeat 6 (fun e s => s.copyVal c (tsIdx c n) (6 * a + e) 0 (6 * b + e) 0 false))
  let s := s.repeat 32 (fun n s => (s.copyVal c (tsIdx c n) 0xF1 a 0xF1 b true).copyVal c (tsIdx c n) 0xF2 a 0xF2 b true)
  (s.repeat 8 (fun k s => s.copyVal c (peIdx (0x20 + k) c) a 0 b 0 false)).levelsMove was c

/-- SPARE_LANE takes a value by a write (04, R143, R144): lanes are copied, the map and the epoch change, the move begins. -/
def State.moveLane (s : State) (c old new : Nat) : State :=
  if old = new then s
  else
    let s := s.when (old < 24) (fun s => s.copySlice c 24 old)
    let s := s.when (new < 24) (fun s => s.copySlice c new 24)
    let s := s.when (new < 24) (fun s => s.setRegN (peIdx 0x1F c) 0xF9 (s.lostLanes c &&& (0xFFFFFF ^^^ 2 ^ new)))
    (s.epochUp c).onPe c (fun p => { p with moving := some (((match p.moving with | some m => m.1 | none => []) ++ [old, new].filter (fun l => l < 24)).eraseDups, new) })

/-- The slices show the map that SPARE_LANE holds: SLICE_STATE and LANE (04, table of slice states). -/
def State.showMap (s : State) (c spare : Nat) : State :=
  let s := s.repeat 24 (fun n s =>
    let st := s.sliceState c n
    if 4 ≤ st then s.setRegN (peIdx 0x1D c) n 0xFF
    else if n = spare then (s.setRegN (peIdx 0x1C c) n 3).setRegN (peIdx 0x1D c) n 0xFF
    else (s.setRegN (peIdx 0x1C c) n 0).setRegN (peIdx 0x1D c) n n)
  if s.sliceState c 24 = 4 then s.setRegN (peIdx 0x1D c) 24 0xFF
  else (s.setRegN (peIdx 0x1C c) 24 (if spare < 24 then 2 else 1)).setRegN (peIdx 0x1D c) 24 (if spare < 24 then spare else 0xFF)

/-- A lane becomes lost: its ball parked, its bit in LOST_LANES set, LANE_LOST logged (04, R148). -/
def State.loseLane (s : State) (c l code : Nat) : State :=
  let s := s.setRegN (peIdx 0x1F c) 0xF9 (s.lostLanes c ||| 2 ^ l)
  s.logPut 0x0402 (wd (c * 2 ^ 34 + l * 2 ^ 29 + code)) 0

/-- Meridian time at which the cluster's present segment began: the run start, or tb of the boundary that opened it (06, R198). -/
def State.segBegan (s : State) (c : Nat) : U80 :=
  s.meridianOf ((SMap.get (fun _ => SeqSt.idle) s.seqs c).segFrom / 32)

/-- A slice goes to a state that takes it out of service: driver and ball switch open. -/
def State.sliceOut (s : State) (c n st : Nat) : State :=
  let s := (s.setRegN (peIdx 0x1C c) n st).setRegN (peIdx 0x1D c) n 0xFF
  s.onSlice c n (fun _ => SliceSt.idle)

/-- The reaction to a slice fault with t0 in the segment that began at `seg` (04, R144, R148, R149). -/
def State.sliceFault (s : State) (c n code : Nat) (t0 : U80) (at0 : Nat) (seg : U80) : State :=
  let st := s.sliceState c n
  if n = 24 then
    if st = 2 then
      let l := s.spareLane c
      ((s.sliceOut c 24 4).loseLane c l code).epochUp c
    else if st = 4 then s
    else (s.sliceOut c 24 4).logPut 0x0403 (wd (c * 2 ^ 34 + code)) 0
  else if st = 3 ∨ st = 5 then s.sliceOut c n 4
  else if st ≠ 0 then s
  else if s.sliceState c 24 = 1 then
    let r : Recovery := ⟨n, n, code, t0, at0, seg⟩
    let s := s.sliceOut c n 4
    let s := s.copySlice c n 24
    let s := s.internalWrite (peIdx 0x1F c) 0xF2 (wd n)
    (s.epochUp c).onPe c (fun p => { p with swap := some r, swapFlag := true })
  else ((s.sliceOut c n 4).loseLane c n code).epochUp c

/-- The reaction to a timing-domain fault with t0 in the segment that began at `seg` (05, R171, R173). -/
def State.domainFault (s : State) (c d code : Nat) (t0 : U80) (at0 : Nat) (seg : U80) : State :=
  let failed := s.regN (peIdx 0x29 c) 0xF0
  if failed.testBit d then s
  else
    let s := s.setRegN (peIdx 0x29 c) 0xF0 (failed ||| 2 ^ d)
    if d = 6 then
      let lane := s.spareLane c
      let served := s.sliceState c 24 = 2
      let s := (s.sliceOut c 24 4).logPut 0x0403 (wd (c * 2 ^ 34 + code)) 0
      let s := s.when served (fun s => s.loseLane c lane code)
      let onTd6 := (List.range 24).filter (fun n => s.regN (peIdx 0x28 c) n = 6 && s.sliceState c n ≠ 4)
      let s := onTd6.foldl (fun s n =>
        let serves := s.sliceState c n = 0
        (s.sliceOut c n 5).when serves (fun s => s.loseLane c n code)) s
      s.when (served || !onTd6.isEmpty) (fun s => s.epochUp c)
    else if failed % 64 ≠ 0 ∨ failed.testBit 6 then
      let mine := (List.range 24).filter (fun n => s.regN (peIdx 0x28 c) n = d && s.sliceState c n ≠ 4)
      let lost := mine.filter (fun n => s.sliceState c n = 0)
      let s := mine.foldl (fun s n =>
        let serves := s.sliceState c n = 0
        (s.sliceOut c n 5).when serves (fun s => s.loseLane c n code)) s
      s.when (!lost.isEmpty) (fun s => s.epochUp c)
    else s.onPe c (fun p => { p with rehome := some ⟨0, d, code, t0, at0, seg⟩, rehomeFlag := true })

/-- Whether a domain fault will be answered by a rehome, as the cluster stands: TD0 to TD5, the first of the cluster, TD6 healthy (05, R171). -/
def State.rehomes (s : State) (c cause d : Nat) : Bool := 3 < cause && d < 6 && s.regN (peIdx 0x29 c) 0xF0 = 0
/-- Whether a slice fault will be answered by a swap: a serving slice, slice 24 free (04, R144). -/
def State.swaps (s : State) (c cause n : Nat) : Bool := cause ≤ 3 && n < 24 && s.sliceState c n = 0 && s.sliceState c 24 = 1

/-- A slice or domain fault of a cluster: handled now, or after the recovery or lane move that runs (05, R175); results carry the flag of the
recovery that answers it from t0 on (04, R146; 05, R172). -/
def State.peFault (s : State) (c cause detail code : Nat) (t0 : U80) (at0 : Nat) (seg : U80) : State :=
  if (s.pe c).swap.isSome || (s.pe c).rehome.isSome || (s.pe c).moving.isSome then
    s.onPe c (fun p => { p with
      swapFlag := p.swapFlag || s.swaps c cause detail, rehomeFlag := p.rehomeFlag || s.rehomes c cause detail
      waiting := p.waiting ++ [(cause, detail, code, t0, at0, seg)] })
  else if cause ≤ 3 then s.sliceFault c detail code t0 at0 seg
  else s.domainFault c detail code t0 at0 seg

/-- The next fault that waited for a recovery of the cluster. -/
def State.peNext (s : State) (c : Nat) : State :=
  match (s.pe c).waiting with
  | [] => s
  | w :: ws => (s.onPe c (fun p => { p with waiting := ws })).peFault c w.1 w.2.1 w.2.2.1 w.2.2.2.1 w.2.2.2.2.1 w.2.2.2.2.2

/-- Faults that wait keep the flag of the recovery that will answer them. -/
def State.waitsFor (s : State) (c : Nat) (swap : Bool) : Bool :=
  (s.pe c).waiting.any (fun w => if swap then s.swaps c w.1 w.2.1 else s.rehomes c w.1 w.2.1)

/-- The flagging of a recovery ends at t1 when the sequencer is not in RUN; else at the end of the segment (05, R172). -/
def State.endFlags (s : State) (c : Nat) : State :=
  s.onPe c (fun p => { p with
    swapFlag := p.swapFlag && (p.swap.isSome || s.waitsFor c true), rehomeFlag := p.rehomeFlag && (p.rehome.isSome || s.waitsFor c false) })

/-- FAIL_QUEUE in effect of a cluster. -/
def State.failQueue (s : State) (c : Nat) : Nat := s.actN (seqIdx 0x03 c) 0x01

/-- Enqueue an item of the cluster's sequencer in its fail queue, when it names one (06, R213); behind the fail items that still wait for the
next play's crowding check (05, R166). -/
def State.failItem (s : State) (c : Nat) (ls : List LineData) : State :=
  let q := s.failQueue c
  if 65536 ≤ q then s
  else match (s.sq c).failRec with
    | some r => s.onSq c (fun x => { x with failRec := some { r with after := r.after ++ [(q, ls)] } })
    | none => s.qItem q c ls

/-- A MARKER of two cells (10, table MARKER cells): SUBTYPE and the fields of part 0, with t0, t1 and the segment start. -/
def markerLines (c subtype fields : Nat) (t0 t1 seg : U80) (w5 : Word) (p1w3 p1w4 : Word) : List LineData :=
  [ mkLine 0xC 0 false (wd (subtype * 2 ^ 36 + fields + c * 1024)) (loWord t0) (hiWord t0) (loWord seg) (hiWord seg) w5,
    mkLine 0xC 0 false (wd (subtype * 2 ^ 36 + 2 ^ 35 + c * 1024)) (loWord t1) (hiWord t1) p1w3 p1w4 0 ]

/-- At t1 the spare switch closes (04, R144, R147): slice 24 serves the lane, the marker, the log record and the occurrence. -/
def State.swapDone (s : State) (c : Nat) : State :=
  match (s.pe c).swap with
  | none => s
  | some r =>
    let ns := (s.clock - r.at0) / 4096
    let s := s.onPe c (fun p => { p with swap := none })
    let s := (s.setRegN (peIdx 0x1C c) 24 2).setRegN (peIdx 0x1D c) 24 r.lane
    let s := s.setRegN (peIdx 0x1F c) 0xF8 ns
    let s := s.failItem c (markerLines c 1 (r.lane * 2 ^ 23 + r.unit * 2 ^ 18) r.t0 s.now r.segBegan (wd r.code) 0 0)
    let s := s.logPut 0x0401 (wd (c * 2 ^ 34 + r.lane * 2 ^ 29 + r.unit * 2 ^ 24 + r.code)) (wd (ns / 1000))
    let s := s.raiseEvent 0x5004 s.now
    let s := s.when (s.seqState c ≠ 3) (fun s => s.endFlags c)
    s.peNext c

/-- At t1 the rehomed slices go on on TD6; their drivers stay off until a vector's edges reach them (05, R171 to R174). -/
def State.rehomeDone (s : State) (c : Nat) : State :=
  match (s.pe c).rehome with
  | none => s
  | some r =>
    let ns := (s.clock - r.at0) / 4096
    let s := s.onPe c (fun p => { p with rehome := none })
    let s := s.repeat 4 (fun k s => (s.setRegN (peIdx 0x28 c) (4 * r.unit + k) 6).onSlice c (4 * r.unit + k) (fun x => { x with drive := 0 }))
    let s := s.setRegN (peIdx 0x29 c) 0xF1 ns
    let s := s.when (s.devState ≠ 2) (fun s =>
      s.failItem c (markerLines c 2 (r.unit * 2 ^ 25) r.t0 s.now r.segBegan (wd r.code) 0 0))
    let s := s.logPut 0x0404 (wd (c * 2 ^ 34 + r.unit * 2 ^ 24 + r.code)) (wd (ns / 1000))
    let s := s.raiseEvent 0x5004 s.now
    let s := s.when (s.seqState c ≠ 3) (fun s => s.endFlags c)
    s.peNext c

/-- Whether strobes on a slice report a fail whatever the ball: its lane is being swapped or its domain rehomed (04, R146; 05, R171). -/
def State.strobesFail (s : State) (c lane : Nat) : Bool :=
  (s.lostLanes c).testBit lane ||
  (match (s.pe c).swap with | some r => r.lane = lane | none => false) ||
  (match (s.pe c).rehome, s.servedBy c lane with
   | some r, some n => s.regN (peIdx 0x28 c) n = r.unit
   | _, _ => false)

/-- MAP_DIRTY of a cluster: SPARE_LANE differs from what the active user bank, the factory Almanac or the ROM gives (04, R150). -/
def State.mapDirty (s : State) (c : Nat) : Bool :=
  let k := odKey (peIdx 0x1F c) 0xF2 0
  let bank := match s.regN 0x0300 0x01 with
    | 1 => SMap.get (fun _ => none) s.alm.bankA.entries k
    | 2 => SMap.get (fun _ => none) s.alm.bankB.entries k
    | _ => none
  let stored := match bank with
    | some v => v
    | none => (SMap.get (fun _ => none) s.alm.factory k).getD (romDefault k)
  stored ≠ s.reg (peIdx 0x1F c) 0xF2

/-! ## Timing sets (05) -/

/-- OFF of an edge. -/
def edgeOff : Nat := 0xFFFFFFFFFF

/-- The data transitions of a drive format, in et from the cycle start (05, R158). -/
def dataTimes (fmt e1 e2 : Nat) : List Nat :=
  match fmt with
  | 0 => [e1]
  | 3 => [0, e1, e2]
  | _ => [e1, e2]

/-- Whether neighbours of a rising list, and its last to the period plus its first, lie at least 1,280 et apart. -/
def spaced (p : Nat) (l : List Nat) : Bool :=
  (l.zip (l.drop 1)).all (fun e => e.1 + 1280 ≤ e.2) && l.getLastD 0 + 1280 ≤ p + l.headD 0

/-- The first failing item of R162 for one slice: its abort code, or 0 when it is legal (05, R162, R163). -/
def sliceLegal (p fmt mode e0 e1 e2 e3 c0 c1 : Nat) : Nat :=
  let off := edgeOff
  let es := [e0, e1, e2, e3, c0, c1]
  let ts := dataTimes fmt e1 e2
  if es.any (fun e => e ≠ off && p ≤ e) then 0x78
  else if es.all (fun e => e = off) then 0
  else if e1 = off ∨ (fmt ≠ 0 ∧ (e2 = off ∨ e2 ≤ e1)) then 0x79
  else if e0 ≠ off ∧ (if fmt = 3 then 0 else e1) < e0 then 0x79
  else if !spaced p ts then 0x7A
  else if p + (if e3 = off then 0 else e3) < ts.getLastD 0 + 1280 then 0x7A
  else if mode = 0 then
    if c0 ≠ off ∧ c1 ≠ off ∧ (max c0 c1 < min c0 c1 + 1280 ∨ p + min c0 c1 < max c0 c1 + 1280) then 0x7A else 0
  else if c0 = off ∨ c1 = off ∨ c1 ≤ c0 then 0x79
  else if c1 < c0 + 1280 ∨ p + c0 < c1 + 1280 then 0x7A else 0

/-- The first failing slice and item of a timing set as it would stand (05, R164). -/
def State.setLegal (s : State) (i : Nat) : Nat :=
  let p := s.regN i 0xF0
  (List.range 25).foldl (fun r n =>
    if r ≠ 0 then r
    else
      let e := fun k => s.regN i (6 * n + k)
      sliceLegal p (s.regN i 0xF1 n) (s.regN i 0xF2 n) (e 0) (e 1) (e 2) (e 3) (e 4) (e 5)) 0

/-- Whether a written value of a timing set waits for a boundary (0xF3 PENDING). -/
def State.setPending (s : State) (i : Nat) : Bool :=
  let sel := fun (e : Nat × Word) => e.1 / 134217728 / 256 = i
  s.regs.filter sel ≠ s.act.filter sel

end Sys2Proof.Machine
end

