-- ==== Sys2Proof/Machine/Arbiter.lean ====
section
/-! DEFINITION. Machine/Arbiter.lean: how an arbiter grants one of the requests that wait at it (15, R444 to R446). -/

namespace Sys2Proof.Machine

/-- Arbiter `a`: 0 to 63 pseudo-channel, 64 to 95 cache bank, 96 to 99 egress, 100 OD service. -/
def State.arb (s : State) (a : Nat) : ArbSt := SMap.get (fun _ => ArbSt.idle) s.mem.arbs a
/-- Put arbiter `a`. -/
def State.setArb (s : State) (a : Nat) (x : ArbSt) : State :=
  { s with mem := { s.mem with arbs := SMap.set (fun _ => ArbSt.idle) s.mem.arbs a x } }

/-- Class of a requester: 2 privileged, 1 reserved, 0 normal (15, table of requesters). -/
def reqClass (r : Nat) : Nat := if r = 1 ∨ r = 11 then 2 else if r = 0 ∨ r = 2 then 1 else 0
/-- Whether a requester goes to an arbiter (15, table of requesters). -/
def reqAt (r a : Nat) : Bool :=
  if r ≤ 8 then a < 64 else if r ≤ 10 then 64 ≤ a && a < 96 else if r ≤ 13 then 96 ≤ a && a < 100 else a = 100
/-- Base priority of a requester, in effect. -/
def State.reqBase (s : State) (r : Nat) : Nat := s.actN 0x0C01 0 r % 16
/-- The order of requester instances in a round. -/
def reqKey (e : Nat × Nat × Nat) : Nat := e.2.1 * 16 + e.1 + 1

/-- Among waiting instances of one class and one priority, the next one after the last granted (15, R444). -/
def nextInRound (last : Nat) (l : List (Nat × Nat × Nat)) : Option (Nat × Nat × Nat) :=
  let least := fun (l : List (Nat × Nat × Nat)) => l.foldl (fun (b : Option (Nat × Nat × Nat)) e => match b with
    | none => some e
    | some x => if reqKey e < reqKey x then some e else some x) none
  match least (l.filter (fun e => last < reqKey e)) with
  | some e => some e
  | none => least l

/-- The decision of an arbiter among waiting instances (15, R444). -/
def ArbSt.pick (x : ArbSt) (among : List (Nat × Nat × Nat)) : Option (Nat × Nat × Nat) :=
  let cls := among.foldl (fun m e => max m (reqClass e.1)) 0
  let l := among.filter (fun e => reqClass e.1 = cls)
  let pri := l.foldl (fun m e => max m e.2.2) 0
  nextInRound x.last (l.filter (fun e => e.2.2 = pri))

/-- Requests come to an arbiter, and it grants one of those that `may` admits: the others of its class age, the granted one returns to its
base (15, R444, R445). -/
def State.arbTurn (s : State) (a : Nat) (asks : List (Nat × Nat)) (may : Nat × Nat → Bool) : State :=
  let x := s.arb a
  let here := asks.filter (fun e => reqAt e.1 a)
  let fresh := here.filter (fun e => !x.waiting.any (fun w => w.1 = e.1 && w.2.1 = e.2))
  let x : ArbSt := { x with waiting := x.waiting ++ (fresh.eraseDups).map (fun e => (e.1, e.2, s.reqBase e.1)) }
  match x.pick (x.waiting.filter (fun e => may (e.1, e.2.1))) with
  | none => s.setArb a x
  | some g =>
    let rest := (x.waiting.filter (fun e => e ≠ g)).map (fun (e : Nat × Nat × Nat) => if reqClass e.1 = reqClass g.1 then (e.1, e.2.1, min 15 (e.2.2 + 1)) else e)
    s.setArb a { x with waiting := rest, last := reqKey g, grant := some (g.1, g.2.1, s.clock, s.actN 0x0C00 2) }

/-- An arbiter decides among everything that waits at it (15, R444). -/
def State.arbGrant (s : State) (a : Nat) (asks : List (Nat × Nat)) : State := s.arbTurn a asks (fun _ => true)

end Sys2Proof.Machine
end

