-- ==== Sys2Proof/Machine/Halo.lean ====
section
/-! DEFINITION. Machine/Halo.lean: Halo links (12): ports, lanes, codewords, frames, credits, replay, routes, ring wrap, remote requests. -/

namespace Sys2Proof.Machine

/-- Port `p` beside its objects. -/
def State.port (s : State) (p : Nat) : PortSt := SMap.get (fun _ => PortSt.idle) s.halo.ports p
/-- Put port `p`. -/
def State.setPort (s : State) (p : Nat) (x : PortSt) : State :=
  { s with halo := { s.halo with ports := SMap.set (fun _ => PortSt.idle) s.halo.ports p x } }
/-- Change port `p`. -/
def State.onPort (s : State) (p : Nat) (f : PortSt → PortSt) : State := s.setPort p (f (s.port p))

/-- STATE of port `p`: 0 DISABLED, 1 DOWN, 2 TRAINING, 3 UP, 4 ISOLATED (12, table of port states). -/
def State.portState (s : State) (p : Nat) : Nat := s.regN (0x1110 + p) 0x07
/-- ROLE of port `p`: 0 LOCAL, 1 RING, 2 PARENT, 3 CHILD. -/
def State.portRole (s : State) (p : Nat) : Nat := s.regN (0x1110 + p) 0x01
/-- Whether a port is UP with a ROLE that is not 0: the ports a broadcast uses (12, R363). -/
def State.portOpen (s : State) (p : Nat) : Bool := s.portState p = 3 && s.portRole p ≠ 0
/-- RING_SIZE. -/
def State.ringSize (s : State) : Nat := s.regN 0x1102 0x00
/-- RING_POS. -/
def State.ringPos (s : State) : Nat := s.regN 0x1102 0x01
/-- The link that ring port `p` (H0 or H1) ends: b joins position b to b + 1, H0 of b to H1 of b + 1 (12, R358). -/
def State.ringLink (s : State) (p : Nat) : Nat :=
  if p = 0 then s.ringPos else (s.ringPos + s.ringSize - 1) % s.ringSize
/-- Whether link `b` is listed in BROKEN. -/
def State.linkBroken (s : State) (b : Nat) : Bool :=
  (List.range 8).any (fun i => let w := s.reg 0x1102 0x02 i; bit w 24 && fld w 0 24 = b)

/-- A word of a frame's payload; 0 beyond its end. -/
def fpay (f : Frame) (i : Nat) : Word := f.payload.getD i 0

/-- The words of a frame, W0 to W(LEN + 1), without LSEQ and CRC (12, bit map of a frame). -/
def frameWords (f : Frame) : List Word :=
  wd (f.ty.toNat * 2 ^ 36 + b2n f.vc * 2 ^ 35 + f.payload.length * 2 ^ 25 + f.dest.toNat) ::
    wd (f.src.toNat * 65536 + f.hops.toNat) :: f.payload

/-- A frame from its fields; what this device originates starts with HOPS 0 on VC0. -/
def mkFrame (ty dest src : Nat) (payload : List Word) : Frame :=
  ⟨BitVec.ofNat 4 ty, false, BitVec.ofNat 24 dest, BitVec.ofNat 24 src, 0, payload⟩

/-- The class of a frame type at an egress (12, R353); LINK_INFO goes with the control words. -/
def frameClass (ty : Nat) : Nat :=
  match ty with
  | 0xA => 1
  | 0x6 | 0x7 | 0x8 => 2
  | 0x5 | 0x4 | 0x9 => 3
  | 0x3 => 4
  | _ => 5

/-- The VC a frame leaves port `out` on, coming from port `inp` or from this device (12, R362). -/
def State.vcFor (s : State) (inp : Option Nat) (out : Nat) (f : Frame) : Bool :=
  if s.regB (0x1110 + out) 0x04 then true
  else match inp with
    | none => false
    | some p => if s.portRole out = 1 ∧ (s.portRole p = 2 ∨ s.portRole p = 3) then false else f.vc

/-- Put a frame to the egress of port `out` (12, R353). `fills`: it is the frame in a buffer of port `inp`, which it leaves when it is
sent (R351). -/
def State.egress (s : State) (inp : Option Nat) (out : Nat) (f : Frame) (fills : Bool := false) : State :=
  let e : TxFrame := ⟨frameClass f.ty.toNat, { f with vc := s.vcFor inp out f }, inp, if fills then some f.vc else none⟩
  s.onPort out (fun x => { x with txq := x.txq ++ [e] })

/-- Send a control word on port `p` (12, table of control words). -/
def State.control (s : State) (p kind v : Nat) : State :=
  s.onPort p (fun x => { x with ctl := x.ctl ++ [wd (2 ^ 36 + kind * 2 ^ 32 + v)] })

/-- Count a discarded frame or control word of port `p`. -/
def State.discard (s : State) (p : Nat) (n : Nat := 1) : State := s.addReg (0x1110 + p) 0x10 n

/-- A buffer of VC `vc` at port `p` is free: its credit goes back (12, R351). -/
def State.freeBuffer (s : State) (p : Nat) (vc : Bool) : State := s.control p 1 (b2n vc * 2 ^ 31 + 2 ^ 24)

/-- A frame that was accepted is dropped: counted, its buffer free. -/
def State.dropFrame (s : State) (p : Nat) (f : Frame) : State := (s.discard p).freeBuffer p f.vc

/-- A frame has left an egress: the buffer that it filled is free when no copy for another egress waits (12, R351). -/
def State.txLeft (s : State) (e : TxFrame) : State :=
  match e.inp, e.owes with
  | some p, some vc =>
    let copy := fun (d : TxFrame) => d.inp = e.inp && d.owes = e.owes && { d.frame with vc := vc } = { e.frame with vc := vc }
    s.when ((List.range 4).all (fun q => !(s.port q).txq.any copy)) (fun s => s.freeBuffer p vc)
  | _, _ => s

/-- HOPS raised by 1, saturating (12, bit map of a frame). -/
def frameHop (f : Frame) : Frame := { f with hops := if f.hops = 0xFFFF then 0xFFFF else f.hops + 1 }

/-- Forward a broadcast frame on every other open port (12, R363). -/
def State.broadcastOn (s : State) (inp : Option Nat) (f : Frame) : State :=
  s.repeat 4 (fun p s => s.when (s.portOpen p && inp ≠ some p) (fun s => s.egress inp p f inp.isSome))

/-- Originate a broadcast frame: BSEQ rises by 1 and goes into [15:0] of the first payload word (12, R363). -/
def State.originate (s : State) (ty : Nat) (p0 : Word) (rest : List Word) : State :=
  let b := s.halo.bseq + 1
  let s := { s with halo := { s.halo with bseq := b } }
  s.broadcastOn none (mkFrame ty 0xFFFFFF s.ownDevice ((p0 ||| wd b.toNat) :: rest))

/-- Whether a broadcast frame is accepted: its (SRC, TYPE, BSEQ) was not accepted within the last 1 ms; if so it is noted
and forwarded, else it is discarded and counted; the buffer of one that goes on to no port is free (12, R351, R363). -/
def State.acceptBroadcast (s : State) (port : Nat) (f : Frame) : Bool × State :=
  let k := (f.src.toNat, f.ty.toNat, fld (fpay f 0) 0 16)
  let recent := s.halo.seen.filter (fun e => s.clock < e.2.2.2 + msEt 1)
  if recent.any (fun e => (e.1, e.2.1, e.2.2.1) = k) then
    (false, ({ s with halo := { s.halo with seen := recent } } : State).dropFrame port f)
  else
    let s := { s with halo := { s.halo with seen := recent ++ [(k.1, k.2.1, k.2.2, s.clock)] } }
    (true, (s.broadcastOn (some port) (frameHop f)).when (!(List.range 4).any (fun p => s.portOpen p && p ≠ port)) (fun s => s.freeBuffer port f.vc))

/-! ## Routes (12, R360, R361) -/

/-- Whether the path over `n` links from link `b`, stepping by `up`, crosses a broken link. -/
def State.pathBroken (s : State) (b n : Nat) (up : Bool) : Bool :=
  (List.range n).any (fun k => s.linkBroken (if up then (b + k) % s.ringSize else (b + s.ringSize * n - k) % s.ringSize))

/-- The ring port toward gateway position `g` (12, R361). -/
def State.ringPort (s : State) (g : Nat) : Option Nat :=
  let n := s.ringSize
  let p := s.ringPos
  let d := (g + n - p) % n
  if n = 0 ∨ d = 0 then none
  else
    let h0 := s.pathBroken p d true
    let h1 := s.pathBroken ((p + n - 1) % n) (n - d) false
    if !h0 && !h1 then some (if 2 * d ≤ n then 0 else 1)
    else if h0 && h1 then none
    else if h0 then some 1 else some 0

/-- The PARENT port. -/
def State.parentPort (s : State) : Option Nat := (List.range 4).find? (fun p => s.portRole p = 2)

/-- The next hop of a frame for `dest` that arrived on `inp`, or none when it is unroutable (12, R360). -/
def State.route (s : State) (inp : Option Nat) (dest : Nat) : Option Nat :=
  let hit := (List.range 64).find? (fun e =>
    let w0 := s.reg 0x1101 0 (3 * e)
    bit w0 15 && fld w0 16 24 ≤ dest && dest ≤ fld (s.reg 0x1101 0 (3 * e + 1)) 16 24)
  let out := match hit with
    | none => s.parentPort
    | some e =>
      let w0 := s.reg 0x1101 0 (3 * e)
      if bit w0 14 then
        s.ringPort ((fld (s.reg 0x1101 0 (3 * e + 2)) 0 24 + (dest - fld w0 16 24) >>> fld w0 0 5) % s.ringSize)
      else some (fld w0 12 2)
  match out with
  | some p => if s.portState p = 3 ∧ inp ≠ some p then some p else none
  | none => none

/-- Send a frame toward its DEST; an unroutable one is discarded and counted (12, R360). -/
def State.sendFrame (s : State) (inp : Option Nat) (f : Frame) : State :=
  match s.route inp f.dest.toNat with
  | some p => s.egress inp p (if inp.isSome then frameHop f else f)
  | none => s.addReg 0x1100 0x05 1

/-! ## LINK_INFO and the state of a port -/

/-- Whether port `p` ends with a partner able to carry link-local frames. -/
def State.portLink (s : State) (p : Nat) : Bool := s.portState p = 3 || s.portState p = 4

/-- The payload of LINK_INFO of port `p` (12, R374). -/
def State.linkInfo (s : State) (p : Nat) : List Word :=
  [ wd (2 ^ 32 + p * 2 ^ 24 + s.ownDevice), wd (s.ringSize * 65536 + 32 * 256 + 32),
    wd (s.portRole p * 2 ^ 36 + 2 ^ 35 + (if s.regN (0x1110 + p) 0x02 = 2 then 3 else 1) * 2 ^ 32 + s.ringPos) ] ++
    (List.range 8).map (fun i => s.reg 0x1102 0x02 i)

/-- Send LINK_INFO on port `p`. -/
def State.sendLinkInfo (s : State) (p : Nat) : State :=
  s.onPort p (fun x => { x with txq := x.txq ++ [⟨1, mkFrame 0xA 0xFFFFFE s.ownDevice (s.linkInfo p), none, none⟩] })

/-- The checks of R357 for port `p` against the partner's LINK_INFO. A DZ-3 on a RING port is accepted when EXPECT_PEER names it, whatever
role it reports: DEDUCED, log entry 59. -/
def State.portChecks (s : State) (p : Nat) : Bool :=
  let x := s.port p
  let w := fun i => x.peer.getD i 0
  let role := s.portRole p
  let peerRole := fld (w 2) 36 4
  let peerDev := fld (w 0) 0 24
  let expect := s.regN (0x1110 + p) 0x05
  let dz3 := fld (w 0) 32 8 = 2
  let n := s.ringSize
  let pos := s.ringPos
  role ≠ 0 && s.ownDevice ≠ 0xFFFFFD && peerDev ≠ 0xFFFFFD && !x.peer.isEmpty &&
  ((role = 1 && (peerRole = 1 || dz3)) || (role = 2 && peerRole = 3) || (role = 3 && peerRole = 2)) &&
  (expect = 0xFFFFFF || expect = peerDev) &&
  (role ≠ 1 || (if dz3 then expect = peerDev else
    fld (w 1) 16 24 = n && fld (w 2) 0 24 = (if p = 0 then (pos + 1) % n else (pos + n - 1) % n) &&
    fld (w 0) 24 8 = 1 - p))

/-- STATUS of the sync port of port `p`: 0 no partner, 1 measuring, 2 valid, 3 disabled, 4 partner not time-capable (03). -/
def State.syncPortJudge (s : State) (p : Nat) : State :=
  let st := if !s.regB (0x0904 + p) 0x00 then 3 else if s.portState p ≠ 3 then 0
    else if fld ((s.port p).peer.getD 0 0) 32 8 = 2 ∨ !bit ((s.port p).peer.getD 2 0) 35 then 4
    else if s.regN (0x0904 + p) 0x05 = 2 then 2 else 1
  s.setRegN (0x0904 + p) 0x05 st

/-- Judge the checks of R357 for a trained port: UP, and RING_STATE RESTORED due when its ring link was broken (R376), or ISOLATED with
HALO_PEER_MISMATCH logged when it was not so before. -/
def State.judgePort (s : State) (p : Nat) : State :=
  if s.portChecks p then
    let was := s.portState p
    let s := (s.setRegN (0x1110 + p) 0x07 3).syncPortJudge p
    let back := s.portRole p = 1 && p < 2 && s.ringSize ≠ 0 && s.linkBroken (s.ringLink p)
    s.when (was ≠ 3) (fun s => s.onPort p (fun x => { x with since := s.clock, restoring := back }))
  else
    let was := s.portState p
    let s := (s.setRegN (0x1110 + p) 0x07 4).syncPortJudge p
    s.when (was ≠ 4) (fun s => s.logPut 0x0803 (wd p) (wd (fld ((s.port p).peer.getD 0 0) 0 24)))

/-- The checks of R357 are judged again on every linked port. -/
def State.linksJudged (s : State) : State := s.repeat 4 (fun p s => s.when (s.portLink p) (fun s => s.judgePort p))

/-- A change of number, ring, role or BROKEN list: LINK_INFO goes out on every port that is linked or in TRAINING, and the checks are judged
again (12, R374, R357). -/
def State.linksChanged (s : State) : State :=
  (s.repeat 4 (fun p s => s.when (2 ≤ s.portState p) (fun s => s.sendLinkInfo p))).linksJudged

/-- Enter link `b` in BROKEN (12, R375). -/
def State.addBroken (s : State) (b : Nat) : State :=
  if s.linkBroken b then s
  else match (List.range 8).find? (fun i => !bit (s.reg 0x1102 0x02 i) 24) with
    | some i => (s.setRegW 0x1102 0x02 i (wd (2 ^ 24 + b))).linksChanged
    | none => s

/-- Take link `b` out of BROKEN (12, R376). -/
def State.dropBroken (s : State) (b : Nat) : State :=
  if s.linkBroken b then
    (s.repeat 8 (fun i s => s.when (bit (s.reg 0x1102 0x02 i) 24 && fld (s.reg 0x1102 0x02 i) 0 24 = b) (fun s => s.setRegW 0x1102 0x02 i 0))).linksChanged
  else s

/-- RING_STATE on the ring ports but `p`: KIND 1 BROKEN, 2 RESTORED (12, R375, R376). -/
def State.ringState (s : State) (kind b : Nat) : State := s.originate 9 (wd (kind * 2 ^ 36)) [wd b]

/-- The step of a ring wrap at a device beside the broken link, `lost` µs after the link failed (12, R375). -/
def State.ringWrap (s : State) (p lost : Nat) : State :=
  if s.portRole p = 1 ∧ s.ringSize ≠ 0 ∧ p < 2 then
    let b := s.ringLink p
    let s := (s.addBroken b).ringState 1 b
    let s := s.logPut 0x0805 (wd b) (wd lost)
    (s.addReg 0x1102 0x04 1).setReg80 0x1102 0x05 s.now
  else s

/-- The link of port `p` is gone: DOWN, everything waiting for its egress discarded and counted (12, R355). The buffers of other ports that
it filled are free; frames that filled a buffer of port `p` fill none. -/
def State.portLost (s : State) (p : Nat) : State :=
  let left := (s.port p).txq
  let s := s.discard p left.length
  let s := s.setPort p { PortSt.idle with since := s.clock }
  let s := s.repeat 4 (fun q s => s.when ((s.port q).txq.any (fun e => e.inp = some p && e.owes.isSome)) (fun s =>
    s.onPort q (fun x => { x with txq := x.txq.map (fun e => if e.inp = some p then { e with owes := none } else e) })))
  let s := left.foldl (fun s e => s.txLeft e) s
  let s := s.setRegN (0x1110 + p) 0x07 1
  let s := s.setRegN (0x1110 + p) 0x08 0
  let s := s.setRegN (0x1110 + p) 0x09 0
  s.syncPortJudge p

/-- A port goes DOWN on a fault: S2 HALO_PORT, HALO_PORT_DOWN logged, and the ring wraps (12, R355, R375). -/
def State.portDown (s : State) (p lost : Nat) : State :=
  let s := s.portLost p
  let s := s.logPut 0x0802 (wd p) 0
  (s.raiseFault (0x42 + p) 0x11 2 0).ringWrap p lost

/-- A port enters TRAINING and sends LINK_INFO (12, R374). Frames that wait or are held for replay stay: a link loses frames only
when the port goes DOWN (R352). -/
def State.startTraining (s : State) (p : Nat) : State :=
  let s := s.onPort p (fun x => { x with cwHeld := [], stream := [], badCw := [], peer := [], trained := false, restoring := false, since := s.clock })
  (s.setRegN (0x1110 + p) 0x07 2).sendLinkInfo p

/-- Bits set in a mask of four lanes. -/
def lanesOf (m : Nat) : Nat := b2n (m.testBit 0) + b2n (m.testBit 1) + b2n (m.testBit 2) + b2n (m.testBit 3)

/-- Stop dealing to the lanes of a mask; below MIN_WIDTH the port goes DOWN (12, R354). -/
def State.stopLanes (s : State) (p m : Nat) : State :=
  let left := s.regN (0x1110 + p) 0x09 &&& (15 ^^^ (m % 16))
  if lanesOf left < s.regN (0x1110 + p) 0x03 then s.portDown p 0
  else
    let s := s.setRegN (0x1110 + p) 0x09 left
    s.setRegN (0x1110 + p) 0x11 (s.regN (0x1110 + p) 0x11 ||| m % 16)

/-- Whether LANES without the lanes of a mask are at least MIN_WIDTH (12, R354). -/
def State.wideWithout (s : State) (p m : Nat) : Bool :=
  s.regN (0x1110 + p) 0x03 ≤ lanesOf (s.regN (0x1110 + p) 0x09 &&& (15 ^^^ (m % 16)))

/-- A lane is found bad: LANE_DROP sent, S2 HALO_LANE, HALO_LANE_DROPPED logged; a drop that would leave fewer than MIN_WIDTH lanes takes the
port DOWN instead (12, R354). -/
def State.laneBad (s : State) (p lane : Nat) : State :=
  if (s.regN (0x1110 + p) 0x09).testBit lane = false then s
  else if s.wideWithout p (2 ^ lane) then
    let s := s.control p 4 (2 ^ lane)
    let s := s.logPut 0x0801 (wd (p * 4 + lane)) 0
    (s.raiseFault (0x42 + p) 0x10 2 (wd lane)).stopLanes p (2 ^ lane)
  else s.portDown p 0

/-- MIN_WIDTH is written: a linked port that is narrower goes DOWN (12, table of port states). -/
def State.widthJudged (s : State) (p : Nat) : State :=
  s.when (s.portLink p && !s.wideWithout p 0) (fun s => s.portDown p 0)

/-! ## The word stream -/

/-- Discard a frame that cannot be accepted; the first one makes the receiver send NAK with the expected LSEQ (12, R352). -/
def State.refuseFrame (s : State) (p : Nat) : State :=
  let s := s.discard p
  let x := s.port p
  if x.nakWait then s
  else (s.onPort p (fun x => { x with nakWait := true })).control p 3 x.rxSeq.toNat

/-- The step that an accepted frame brings (12; 03). -/
def frameStep (port : Fin 4) (f : Frame) (t : Nat) : Option Instr :=
  match f.ty.toNat with
  | 0x4 => some (.eventFrameRx port f t)
  | 0x5 => some (if fld (fpay f 1) 36 4 = 2 then .teCancelRx port f t else .teIssueRx port f t)
  | 0x6 => some (.syncRx port f t)
  | 0x7 => some (.delayReqRx port f t)
  | 0x8 => some (.delayReplyRx port f t)
  | 0x9 => some (if fld (fpay f 0) 36 4 = 2 then .ringRestoredRx port f t else .ringBrokenRx port f t)
  | 0xA => some (.linkInfoRx port f t)
  | _ => none

/-- Add a frame of an OD train; FRAG 0 starts it, when LAST arrives the whole train is handed on. A request frame that finds the 256-frame
buffer full is discarded with its train (12, R364, R366). -/
def State.trainFrame (s : State) (port : Fin 4) (f : Frame) : State :=
  let reply := f.ty = 3
  let last := if reply then bit (fpay f 0) 3 else bit (fpay f 2) 23
  let frag := if reply then fld (fpay f 0) 4 4 else fld (fpay f 1) 0 4
  let seq := if reply then fld (fpay f 0) 24 16 else fld (fpay f 2) 24 16
  let same := fun (x : Train) => x.dev = f.src.toNat && x.reply = reply && x.seq = seq
  let held := match s.halo.trains.find? same with
    | some x => if frag = 0 then [] else x.frames
    | none => []
  let total := s.halo.trains.foldl (fun n x => if x.reply then n else n + x.frames.length) 0
  let rest := s.halo.trains.filter (fun x => !same x)
  if frag ≠ 0 && held = [] then ({ s with halo := { s.halo with trains := rest } }).discard port
  else if !reply && 256 ≤ total then
    ({ s with halo := { s.halo with trains := rest } }).addReg 0x1100 0x06 1
  else if last then
    ({ s with halo := { s.halo with trains := rest } }).due
      (if reply then .odReplyRx port (held ++ [f]) s.clock else .odRequestRx port (held ++ [f]) .calm s.clock)
  else { s with halo := { s.halo with trains := rest ++ [⟨f.src.toNat, reply, seq, held ++ [f], s.clock⟩] } }

/-- An ACK with the last accepted LSEQ, when frames were accepted since the last one (12, R352). -/
def State.ackFrames (s : State) (p : Nat) : State :=
  let x := s.port p
  if x.unacked = 0 then s else (s.onPort p (fun x => { x with unacked := 0 })).control p 2 (x.rxSeq - 1).toNat

/-- A good frame with the expected LSEQ is accepted: counted, the 16th acknowledged at once (R352), and handled under R360. A frame that ends
here leaves its buffer at once; a broadcast and one that goes on leave it in the step that handles them (R351). -/
def State.takeFrame (s : State) (port : Fin 4) (f : Frame) : State :=
  let p := port.val
  let s := s.addReg80 (0x1110 + p) 0x13 1
  let s := s.onPort p (fun x => { x with rxSeq := x.rxSeq + 1, nakWait := false, unacked := x.unacked + 1 })
  let s := s.when (16 ≤ (s.port p).unacked) (fun s => s.ackFrames p)
  let d := f.dest.toNat
  let free := fun (s : State) => s.when (f.ty ≠ 0xA) (fun s => s.freeBuffer p f.vc)
  if 0xB ≤ f.ty.toNat then (free s).discard p
  else if s.portState p = 4 ∧ d ≠ 0xFFFFFE then (free s).discard p
  else if d = s.ownDevice ∨ d = 0xFFFFFE ∨ d = 0xFFFFFF then
    match frameStep port f s.clock with
    | some i => (s.when (f.ty ≠ 4 && f.ty ≠ 5 && f.ty ≠ 9) free).due i
    | none => if f.ty = 2 ∨ f.ty = 3 then (free s).trainFrame port f else free s
  else s.due (.forwardedFrameRx port f s.clock)

/-- The frame that the words W0 to W(LEN + 2) of a stream spell, with its LSEQ, when it is not corrupted (12, R350). -/
def parseFrame (ws : List Word) : Option (Frame × BitVec 8) :=
  let w0 := ws.getD 0 0
  let len := fld w0 25 7
  let body := ws.take (len + 2)
  let tail := ws.getD (len + 2) 0
  if 96 < len ∨ ws.length ≠ len + 3 ∨ fld w0 32 3 ≠ 0 ∨ bit w0 24 then none
  else if crcWords body ≠ tail.setWidth 32 then none
  else
    some (⟨BitVec.ofNat 4 (fld w0 36 4), bit w0 35, BitVec.ofNat 24 (fld w0 0 24),
      BitVec.ofNat 24 (fld (ws.getD 1 0) 16 24), BitVec.ofNat 16 (fld (ws.getD 1 0) 0 16), body.drop 2⟩,
      BitVec.ofNat 8 (fld tail 32 8))

/-- The words of one frame arrive: accepted, or discarded with a NAK (12, R350, R352). -/
def State.frameIn (s : State) (port : Fin 4) (ws : List Word) : State :=
  match parseFrame ws with
  | none => s.refuseFrame port.val
  | some (f, lseq) => if lseq = (s.port port.val).rxSeq then s.takeFrame port f else s.refuseFrame port.val

/-- A control word arrives (12, table of control words). -/
def State.controlIn (s : State) (port : Fin 4) (w : Word) : State :=
  match fld w 32 4 with
  | 1 => s.due (.creditRx port (bit w 31) (fld w 24 7))
  | 2 => s.due (.ackRx port (BitVec.ofNat 8 (fld w 0 8)))
  | 3 => s.due (.nakRx port (BitVec.ofNat 8 (fld w 0 8)) s.clock)
  | 4 => s.due (.laneDropRx port (BitVec.ofNat 4 (fld w 0 4)) s.clock)
  | 5 => s.due (.laneDropAckRx port (BitVec.ofNat 4 (fld w 0 4)) s.clock)
  | 6 => s.due (.retrainWordRx port s.clock)
  | _ => s.discard port.val

/-- One word of the port's word stream (12, R349). -/
def State.streamWord (s : State) (port : Fin 4) (w : Word) : State :=
  let buf := (s.port port.val).stream
  if buf.isEmpty then
    match fld w 36 4 with
    | 0 => if w = 0 then s else s.refuseFrame port.val
    | 1 => s.controlIn port w
    | _ => if 96 < fld w 25 7 then s.refuseFrame port.val else s.onPort port.val (fun x => { x with stream := [w] })
  else
    let buf := buf ++ [w]
    if fld (buf.getD 0 0) 25 7 + 3 ≤ buf.length then
      (s.onPort port.val (fun x => { x with stream := [] })).frameIn port buf
    else s.onPort port.val (fun x => { x with stream := buf })

/-- Data codewords leave the window in CW_SEQ order, `n` at most. When more than 64 wait, the missing one was lost: the frame
it cut is discarded (12, R349). -/
def State.cwDrain (s : State) (port : Fin 4) : Nat → State
  | 0 => s
  | n + 1 =>
    let x := s.port port.val
    match x.cwHeld.find? (fun e => e.1 = x.cwNext) with
    | some e =>
      let s := s.setPort port.val { x with cwNext := x.cwNext + 1, cwHeld := x.cwHeld.filter (fun d => d.1 ≠ e.1) }
      State.cwDrain (e.2.foldl (fun s w => s.streamWord port w) s) port n
    | none =>
      if 64 < x.cwHeld.length then
        let s := s.setPort port.val { x with cwNext := x.cwNext + 1, stream := [] }
        State.cwDrain (s.when (!x.stream.isEmpty) (fun s => s.refuseFrame port.val)) port n
      else s

/-! ## Sending -/

/-- The frame with the departure stamp the DZ-5 writes as it leaves (12, R372): T_DEP of SYNC, t1 of DELAY_REQ, t3 of DELAY_REPLY. -/
def frameStamped (f : Frame) (now : U80) : Frame :=
  match f.ty.toNat with
  | 6 | 7 => { f with payload := (f.payload.set 1 (loWord now)).set 2 (hiWord now) }
  | 8 => { f with payload := (f.payload.set 3 (loWord now)).set 4 (hiWord now) }
  | _ => f

/-- Credits of port `p` on a VC. -/
def PortSt.credit (x : PortSt) (vc : Bool) : Nat := if vc then x.credit1 else x.credit0

/-- The credits of a VC become `n`; from the instant `t` on there are none when `n` is 0 (12, R362). -/
def PortSt.setCredit (x : PortSt) (vc : Bool) (n t : Nat) : PortSt :=
  let dry := if n = 0 then some t else none
  if vc then { x with credit1 := n, dry1 := dry } else { x with credit0 := n, dry0 := dry }

/-- Since when there is no credit of a VC, unless that was reported. -/
def PortSt.dry (x : PortSt) (vc : Bool) : Option Nat := if vc then x.dry1 else x.dry0

/-- The waiting frames that may be sent now: one of VC v with a credit of v, but LINK_INFO uses none (12, R351); outside UP only LINK_INFO and,
from an ISOLATED port, link-local frames (table of port states). -/
def State.sendable (s : State) (p : Nat) : List TxFrame :=
  let x := s.port p
  let st := s.portState p
  x.txq.filter (fun e => (e.cls = 1 || x.credit e.frame.vc ≠ 0) && (st = 3 || e.cls = 1 || (st = 4 && e.frame.dest = 0xFFFFFE)))

/-- Requester code and instance of a waiting frame at the arbiter of its egress (15, table of requesters): an instance for each class and each
ingress. -/
def TxFrame.asks (e : TxFrame) : Nat × Nat :=
  (if e.cls = 2 then 11 else if e.inp.isSome then 12 else 13, e.cls * 8 + (match e.inp with | none => 0 | some q => q + 1))

/-- The first non-empty class of those frames, and among them the frame that the egress arbiter grants (12, R353; 15, R444). Control words and
LINK_INFO stand before every class and are not arbitrated. -/
def State.pickFrame (s : State) (p : Nat) : Option TxFrame × State :=
  let l := s.sendable p
  match [1, 2, 3, 4, 5].find? (fun c => l.any (fun e => e.cls = c)) with
  | none => (none, s)
  | some 1 => (l.find? (fun e => e.cls = 1), s)
  | some c =>
    let a := 96 + p
    let asks := l.map TxFrame.asks
    let s := s.setArb a { s.arb a with waiting := (s.arb a).waiting.filter (fun w => (w.1, w.2.1) ∈ asks) }
    let s := s.arbTurn a asks (fun r => r.2 / 8 = c)
    match (s.arb a).grant with
    | some (r, n, _) => (l.find? (fun e => e.asks = (r, n)), s)
    | none => (none, s)

/-- What the words of a frame look like on the link: body, then LSEQ and CRC. -/
def frameWire (f : Frame) (lseq : BitVec 8) : List Word :=
  let b := frameWords f
  b ++ [wd (lseq.toNat * 2 ^ 32 + (crcWords b).toNat)]

/-! ## Remote requests (12, R364 to R370) -/

/-- The key under which a target is kept: its number, and the relay port when the request is relayed. -/
def targetKey (dev : Nat) (relay : Option Nat) : Nat := dev * 8 + (match relay with | some p => p + 1 | none => 0)
/-- What is kept of a target. -/
def State.target (s : State) (k : Nat) : Target := SMap.get (fun _ => Target.fresh) s.halo.targets k
/-- Put a target. -/
def State.setTarget (s : State) (k : Nat) (x : Target) : State :=
  let s := { s with halo := { s.halo with targets := SMap.set (fun _ => Target.fresh) s.halo.targets k x } }
  s.setRegN 0x1100 0x04 (s.halo.targets.foldl (fun n e => n + e.2.out.length) 0)

/-- Split a list of words into frames' shares of `n` words, at most `fuel` of them and at least one. -/
def shares (n : Nat) : Nat → List Word → List (List Word)
  | 0, _ => []
  | k + 1, ws => if ws.length ≤ n then [ws] else ws.take n :: shares n k (ws.drop n)

/-- The frames of a request to device `dev` (12, OD_REQUEST payload). -/
def State.requestFrames (s : State) (dev : Nat) (r : RemReq) (reset : Bool) : List Frame :=
  let tx := r.tx
  let op := match tx.op with | .read => 1 | .write => 2 | .describe => 3
  let ep := match tx.req.epoch with | some e => 2 ^ 35 + e.toNat * 2 ^ 27 | none => 0
  let rl := match r.relay with | some p => 2 ^ 22 + p * 2 ^ 20 | none => 0
  let parts := shares 93 12 tx.data
  parts.zipIdx.map (fun e =>
    mkFrame 2 dev s.ownDevice
      ([wd (op * 2 ^ 36 + ep + b2n reset * 2 ^ 24 + tx.idx * 256 + tx.sub),
        wd (tx.off * 16384 + (tx.cnt - 1) * 16 + e.2),
        wd (r.seq.toNat * 2 ^ 24 + b2n (e.2 + 1 = parts.length) * 2 ^ 23 + rl)] ++ e.1))

/-- Send the frames of a request (12, R360): to this device itself they are consumed, an unroutable one is answered 0x0063 here. -/
def State.sendRequest (s : State) (dev : Nat) (r : RemReq) (reset : Bool) : State :=
  let fs := s.requestFrames dev r reset
  if dev = s.ownDevice then fs.foldl (fun s f => s.trainFrame 0 f) s
  else if (s.route none dev).isNone then
    let p0 := wd (r.seq.toNat * 2 ^ 24 + 0x63 * 256 + 8)
    s.due (.odReplyRx 0 [mkFrame 3 s.ownDevice dev [p0, wd (s.ownDevice * 65536)]] s.clock)
  else fs.foldl (fun s f => s.sendFrame none f) s

/-- Issue a request: numbered and sent when fewer than 16 are unanswered, else it waits (12, R366). -/
def State.remoteRequest (s : State) (dev : Nat) (relay : Option Nat) (tx : Tx) : State :=
  let k := targetKey dev relay
  let x := s.target k
  let r : RemReq := ⟨x.next, tx, relay, s.clock, 0⟩
  if 16 ≤ x.out.length then s.setTarget k { x with waiting := x.waiting ++ [r] }
  else
    let s := s.setTarget k { x with next := x.next + 1, reset := false, out := x.out ++ [r] }
    s.sendRequest dev r x.reset

/-- Move waiting requests of a target into the room its answers left. -/
def State.pumpTarget (s : State) (dev : Nat) (relay : Option Nat) : Nat → State
  | 0 => s
  | n + 1 =>
    let k := targetKey dev relay
    let x := s.target k
    match x.waiting with
    | [] => s
    | r :: rs =>
      if 16 ≤ x.out.length then s
      else
        let r := { r with seq := x.next, sentAt := s.clock }
        let s := s.setTarget k { x with next := x.next + 1, reset := false, out := x.out ++ [r], waiting := rs }
        State.pumpTarget (s.sendRequest dev r x.reset) dev relay n

/-- Resend every unanswered request to a target in SEQ order, from the first of them on (12, R367). -/
def State.resendAll (s : State) (dev : Nat) (reset : Bool) (rs : List RemReq) : State :=
  rs.zipIdx.foldl (fun s e => s.sendRequest dev e.1 (reset && e.2 = 0)) s

/-- The frames of a reply (12, OD_REPLY payload). -/
def State.replyFrames (s : State) (dest dev : Nat) (seq : BitVec 16) (code epoch : Nat) (data : List Word) : List Frame :=
  let parts := shares 94 11 data
  parts.zipIdx.map (fun e =>
    mkFrame 3 dest s.ownDevice
      ([wd (seq.toNat * 2 ^ 24 + code * 256 + e.2 * 16 + b2n (e.2 + 1 = parts.length) * 8),
        wd (dev * 65536 + epoch)] ++ e.1))

/-- Send reply frames: link-local ones back on the port, others by route. -/
def State.sendReply (s : State) (port : Nat) (fs : List Frame) : State :=
  fs.foldl (fun s f => if f.dest = 0xFFFFFE then s.egress none port f else if f.dest.toNat = s.ownDevice then s.trainFrame 0 f else s.sendFrame none f) s

/-- What is kept of a requester. -/
def State.requester (s : State) (dev : Nat) : Option Requester := s.halo.requesters.find? (fun r => r.dev = dev)

/-- Keep a requester, the last heard last; the one unheard from longest gives way to the 257th (12, R366). -/
def State.keepRequester (s : State) (r : Requester) : State :=
  let l := s.halo.requesters.filter (fun x => x.dev ≠ r.dev) ++ [r]
  { s with halo := { s.halo with requesters := l.drop (l.length - 256) } }

end Sys2Proof.Machine
end

