-- ==== Sys2Proof/Machine/HaloRows.lean ====
section
/-! DEFINITION. Machine/HaloRows.lean: the rows of the Halo links (12) that are no OD transaction. -/

namespace Sys2Proof.Machine

/-- Signal on at least MIN_WIDTH lanes of a DOWN port: it starts training, and sends LINK_INFO (12, R348, R374). -/
def execSignalDetect (port : Fin 4) (lanes : BitVec 4) (t : Nat) (s : State) : Host.Outcome State Fault Refusal :=
  s.perform fun s =>
    let s := s.tick t
    s.when (s.portState port = 1 && s.regN (0x1110 + port) 0x03 ≤ lanesOf lanes.toNat) (fun s => s.startTraining port)

/-- The instant of LOCAL at which a DELAY_REQ left port `p` is kept (03, R87; 12, R372). -/
def State.noteAsked (s : State) (p : Nat) (f : Frame) : State :=
  if f.ty = 7 then
    { s with sync := { s.sync with asked := SMap.set (fun _ => none) s.sync.asked p (some (fld (fpay f 0) 0 16, s.localMt)) } }
  else s

/-- Whether a port may train at a rate (12, R348): the highest that both ends support and MAX_RATE allows; a DZ-3 partner supports Halo-1 only.
Until the partner's LINK_INFO has come, any that MAX_RATE allows. -/
def State.trainsAt (s : State) (p rate : Nat) : Bool :=
  let max := s.regN (0x1110 + p) 0x02
  let peer := (s.port p).peer
  1 ≤ rate && rate ≤ max && (peer = [] ||
    rate = (if max = 2 ∧ fld (peer.getD 0 0) 32 8 ≠ 2 ∧ bit (peer.getD 2 0) 33 = true then 2 else 1))

/-- Training completes at a rate both ends and MAX_RATE allow, on the lanes both ends hold; when LINK_INFO has been exchanged, the checks
of R357 decide between UP and ISOLATED, else they do when it comes (12, R348, R357). -/
def execPortTrained (port : Fin 4) (rate : Nat) (lanes : BitVec 4) (t : Nat) (s : State) : Host.Outcome State Fault Refusal :=
  s.perform fun s =>
    let s := s.tick t
    let p := port.val
    if s.portState p = 2 ∧ s.trainsAt p rate = true ∧ s.regN (0x1110 + p) 0x03 ≤ lanesOf lanes.toNat then
      let s := s.setRegN (0x1110 + p) 0x08 rate
      let s := s.setRegN (0x1110 + p) 0x09 lanes.toNat
      let s := (s.setRegN (0x1110 + p) 0x11 0).onPort p (fun x => { x with trained := true })
      s.when (!(s.port p).peer.isEmpty) (fun s => s.judgePort p)
    else s

/-- A port not trained within 50 ms returns to DOWN (12, table of port states). -/
def execTrainingTimeout (port : Fin 4) (t : Nat) (s : State) : Host.Outcome State Fault Refusal :=
  s.perform fun s =>
    let s := s.tick t
    if s.portState port = 2 ∧ (s.port port).since + msEt 50 ≤ s.clock then
      s.portLost port
    else s

/-- A codeword is received: uncorrectable ones are counted, the 16th within 1 ms on a lane finds the lane bad; data codewords
go back into the word stream in CW_SEQ order (12, R349, R354). -/
def execCodewordRx (port lane : Fin 4) (cw : Codeword) (t : Nat) (s : State) : Host.Outcome State Fault Refusal :=
  s.perform fun s =>
    let s := s.tick t
    let p := port.val
    if s.portState p < 2 ∨ (2 < s.portState p ∧ (s.regN (0x1110 + p) 0x09).testBit lane.val = false) then s
    else
      let s := s.addReg80 (0x1110 + p) 0x0D cw.corrected
      if cw.bad ∨ 2 ≤ cw.kind.toNat then
        let s := s.addReg (0x1110 + p) 0x0E 1
        let l := ((s.port p).badCw.filter (fun e => s.clock < e.2 + msEt 1)) ++ [(lane.val, s.clock)]
        let s := s.onPort p (fun x => { x with badCw := l })
        s.when (16 ≤ (l.filter (fun e => e.1 = lane.val)).length) (fun s => s.laneBad p lane)
      else if cw.kind = 1 then s
      else
        let s := s.onPort p (fun x => { x with cwHeld := x.cwHeld ++ [(cw.seq, cw.words)] })
        s.cwDrain port ((s.port p).cwHeld.length + 64)

/-- Loss of codeword lock on one lane: the lane is bad (12, R354). -/
def execCodewordLockLoss (port lane : Fin 4) (t : Nat) (s : State) : Host.Outcome State Fault Refusal :=
  s.perform fun s =>
    let s := s.tick t
    s.when (s.portLink port) (fun s => s.laneBad port lane)

/-- No valid codeword for 5 µs: the port goes DOWN, S2 fault, ring wrap (12, R355, R375). -/
def execLinkLossTimeout (port : Fin 4) (t : Nat) (s : State) : Host.Outcome State Fault Refusal :=
  s.perform fun s =>
    let s := s.tick t
    s.when (s.portLink port) (fun s => s.portDown port 5)

/-- While a ring port stays down with its link in BROKEN, RING_STATE BROKEN is resent (12, R375). -/
def execRingStateResend (port : Fin 4) (t : Nat) (s : State) : Host.Outcome State Fault Refusal :=
  s.perform fun s =>
    let s := s.tick t
    let b := s.ringLink port
    s.when (s.portRole port = 1 && port.val < 2 && s.ringSize ≠ 0 && s.linkBroken b && s.portState port ≠ 3)
      (fun s => s.ringState 1 b)

/-- RESTORE_HOLD after a broken link is UP again: RING_STATE RESTORED is sent, the link leaves BROKEN, RING_RESTORED logged (12, R376). -/
def execRestoreHoldExpiry (port : Fin 4) (t : Nat) (s : State) : Host.Outcome State Fault Refusal :=
  s.perform fun s =>
    let s := s.tick t
    let p := port.val
    let b := s.ringLink p
    let x := s.port p
    if x.restoring ∧ s.portState p = 3 ∧ x.since + usEt (s.regN 0x1102 0x03) ≤ s.clock then
      let listed := s.linkBroken b
      let s := s.setPort p { x with restoring := false }
      ((s.ringState 2 b).dropBroken b).when listed (fun s => s.logPut 0x0806 (wd b) 0)
    else s

/-- A frame leaves port `p`: its departure stamp is written, its LSEQ given; a copy is held for replay (12, R351, R352, R372). -/
def State.sendOut (s : State) (p : Nat) (e : TxFrame) : State :=
  let x := s.port p
  let g := frameStamped e.frame s.now
  let y := if e.cls = 1 then x else x.setCredit e.frame.vc (x.credit e.frame.vc - 1) s.clock
  let s := s.setPort p { y with
    txq := x.txq.erase e, replay := x.replay ++ [⟨x.txSeq, g⟩], txSeq := x.txSeq + 1
    lastTx := frameWire g x.txSeq }
  (s.noteAsked p g).txLeft e

/-- At a frame boundary the egress sends the first non-empty class: control words, then frames with a credit, while fewer
than 128 are held for replay; departure stamps are written as it leaves (12, R351 to R353, R372). -/
def execFrameSend (port : Fin 4) (t : Nat) (s : State) : Host.Outcome State Fault Refusal :=
  s.perform fun s =>
    let s := s.tick t
    let p := port.val
    let x := s.port p
    if s.portState p < 2 then s
    else match x.ctl with
      | w :: ws => s.setPort p { x with ctl := ws, lastTx := [w] }
      | [] =>
        if 128 ≤ x.replay.length then s
        else
          let r := s.pickFrame p
          match r.1 with
          | none => r.2
          | some e => (r.2.sendOut p e).addReg80 (0x1110 + p) 0x12 1

/-- A frame of a reserved type is accepted and discarded; a corrupted one is discarded and answered by NAK (12, R350, R352). -/
def execReservedFrameRx (port : Fin 4) (words : List Word) (t : Nat) (s : State) : Host.Outcome State Fault Refusal :=
  s.perform fun s =>
    let s := s.tick t
    s.when (2 ≤ s.portState port) (fun s => s.frameIn port words)

/-- A CREDIT word returns frame credits of a VC (12, R351). -/
def execCreditRx (port : Fin 4) (vc : Bool) (n : Nat) (s : State) : Host.Outcome State Fault Refusal :=
  s.perform fun s => s.onPort port (fun x => x.setCredit vc (x.credit vc + n) s.clock)

/-- How many held frames an ACK of `lseq` releases: those from the oldest up to it. -/
def ackCount (hs : List Held) (lseq : BitVec 8) : Nat :=
  match hs.findIdx? (fun h => h.lseq = lseq) with
  | some i => i + 1
  | none => 0

/-- An ACK releases held frames up to its LSEQ (12, R352). -/
def execAckRx (port : Fin 4) (lseq : BitVec 8) (s : State) : Host.Outcome State Fault Refusal :=
  s.perform fun s => s.onPort port (fun x => { x with replay := x.replay.drop (ackCount x.replay lseq), naks := 0 })

/-- A NAK makes the sender resend every held frame from its LSEQ, in order, stamped as it leaves again (R372); the 8th in a row for one LSEQ takes the port
DOWN (12, R352). -/
def execNakRx (port : Fin 4) (lseq : BitVec 8) (t : Nat) (s : State) : Host.Outcome State Fault Refusal :=
  s.perform fun s =>
    let s := s.tick t
    let p := port.val
    if s.portState p < 2 then s
    else
      let x := s.port p
      let n := if x.nakSeq = lseq then x.naks + 1 else 1
      let s := s.addReg (0x1110 + p) 0x0F 1
      if 8 ≤ n then s.portDown p 0
      else
        let k := (x.replay.findIdx? (fun h => h.lseq = lseq)).getD x.replay.length
        let again := (x.replay.drop k).map (fun (h : Held) => { h with frame := frameStamped h.frame s.now })
        let s := s.setPort p { x with
          naks := n, nakSeq := lseq, replay := x.replay.take k ++ again
          lastTx := (again.map (fun h => frameWire h.frame h.lseq)).flatten }
        again.foldl (fun s h => s.noteAsked p h.frame) s

/-- LANE_DROP: stop dealing to the named lanes and answer LANE_DROP_ACK; the lane fault is raised at this end too (12, R354). -/
def execLaneDropRx (port : Fin 4) (lanes : BitVec 4) (t : Nat) (s : State) : Host.Outcome State Fault Refusal :=
  s.perform fun s =>
    let s := s.tick t
    let p := port.val
    if s.portLink p then
      if s.wideWithout p lanes.toNat then
        let s := s.control p 5 lanes.toNat
        let s := s.repeat 4 (fun l s => s.when (lanes.toNat.testBit l && (s.regN (0x1110 + p) 0x09).testBit l) (fun s =>
          (s.logPut 0x0801 (wd (p * 4 + l)) 0).raiseFault (0x42 + p) 0x10 2 (wd l)))
        s.stopLanes p lanes.toNat
      else s.portDown p 0
    else s

/-- LANE_DROP_ACK confirms the drop: no lane it names is dealt to (12, R354). -/
def execLaneDropAckRx (port : Fin 4) (lanes : BitVec 4) (t : Nat) (s : State) : Host.Outcome State Fault Refusal :=
  s.perform fun s =>
    let s := s.tick t
    s.when (s.portLink port && (s.regN (0x1110 + port.val) 0x09 &&& lanes.toNat) ≠ 0) (fun s => s.stopLanes port lanes.toNat)

/-- A RETRAIN control word takes a linked port to TRAINING (12, table of port states). -/
def execRetrainWordRx (port : Fin 4) (t : Nat) (s : State) : Host.Outcome State Fault Refusal :=
  s.perform fun s =>
    let s := s.tick t
    s.when (s.portLink port) (fun s => s.startTraining port)

/-- An ACK with the last accepted LSEQ, when frames were accepted since the last one (12, R352). -/
def execAckTimer (port : Fin 4) (s : State) : Host.Outcome State Fault Refusal :=
  s.perform fun s => s.ackFrames port

/-- While the expected frame is awaited, the NAK is repeated (12, R352). -/
def execNakRepeat (port : Fin 4) (s : State) : Host.Outcome State Fault Refusal :=
  s.perform fun s => s.when (s.port port).nakWait (fun s => s.control port 3 (s.port port).rxSeq.toNat)

/-- An egress with frames of a VC has had no credit for 10 ms: S1 fault, HALO_CREDIT_STALL, once until a credit
comes; the frames are kept (12, R362). -/
def execCreditStallTimeout (port : Fin 4) (vc : Bool) (t : Nat) (s : State) : Host.Outcome State Fault Refusal :=
  s.perform fun s =>
    let s := s.tick t
    let x := s.port port
    if x.credit vc = 0 ∧ (x.dry vc).any (fun d => d + msEt 10 ≤ s.clock) ∧ x.txq.any (fun e => e.cls ≠ 1 && e.frame.vc = vc) then
      let s := s.setPort port (if vc then { x with dry1 := none } else { x with dry0 := none })
      let s := s.addReg (0x1110 + port.val) 0x14 1
      let s := s.logPut 0x0804 (wd port.val) (wd (b2n vc))
      s.raiseFault (0x42 + port.val) 0x12 1 (wd (b2n vc))
    else s

/-- LINK_INFO: the partner's number, kind, port and ring; the first one of a link grants its credits; a trained port is judged (12, R351,
R357, R374). -/
def execLinkInfoRx (port : Fin 4) (f : Frame) (t : Nat) (s : State) : Host.Outcome State Fault Refusal :=
  s.perform fun s =>
    let s := s.tick t
    let p := port.val
    if f.ty ≠ 0xA ∨ s.portState p < 2 then s
    else
      let s := s.onPort p (fun x => { x with peer := f.payload })
      let s := s.setRegN (0x1110 + p) 0x0A (fld (fpay f 0) 0 24)
      let s := s.setRegN (0x1110 + p) 0x0B (let k := fld (fpay f 0) 32 8; if k = 1 ∨ k = 2 then k else 0)
      let s := s.setRegN (0x1110 + p) 0x0C (fld (fpay f 0) 24 8)
      let s := s.when (!(s.port p).granted) (fun s => s.onPort p (fun x =>
        { (x.setCredit false (fld (fpay f 1) 8 8) s.clock).setCredit true (fld (fpay f 1) 0 8) s.clock with granted := true }))
      s.when (s.portState p ≠ 2 || (s.port p).trained) (fun s => s.judgePort p)

/-- RING_STATE BROKEN: accepted once, forwarded, and the link entered in BROKEN (12, R363, R375). -/
def execRingBrokenRx (port : Fin 4) (f : Frame) (t : Nat) (s : State) : Host.Outcome State Fault Refusal :=
  s.perform fun s =>
    let s := s.tick t
    if f.ty = 9 ∧ fld (fpay f 0) 36 4 = 1 then
      let r := s.acceptBroadcast port f
      if r.1 then r.2.addBroken (fld (fpay f 1) 0 24) else r.2
    else s.dropFrame port f

/-- RING_STATE RESTORED: accepted once, forwarded, and the link removed from BROKEN; a device beside it logs RING_RESTORED (12, R376). -/
def execRingRestoredRx (port : Fin 4) (f : Frame) (t : Nat) (s : State) : Host.Outcome State Fault Refusal :=
  s.perform fun s =>
    let s := s.tick t
    if f.ty = 9 ∧ fld (fpay f 0) 36 4 = 2 then
      let r := s.acceptBroadcast port f
      if r.1 then
        let b := fld (fpay f 1) 0 24
        let beside := r.2.linkBroken b &&
          (List.range 2).any (fun p => r.2.portRole p = 1 && r.2.ringSize ≠ 0 && r.2.ringLink p = b)
        (r.2.dropBroken b).when beside (fun s => s.logPut 0x0806 (wd b) 0)
      else r.2
    else s.dropFrame port f

/-- A frame for another device: routed on, or unroutable; an unroutable OD_REQUEST is answered 0x0063, any other is discarded
and counted (12, R360, R361). -/
def execForwardedFrameRx (port : Fin 4) (f : Frame) (t : Nat) (s : State) : Host.Outcome State Fault Refusal :=
  s.perform fun s =>
    let s := s.tick t
    let d := f.dest.toNat
    if d = s.ownDevice ∨ d = 0xFFFFFE ∨ d = 0xFFFFFF then s
    else match s.route (some port.val) d with
      | some p => s.egress (some port.val) p (frameHop f) true
      | none =>
        let s := s.freeBuffer port f.vc
        if f.ty = 2 then
          if bit (fpay f 2) 23 then
            let fs := s.replyFrames f.src.toNat f.src.toNat (BitVec.ofNat 16 (fld (fpay f 2) 24 16)) 0x0063 0 []
            fs.foldl (fun s g => s.sendFrame none g) s
          else s
        else s.addReg 0x1100 0x05 1

/-- A train still incomplete after REPLY_TIMEOUT is discarded (12, R364). -/
def execTrainTimeout (src : BitVec 24) (reply : Bool) (t : Nat) (s : State) : Host.Outcome State Fault Refusal :=
  s.perform fun s =>
    let s := s.tick t
    { s with halo := { s.halo with trains := s.halo.trains.filter (fun x =>
        !(x.dev = src.toNat && x.reply = reply && x.since + usEt (s.regN 0x1100 0x01) ≤ s.clock)) } }

end Sys2Proof.Machine
end

