-- ==== Sys2Proof/Machine/Sync.lean ====
section
/-! DEFINITION. Machine/Sync.lean: Meridian time, sync states, corrections, loads, SYNC_IN and SYNC_OUT, timed events (03). -/

namespace Sys2Proof.Machine

/-- Sync state: 0 FREE, 1 MASTER, 2 UNSYNCED, 3 ACQUIRING, 4 LOCKED, 5 HOLDOVER (03, table of sync states). -/
def State.syncState (s : State) : Nat := s.regN 0x0900 0x04
/-- MODE: 0 FREE, 1 MASTER, 2 HALO_SLAVE. -/
def State.syncMode (s : State) : Nat := s.regN 0x0900 0x03
/-- TIME_UNCERTAIN applies to a first sample that falls now (03, R91). -/
def State.timeUncertain (s : State) : Bool := 2 ≤ s.syncState && s.syncState ≠ 4
/-- A sync port that can carry time frames: enabled, UP, with a DZ-5 that is time-capable (03, R85; 12, R373). -/
def State.syncPort (s : State) (p : Nat) : Bool :=
  s.regB (0x0904 + p) 0x00 && s.portState p = 3 && s.regN (0x0904 + p) 0x05 ≠ 4

/-! ## Timed-event slots (03, R105 to R110) -/

/-- STATE of timed-event slot `n`: 0 FREE, 1 ARMED, 2 FIRED, 3 CANCELLED, 4 LATE. -/
def State.teState (s : State) (n : Nat) : Nat := s.regN (0x0920 + n) 0x00

/-- Slot `n` fires, stamped `m`: the line it names and every line whose sources name it, each once (03, R107). -/
def State.teFireAt (s : State) (n : Nat) (m : U80) : State :=
  let s := (s.setRegN (0x0920 + n) 0x00 2).setReg80 (0x0920 + n) 0x05 m
  let named := s.regN (0x0920 + n) 0x02
  (named :: (s.linesOf (0x3000 + n)).filter (fun l => l ≠ named)).foldl
    (fun s l => s.due (.eventOccurrence (Fin.ofNat 512 l) m true)) s

/-- The non-ARMED slot least recently used, if any (03, R106). -/
def State.teFree (s : State) : Option Nat :=
  ((List.range 64).filter (fun n => s.teState n ≠ 1)).foldl (fun b n =>
    match b with
    | none => some n
    | some m => if SMap.get (fun _ => 0) s.sync.teAge n < SMap.get (fun _ => 0) s.sync.teAge m then some n else some m) none

/-- The slot of an origin and EVENT_ID, among those `sel` picks. -/
def State.teFind (s : State) (origin id : Nat) (sel : Nat → Bool) : Option Nat :=
  (List.range 64).find? (fun n => sel (s.teState n) && s.regN (0x0920 + n) 0x03 = origin && s.regN (0x0920 + n) 0x04 = id)

/-- A target arms a slot for an event, or finds it late (03, R106, R108). The slot used, or 0xFF. -/
def State.teTake (s : State) (origin id : Nat) (T : U80) (line : Nat) (lateAction : Bool) : Nat × State :=
  match s.teFree with
  | none =>
    let d := wd (origin * 65536 + id)
    (0xFF, (s.logPut 0x0304 d 0).raiseFault 0xAD 0x22 1 d)
  | some n =>
    let s := { s with sync := { s.sync with teAge := SMap.set (fun _ => 0) s.sync.teAge n s.sync.teNext, teNext := s.sync.teNext + 1 } }
    let s := s.setReg80 (0x0920 + n) 0x01 T
    let s := s.setRegN (0x0920 + n) 0x02 line
    let s := s.setRegN (0x0920 + n) 0x03 origin
    let s := s.setRegN (0x0920 + n) 0x04 id
    let s := s.setReg80 (0x0920 + n) 0x05 0
    if s.now.toNat + 128000 ≤ T.toNat then (n, s.setRegN (0x0920 + n) 0x00 1)
    else
      let s := s.logPut 0x0305 (wd (origin * 65536 + id)) (wd (s.now.toNat - T.toNat))
      let s := s.addReg 0x0910 0x02 1
      (n, if lateAction then s.teFireAt n s.now else s.setRegN (0x0920 + n) 0x00 4)

/-- A CANCEL at a target (03, R110). -/
def State.teCancel (s : State) (origin id : Nat) : State :=
  match s.teFind origin id (fun st => st = 1) with
  | some n => s.setRegN (0x0920 + n) 0x00 3
  | none =>
    match s.teFind origin id (fun st => st = 2) with
    | some _ => s.logPut 0x0306 (wd (origin * 65536 + id)) 0
    | none => s

/-- A step has carried Meridian time to now: armed slots whose T it passed fire at once (03, R109). -/
def State.teAfterStep (s : State) : State :=
  s.repeat 64 (fun n s => s.when (s.teState n = 1 && (s.reg80 (0x0920 + n) 0x01).toNat ≤ s.now.toNat) (fun s => s.teFireAt n s.now))

/-- OFFSET takes a new value in one step: TIME_STEP logged, STEP_COUNT + 1, timed events judged (03, R90, R93, R109). -/
def State.timeStep (s : State) (offset : U80) : State :=
  let d := diff80 offset s.offset
  let s := s.setOffset offset true
  let s := s.logPut 0x0302 (wdI d) 0
  (s.addReg 0x0900 0x0F 1).teAfterStep

/-- Whether a step is permitted (03, R90). -/
def State.stepPermitted (s : State) : Bool := s.regB 0x0900 0x0C || !s.anyRun

/-! ## Modes and sync frames -/

/-- MODE takes a value: the sync state and the objects that report it follow (03, table of sync states, R89). -/
def State.modeTo (s : State) (v : Nat) : State :=
  let old := s.syncMode
  let s := s.setRegN 0x0900 0x03 v
  if v = old then s
  else
    let s := { s with sync := { s.sync with ests := [], frames := 0, upstream := none, better := [], heard := [], deferred := false } }
    let s := s.setRegN 0x0900 0x04 v
    let s := s.setRegN 0x0900 0x06 (if v = 2 then 255 else 0)
    let s := s.setRegN 0x0900 0x07 (if v = 2 then 0xFFFFFFFFFF else 0)
    s.setRegN 0x0900 0x08 (if v = 1 then s.ownDevice else 0xFFFFFD)

/-- Put a load of Meridian time into effect: OFFSET adjusted, LOCAL unchanged (03, R93). -/
def State.loadTime (s : State) : State := s.timeStep (s.reg80 0x0900 0x0D - BitVec.ofNat 80 s.localMt)

/-- Enter ACQUIRING on a port with a first estimate. -/
def State.acquire (s : State) (p : Nat) (est : U80) : State :=
  let s := { s with sync := { s.sync with ests := [est], frames := 1, upstream := some p, better := [], deferred := false } }
  (s.setRegN 0x0900 0x04 3).setRegN 0x0900 0x07 0xFFFFFFFFFF

/-- Whether the last three estimates agree within 2 mt. -/
def estsAgree (l : List U80) : Bool :=
  l.length = 3 && l.all (fun a => l.all (fun b => (diff80 a b).natAbs ≤ 2))

/-- ERROR_BOUND below an upstream device that reports `p3`: 20 ps more, at most the value that says unknown (03, R89). -/
def boundBelow (p3 : Word) : Word := wd (min 0xFFFFFFFFFF (p3.toNat + 20))

/-- A valid sync frame of the upstream port: estimates, corrections and what the slave reports (03, R88 to R90). That the
initial correction of ACQUIRING counts in STEP_COUNT, as every step does, is DEDUCED, log entry 46. -/
def State.followFrame (s : State) (p : Nat) (f : Frame) (est : U80) : State :=
  let hops := fld (fpay f 0) 8 8
  let s := { s with sync := { s.sync with est := est, lastSync := s.clock } }
  let s := s.setRegN 0x0900 0x06 (min 255 (hops + 1))
  let s := s.setRegN 0x0900 0x08 (fld (fpay f 0) 16 24)
  match s.syncState with
  | 2 | 5 => s.acquire p est
  | 3 =>
    let ests := (s.sync.ests ++ [est]).drop (s.sync.ests.length - 2)
    let n := s.sync.frames + 1
    let s := { s with sync := { s.sync with ests := ests, frames := n } }
    if estsAgree ests && s.stepPermitted then
      let s := (s.timeStep est).setRegN 0x0900 0x04 4
      s.setReg 0x0900 0x07 (boundBelow (fpay f 3))
    else if 64 ≤ n && !estsAgree ests then (s.setRegN 0x0900 0x04 2).logPut 0x0301 (wd p) 0
    else s
  | 4 =>
    let s := s.setReg 0x0900 0x07 (boundBelow (fpay f 3))
    let e := diff80 est s.offset
    if e.natAbs ≤ s.regN 0x0900 0x0B then { s with sync := { s.sync with deferred := false } }
    else if s.stepPermitted then s.timeStep est
    else if s.sync.deferred then s
    else ({ s with sync := { s.sync with deferred := true } }).logPut 0x0303 (wdI e) 0
  | _ => s

/-- Whether port `q` is eligible as upstream port (03, R84): UPSTREAM allows it, it can carry sync frames and its path delay is measured. -/
def State.eligible (s : State) (q : Nat) : Bool :=
  (s.regN 0x0900 0x05 = 0xFF || s.regN 0x0900 0x05 = q) && s.syncPort q && s.regN (0x0904 + q) 0x05 = 2

/-- Whether the frames of port `q` report fewer hops than those of `u`, or as many on a lower port (03, R84). -/
def State.betterPort (s : State) (q u : Nat) : Bool :=
  let a := s.regN (0x0904 + q) 0x03
  let b := s.regN (0x0904 + u) 0x03
  a < b || (a = b && q < u)

/-- The masters whose valid sync frames came in the last 3 sync intervals, by port: older ones are heard no more. DESIGN CHOICE, log
entry 48. -/
def State.mastersHeard (s : State) : List (Nat × Nat × Nat) :=
  s.sync.heard.filter (fun e => s.clock ≤ e.2.2 + usEt (3 * s.regN 0x0900 0x09))

/-- Note that port `p` brought a frame of a master. -/
def State.hear (s : State) (p master : Nat) : State :=
  { s with sync := { s.sync with heard := s.mastersHeard.filter (fun e => e.1 ≠ p || e.2.1 ≠ master) ++ [(p, master, s.clock)] } }

/-- The upstream port becomes `p`. -/
def State.setUpstream (s : State) (p : Nat) : State := { s with sync := { s.sync with upstream := some p, better := [] } }

/-- Which port to follow after a frame of the eligible port `p` (03, R84): `p`, when there is none or the present one is no longer
eligible; another than the present one only when it has been better in three sync intervals in a row. -/
def State.chooseUpstream (s : State) (p : Nat) : State :=
  match s.sync.upstream with
  | none => s.setUpstream p
  | some u =>
    if u = p then s
    else if !s.eligible u then s.setUpstream p
    else
      let kept := s.sync.better.filter (fun e => s.betterPort e.1 u)
      let n := if s.betterPort p u then SMap.get (fun _ => 0) kept p + 1 else 0
      if 3 ≤ n then s.setUpstream p
      else { s with sync := { s.sync with better := SMap.set (fun _ => 0) kept p n } }

/-- Forward a sync frame of the upstream port, hop count raised by 1, this device's error bound added (03, R85; 12, R373). -/
def State.forwardSync (s : State) (p : Nat) (f : Frame) : State :=
  let hops := fld (fpay f 0) 8 8
  if hops = 254 then s
  else s.repeat 4 (fun q s => s.when (q ≠ p && s.syncPort q) (fun s =>
    s.egress none q (mkFrame 6 0xFFFFFE s.ownDevice
      [setFld (fpay f 0) 8 8 (hops + 1), 0, 0, s.reg 0x0900 0x07, fpay f 4])))

/-- PATH_DELAY of a port in mt, to the nearest, halves upward: the spec gives no rounding. DESIGN CHOICE, log entry 45. -/
def State.pathDelayMt (s : State) (p : Nat) : Nat := (s.regN (0x0904 + p) 0x02 * 128 + 500) / 1000

/-- SYNC frame received (03, R83 to R90): a second master is a conflict whichever port it is heard on; among those heard on eligible
ports the lowest number is followed (R86). -/
def execSyncRx (port : Fin 4) (f : Frame) (t : Nat) (s : State) : Host.Outcome State Fault Refusal :=
  s.perform fun s =>
    let s := s.tick t
    let p := port.val
    if f.ty ≠ 6 ∨ !s.syncPort p then s
    else
      let master := fld (fpay f 0) 16 24
      let hops := fld (fpay f 0) 8 8
      let s := s.setRegN (0x0904 + p) 0x03 hops
      let s := s.setRegN (0x0904 + p) 0x04 master
      if s.syncMode = 1 then s.when (master ≠ s.ownDevice) (fun s => s.raiseFault 0xAD 0x1A 1 (wd master))
      else if s.syncMode ≠ 2 then s
      else
        let s := s.hear p master
        let others := s.sync.heard.filter (fun e => e.2.1 ≠ master)
        let s := others.foldl (fun s e => s.raiseFault 0xAD 0x1A 1 (wd (max e.2.1 master))) s
        if !s.eligible p || others.any (fun e => s.eligible e.1 && e.2.1 < master) then s
        else
          let s := if others.any (fun e => s.sync.upstream = some e.1) then { s.setUpstream p with sync := { (s.setUpstream p).sync with ests := [] } }
            else s.chooseUpstream p
          if s.sync.upstream = some p then
            let dep := u80 (fpay f 1) (fpay f 2)
            let est := dep + BitVec.ofNat 80 (s.pathDelayMt p) - BitVec.ofNat 80 s.localMt
            (s.followFrame p f est).forwardSync p f
          else s

/-- At each SLEW_INTERVAL a LOCKED slave moves OFFSET by at most 1 mt toward its estimate, or steps once a step is permitted (03, R90). -/
def execOffsetSlew (t : Nat) (s : State) : Host.Outcome State Fault Refusal :=
  s.perform fun s =>
    let s := s.tick t
    let e := diff80 s.sync.est s.offset
    if s.syncState ≠ 4 ∨ e = 0 then s
    else if s.regN 0x0900 0x0B < e.natAbs ∧ s.stepPermitted = true then s.timeStep s.sync.est
    else s.setOffset (if 0 < e then s.offset + 1 else s.offset - 1) false

/-- A master sends SYNC on every sync-enabled port (03, R83). -/
def execSyncSend (t : Nat) (s : State) : Host.Outcome State Fault Refusal :=
  s.perform fun s =>
    let s := s.tick t
    if s.syncMode ≠ 1 then s
    else
      let s := { s with sync := { s.sync with seq := s.sync.seq + 1 } }
      s.repeat 4 (fun p s => s.when (s.syncPort p) (fun s => s.egress none p
        (mkFrame 6 0xFFFFFE s.ownDevice [wd (s.ownDevice * 65536), 0, 0, 0, wd s.sync.seq.toNat])))

/-- No sync frame for 3 sync intervals: LOCKED goes to HOLDOVER; ACQUIRING, with no eligible port left, to UNSYNCED (03). -/
def execSyncLossTimeout (t : Nat) (s : State) : Host.Outcome State Fault Refusal :=
  s.perform fun s =>
    let s := s.tick t
    if s.sync.lastSync + usEt (3 * s.regN 0x0900 0x09) ≤ s.clock ∧ (s.syncState = 4 ∨ s.syncState = 3) then
      let s' := { s with sync := { s.sync with upstream := none, better := [], ests := [], frames := 0 } }
      s'.setRegN 0x0900 0x04 (if s.syncState = 4 then 5 else 2)
    else s

/-- A delay request leaves on a port with a DZ-5 partner (03, R87; t1 is written as it leaves). -/
def execDelayReqSend (port : Fin 4) (t : Nat) (s : State) : Host.Outcome State Fault Refusal :=
  s.perform fun s =>
    let s := s.tick t
    if s.syncPort port then
      let s := { s with sync := { s.sync with seq := s.sync.seq + 1 } }
      s.egress none port (mkFrame 7 0xFFFFFE s.ownDevice [wd s.sync.seq.toNat, 0, 0])
    else s

/-- A delay request is stamped t2 and answered; t3 is written as the reply leaves (03, R87). -/
def execDelayReqRx (port : Fin 4) (f : Frame) (t : Nat) (s : State) : Host.Outcome State Fault Refusal :=
  s.perform fun s =>
    let s := s.tick t
    s.when (f.ty = 7 && s.syncPort port) (fun s => s.egress none port
      (mkFrame 8 0xFFFFFE s.ownDevice [fpay f 0, loWord s.now, hiWord s.now, 0, 0]))

/-- A delay reply gives the one-way path delay in ps: ((t2 − t1) + (t4 − t3)) / 2 − ASYMMETRY / 2 (03, R87), t4 − t1 by LOCAL (R79), rounded
down: DESIGN CHOICE, log entry 45. -/
def execDelayReplyRx (port : Fin 4) (f : Frame) (t : Nat) (s : State) : Host.Outcome State Fault Refusal :=
  s.perform fun s =>
    let s := s.tick t
    let p := port.val
    match SMap.get (fun _ => none) s.sync.asked p with
    | none => s
    | some (seq, t1) =>
      if f.ty = 8 ∧ fld (fpay f 0) 0 16 = seq ∧ s.syncPort p = true then
        let sum := ((s.localMt : Int) - t1) - diff80 (u80 (fpay f 3) (fpay f 4)) (u80 (fpay f 1) (fpay f 2))
        let asym := (s.reg (0x0904 + p) 0x01).toInt
        let s := { s with sync := { s.sync with asked := SMap.set (fun _ => none) s.sync.asked p none } }
        let s := s.setReg (0x0904 + p) 0x02 (wdI ((sum * 1000 - asym * 128) / 256))
        s.setRegN (0x0904 + p) 0x05 2
      else s

/-! ## SYNC_IN, SYNC_OUT and loads -/

/-- A rising edge on SYNC_IN: an armed load takes effect at it, then it is stamped and presented as source 0x2008 (03, R92, R93). -/
def execSyncInEdge (t : Nat) (s : State) : Host.Outcome State Fault Refusal :=
  s.perform fun s =>
    let s := s.tick t
    let loads := s.sync.loads
    let s := s.when (!loads.isEmpty) (fun s => s.loadTime)
    let s := loads.foldl (fun s e => s.endCmd e.1 0x0900 0x0E 0 0) { s with sync := { s.sync with loads := [] } }
    (s.setReg80 0x0900 0x10 s.now).raiseEvent 0x2008 s.now

/-- An armed load that meets no edge within 1 s ends with 0x0053 (03, R93). -/
def execLoadCmdTimeout (t : Nat) (s : State) : Host.Outcome State Fault Refusal :=
  s.perform fun s =>
    let s := s.tick t
    let gone := s.sync.loads.filter (fun e => e.2 + msEt 1000 ≤ s.clock)
    let s := { s with sync := { s.sync with loads := s.sync.loads.filter (fun e => s.clock < e.2 + msEt 1000) } }
    gone.foldl (fun s e => s.endCmd e.1 0x0900 0x0E 0 0x0053) s

/-- Meridian time reaches a multiple of SYNC_OUT_PERIOD: SYNC_OUT rises for 1,280 mt, but not at the multiple on which a step lands: the
next pulse is at the next multiple after the new time (03, R94). -/
def execSyncOutPulse (t : Nat) (s : State) : Host.Outcome State Fault Refusal :=
  s.perform fun s =>
    let s := s.tick t
    let p := s.regN 0x0900 0x11
    let landed := s.sync.past.any (fun e => e.step && e.till = s.localMt)
    if p ≠ 0 ∧ s.now.toNat % p = 0 ∧ landed = false then { s with sync := { s.sync with syncOut := some (s.clock + 1280 * 32) } } else s

/-- SYNC_OUT falls after 1,280 mt (03, R94). -/
def execSyncOutPulseEnd (t : Nat) (s : State) : Host.Outcome State Fault Refusal :=
  s.perform fun s =>
    let s := s.tick t
    match s.sync.syncOut with
    | some e => if e ≤ s.clock then { s with sync := { s.sync with syncOut := none } } else s
    | none => s

/-! ## EVT balls and timed events -/

/-- An edge on an EVT ball that is an input: the active edge produces an occurrence (03, R103). -/
def execEvtInputEdge (ball : Fin 8) (rising : Bool) (t : Nat) (s : State) : Host.Outcome State Fault Refusal :=
  s.perform fun s =>
    let s := s.tick t
    s.when (s.regN (0x0980 + ball) 0x00 = 0 && rising != s.regB (0x0980 + ball) 0x03) (fun s =>
      s.raiseEvent (0x2000 + ball) s.now)

/-- The WIDTH of an EVT pulse expires (03, R103). -/
def execEvtPulseEnd (ball : Fin 8) (t : Nat) (s : State) : Host.Outcome State Fault Refusal :=
  s.perform fun s =>
    let s := s.tick t
    match SMap.get (fun _ => none) s.sync.evtOut ball with
    | some e => if e ≤ s.clock then { s with sync := { s.sync with evtOut := SMap.set (fun _ => none) s.sync.evtOut ball none } } else s
    | none => s

/-- Meridian time reaches the T of an armed slot (03, R107). -/
def execTeFire (slot : Fin 64) (t : Nat) (s : State) : Host.Outcome State Fault Refusal :=
  s.perform fun s =>
    let s := s.tick t
    let T := s.reg80 (0x0920 + slot) 0x01
    s.when (s.teState slot = 1 && T.toNat ≤ s.now.toNat) (fun s => s.teFireAt slot T)

/-- A TIMED_EVENT frame of kind ISSUE (03, R106, R108; 12, R363). -/
def execTeIssueRx (port : Fin 4) (f : Frame) (t : Nat) (s : State) : Host.Outcome State Fault Refusal :=
  s.perform fun s =>
    let s := s.tick t
    if f.ty = 5 ∧ fld (fpay f 1) 36 4 = 1 then
      let r := s.acceptBroadcast port f
      let s := r.2
      let target := fld (fpay f 0) 16 24
      let id := fld (fpay f 1) 0 16
      if !r.1 then r.2
      else if (target = 0xFFFFFF ∨ target = s.ownDevice) ∧ s.teFind f.src.toNat id (fun st => st ≠ 0) = none then
        (s.teTake f.src.toNat id (u80 (fpay f 2) (fpay f 3)) (fld (fpay f 1) 16 9) (bit (fpay f 1) 35)).2
      else s
    else s.dropFrame port f

/-- A TIMED_EVENT frame of kind CANCEL (03, R110; 12, R363). -/
def execTeCancelRx (port : Fin 4) (f : Frame) (t : Nat) (s : State) : Host.Outcome State Fault Refusal :=
  s.perform fun s =>
    let s := s.tick t
    if f.ty = 5 ∧ fld (fpay f 1) 36 4 = 2 then
      let r := s.acceptBroadcast port f
      let target := fld (fpay f 0) 16 24
      if !r.1 then r.2
      else if target = 0xFFFFFF ∨ target = r.2.ownDevice then r.2.teCancel f.src.toNat (fld (fpay f 1) 0 16)
      else r.2
    else s.dropFrame port f

/-- An EVENT frame: accepted once, forwarded; each occurrence not seen before is presented through IMPORT, or counted (03, R104). It is
presented as it arrives, whatever its stamp: DESIGN CHOICE, log entry 49. -/
def execEventFrameRx (port : Fin 4) (f : Frame) (t : Nat) (s : State) : Host.Outcome State Fault Refusal :=
  s.perform fun s =>
    let s := s.tick t
    if f.ty = 4 then
      let r := s.acceptBroadcast port f
      if !r.1 then r.2
      else r.2.repeat (fld (fpay f 0) 32 8) (fun i s =>
        let line := fld (fpay f (1 + 3 * i)) 31 9
        let stamp := u80 (fpay f (2 + 3 * i)) (fpay f (3 + 3 * i))
        let e := (f.src.toNat, line, stamp)
        if e ∈ s.halo.events then s
        else
          let s := { s with halo := { s.halo with events := s.halo.events ++ [e] } }
          let hits := (List.range 128).filter (fun k => s.reg 0x0990 0 k = wd (f.src.toNat * 65536 + 512 + line))
          if hits.isEmpty then s.addReg 0x0990 0x01 1
          else hits.foldl (fun s k => s.raiseEvent (0x9000 + k) stamp) s)
    else s.dropFrame port f

end Sys2Proof.Machine
end

