-- ==== Sys2Proof/Machine/Results.lean ====
section
/-! DEFINITION. Machine/Results.lean: what every result carries: the site of a lane and the flags of its cluster and site (08, R244, R246). -/

namespace Sys2Proof.Machine

/-- The SITE_MAP word of a lane in effect: the active one in RUN, else the written one (08, R244). -/
def State.siteWord (s : State) (c lane : Nat) : Word :=
  if s.seqState c = 3 then s.act? (seqIdx 0x03 c) 0x00 lane else s.reg (seqIdx 0x03 c) 0x00 lane

/-- The site of a SITE_MAP word, when VALID. -/
def siteOf (w : Word) : Option Nat := if bit w 12 then some (fld w 0 12) else none

/-- Whether site `site` has a channel in cluster `c` on a lane of `lanes`. -/
def State.siteOn (s : State) (c site lanes : Nat) : Bool :=
  (List.range 24).any (fun l => lanes.testBit l && siteOf (s.siteWord c l) = some site)

/-- The clusters of which a property holds. -/
def clustersWhere (p : Nat → Bool) : List Nat := (List.range 48).filter p

/-- Calibration is stale in a cluster: CAL_STALE of Starfix, or a band not yet adopted (05, R169; 16, R475). -/
def State.calStale (s : State) (c : Nat) : Bool :=
  s.regB (0x0810 + c) 0x02 || s.reg (peIdx 0x29 c) 0xF2 ≠ s.reg 0x0701 0x05 c

/-! ## Starfix, as far as sequencers meet it (16) -/

/-- Starfix of a cluster at rest. -/
def CalSt.idle : CalSt := ⟨0, false, 0, none, none, 0⟩
/-- Starfix of cluster `c`. -/
def State.cal (s : State) (c : Nat) : CalSt := SMap.get (fun _ => CalSt.idle) s.therm.cals c
/-- Change Starfix of cluster `c`. -/
def State.onCal (s : State) (c : Nat) (f : CalSt → CalSt) : State :=
  { s with therm := { s.therm with cals := SMap.set (fun _ => CalSt.idle) s.therm.cals c (f (s.cal c)) } }
/-- Index of a cluster's calibration objects. -/
def calIdx (c : Nat) : Nat := 0x0810 + c

/-- CAL_STALE of a cluster follows its request and its source; an interval starts now (16, R475, R478). -/
def State.calMark (s : State) (c : Nat) : State :=
  let i := calIdx c
  let stale := s.regN i 0 ≠ 0 || s.regN i 1 ≤ 1
  if stale && !s.regB i 2 then (s.setRegN i 2 1).setReg80 i 3 s.now
  else if stale then s
  else s.setRegN i 2 0

/-- A calibration request (16, R473): a cluster that is IDLE goes to REQUESTED. -/
def State.calRequest (s : State) (c : Nat) : State :=
  if s.regN (calIdx c) 0 ≠ 0 then s
  else ((s.setRegN (calIdx c) 0 1).onCal c (fun x => { x with asked := s.clock, logged := false })).calMark c

/-- A REQUESTED cluster starts a run (16, R474). -/
def State.calStart (s : State) (c : Nat) : State :=
  if s.regN (calIdx c) 0 ≠ 1 then s
  else
    let w := s.reg 0x0701 4 c
    (s.setRegN (calIdx c) 0 2).onCal c (fun x => { x with temp := w })

/-- A run or a quick pass of a cluster is aborted (16, R474, R477, R478). -/
def State.calAbort (s : State) (c : Nat) : State :=
  let s := s.onCal c (fun x => { x with quick := x.quick.map (fun _ => true) })
  if s.regN (calIdx c) 0 = 2 then (s.setRegN (calIdx c) 0 1).addReg 0x0800 5 1 else s

/-- A cluster's calibration set gets new free values. -/
def State.calNew (s : State) (c : Nat) : State :=
  let n := s.therm.sets + 1
  let s := { s with therm := { s.therm with sets := n } }
  s.onCal c (fun x => { x with values := n })

/-- A restored calibration set acts (16, R480). -/
def State.calRestore (s : State) (c : Nat) (ws : List Word) : State :=
  let i := calIdx c
  let s := ws.zipIdx.foldl (fun s e => s.setRegW i 7 e.2 e.1) s
  let s := s.onCal c (fun x => { x with restore := none, values := 0 })
  let s := ((s.setRegN i 1 3).setReg i 4 (ws.getD 3 0)).setReg80 i 5 (u80 (ws.getD 4 0) (ws.getD 5 0))
  (s.when (s.regN i 0 = 1) (fun s => s.setRegN i 0 0)).calMark c

/-- A restore whose write completed before `close` acts at step 2 of a boundary, or at run start (16, R480). -/
def State.calBoundary (s : State) (c close : Nat) : State :=
  match (s.cal c).restore with
  | some (ws, at_) => if at_ < close then s.calRestore c ws else s
  | none => s

/-- The flags that a cluster's own condition gives a result of a lane or site: (cluster, lanes concerned) to flags. -/
def State.clusterFlags (s : State) (c : Nat) : MFlags :=
  mflag 15 (s.pe c).swapFlag ||| mflag 14 (s.pe c).rehomeFlag ||| mflag 13 (s.regB (seqIdx 0x20 c) 0x08)

/-- The flags a result of lane `lane` of cluster `c` carries when it is taken now: CAL_STALE and time of its cluster and device,
and SPARE_SWAP, TD_REHOME, STREAM_GAP and LANE_LOST of every cluster in which its site has a channel
(03, R91; 04, R146, R148; 05, R169, R172; 07, R229). -/
def State.laneFlags (s : State) (c lane : Nat) : MFlags :=
  let own := s.clusterFlags c ||| mflag 12 ((s.lostLanes c).testBit lane) ||| mflag 16 (s.calStale c) |||
    mflag 18 s.timeUncertain
  match siteOf (s.siteWord c lane) with
  | none => own
  | some site =>
    (List.range 48).foldl (fun f d =>
      let g := s.clusterFlags d
      let g := if g = 0 then 0 else if s.siteOn d site 0xFFFFFF then g else 0
      let l := s.lostLanes d
      f ||| g ||| mflag 12 (l ≠ 0 && s.siteOn d site l)) own

end Sys2Proof.Machine
end

