-- ==== Sys2Proof/Machine/Ucode.lean ====
section
/-! DEFINITION. Machine/Ucode.lean: what a microcode engine does from one microword to the next: stores, match registers, branches, the
micro-stack, and the run of a routine (14, R409 to R412, R416, R417, R425). -/

namespace Sys2Proof.Machine

/-- MICRO_COUNT, NANO_COUNT, the number of table words and LENGTH that an image's header gives. -/
structure ImageShape where
  micro : Nat
  nano : Nat
  table : Nat
  length : Nat
  deriving DecidableEq, Repr

/-- The shape of an image. -/
def imageShape (cls : Nat) (g : Nat → Word) : ImageShape :=
  let n := fld (g 4) 32 8
  ⟨fld (g 3) 20 20, fld (g 3) 0 20, if cls = 3 then 2 * (if n = 0 then 256 else n) else n, (g 5).toNat⟩

/-- The stores of one engine (14, table of microcode stores): whether it is a sequencer, the patch image in its active bank with the match
entries in its match registers, the image in its routine store. An image of no word stands for none. -/
structure UStores where
  sequencer : Bool
  patch : List Word
  routine : List Word
  deriving DecidableEq, Repr

/-- Microwords of the ROM, and of a patch bank. -/
def UStores.romSize (x : UStores) : Nat := if x.sequencer then 8192 else 16384
/-- Microwords of a patch bank. -/
def UStores.patchSize (x : UStores) : Nat := if x.sequencer then 1024 else 4096

/-- The region of a microword address: 0 ROM, 1 patch memory, 2 routine store; none outside every region (R409). -/
def UStores.region (x : UStores) (a : Nat) : Option Nat :=
  if a < x.romSize then some 0
  else if 0x4000 ≤ a ∧ a < 0x4000 + x.patchSize then some 1
  else if x.sequencer = false ∧ 0x10000 ≤ a ∧ a < 0x20000 then some 2
  else none

/-- The match registers of an engine: FROM and TO of the entries of its patch (table of a patch match entry). -/
def UStores.matches (x : UStores) : List (Nat × Nat) :=
  (List.range (if x.patch = [] then 0 else fld (x.patch.getD 4 0) 32 8)).map (fun k =>
    let w := x.patch.getD (8 + k) 0
    (fld w 22 18, fld w 0 18))

/-- The address that an engine about to fetch `a` fetches: the patch microword that a match register names for a ROM address (R411). -/
def UStores.fetchAt (x : UStores) (a : Nat) : Nat :=
  if a < x.romSize then
    match x.matches.find? (fun e => e.1 = a) with
    | some e => e.2
    | none => a
  else a

/-- Word `k` of the part of an image that begins `skip` words after its table, when it holds more than `k` words. -/
def imagePart (cls : Nat) (image : List Word) (skip len k : Nat) : Option Word :=
  let x := imageShape cls (fun n => image.getD n 0)
  if image = [] ∨ len ≤ k then none else some (image.getD (8 + x.table + skip + k) 0)

/-- The microword at an address (table of a microword). What ROM holds, and a store where no image has written, is not in the spec: log entry 15. -/
def UStores.microword (x : UStores) (a : Nat) : Word :=
  let cls := if a < 0x10000 then (if x.sequencer then 1 else 2) else 3
  let image := if a < 0x10000 then x.patch else x.routine
  let free := Config.romWord x.sequencer a
  if a < x.romSize then free
  else
    let sh := imageShape cls (fun n => image.getD n 0)
    (imagePart cls image 0 sh.micro (if a < 0x10000 then a - 0x4000 else a - 0x10000)).getD free

/-- Word `k` of the nanoword at an address (table of nanoword word 3). -/
def UStores.nanoword (x : UStores) (a k : Nat) : Word :=
  let cls := if a < 0x2000 then (if x.sequencer then 1 else 2) else 3
  let image := if a < 0x2000 then x.patch else x.routine
  let free := Config.romNano x.sequencer a k
  if a < 0x1000 then free
  else
    let sh := imageShape cls (fun n => image.getD n 0)
    (imagePart cls image sh.micro (4 * sh.nano) (4 * (if a < 0x2000 then a - 0x1000 else a - 0x2000) + k)).getD free

/-- An engine between two microwords: the address it comes to, its micro-stack, top first, its datapath. -/
structure Ucode where
  pc : Nat
  stack : List Nat
  dp : List Word
  deriving DecidableEq, Repr

/-- What one step of an engine leads to: the next microword (`safe` at a safe point), the end of the routine, or a code error. -/
inductive UOut where
  | goesOn (x : Ucode) (safe : Bool)
  | ends (dp : List Word)
  | codeError
  deriving DecidableEq, Repr

/-- One microword of an engine (R409 to R411): a branch whose condition holds takes TARGET, a call takes it and pushes the incremented
address, a return pops, else the next address is the current one plus 1; a call on four entries, a return on none, SEQ 3 and an address
outside every region are code errors, with no part of the step performed (R412). -/
def UStores.step (x : UStores) (u : Ucode) : UOut :=
  let a := x.fetchAt u.pc
  if x.region a = none then .codeError
  else
    let w := x.microword a
    let nano := fun k => x.nanoword (fld w 0 14) k
    let br := nano 3
    let kind := fld br 38 2
    let target := fld br 0 18
    let next := (a + 1) % 262144
    let dp := Config.datapath [nano 0, nano 1, nano 2] u.dp
    let holds := Config.condition (fld br 32 6) u.dp dp != bit br 31
    if fld w 22 2 = 3 ∨ (kind = 2 ∧ 4 ≤ u.stack.length) ∨ (kind = 3 ∧ u.stack = []) then .codeError
    else if fld w 22 2 = 2 then .ends dp
    else
      let safe := fld w 22 2 == 1
      match kind with
      | 1 => .goesOn ⟨if holds then target else next, u.stack, dp⟩ safe
      | 2 => .goesOn ⟨target, next :: u.stack, dp⟩ safe
      | 3 => .goesOn ⟨u.stack.headD 0, u.stack.drop 1, dp⟩ safe
      | _ => .goesOn ⟨next, u.stack, dp⟩ safe

/-- A routine runs for at most `n` microwords (R425): its datapath at END; none when it executes them without reaching END, meets a code error
or leaves the routine store. -/
def UStores.routineRun (x : UStores) : Nat → Ucode → Option (List Word)
  | 0, _ => none
  | n + 1, u =>
    if x.region u.pc ≠ some 2 then none
    else match x.step u with
      | .goesOn u _ => x.routineRun n u
      | .ends dp => some dp
      | .codeError => none

/-- What a routine makes of an update (R423, R425): `start` is START of its entry, `inputs` what it reads. It gives W1 to W5, SAT and
OVER_RANGE. -/
def routineOf (image : List Word) (start : Nat) (inputs : List Word) : Option (List Word × Bool × Bool) :=
  ((UStores.mk false [] image).routineRun 512 ⟨0x10000 + start, [], Config.datapathIn inputs⟩).map (fun dp =>
    let g := Config.datapathOut dp
    ((List.range 5).map g, bit (g 5) 0, bit (g 5) 1))

/-- The stores of unit `u` of UNIT_STATE (table 0x0E10): sequencers 0 to 47, then the reduction engines. -/
def State.storesOf (s : State) (u : Nat) : UStores :=
  { sequencer := u < 48
    patch := SMap.get (fun _ => []) s.micro.banks u
    routine := if u < 48 then [] else SMap.get (fun _ => []) s.micro.routines (u - 48) }

end Sys2Proof.Machine
end

