-- ==== Sys2Proof/Machine/Reduce.lean ====
section
/-! DEFINITION. Machine/Reduce.lean: statistic contexts and the reduction engines (09): recipes, binding, closing, reading, takeover. -/

namespace Sys2Proof.Machine

/-! ## Lines of a context -/

/-- CTX_BASE in effect (0x6000.00). -/
def State.ctxBase (s : State) : Nat := s.actN 0x6000 0x00
/-- The line address of a context's live line (09, R274). -/
def State.liveAt (s : State) (n : Nat) : Nat := s.ctxBase + n
/-- The line address of a context's result line (09, R274). -/
def State.resultAt (s : State) (n : Nat) : Nat := s.ctxBase + 0x100000 + n

/-- The cached live line of a context, with whether it is dirty. -/
def State.cached (s : State) (n : Nat) : Option (LineData × Bool) := SMap.get (fun _ => none) s.red.cache n
/-- Put or remove a cached live line. -/
def State.setCached (s : State) (n : Nat) (x : Option (LineData × Bool)) : State :=
  { s with red := { s.red with cache := SMap.set (fun _ => none) s.red.cache n x } }
/-- Write a cached line back and give its place up (09, R277). -/
def State.writeBack (s : State) (n : Nat) : State :=
  match s.cached n with
  | some (l, true) => (s.hbmPut (s.liveAt n) (repar l)).setCached n none
  | _ => s.setCached n none
/-- The live line of a context: in the cache or, checked, from HBM (01, R31). -/
def State.liveRead (s : State) (n reader : Nat) : LineData × State :=
  match s.cached n with
  | some (l, _) => (l, s)
  | none => s.hbmRead (s.liveAt n) reader
/-- Write a context's live line into the cache. -/
def State.liveWrite (s : State) (n : Nat) (l : LineData) : State := s.setCached n (some (l, true))

/-- SEQ of a context header. -/
def ctxSeq (w : Word) : Nat := fld w 26 14
/-- A context header from its fields (09, bit map of the context header). -/
def ctxHeader (seq : Nat) (ready read sat dropped late : Bool) (flags : MFlags) : Word :=
  wd (seq % 16384 * 2 ^ 26 + b2n ready * 2 ^ 25 + b2n read * 2 ^ 24 + b2n sat * 2 ^ 23 + b2n dropped * 2 ^ 22 +
    b2n late * 2 ^ 21 + flags.toNat)

/-- E0 or E1 of routine entry `e` of an image (14, table of a routine entry). -/
def routineEntry (image : List Word) (e k : Nat) : Word := image.getD (8 + 2 * e + k) 0
/-- Entries of a routine image, 0 when none is loaded. -/
def routineCount (image : List Word) : Nat := fld (image.getD 4 0) 32 8 + (if fld (image.getD 4 0) 32 8 = 0 ∧ image ≠ [] then 256 else 0)

/-- The empty state of a recipe, W1 to W5 (09, R282): MIN the largest and MAX the smallest value of its type; for a routine
what EMPTY of its entry gives (14, R423). -/
def emptyWords (recipe : Nat) (p image : List Word) : List Word :=
  let un := bit (p.getD 2 0) 8
  let mn : Word := if un then 0xFFFFFFFFFF#40 else 0x7FFFFFFFFF#40
  let mx : Word := if un then 0#40 else 0x8000000000#40
  match recipe with
  | 1 | 2 => [0, 0, 0, mn, mx]
  | 15 => (List.range 5).map (fun k => match fld (routineEntry image (fld (p.getD 3 0) 0 16) 1) (38 - 2 * k) 2 with
      | 0 => 0#40
      | 1 => 0x7FFFFFFFFF#40
      | 2 => 0x8000000000#40
      | _ => 0xFFFFFFFFFF#40)
  | _ => [0, 0, 0, 0, 0]

/-- A context line from its header and W1 to W5. -/
def ctxLine (fmt epoch : Nat) (poison : Bool) (w0 : Word) (ws : List Word) : LineData :=
  mkLine fmt epoch poison w0 (ws.getD 0 0) (ws.getD 1 0) (ws.getD 2 0) (ws.getD 3 0) (ws.getD 4 0)

/-! ## Recipes -/

/-- A value as a number: two's complement, or unsigned (09, R281). -/
def valueOf (unsigned : Bool) (v : Word) : Int := if unsigned then (v.toNat : Int) else v.toInt

/-- n / 2^k rounded to the nearest integer, halves away from zero. -/
def roundShift (n : Int) (k : Nat) : Int :=
  let d : Nat := 2 ^ k
  let q : Nat := (2 * n.natAbs + d) / (2 * d)
  if n < 0 then -(q : Int) else q

/-- Clip to a symmetric range, with whether it clipped (09, R280). -/
def clip (m : Nat) (n : Int) : Int × Bool :=
  if (m : Int) < n then (m, true) else if n < -(m : Int) then (-(m : Int), true) else (n, false)

/-- Add within a signed width, with whether it stayed at its limit (09, R280). -/
def addS (bits : Nat) (a b : Int) : Int × Bool :=
  let top : Int := 2 ^ (bits - 1) - 1
  let low : Int := -(2 ^ (bits - 1))
  if top < a + b then (top, true) else if a + b < low then (low, true) else (a + b, false)

/-- Add within an unsigned width, with whether it stayed at its limit. -/
def addU (bits a b : Nat) : Nat × Bool := if 2 ^ bits ≤ a + b then (2 ^ bits - 1, true) else (a + b, false)

/-- A signed number of `bits` bits from its bits. -/
def signedOf (bits n : Nat) : Int := if n < 2 ^ (bits - 1) then (n : Int) else (n : Int) - 2 ^ bits
/-- The bits of a signed number. -/
def bitsOf (bits : Nat) (n : Int) : Nat := (n % (2 ^ bits : Int)).toNat

/-- What applying a recipe gives: W1 to W5, SAT and OVER_RANGE. -/
structure RecipeOut where
  ws : List Word
  sat : Bool
  past : Bool
  deriving DecidableEq, Repr

/-- MIN and MAX take a value: W4 and W5, the first value of an accumulation as it stands (09, R280). -/
def minMax (unsigned first : Bool) (mn mx v : Word) : Word × Word :=
  if first then (v, v)
  else (if valueOf unsigned v < valueOf unsigned mn then v else mn, if valueOf unsigned mx < valueOf unsigned v then v else mx)

/-- STATS (09, recipe update rules). -/
def statsStep (p ws : List Word) (v : Word) : RecipeOut :=
  let un := bit (p.getD 2 0) 8
  let w1 := ws.getD 0 0
  let count := fld w1 20 20
  let mm := minMax un (count = 0) (ws.getD 3 0) (ws.getD 4 0) v
  if count = 2 ^ 20 - 1 then ⟨[w1, ws.getD 1 0, ws.getD 2 0, mm.1, mm.2], true, false⟩
  else
    let x := clip 524287 (roundShift (valueOf un v - valueOf un (p.getD 3 0)) (fld (p.getD 2 0) 15 5))
    let sum := addS 40 (ws.getD 1 0).toInt x.1
    let sq := addU 58 (fld w1 0 18 * 2 ^ 40 + (ws.getD 2 0).toNat) (x.1.natAbs * x.1.natAbs)
    ⟨[wd ((count + 1) * 2 ^ 20 + sq.1 / 2 ^ 40), wdI sum.1, wd (sq.1 % 2 ^ 40), mm.1, mm.2], sum.2 || sq.2, x.2⟩

/-- BIN and SOFT_BIN of LIMIT_BIN from the counters, W3 (09, R281). -/
def limitBin (p : List Word) (low high invalid pass : Nat) : Word :=
  let softLow := fld (p.getD 5 0) 24 16
  let softHigh := fld (p.getD 5 0) 8 16
  let softInvalid := fld (p.getD 6 0) 24 16
  let softPass := fld (p.getD 6 0) 8 16
  let e : Nat × Nat :=
    if 0 < low ∧ 0 < high then (4, softHigh)
    else if 0 < low then (2, softLow)
    else if 0 < high then (3, softHigh)
    else if 0 < invalid then (5, softInvalid)
    else if 0 < pass then (1, softPass)
    else (0, 0)
  wd (e.1 * 2 ^ 36 + e.2 * 2 ^ 20)

/-- LIMIT_BIN for a valid update, or (`none`) for an invalid one (09, R280, R281). -/
def limitStep (p ws : List Word) (v : Option Word) : RecipeOut :=
  let un := bit (p.getD 2 0) 8
  let w1 := ws.getD 0 0
  let w2 := ws.getD 1 0
  let pass := fld w1 20 20
  let low := fld w1 0 20
  let high := fld w2 20 20
  let bad := fld w2 0 20
  let lo := valueOf un (p.getD 3 0)
  let hi := valueOf un (p.getD 4 0)
  let cls : Nat := match v with
    | none => 3
    | some v => if valueOf un v < lo then 1 else if hi < valueOf un v then 2 else 0
  let up := fun (k n : Nat) => if cls = k then addU 20 n 1 else (n, false)
  let a := up 0 pass
  let b := up 1 low
  let c := up 2 high
  let d := up 3 bad
  let mm := match v with
    | none => (ws.getD 3 0, ws.getD 4 0)
    | some v => minMax un (pass + low + high = 0) (ws.getD 3 0) (ws.getD 4 0) v
  ⟨[wd (a.1 * 2 ^ 20 + b.1), wd (c.1 * 2 ^ 20 + d.1), limitBin p b.1 c.1 d.1 a.1, mm.1, mm.2], a.2 || b.2 || c.2 || d.2, false⟩

/-- HISTOGRAM: counters in the order UNDER, BIN0 to BIN7, OVER (09, recipe update rules). -/
def histStep (p ws : List Word) (v : Word) : RecipeOut :=
  let un := bit (p.getD 2 0) 8
  let k := (valueOf un v - valueOf un (p.getD 3 0)).fdiv (p.getD 4 0).toNat
  let j : Nat := if k < 0 then 0 else if 8 ≤ k then 9 else k.toNat + 1
  let w := ws.getD (j / 2) 0
  let lo := 20 - 20 * (j % 2)
  let n := addU 20 (fld w lo 20) 1
  ⟨ws.set (j / 2) (setFld w lo 20 n.1), n.2, false⟩

/-- REGRESSION (09, recipe update rules). -/
def regressStep (p ws : List Word) (v : Word) (t : U80) : RecipeOut :=
  let un := bit (p.getD 2 0) 8
  let w1 := ws.getD 0 0
  let count := fld w1 21 19
  if count = 2 ^ 19 - 1 then ⟨ws, true, false⟩
  else
    let o := u80 (p.getD 4 0) (p.getD 5 0)
    let x := clip 32767 (roundShift ((t.toNat : Int) - o.toNat) (fld (p.getD 2 0) 9 6))
    let y := clip 32767 (roundShift (valueOf un v - valueOf un (p.getD 3 0)) (fld (p.getD 2 0) 15 5))
    let st := addS 40 (ws.getD 1 0).toInt x.1
    let sv := addS 40 (ws.getD 2 0).toInt y.1
    let stt := addU 49 (fld w1 12 9 * 2 ^ 40 + (ws.getD 3 0).toNat) (x.1.natAbs * x.1.natAbs)
    let stv := addS 50 (signedOf 50 (fld w1 2 10 * 2 ^ 40 + (ws.getD 4 0).toNat)) (x.1 * y.1)
    let b := bitsOf 50 stv.1
    ⟨[wd ((count + 1) * 2 ^ 21 + stt.1 / 2 ^ 40 * 2 ^ 12 + b / 2 ^ 40 * 4), wdI st.1, wdI sv.1, wd (stt.1 % 2 ^ 40), wd (b % 2 ^ 40)],
      st.2 || sv.2 || stt.2 || stv.2, x.2 || y.2⟩

/-- FAIL_MAP (09, recipe update rules). -/
def failMapStep (ws : List Word) (plays : Nat) (m : BitVec 160) : RecipeOut :=
  let n := addU 40 (ws.getD 0 0).toNat plays
  ⟨[wd n.1, ws.getD 1 0 ||| m.extractLsb' 0 40, ws.getD 2 0 ||| m.extractLsb' 40 40, ws.getD 3 0 ||| m.extractLsb' 80 40,
    ws.getD 4 0 ||| m.extractLsb' 120 40], n.2, false⟩

/-- LATEST (09, recipe update rules). -/
def latestStep (ws : List Word) (v : Word) (t : U80) (c lane : Nat) : RecipeOut :=
  let n := addU 40 (ws.getD 0 0).toNat 1
  let t0 := u80 (ws.getD 1 0) (ws.getD 2 0)
  let p0 := fld (ws.getD 4 0) 5 6 * 24 + fld (ws.getD 4 0) 0 5
  let p := c * 24 + lane
  let newer := t0.toNat < t.toNat || (t = t0 && (p0 < p || (p0 = p && (ws.getD 3 0).toNat < v.toNat)))
  ⟨if newer then [wd n.1, loWord t, hiWord t, v, wd (c * 32 + lane)] else wd n.1 :: ws.drop 1, n.2, false⟩

/-- ROUTINE (14, R423, R425): what the routine that a parameter set names makes of an update; none for a routine fault. -/
def routineStep (image p ws : List Word) (u : Upd) : Option RecipeOut :=
  (routineOf image (fld (routineEntry image (fld (p.getD 3 0) 0 16) 0) 24 16)
    ([u.value.getD 0, wd u.kind, loWord u.time, hiWord u.time, wd u.site, wd u.cluster, wd u.lane, wd u.flags.toNat] ++
      (List.range 4).map (fun k => p.getD (4 + k) 0) ++ ws)).map (fun r => ⟨r.1, r.2.1, r.2.2⟩)

/-- One valid update under a parameter set's recipe (09, recipe update rules); a routine is the one of an engine's image. -/
def recipeStep (image p ws : List Word) (u : Upd) : RecipeOut :=
  let v := u.value.getD 0
  match fld (p.getD 0 0) 36 4 with
  | 1 => statsStep p ws v
  | 2 => limitStep p ws (some v)
  | 3 => histStep p ws v
  | 4 => regressStep p ws v u.time
  | 5 => failMapStep ws u.plays u.map
  | 6 => latestStep ws v u.time u.cluster u.lane
  | 7 => ⟨v :: ws.take 4, false, false⟩
  | _ => (routineStep image p ws u).getD ⟨ws, false, false⟩

/-- The recipe's count (09, R293; 14, R423). -/
def recipeCount (recipe : Nat) (image p ws : List Word) : Nat :=
  let w := fun k => ws.getD k 0
  match recipe with
  | 1 => fld (w 0) 20 20
  | 2 => fld (w 0) 20 20 + fld (w 0) 0 20 + fld (w 1) 20 20 + fld (w 1) 0 20
  | 3 => (List.range 5).foldl (fun n k => n + fld (w k) 20 20 + fld (w k) 0 20) 0
  | 4 => fld (w 0) 21 19
  | 5 | 6 => (w 0).toNat
  | 15 =>
    let e := routineEntry image (fld (p.getD 3 0) 0 16) 0
    fld (w (fld e 19 3 - 1)) (fld e 13 6) (fld e 7 6)
  | _ => 0

/-! ## Bindings and roles -/

/-- Parameter set `p`, its eight words. -/
def State.psetOf (s : State) (p : Nat) : List Word := (List.range 8).map (fun k => s.reg 0x6004 0 (8 * p + k))

/-- The context and parameter set an update goes to (09, R286). -/
def State.boundTo (s : State) (meas site : Nat) : Option (Nat × Nat) :=
  let a := s.reg 0x6003 0 (2 * meas)
  let b := s.reg 0x6003 0 (2 * meas + 1)
  let first := fld b 16 12
  if bit a 7 && first ≤ site && site ≤ first + fld a 8 12 then some (fld a 20 20 + (site - first), fld b 28 12) else none

/-- The valid bindings, as (measurement number, first context, contexts, parameter set). -/
def State.validBindings (s : State) : List (Nat × Nat × Nat × Nat) :=
  (s.listedWords 0x6003 0).filterMap (fun e =>
    if e.1 % 2 = 0 ∧ bit e.2 7 = true then
      some (e.1 / 2, fld e.2 20 20, fld e.2 8 12 + 1, fld (s.reg 0x6003 0 (e.1 + 1)) 28 12)
    else none)

/-- The contexts that valid bindings naming a parameter set cover (09, R294). -/
def State.contextsOf (s : State) (pset : Nat) : List Nat :=
  ((s.validBindings.filter (fun b => b.2.2.2 = pset)).flatMap (fun b => (List.range b.2.2.1).map (b.2.1 + ·))).eraseDups

/-- The parameter set of the first valid binding that covers a context with a given recipe: it gives the context's empty state. -/
def State.ctxPset (s : State) (n recipe : Nat) : List Word :=
  match s.validBindings.find? (fun b => b.2.1 ≤ n && n < b.2.1 + b.2.2.1 && fld (s.reg 0x6004 0 (8 * b.2.2.2)) 36 4 = recipe) with
  | some b => s.psetOf b.2.2.2
  | none => []

/-- The engine that serves a role (ROLE_MAP). -/
def State.engineOf (s : State) (role : Nat) : Nat := s.regN 0x6000 0x09 role
/-- Whether the updates of a role wait (09, R301, R304): its engine has failed, or is taking this role over. -/
def State.roleWaits (s : State) (role : Nat) : Bool :=
  let e := s.engineOf role
  s.regN (0x6010 + e) 0x00 % 2 = 1 || (match SMap.get (fun _ => none) s.red.takeovers e with
    | some k => k.roles.contains role
    | none => false)

/-- The routine image that the engine of a context holds (14, R422). -/
def State.imageFor (s : State) (n : Nat) : List Word := SMap.get (fun _ => []) s.micro.routines (s.engineOf (n % 16))
/-- Role epoch of the engine that serves a context, for the tag (09, R278). -/
def State.ctxEpoch (s : State) (n : Nat) : Nat := s.regN (0x6010 + s.engineOf (n % 16)) 0x02 % 32

/-! ## Updates -/

/-- READY of a context's result line goes to 0 at the first update after a close (09, R292); the line is read with its parity checked, and
the rest of it stays as stored (01, R22, R23). -/
def State.notReady (s : State) (n : Nat) : State :=
  let r := s.hbmRead (s.resultAt n) 3
  let w := lineWord r.1 0
  if bit w 25 then r.2.hbmPut (s.resultAt n) (withWord r.1 0 (setBit w 25 false)) else r.2

/-- Close a context (09, R291): the result line takes the live line with the next SEQ, the live line returns to its empty state. MFLAGS bit 19
and POISON of the live line stay set (R300). -/
def State.closeCtx (s : State) (n : Nat) : State :=
  let r := s.liveRead n 9
  let l := r.1
  let s := r.2
  let w := lineWord l 0
  let seq := (ctxSeq w + 1) % 16384
  let res := repar (withWord l 0 (setFld (setBit (setBit w 25 true) 24 false) 26 14 seq))
  let s := s.hbmPut (s.resultAt n) res
  let fmt := lineFormat l
  let h := ctxHeader seq false false false false false (mflag 19 (bit w 19))
  s.liveWrite n (ctxLine fmt (s.ctxEpoch n) (linePoison l) h (emptyWords fmt (s.ctxPset n fmt) (s.imageFor n)))

/-- Reset a context: both lines whole, in the empty state of recipe 0 (09, R295). -/
def State.resetCtx (s : State) (n : Nat) : State :=
  let l := mkLine 0 (s.ctxEpoch n) false 0 0 0 0 0 0
  (s.hbmPut (s.resultAt n) l).liveWrite n l

/-- An engine applies an update to context `n` under parameter set `p` (09, R280, R282, R283, R292 to R294). -/
def State.applyTo (s : State) (u : Upd) (n p : Nat) : State :=
  let ps := s.psetOf p
  let recipe := fld (ps.getD 0 0) 36 4
  let image := s.imageFor n
  let entry := fld (ps.getD 3 0) 0 16
  if recipe = 0 then s
  else if u.value.isSome ∧ recipe = 5 ∨ u.value.isNone ∧ recipe ≠ 5 ∧ recipe < 8 then s.addReg 0x6000 0x07 1
  else if recipe = 15 ∧ routineCount image ≤ entry then s.addReg 0x6000 0x07 1
  else
    let s := s.when (s.cached n).isNone (fun s => s.addReg80 0x6000 0x04 1)
    let r := s.liveRead n 3
    let l := r.1
    let s := r.2
    let fmt := lineFormat l
    if fmt ≠ 0 ∧ fmt ≠ recipe then
      let s := s.addReg 0x6000 0x06 1
      s.logPut 0x0601 (wd n) (wd recipe)
    else
      let w0 := lineWord l 0
      let ws := if fmt = 0 then emptyWords recipe ps image else (List.range 5).map (fun k => lineWord l (k + 1))
      let bad := u.flags &&& BitVec.ofNat 20 (fld (ps.getD 0 0) 0 20) ≠ 0
      let out : RecipeOut :=
        if bad then (if recipe = 2 then limitStep ps ws none else ⟨ws, false, false⟩) else recipeStep image ps ws u
      let fault := recipe = 15 && !bad && (routineStep image ps ws u).isNone
      if fault then (s.addReg 0x0E00 0x07 1).logPut 0x0904 (wd entry) (wd n)
      else
      let tc := SMap.get (fun _ => (0 : U80)) s.red.closedTc n
      let late := u.time.toNat < tc.toNat
      let flags := BitVec.ofNat 20 (fld w0 0 20) ||| u.flags ||| mflag 8 out.past ||| mflag 19 (linePoison l)
      let h := ctxHeader (ctxSeq w0) false false (bit w0 23 || out.sat) (bit w0 22 || u.drop) (bit w0 21 || late) flags
      let e := 0x6010 + s.engineOf (n % 16)
      let s := s.liveWrite n (ctxLine recipe (s.ctxEpoch n) (linePoison l) h out.ws)
      let s := s.notReady n
      let s := s.when late (fun s => s.addReg 0x6000 0x08 1)
      let s := (s.addReg80 0x6000 0x03 1).addReg80 e 0x03 1
      let full := fld (ps.getD 0 0) 34 2 = 1 && (ps.getD 1 0).toNat ≤ recipeCount recipe image ps out.ws
      s.when (full && (!bad || recipe = 2)) (fun s => s.closeCtx n)

/-- Whether a line close still to come holds an update of context `n` back (09, R294): one that closes the context and takes only updates
stamped before, whichever binding the update came by. -/
def State.heldBy (s : State) (u : Upd) (n : Nat) : Bool :=
  s.red.closes.any (fun k => k.tc.toNat ≤ u.time.toNat &&
    (match k.left with
     | none => (s.contextsOf k.pset).contains n
     | some ns => ns.contains n))

/-- An update reaches its engine: it is discarded unbound, held behind a line close, or applied (09, R286, R294). -/
def State.updateArrives (s : State) (u : Upd) : State :=
  match s.boundTo u.meas u.site with
  | none => s.addReg 0x6000 0x05 1
  | some (n, p) =>
    if s.heldBy u n then { s with red := { s.red with held := s.red.held ++ [u] } } else s.applyTo u n p

/-- After a line close has closed a context, or is over, the updates that no close holds any more are applied in arrival order (09, R294). -/
def State.releaseHeld (s : State) : State :=
  let stays := fun (u : Upd) => match s.boundTo u.meas u.site with
    | some (m, _) => s.heldBy u m
    | none => false
  let free := s.red.held.filter (fun u => !stays u)
  let s := { s with red := { s.red with held := s.red.held.filter stays } }
  free.foldl (fun s u => s.updateArrives u) s

/-! ## The cluster input (09, R289) -/

/-- The updates waiting in a cluster's input. -/
def State.redInput (s : State) (c : Nat) : List Upd := SMap.get (fun _ => []) s.red.inputs c
/-- Put the updates waiting in a cluster's input; DROP_LIST_FULL ends when it is empty. -/
def State.setInput (s : State) (c : Nat) (us : List Upd) : State :=
  let s := { s with red := { s.red with inputs := SMap.set (fun _ => []) s.red.inputs c us } }
  s.when us.isEmpty (fun s => s.setRegN (0x6040 + c) 0x02 0)
/-- The drop list of a cluster. -/
def State.dropList (s : State) (c : Nat) : List Nat := SMap.get (fun _ => []) s.red.drops c
/-- Put the drop list of a cluster. -/
def State.setDrops (s : State) (c : Nat) (ns : List Nat) : State :=
  { s with red := { s.red with drops := SMap.set (fun _ => []) s.red.drops c ns } }

/-- An update enters its cluster's input; a measurement item that finds it full is dropped and its context listed (09, R289). -/
def State.sendUpdate (s : State) (u : Upd) : State :=
  let us := s.redInput u.cluster
  if us.length < 4096 then s.setInput u.cluster (us ++ [{ u with drop := u.drop || s.regB (0x6040 + u.cluster) 0x02 }])
  else if u.value.isNone then s
  else
    let s := (s.addReg (0x6040 + u.cluster) 0x01 1).logPut 0x0602 (wd u.cluster) 0
    match s.boundTo u.meas u.site with
    | none => s
    | some (n, _) =>
      let ns := s.dropList u.cluster
      if n ∈ ns then s
      else if 64 ≤ ns.length then s.setRegN (0x6040 + u.cluster) 0x02 1
      else (s.setDrops u.cluster (ns ++ [n])).when (ns.length = 63) (fun s => s.setRegN (0x6040 + u.cluster) 0x02 1)

/-! ## The fail stream (09, R287, R288) -/

/-- The coalescer of a cluster. -/
def State.coalOf (s : State) (c : Nat) : List Coal := SMap.get (fun _ => []) s.red.coal c
/-- Put the coalescer of a cluster. -/
def State.setCoal (s : State) (c : Nat) (l : List Coal) : State :=
  { s with red := { s.red with coal := SMap.set (fun _ => []) s.red.coal c l } }

/-- FAIL_MEAS of a cluster, when VALID. -/
def State.failMeas (s : State) (c : Nat) : Option Nat :=
  let w := s.act? (0x6040 + c) 0x00
  if bit w 16 then some (fld w 0 16) else none

/-- The partial map that one failing play of a site gives (09, R287). -/
def State.failMap (s : State) (c meas site : Nat) (lanes : List Nat) (x y : Nat) : BitVec 160 :=
  let p := fld (s.reg 0x6003 0 (2 * meas + 1)) 28 12
  let w := s.reg 0x6004 0 (8 * p + 3)
  let _ := site
  let sh := fld w 27 5
  let base := fld w 32 6
  let is := match fld w 38 2 with
    | 1 => [x >>> sh]
    | 2 => [y >>> sh]
    | _ => lanes.map (fun l => if c < base then 159 else l + 24 * (c - base))
  is.foldl (fun m i => m ||| (BitVec.ofNat 160 (2 ^ min i 159))) 0

/-- A failing play of a site enters the cluster's coalescer (09, R287, R288): `plays` is the play count now. -/
def State.failUpdate (s : State) (c site : Nat) (lanes : List Nat) (flags : MFlags) (time : U80) (x y plays : Nat) : State :=
  match s.failMeas c with
  | none => s
  | some meas =>
    let m := s.failMap c meas site lanes x y
    let l := s.coalOf c
    if l.any (fun k => k.upd.site = site && k.upd.meas = meas) then
      s.setCoal c (l.map (fun k =>
        if k.upd.site = site && k.upd.meas = meas then
          { k with upd := { k.upd with flags := k.upd.flags ||| flags, plays := k.upd.plays + 1, map := k.upd.map ||| m } }
        else k))
    else s.setCoal c (l ++ [⟨⟨meas, c, 0, site, time, flags, 0, none, 1, m, false⟩, plays, false⟩])

/-- The pending updates that `due` picks fall due, and the coalescer sends those that are due while the input has room; the others stay
due (09, R288). -/
def State.coalSend (s : State) (c : Nat) (due : Coal → Bool) : State :=
  let s := s.setCoal c ((s.coalOf c).map (fun k => { k with due := k.due || due k }))
  (s.coalOf c).foldl (fun s k =>
    if k.due && (s.redInput c).length < 4096 then
      (s.setCoal c ((s.coalOf c).filter (fun j => j.upd.site ≠ k.upd.site || j.upd.meas ≠ k.upd.meas))).sendUpdate k.upd
    else s) s

/-! ## Reading results (09, R297, R298) -/

/-- A read of the result of a context: the line as it stands; ALREADY_READ is set in the stored line. -/
def State.resultOf (s : State) (n reader : Nat) : LineData × State :=
  let r := s.hbmRead (s.resultAt n) reader
  let w := lineWord r.1 0
  if bit w 24 then r else (r.1, r.2.hbmPut (s.resultAt n) (withWord r.1 0 (setBit w 24 true)))

/-- The eight words in which RESULTS and LIVE present a context (09, R298). -/
def ctxWords (n : Nat) (l : LineData) : List Word := slotWords l (wd n)

/-! ## Spare engines (09, R301 to R304) -/

/-- The lowest engine whose state and roles `p` accepts. -/
def engineWhere (p : Nat → Bool) : Option Nat := (List.range 18).find? p

/-- Number of roles an engine serves. -/
def State.roleCount (s : State) (e : Nat) : Nat :=
  ((List.range 16).filter (fun r => s.engineOf r = e)).length

/-- Raise an engine's role epoch, journalled as an internal write. -/
def State.engineEpochUp (s : State) (e : Nat) : State :=
  s.internalWrite (0x6010 + e) 0x02 (wd ((s.regN (0x6010 + e) 0x02 + 1) % 256))

/-- Give role `r` of failed engine `f` to engine `e`, which starts taking over (09, R301 steps 2 and 3). -/
def State.giveRole (s : State) (f e r : Nat) : State :=
  let s := (s.red.cache.filter (fun x => x.1 % 16 = r)).foldl (fun s x => s.writeBack x.1) s
  let s := (s.journalAt 2 0x6000 0x09 0 s.now s.internal false (wd (r * 16384))).setRegW 0x6000 0x09 r (wd e)
  let s := s.setReg (0x6010 + f) 0x01 (setBit (s.reg (0x6010 + f) 0x01) r false)
  let s := s.setReg (0x6010 + e) 0x01 (setBit (s.reg (0x6010 + e) 0x01) r true)
  let s := (s.engineEpochUp f).engineEpochUp e
  let old := SMap.get (fun _ => none) s.red.takeovers e
  let tk : Takeover := match old with
    | some k => { k with roles := k.roles ++ [r] }
    | none => ⟨[r], f, s.clock⟩
  let s := { s with red := { s.red with takeovers := SMap.set (fun _ => none) s.red.takeovers e (some tk) } }
  s.setRegN (0x6010 + e) 0x00 2

/-- An S2 fault names an engine (09, R301, R304). -/
def State.engineFault (s : State) (f : Nat) : State :=
  let st := s.regN (0x6010 + f) 0x00
  if st = 3 then s
  else
    let roles := (List.range 16).filter (fun r => s.engineOf r = f)
    let s := s.setRegN (0x6010 + f) 0x00 3
    let s := { s with red := { s.red with takeovers := SMap.set (fun _ => none) s.red.takeovers f none } }
    if st = 1 then s.logPut 0x0605 (wd f) 0
    else roles.foldl (fun s r =>
      match engineWhere (fun e => s.regN (0x6010 + e) 0x00 = 1) with
      | some e => s.giveRole f e r
      | none =>
        match engineWhere (fun e => s.regN (0x6010 + e) 0x00 = 0 && s.roleCount e = 1) with
        | some e => s.giveRole f e r
        | none => s) s

/-- At t1 the engine starts on the waiting updates (09, R301 steps 4 and 5). -/
def State.takeoverDone (s : State) (e : Nat) : State :=
  match SMap.get (fun _ => none) s.red.takeovers e with
  | none => s
  | some k =>
    let ns := (s.clock - k.at0) / 4096
    let s := { s with red := { s.red with takeovers := SMap.set (fun _ => none) s.red.takeovers e none } }
    let s := (s.setRegN (0x6010 + e) 0x00 0).setRegN (0x6010 + e) 0x04 ns
    let s := k.roles.foldl (fun s r => s.logPut 0x0604 (wd (k.failed * 2 ^ 32 + e * 2 ^ 24 + r * 2 ^ 16)) (wd (ns / 1000))) s
    s.raiseEvent 0x5004 s.now

end Sys2Proof.Machine
end

