-- ==== Sys2Proof/Machine/Regions.lean ====
section
/-! DEFINITION. Machine/Regions.lean: the system regions of HBM and what may not lie on them (15, R430, R431; 10, R306; 12, R368; 18, R516). -/

namespace Sys2Proof.Machine

/-- The regions, as (first line, lines), that the four owner objects' values place: contexts, pool with its links, reply
cache; and the fixed journal region. -/
def regionsOf (ctx pool poolLines reply : Nat) : List (Nat × Nat) :=
  [(ctx, 2097152), (pool, poolLines + poolLines / 8), (reply, 720896), (0x5FD00000, 1048576)]

/-- The regions in effect. -/
def State.regionsNow (s : State) : List (Nat × Nat) :=
  regionsOf (s.actN 0x6000 0x00) (s.actN 0x7000 0x00) (s.actN 0x7000 0x01) (s.actN 0x1100 0x03)

/-- The regions in effect after the next reset. -/
def State.regionsNext (s : State) : List (Nat × Nat) :=
  regionsOf (s.regN 0x6000 0x00) (s.regN 0x7000 0x00) (s.regN 0x7000 0x01) (s.regN 0x1100 0x03)

/-- Whether `n` lines from `a` meet a region. -/
def meets (a n : Nat) (rs : List (Nat × Nat)) : Bool := rs.any (fun r => a < r.1 + r.2 && r.1 < a + n)

/-- Whether `n` lines from `a` lie on no system region, now or after the next reset (15, R430). -/
def State.clearOf (s : State) (a n : Nat) : Bool := !meets a n s.regionsNow && !meets a n s.regionsNext

/-- Whether a stream treats a vector address as unmapped (06, R179; 15, R430). -/
def State.unmapped (s : State) (a : Nat) : Bool := 0xC0000000 ≤ a || meets (a / 2) 1 s.regionsNow

end Sys2Proof.Machine
end

