-- ==== Sys2Proof/Machine/Stream.lean ====
section
/-! DEFINITION. Machine/Stream.lean: vectors, control flow, fetch order, loop buffers and target stores (06, R178 to R187; 07, R219 to R225). -/

namespace Sys2Proof.Machine

/-- A word of a control, flow, jump or result object of a cluster's sequencer that acts at boundaries: its active value. -/
def State.sqAct (s : State) (c obj sub : Nat) (w : Nat := 0) : Nat := s.actN (seqIdx obj c) sub w
/-- The same as fetch order sees it: outside RUN, the written value that the run start will make active (05, R167). -/
def State.sqVal (s : State) (c obj sub : Nat) (w : Nat := 0) : Nat :=
  if s.seqState c = 3 then s.actN (seqIdx obj c) sub w else s.regN (seqIdx obj c) sub w

/-! ## Vectors (06, R178) -/

/-- OPCODE of a vector. -/
def vecOp (v : Vec) : Nat := fld v.w2 21 5
/-- OPERAND of a vector. -/
def vecOperand (v : Vec) : Nat := fld v.w2 26 14
/-- TSET of a vector. -/
def vecSet (v : Vec) : Nat := fld v.w2 16 5
/-- The pin-state code of lane `n`. -/
def vecCode (v : Vec) (n : Nat) : Nat :=
  fld (match n / 10 with | 0 => v.w0 | 1 => v.w1 | _ => v.w2) (4 * (n % 10)) 4
/-- The vector of half `h` of a line. -/
def lineVec (l : LineData) (h : Nat) : Vec := ⟨lineWord l (3 * h), lineWord l (3 * h + 1), lineWord l (3 * h + 2), linePoison l⟩
/-- The KEEPALIVE vector of a cluster. -/
def State.keepVec (s : State) (c : Nat) : Vec :=
  ⟨s.act? (seqIdx 0 c) 6 0, s.act? (seqIdx 0 c) 6 1, s.act? (seqIdx 0 c) 6 2, false⟩

/-! ## Control flow (06, R184 to R187; 07, R220, R221) -/

/-- Loop `n` of a control state. -/
def Ctl.loop (k : Ctl) (n : Nat) : Option LoopSt := (k.loops[n]?).getD none
/-- Set loop `n`. -/
def Ctl.setLoop (k : Ctl) (n : Nat) (l : Option LoopSt) : Ctl := { k with loops := k.loops.set n l }
/-- Note the play of address `a` in the loops whose first iteration is playing. -/
def Ctl.note (k : Ctl) (a : Nat) : Ctl :=
  { k with loops := k.loops.map (fun l => l.map (fun l => if l.first then { l with lo := min l.lo a, hi := max l.hi a } else l)) }

/-- A count operand, or the object it stands for when 0 (06, R185). -/
def countOr (operand reg : Nat) : Nat := if operand = 0 then reg else operand

/-- The 14-bit signed offset of JMPR. -/
def jmprOffset (n : Nat) : Int := if n < 8192 then (n : Int) else (n : Int) - 16384

/-- Where control goes after the vector `v` at `a` has played; `fetch` is the prefetcher's view, in which a resident loop's
later iterations take nothing (06, R186, R187; 07, R220, R221). -/
def State.flow (s : State) (c : Nat) (fetch : Bool) (k : Ctl) (a : Nat) (v : Vec) : Ctl :=
  let k := k.note a
  let op := vecOp v
  let n := vecOperand v
  let next : Ctl := { k with pc := (a + 1) % 4294967296 }
  if 2 ≤ op ∧ op ≤ 5 then
    next.setLoop (op - 2) (some ⟨countOr n (s.sqVal c 1 (op - 2)), a + 1, true, a + 1, a + 1, false⟩)
  else if 6 ≤ op ∧ op ≤ 9 then
    match k.loop (op - 6) with
    | none => next
    | some l =>
      let resident := if l.first then l.start ≤ l.lo && l.hi ≤ a && a < l.start + 6144 else l.resident
      if l.count ≤ 1 ∨ (fetch = true ∧ resident = true) then next.setLoop (op - 6) none
      else ({ k with pc := l.start }).setLoop (op - 6) (some { l with count := l.count - 1, first := false, resident := resident })
  else if op = 0x0A then { k with pc := s.sqVal c 1 9 n }
  else if op = 0x0B then { k with pc := (((a : Int) + jmprOffset n) % 4294967296).toNat }
  else if op = 0x0C then { k with pc := s.sqVal c 1 9 n, stack := (a + 1) :: k.stack }
  else if op = 0x0D then { k with pc := k.stack.headD (a + 1), stack := k.stack.drop 1 }
  else next

/-! ## Fetching (07, R220, R223 to R226) -/

/-- A prefetcher takes the vector it has come to: nothing beyond a HALT. -/
def State.fetchOne (s : State) (c : Nat) (f : Fetch) (v : Vec) : Fetch :=
  let a := f.ctl.pc
  let ahead := f.ahead ++ [(a, v)]
  if vecOp v = 0x14 then ⟨f.ctl, true, ahead⟩
  else ⟨s.flow c true f.ctl a v, false, ahead⟩

/-- A prefetcher takes what it needs of a line: the vector it has come to, and the other half when fetch order goes there. -/
def State.fetchLine (s : State) (c room : Nat) (f : Fetch) (l : LineData) : Fetch :=
  let a := f.ctl.pc
  let g := s.fetchOne c f (lineVec l (a % 2))
  if a % 2 = 0 ∧ !g.stopped ∧ g.ctl.pc = a + 1 ∧ g.ahead.length < room then s.fetchOne c g (lineVec l 1) else g

/-- Whether a prefetcher of at most `room` vectors has room for the line it has come to: the read-ahead for both its vectors, which it takes
in one read (07, R223, R233); a store entry, which holds the first 512 vectors, for one. -/
def hasRoom (room : Nat) (f : Fetch) : Bool := f.ahead.length + (if room = 2048 && f.ctl.pc % 2 = 0 then 2 else 1) ≤ room

/-- Whether a prefetcher of at most `room` vectors wants a line. -/
def State.fetchWants (s : State) (room : Nat) (f : Fetch) : Bool :=
  !f.stopped && hasRoom room f && !s.unmapped f.ctl.pc

/-- A prefetcher that starts at an address with the given control state. -/
def Fetch.start (k : Ctl) : Fetch := ⟨k, false, []⟩

/-- Whether a prefetcher is loaded: full, at a HALT, or at the end of an implemented range (07, R224). A read-ahead of 2,047 vectors that has
come to a line of two counts as full: DEDUCED from R223, log entry 56. -/
def State.fetchDone (s : State) (room : Nat) (f : Fetch) : Bool := f.stopped || !hasRoom room f || s.unmapped f.ctl.pc

/-- Whether the sequencer plays a later iteration of a resident loop or of a match block (07, R221). -/
def SeqSt.replays (x : SeqSt) : Bool :=
  x.ctl.loops.any (fun l => match l with
    | some l => !l.first && l.resident
    | none => false) || (match x.block with
    | some b => 1 < b.iter
    | none => false)

/-- The vector due next, when it is on hand: first met in the read-ahead, or kept in the loop buffer (07, R219, R221). -/
def SeqSt.onHand (x : SeqSt) : Option Vec :=
  let kept := SMap.get (fun _ => none) x.kept x.ctl.pc
  let head := match x.fetch.ahead with
    | e :: _ => if e.1 = x.ctl.pc then some e.2 else none
    | [] => none
  if x.replays then (match kept with | some v => some v | none => head) else head

/-- The sequencer takes the vector due: it leaves the read-ahead, and stays in the loop buffer while a loop or block is open. -/
def SeqSt.take (x : SeqSt) : SeqSt :=
  let pc := x.ctl.pc
  if x.replays && (SMap.get (fun _ => none) x.kept pc).isSome then x
  else
    match x.fetch.ahead with
    | [] => x
    | e :: es =>
      { x with fetch := { x.fetch with ahead := es }, taken := x.taken + 1, kept := SMap.set (fun _ => none) x.kept pc (some e.2) }

/-- After control has moved on: the loop buffer gives up what no open loop or block can play again, and a prefetcher that is
not on the way to the next vector is redirected to it. -/
def SeqSt.settle (x : SeqSt) : SeqSt :=
  let inner := x.ctl.loops.any (·.isSome) || x.block.isSome
  let x := if inner then x else { x with kept := [] }
  let has := (x.onHand).isSome || (x.replays && (SMap.get (fun _ => none) x.kept x.ctl.pc).isSome)
  let onWay := match x.fetch.ahead with
    | e :: _ => e.1 = x.ctl.pc
    | [] => !x.fetch.stopped && x.fetch.ctl.pc = x.ctl.pc
  if has || onWay then x else { x with fetch := Fetch.start x.ctl }

/-! ## The target store (07, R225) -/

/-- The four jump targets that a cluster's store holds: JUMP_LINE_TARGET and the entries of PREFETCH_TARGETS. -/
def State.storeTargets (s : State) (c : Nat) : List (Option Nat) :=
  let pf := fun k =>
    let w := s.act? (seqIdx 0x20 c) 1 k
    if bit w 14 then some (s.sqAct c 1 9 (fld w 0 14)) else none
  [some (s.sqAct c 1 9 (s.regN (seqIdx 0x02 c) 2)), pf 0, pf 1, pf 2]

/-- Load the store: the entries whose target has changed start again (07, R225). -/
def State.loadStore (s : State) (c : Nat) (all : Bool) : State :=
  let want := s.storeTargets c
  s.onSq c (fun x =>
    let e := fun k => match want.getD k none with
      | none => Fetch.idle
      | some a =>
        let old := x.store.getD k Fetch.idle
        if !all && x.targets.getD k 0xFFFFFFFFFF = a then old else Fetch.start (Ctl.at a)
    { x with store := (List.range 4).map e, targets := (List.range 4).map (fun k => (want.getD k none).getD 0xFFFFFFFFFF) })

/-- The store's entry for a jump to `a`, if one holds it. -/
def SeqSt.stored (x : SeqSt) (a : Nat) : Option Fetch :=
  ((List.range 4).find? (fun k => x.targets.getD k 0xFFFFFFFFFF = a && !(x.store.getD k Fetch.idle).ahead.isEmpty)).map
    (fun k => x.store.getD k Fetch.idle)

/-! ## Broadcast groups (07, R232 to R234) -/

/-- BCAST_GROUP of a cluster. -/
def State.bcastGroup (s : State) (c : Nat) : Nat := s.regN (seqIdx 0x20 c) 0
/-- Whether a cluster is attached to its group's stream. -/
def State.attached (s : State) (c : Nat) : Bool := s.regN (seqIdx 0x20 c) 9 = 1
/-- The clusters that belong to a group. -/
def State.membersOf (s : State) (g : Nat) : List Nat := clustersWhere (fun c => s.bcastGroup c = g)
/-- The members that a group's stream serves: attached, and ARMING, ARMED or in RUN. -/
def State.attachedTo (s : State) (g : Nat) : List Nat := clustersWhere (fun c => s.bcastGroup c = g && s.attached c && 1 ≤ s.seqState c && s.seqState c ≤ 3)
/-- Group `g` beside its objects. -/
def State.grp (s : State) (g : Nat) : GroupSt := SMap.get (fun _ => (⟨0, none⟩ : GroupSt)) s.groups g
/-- Put group `g`. -/
def State.setGrp (s : State) (g : Nat) (x : GroupSt) : State :=
  { s with groups := SMap.set (fun _ => (⟨0, none⟩ : GroupSt)) s.groups g x }

/-- Set the bit of cluster `c` in a two-word member map. -/
def State.markMember (s : State) (i sub c : Nat) (b : Bool) : State :=
  s.setRegW i sub (c / 40) (setBit (s.reg i sub (c / 40)) (c % 40) b)

/-- A member leaves its group's stream for one of its own, for reason 1 diverged, 2 run ended, 3 hold limit (07, R234). -/
def State.detach (s : State) (c reason : Nat) : State :=
  if s.attached c then
    let g := s.bcastGroup c
    let s := s.setRegN (seqIdx 0x20 c) 9 2
    let s := s.markMember (0x3C00 + g) 6 c true
    let s := s.logPut 0x0503 (wd (c * 2 ^ 34 + g * 2 ^ 28 + reason)) 0
    if (s.attachedTo g).isEmpty then (s.setGrp g ⟨0, none⟩).setRegN (0x3C00 + g) 4 0 else s
  else s

/-- RESIDENT of a cluster: the open loops found resident, and an open match block. -/
def State.showResident (s : State) (c : Nat) : State :=
  let x := s.sq c
  let b := fun n => match x.ctl.loop n with
    | some l => b2n l.resident * 2 ^ n
    | none => 0
  s.setRegN (seqIdx 0x20 c) 3 (b 0 + b 1 + b 2 + b 3 + b2n x.block.isSome * 16)

/-- The address that a cluster's held jump request leads to. -/
def State.jumpTo (s : State) (c : Nat) : Option Nat := (s.sq c).jump.map (fun j => s.sqAct c 1 9 j.target)

/-- A member's stream comes to another vector than the group's (07, R234): it is detached at once, unless every other member has come to the
same one or is about to jump to it; then the group's stream goes there. -/
def State.follow (s : State) (c : Nat) : State :=
  if s.attached c then
    let g := s.bcastGroup c
    let a := (s.sq c).fetch.ctl.pc
    if a = (s.grp g).next then s
    else if ((s.attachedTo g).filter (· ≠ c)).all (fun d => (s.sq d).fetch.ctl.pc = a || s.jumpTo d = some a) then
      s.setGrp g { s.grp g with next := a }
    else s.detach c 1
  else s

/-- A line of the group's stream is written to every attached member when all have room for it (07, R233); a member whose fetch order then
goes elsewhere than the first member's leaves the stream (07, R234). -/
def State.groupRefill (s : State) (g : Nat) : State :=
  let ms := s.attachedTo g
  match ms with
  | [] => s
  | d0 :: _ =>
    if ms.all (fun d => s.fetchWants 2048 (s.sq d).fetch) then
      let r := s.hbmRead ((s.grp g).next / 2) 1
      let s := ms.foldl (fun s d => s.onSq d (fun x => { x with fetch := s.fetchLine d 2048 x.fetch r.1 })) r.2
      let next := (s.sq d0).fetch.ctl.pc
      let s := s.setGrp g { s.grp g with next := next }
      (ms.filter (fun d => (s.sq d).fetch.ctl.pc ≠ next)).foldl (fun s d => s.detach d 1) s
    else s

/-- A stream read completes (07, R223, R226): lines reach the read-ahead of a cluster, of every attached member of its group, (`into` 1 to 4)
an entry of its target store, or (`into` 5) the target of a jump that is pending since the window closed (07, R225). `poison` upsets come
with the step. -/
def State.refill (s : State) (c into : Nat) : State :=
  let st := s.seqState c
  if st = 0 ∨ 4 ≤ st then s
  else if into = 5 then
    match (s.sq c).coming with
    | none => s
    | some (a, f) =>
      if s.fetchWants 2048 f then
        let r := s.hbmRead (f.ctl.pc / 2) 0
        r.2.onSq c (fun x => { x with coming := some (a, r.2.fetchLine c 2048 f r.1) })
      else s
  else if into ≠ 0 then
    let f := (s.sq c).store.getD (into - 1) Fetch.idle
    if s.fetchWants 512 f then
      let r := s.hbmRead (f.ctl.pc / 2) (b2n (s.attached c))
      let g := r.2.fetchLine c 512 f r.1
      r.2.onSq c (fun x => { x with store := x.store.set (into - 1) g })
    else s
  else if s.attached c then
    let g := s.bcastGroup c
    let s := ((s.attachedTo g).filter (fun d => (s.sq d).fetch.ctl.pc ≠ (s.grp g).next)).foldl (fun s d => s.follow d) s
    if s.attached c then s.groupRefill g else s
  else
    let f := (s.sq c).fetch
    if s.fetchWants 2048 f then
      let r := s.hbmRead (f.ctl.pc / 2) 0
      r.2.onSq c (fun x => { x with fetch := r.2.fetchLine c 2048 x.fetch r.1 })
    else s

/-- STREAM_DEMAND: lines/s of the active streams (07, R243). -/
def State.streamDemand (s : State) : Nat :=
  let active := fun c => 1 ≤ s.seqState c && s.seqState c ≤ 3
  let shortest := fun c => (List.range 32).foldl (fun p n => min p (s.actN (tsIdx c n) 0xF0)) 68718592
  let rate := fun p => 4096000000000 / (2 * p)
  let alone := (clustersWhere (fun c => active c && (s.bcastGroup c = 0 || s.regN (seqIdx 0x20 c) 9 = 2))).foldl (fun n c => n + rate (shortest c)) 0
  (List.range 47).foldl (fun n k =>
    let ms := s.membersOf (k + 1)
    if ms.any active then n + rate (ms.foldl (fun p c => min p (shortest c)) 68718592) else n) alone

end Sys2Proof.Machine
end

