-- ==== Sys2Proof/Machine/Apg.lean ====
section
/-! DEFINITION. Machine/Apg.lean: the algorithmic pattern generator (07, R235 to R241). -/

namespace Sys2Proof.Machine

/-- A field of a 24-bit APG object of cluster `c`, active value. -/
def State.apg (s : State) (c obj sub : Nat) (w : Nat := 0) : Nat := s.actN (seqIdx obj c) sub w

/-- An address operation on `x` of `n` bits with base, maximum, step and the other address: the result, masked to `n` bits, and its carry (07, R237). -/
def addrOp (op n base top inc x y : Nat) : Nat × Bool :=
  let m := 2 ^ n
  let low := x % m
  match op with
  | 1 => ((x + inc) % m, false)
  | 2 => ((x + (m - inc % m)) % m, false)
  | 3 => if top < x + inc then (base, true) else ((x + inc) % m, false)
  | 4 => if x < base + inc then (top, true) else ((x - inc) % m, false)
  | 5 => (base % m, false)
  | 6 => (top % m, false)
  | 7 => (low ^^^ (m - 1), false)
  | 8 => ((2 * low + low / 2 ^ (n - 1)) % m, false)
  | 9 => (low / 2 + low % 2 * 2 ^ (n - 1), false)
  | 10 => ((x + y) % m, false)
  | _ => (low, false)

/-- A data operation on `d` (07, table of data operations). -/
def dataOp (op bg0 inc d x : Nat) : Nat :=
  match op with
  | 1 => bg0
  | 2 => d ^^^ 0xFFFFFF
  | 3 => (d + inc) % 16777216
  | 4 => (2 * d + d / 8388608) % 16777216
  | 5 => d / 2 + d % 2 * 8388608
  | 6 => d ^^^ x
  | 7 => x
  | _ => d

/-- A scrambled address: bit `k` is bit `perm k` of the address, xor the mask (07, R238). -/
def scramble (perm : Nat → Nat) (mask a : Nat) : Nat :=
  ((List.range 24).foldl (fun n k => n + b2n (a.testBit (perm k)) * 2 ^ k) 0) ^^^ mask

/-- What an APGS play outputs: XS, YS, O and DIR. -/
structure ApgOut where
  xs : Nat
  ys : Nat
  o : Nat
  dir : Nat
  deriving DecidableEq, Repr

/-- The output stage of an instruction (07, R238). -/
def State.apgOut (s : State) (c : Nat) (w : Word) (x y d : Nat) : ApgOut :=
  let xs := scramble (fun k => s.apg c 0x23 0 k) (s.apg c 0x23 2) x
  let ys := scramble (fun k => s.apg c 0x23 1 k) (s.apg c 0x23 3) y
  let sel := fld w 23 3
  let bg0 := s.apg c 0x22 8
  let base := if sel < 4 then s.apg c 0x22 (8 + sel) else if sel = 4 then d
    else if x.testBit 0 != y.testBit 0 then bg0 ^^^ 0xFFFFFF else bg0
  let o1 := if bit w 22 then base ^^^ 0xFFFFFF else base
  let i := (List.range 8).foldl (fun n j =>
    let e := s.apg c 0x23 4 j
    n + b2n ((if e.testBit 5 then ys else xs).testBit (e % 32)) * 2 ^ j) 0
  let o2 := if bit w 19 && (s.apg c 0x23 5 i).testBit 0 then o1 ^^^ 0xFFFFFF else o1
  ⟨xs, ys, o2, fld w 20 2⟩

/-- The code of a lane in an APGS play, from the APG when APG_MAP assigns it (07, R239). -/
def State.apgCode (s : State) (c : Nat) (out : ApgOut) (v : Vec) (lane : Nat) : Nat :=
  let m := s.apg c 0x24 0 lane
  let b := m % 32
  match m / 32 with
  | 1 => if out.xs.testBit b then 2 else 1
  | 2 => if out.ys.testBit b then 2 else 1
  | 3 =>
    match out.dir with
    | 0 => if out.o.testBit b then 2 else 1
    | 1 => if out.o.testBit b then 6 else 5
    | _ => 0
  | _ => vecCode v lane

/-- X, Y and D after an instruction; every operation reads the values from before it (07, R235). -/
def State.apgStep (s : State) (c : Nat) (w : Word) : State :=
  let x := s.regN (seqIdx 0x25 c) 0
  let y := s.regN (seqIdx 0x25 c) 1
  let d := s.regN (seqIdx 0x25 c) 2
  let p := fun k => s.apg c 0x22 k
  let nx := addrOp (fld w 36 4) (p 0) (p 1) (p 2) (p 3) x y
  let ny := if fld w 30 2 = 1 ∧ !nx.2 then y else (addrOp (fld w 32 4) (p 4) (p 5) (p 6) (p 7) y x).1
  let nd := dataOp (fld w 26 4) (p 8) (p 12) d x
  ((s.setRegN (seqIdx 0x25 c) 0 nx.1).setRegN (seqIdx 0x25 c) 1 ny).setRegN (seqIdx 0x25 c) 2 nd

/-- At the start of a run X takes XBASE, Y takes YBASE and D takes BG0 (07, R240). -/
def State.apgStart (s : State) (c : Nat) : State :=
  ((s.setRegN (seqIdx 0x25 c) 0 (s.apg c 0x22 1)).setRegN (seqIdx 0x25 c) 1 (s.apg c 0x22 5)).setRegN (seqIdx 0x25 c) 2 (s.apg c 0x22 8)

/-- Whether an APG instruction carries a reserved code or field (07, R237). -/
def apgBad (w : Word) : Bool :=
  10 < fld w 36 4 || 10 < fld w 32 4 || 1 < fld w 30 2 || 7 < fld w 26 4 || 5 < fld w 23 3 || fld w 20 2 = 3 || fld w 0 19 ≠ 0

/-- Whether bases exceed maxima, or values their generator's width, as written (07, R240). -/
def State.apgBoundsBad (s : State) (c : Nat) : Bool :=
  let p := fun k => s.regN (seqIdx 0x22 c) k
  let wide := fun n v => 2 ^ n ≤ v
  p 2 < p 1 || p 6 < p 5 || wide (p 0) (p 1) || wide (p 0) (p 2) || wide (p 0) (p 3) ||
    wide (p 4) (p 5) || wide (p 4) (p 6) || wide (p 4) (p 7)

end Sys2Proof.Machine
end

