-- ==== Sys2Proof/Machine/Seq.lean ====
section
/-! DEFINITION. Machine/Seq.lean: plays, fails, runs, boundaries, match blocks, waits and stream gaps of a sequencer (05, R152 to R167; 06; 07, R228 to R234). -/

namespace Sys2Proof.Machine

/-- Meridian time of an instant of LOCAL in et. -/
def State.mAt (s : State) (e : Nat) : U80 := s.meridianOf (e / 32)

/-- The next instant of the MREF grid (LOCAL a multiple of 1,280 mt) at or after `e`, in et. -/
def gridUp (e : Nat) : Nat := (e + 40959) / 40960 * 40960

/-- The release instant, in et, that an occurrence gives: a timed-event slot's effect time, else its stamp plus 64 ns (06, R188, R215). -/
def State.releaseAt (s : State) (stamp : U80) (timed : Bool) : Nat :=
  s.localOf stamp * 32 + (if timed then 0 else nsEt 64)

/-! ## Drive and strobes of one cycle (05, R157 to R163, R166; 06, R181, R182) -/

/-- An edge of slice `n` in a set, active value: 0 E0, 1 E1, 2 E2, 3 E3, 4 C0, 5 C1. -/
def State.edge (s : State) (c set n e : Nat) : Nat := s.actN (tsIdx c set) (6 * n + e)
/-- PERIOD in effect of a set. -/
def State.period (s : State) (c set : Nat) : Nat := s.actN (tsIdx c set) 0xF0
/-- Whether a slice is inactive in a set: its six edges are OFF (05, R163). -/
def State.inactive (s : State) (c set n : Nat) : Bool := (List.range 6).all (fun e => s.edge c set n e = edgeOff)
/-- The data transitions a slice's format places in a cycle, from its start (05, R158). -/
def State.dataEdges (s : State) (c set n : Nat) : List Nat :=
  if s.inactive c set n then [] else dataTimes (s.actN (tsIdx c set) 0xF1 n) (s.edge c set n 1) (s.edge c set n 2)
/-- The strobes of a slice in a cycle, from its start. -/
def State.strobeEdges (s : State) (c set n : Nat) : List Nat :=
  [s.edge c set n 4, s.edge c set n 5].filter (fun e => e ≠ edgeOff)
/-- Deskew of a slice in the band in use: `cmp` the strobe deskew, else the drive deskew (05, R157). -/
def State.deskew (s : State) (c n : Nat) (cmp : Bool) : Int :=
  (s.act? (peIdx ((if cmp then 0x24 else 0x20) + s.regN (peIdx 0x29 c) 0xF2 % 4) c) n).toInt

/-- Least element of a list. -/
def least : List Nat → Option Nat
  | [] => none
  | a :: l => some (l.foldl min a)
/-- Greatest element of a list. -/
def greatest : List Nat → Option Nat
  | [] => none
  | a :: l => some (l.foldl max a)

/-- Whether an instant lies less than 1,280 et after an earlier one, when there is one. -/
def near (earlier : Option Nat) (later : Option Nat) : Bool :=
  match earlier, later with
  | some a, some b => b < a + 1280
  | _, _ => false

/-- Slice `n` crowds at the cycle that starts at `at_` in `set`: its data edges, and its strobes (05, R166). -/
def State.crowds (s : State) (c set at_ n : Nat) : Bool × Bool :=
  match (s.sq c).prev with
  | none => (false, false)
  | some p =>
    if p.set = set then (false, false)
    else
      let e3 := s.edge c set n 3
      let first := (s.dataEdges c set n).foldl min (if e3 = edgeOff then 0 else e3)
      (near (p.data.getD n none) (some (at_ + first)), near (p.strobe.getD n none) ((least (s.strobeEdges c set n)).map (at_ + ·)))

/-- Data A and B of a pin-state code, from the present data state; none when the code does not drive (06, table of codes). -/
def codeData (code : Nat) (present : Bool) : Option (Bool × Bool) :=
  match code with
  | 1 => some (false, false)
  | 2 => some (true, true)
  | 3 => some (false, true)
  | 4 => some (true, false)
  | 14 => some (present, present)
  | 15 => some (!present, present)
  | _ => none

/-- Expectations A and B of a code: 0 L, 1 M, 2 H (06, table of codes). -/
def codeExpect (code : Nat) : Option Nat × Option Nat :=
  match code with
  | 5 => (some 0, some 0)
  | 6 => (some 2, some 2)
  | 7 => (some 0, some 2)
  | 8 => (some 2, some 0)
  | 9 => (some 1, some 1)
  | 10 => (some 0, none)
  | 11 => (some 2, none)
  | 12 => (none, some 0)
  | 13 => (none, some 2)
  | _ => (none, none)

/-- The data levels a format places at its data transitions (05, R158). -/
def dataLevels (fmt : Nat) (a b : Bool) : List Bool :=
  match fmt with
  | 0 => [a]
  | 1 => [a, false]
  | 2 => [a, true]
  | 3 => [!a, a, !a]
  | _ => [a, b]

/-- 1 for VIL, 2 for VIH. -/
def levelOf (b : Bool) : Nat := if b then 2 else 1

/-- The transitions of a slice's driver in one cycle, from the cycle start, and what it is left with (05, R158, R159, R163). -/
def State.driveSlice (s : State) (c set n code : Nat) (x : SliceSt) : List (Nat × Nat) × SliceSt :=
  let off := s.inactive c set n
  match if off then none else codeData code x.data with
  | none =>
    if x.drive = 0 then ([], x)
    else
      let e3 := s.edge c set n 3
      ([(if off || e3 = edgeOff then 0 else e3, 0)], { x with drive := 0 })
  | some (a, b) =>
    let fmt := s.actN (tsIdx c set) 0xF1 n
    let ls := dataLevels fmt a b
    let data := (s.dataEdges c set n).zip (ls.map levelOf)
    let e0 := s.edge c set n 0
    let on := if x.drive = 0 ∧ e0 ≠ edgeOff then [(e0, levelOf x.data)] else []
    let last := ls.getLastD x.data
    (on ++ data, { x with drive := levelOf last, data := last })

/-- The lane slice `n` serves now. -/
def State.laneOf (s : State) (c n : Nat) : Option Nat :=
  if n < 24 then (if s.servedBy c n = some n then some n else none)
  else if s.sliceState c 24 = 2 then some (s.spareLane c) else none

/-- Every slice that serves a lane drives one cycle of `set` from `at_` with the codes of its lanes; drive edges and strobes are placed at the
cycle start plus edge plus deskew (05, R157). The drivers of a domain being rehomed place no edge (05, table of rehome steps). -/
def State.driveCycle (s : State) (c set at_ : Nat) (codes : Nat → Nat) : State :=
  let r := (List.range 25).foldl (fun (a : State × List (Nat × Int × Nat) × List (Nat × Int)) n =>
    match s.laneOf c n with
    | none => a
    | some l =>
      let d := a.1.driveSlice c set n (codes l) (a.1.slice c n)
      if s.onRehome c n then (a.1.onSlice c n (fun _ => { d.2 with drive := 0 }), a.2)
      else
        (a.1.onSlice c n (fun _ => d.2), a.2.1 ++ d.1.map (fun e => (n, (at_ : Int) + e.1 + s.deskew c n false, e.2)),
          a.2.2 ++ (s.strobeEdges c set n).map (fun e => (n, (at_ : Int) + e + s.deskew c n true)))) (s, [], [])
  r.1.onSq c (fun x => { x with wave := r.2.1, strobes := r.2.2 })

/-- What a strobe sees: the state of a lane in a 2-bit field. -/
def sampleOf (v : BitVec 48) (l : Nat) : Nat := (v.toNat >>> (2 * l)) % 4

/-- Whether a lane fails in one cycle (05, R160, R166; 06, R181 to R183). -/
def State.laneFails (s : State) (c set l code : Nat) (crowd : Bool) (m : Samples) : Bool :=
  let n := (s.servedBy c l).getD l
  if s.inactive c set n then false
  else
    let forced := s.strobesFail c l
    let c0 := s.edge c set n 4
    let c1 := s.edge c set n 5
    let x := codeExpect code
    let fails := fun (e : Option Nat) (seen : Nat) (near : Bool) =>
      match e with
      | none => false
      | some v => forced || near || seen ≠ v
    if s.actN (tsIdx c set) 0xF2 n = 1 then fails x.1 (sampleOf m.a l) crowd
    else
      let a := c0 ≠ edgeOff && fails x.1 (sampleOf m.a l) (crowd && (c1 = edgeOff || c0 < c1))
      let b := c1 ≠ edgeOff && fails x.2 (sampleOf m.b l) (crowd && (c0 = edgeOff || c1 < c0))
      a || b

/-- What one cycle gives: the lanes that fail and the lanes that crowd. -/
structure CycleOut where
  fails : Nat
  crowd : Nat
  deriving DecidableEq, Repr

/-- One cycle of `set` from `at_` (05, R157 to R166): crowding, drive, and the strobes of the lanes that `judge` picks. -/
def State.cycle (s : State) (c set at_ : Nat) (codes : Nat → Nat) (judge : Nat → Bool) (m : Samples) : CycleOut × State :=
  let cr := (List.range 25).map (fun n => s.crowds c set at_ n)
  let crowded := fun n => (cr.getD n (false, false)).1 || (cr.getD n (false, false)).2
  let any := (List.range 25).any crowded
  let lanes := (List.range 24).foldl (fun (a : CycleOut) l =>
    let n := (s.servedBy c l).getD l
    let f := judge l && s.laneFails c set l (codes l) (cr.getD n (false, false)).2 m
    ⟨a.fails + b2n f * 2 ^ l, a.crowd + b2n (crowded n) * 2 ^ l⟩) ⟨0, 0⟩
  let s := s.when any (fun s => (s.addReg (peIdx 0x29 c) 0xF3 1).setReg80 (peIdx 0x29 c) 0xF4 (s.mAt at_))
  let rec_ : PlayRec := ⟨set, at_, (List.range 25).map (fun n => (greatest (s.dataEdges c set n)).map (at_ + ·)),
    (List.range 25).map (fun n => (greatest (s.strobeEdges c set n)).map (at_ + ·))⟩
  let s := (s.driveCycle c set at_ codes).onSq c (fun x => { x with prev := some rec_ })
  (lanes, s)

/-- `k` keep-alive cycles of a gap: what HOLD and TOGGLE leave depends only on whether `k` is odd. -/
def State.keepCycles (s : State) (c at_ k : Nat) : State :=
  let v := s.keepVec c
  let one := fun (s : State) => s.driveCycle c (vecSet v) at_ (vecCode v)
  if k = 0 then s else if k % 2 = 1 then one s else one (one s)

/-! ## Fails (06, R196, R213; 09, R287) -/

/-- Address and cluster fields of the sequencer's items. -/
def State.seqLine (c kind fields addr : Nat) (t : U80) (w4 w5 : Word) : LineData :=
  mkLine kind 0 false (wd (fields + c * 1024)) (wd (addr * 256)) (loWord t) (hiWord t) w4 w5

/-- The fail items of the vector before leave, with EDGE_CROWD when a lane of theirs crowded with this play, and the items that
followed them (05, R166; 10, R312). -/
def State.flushFails (s : State) (c crowd : Nat) : State :=
  match (s.sq c).failRec with
  | none => s
  | some r =>
    let s := s.onSq c (fun x => { x with failRec := none })
    let put := fun (s : State) (q : Nat) (ls : List LineData) => if 65536 ≤ q then s else s.qItem q c ls
    let s := r.items.foldl (fun s it =>
      let ff := fflags it.2 (it.1 &&& (r.crowd ||| crowd) ≠ 0)
      put s r.queue [match r.xy with
        | none => State.seqLine c 1 (it.1 * 65536) r.addr r.time (wd r.count) (wd (ff * 2 ^ 28))
        | some (x, y) => State.seqLine c 1 (it.1 * 65536 + 512) r.addr r.time (wd (x * 65536 + r.count % 65536)) (wd (ff * 2 ^ 28 + y))]) s
    r.after.foldl (fun s e => put s e.1 e.2) s

/-- The lanes of a mask. -/
def lanesIn (m : Nat) : List Nat := (List.range 24).filter (fun l => m.testBit l)

/-- OR of the flags of the lanes of a mask. -/
def State.maskFlags (s : State) (c m : Nat) : MFlags := (lanesIn m).foldl (fun f l => f ||| s.laneFlags c l) 0

/-- A failing play counts and enters the fail stream (06, R196, R213; 09, R287). -/
def State.countFail (s : State) (c lanes addr : Nat) (start : Nat) (x y : Nat) : State :=
  let i := seqIdx 0x03 c
  let first := s.regN i 5 = 0
  let s := s.setReg i 4 (s.reg i 4 ||| wd lanes)
  let s := s.addReg i 5 1
  let s := s.when first (fun s => (s.setRegN i 6 addr).setReg80 i 7 (s.mAt start))
  let sites := ((lanesIn lanes).filterMap (fun l => siteOf (s.siteWord c l))).eraseDups
  sites.foldl (fun s site =>
    let ls := (lanesIn lanes).filter (fun l => siteOf (s.siteWord c l) = some site)
    s.failUpdate c site ls (ls.foldl (fun f l => f ||| s.laneFlags c l) 0) (s.mAt start) x y (s.sq c).plays) s

/-- A failing play of the program: counted, and its items made under FAIL_CAPTURE (06, R213). -/
def State.postFails (s : State) (c lanes addr start crowd : Nat) (xy : Option (Nat × Nat)) (x y : Nat) : State :=
  if lanes = 0 then s
  else
    let s := s.countFail c lanes addr start x y
    let q := s.sq c
    let mk := fun (items : List Nat) (s : State) =>
      s.onSq c (fun q => { q with failRec := some ⟨items.map (fun m => (m, s.maskFlags c m)), addr, q.plays, s.mAt start, crowd, xy, s.failQueue c, []⟩ })
    match s.sqAct c 3 2 with
    | 1 =>
      let new := (lanesIn lanes).filter (fun l => !q.segLanes.testBit l)
      let s := s.when (!new.isEmpty) (mk (new.map (2 ^ ·)))
      s.onSq c (fun q => { q with segLanes := q.segLanes ||| lanes })
    | 2 =>
      if q.segFails < s.sqAct c 3 3 then (mk [lanes] s).onSq c (fun q => { q with segFails := q.segFails + 1 })
      else s.onSq c (fun q => { q with overflow := q.overflow + 1 })
    | _ => s

/-- The fails of the cycles that a RPT or WAIT has played so far count as one failing vector (06, R183). -/
def State.postCycles (s : State) (c pc first : Nat) (xy : Option (Nat × Nat)) (x y : Nat) : State :=
  let q := s.sq c
  (s.onSq c (fun q => { q with rptFails := 0, rptCrowd := 0 })).postFails c q.rptFails pc first q.rptCrowd xy x y

/-- The segment ends at `end_`: its overflow item, its coalesced fails, the flags that last to its end (05, R172; 06, R213; 07, R229; 09, R288). -/
def State.endSegment (s : State) (c end_ : Nat) : State :=
  let q := s.sq c
  let i := seqIdx 0 c
  let s := s.when (q.overflow ≠ 0) (fun s => s.failItem c
    [mkLine 7 0 false (wd (c * 1024)) (s.reg i 0x0B) (loWord (s.mAt end_)) (hiWord (s.mAt end_)) (wd q.overflow) 0])
  let s := s.coalSend c (fun _ => true)
  let s := s.when (q.gap.isNone) (fun s => s.setRegN (seqIdx 0x20 c) 8 0)
  (s.endFlags c).onSq c (fun q => { q with segFails := 0, segLanes := 0, overflow := 0, history := [], seen := [], closed := none })

/-! ## Runs (06, R214 to R217) -/

/-- READY and RUN follow whether a sequencer is in RUN; SELFTEST, RECOVERY and the others do not (19, table of device states). -/
def State.deviceRuns (s : State) : State :=
  if s.devState = 3 ∧ s.anyRun then s.setRegN 0x0100 0 4
  else if s.devState = 4 ∧ !s.anyRun then s.setRegN 0x0100 0 3 else s

/-- The stream gap ends at c′: marker, counters, log (07, steps of a stream gap). -/
def State.gapEnds (s : State) (c : Nat) : State :=
  let q := s.sq c
  match q.gap with
  | none => s
  | some g =>
    let i := seqIdx 0x20 c
    let s := s.onSq c (fun q => { q with gap := none, external := false })
    let s := s.failItem c (markerLines c 3 (g.cause * 2 ^ 20) (s.mAt g.from_) (s.mAt q.due) (s.segBegan c)
      (wd (q.ctl.pc * 256)) (wd g.cycles) (s.reg (seqIdx 0 c) 0x0B))
    let s := s.setReg80 i 6 (s.mAt g.from_)
    let s := (s.setRegN i 7 g.cause).addReg i 5 g.cycles
    let s := s.logPut 0x0502 (wd (c * 2 ^ 34 + g.cause)) (wd g.cycles)
    let b := s.bcastGroup c
    if g.cause = 3 ∧ s.attached c = true ∧ (s.attachedTo b).all (fun d => (s.sq d).gap.all (fun h => h.cause ≠ 3)) then
      (s.setGrp b { s.grp b with holding := none }).setRegN (0x3C00 + b) 4 1
    else s

/-- Step 3 enqueues the segment-start item (06, R212): SEG_COUNT, tb, ts and the address of the first vector. Its ts is the one that step 4
gives; a stream gap that then delays the first vector shows in SEG_START and GAP_TIME alone: DEDUCED, log entry 57. -/
def State.segmentItem (s : State) (c count tb ts : Nat) : State :=
  s.when (s.act? (seqIdx 0 c) 0x11 = 1) (fun s => s.failItem c
    [mkLine 0xA 0 false (wd (c * 1024)) (wd count) (loWord (s.mAt tb)) (hiWord (s.mAt tb)) (wd ((ts - tb) / 32)) (wd ((s.sq c).ctl.pc * 256))])

/-- The segment opens with its first vector at ts (06, R199 step 5; 07, R231): SEG_START, GAP_TIME, SEG_COUNT, which the run's first segment
leaves at 0. -/
def State.openSegment (s : State) (c : Nat) : State :=
  let q := s.sq c
  if q.opening then
    let i := seqIdx 0 c
    let s := (s.setReg80 i 0x0D (s.mAt q.due)).setRegN i 0x0E ((q.due - q.tb) / 32)
    let s := s.when (s.reg80 i 0x0A ≠ 0) (fun s => s.addReg i 0x0B 1)
    s.onSq c (fun q => { q with opening := false, external := false, ts := q.due })
  else s

/-- A run ends at `end_` with a cause, in a state (06, R191, R208, R216, R217; 07, R234). -/
def State.endRun (s : State) (c end_ cause st : Nat) : State :=
  let s := s.gapEnds c
  let q := s.sq c
  let x := s.regN (seqIdx 0x25 c) 0
  let y := s.regN (seqIdx 0x25 c) 1
  let s := s.flushFails c 0
  let s := match q.rpt, q.wait with
    | some (_, first), _ => (s.postCycles c q.ctl.pc first none x y).flushFails c 0
    | none, some w => (s.postCycles c q.ctl.pc w.first none x y).flushFails c 0
    | none, none => s
  let i := seqIdx 0 c
  let s := s.when (16 ≤ cause) (fun s => s.setRegN i 8 q.ctl.pc)
  let s := s.endSegment c end_
  let s := s.when q.jump.isSome (fun s => (s.addReg (seqIdx 2 c) 6 1).setRegN (seqIdx 2 c) 3 4)
  let s := (List.range 25).foldl (fun s n => s.onSlice c n (fun x => { x with drive := 0 })) s
  let s := s.setRegN i 7 cause
  let s := s.failItem c [mkLine 0xB 0 false (wd (c * 1024 + cause)) (wd (q.lastPlayed * 256)) (loWord (s.mAt end_)) (hiWord (s.mAt end_))
    (s.reg i 0x0B) (s.reg i 0x0A)]
  let s := s.detach c 2
  let s := s.onSq c (fun q => { q with phase := .play, opening := false, start := none, rpt := none, rptFails := 0, rptCrowd := 0, block := none, wait := none, stopReq := none, jump := none, gap := none, prev := none, fetch := Fetch.idle, kept := [], coming := none, ctl := { q.ctl with loops := [none, none, none, none] } })
  let s := s.setRegN (seqIdx 0x20 c) 8 0
  (((s.setRegN i 0 st).endFlags c).showResident c).deviceRuns

/-- The run ends in ERROR: the vector due is not played, the cycle in progress completes (06, R191). -/
def State.seqError (s : State) (c cause : Nat) : State := s.endRun c (s.sq c).due cause 6

/-- A sequencer is armed at `addr` (06, R214; 07, R224, R225; 16, R474). -/
def State.armSeq (s : State) (c addr : Nat) : State :=
  let r := seqIdx 3 c
  let s := [4, 5, 6, 8, 9].foldl (fun s k => s.setReg r k 0) s
  let s := s.setReg80 r 7 0
  let s := [3, 4, 5, 6, 7, 8].foldl (fun s k => s.setReg (seqIdx 2 c) k 0) s
  let g := seqIdx 0x20 c
  let s := [4, 5, 7].foldl (fun s k => s.setReg g k 0) s
  let s := s.setRegN (seqIdx 0 c) 0x0F 0
  let s := s.onSq c (fun q => { SeqSt.idle with ctl := Ctl.at addr, fetch := Fetch.start (Ctl.at addr), segFrom := q.segFrom, lineTargets := q.lineTargets })
  let s := (s.showResident c).setRegN (seqIdx 0 c) 0 1
  let s := s.loadStore c true
  s.calAbort c

/-- Whether the ARM of a cluster's sequencer may act: the code that refuses it at check 10, else 0 (06, R214; 07, R232; 19, R534). -/
def State.armRefusal (s : State) (c : Nat) (byGroup : Bool) : Nat :=
  let st := s.seqState c
  if st = 1 ∨ st = 2 ∨ st = 3 ∨ st = 7 ∨ s.regN 0x0100 0x0B = 1 then 9
  else if s.bcastGroup c ≠ 0 ∧ !byGroup then 0x88
  else 0

/-- The stream's first vectors and the target store are in the cluster: ARMED, or ERROR at a start that is unmapped or poisoned
(06, table of sequencer states; 07, R224). -/
def State.armed (s : State) (c : Nat) : State :=
  let q := s.sq c
  if s.seqState c ≠ 1 then s
  else
    let bad := match q.fetch.ahead with
      | e :: _ => e.2.poison
      | [] => false
    let fail := fun (cause : Nat) => (((s.detach c 2).setRegN (seqIdx 0 c) 0 6).setRegN (seqIdx 0 c) 7 cause).setRegN (seqIdx 0 c) 8 q.ctl.pc
    if s.unmapped q.ctl.pc then fail 22
    else if bad then fail 21
    else if s.fetchDone 2048 q.fetch && q.store.all (s.fetchDone 512) then s.setRegN (seqIdx 0 c) 0 2
    else s

/-- The objects of a cluster: 0x2000 block, 0x3000 block, its 32 timing sets, its RED_CLUSTER. -/
def inCluster (c i : Nat) : Bool :=
  (peIdx 0 c ≤ i && i < peIdx 0x40 c) || (seqIdx 0 c ≤ i && i < seqIdx 0x40 c) || (tsIdx c 0 ≤ i && i < tsIdx c 32) || i = 0x6040 + c

/-- Whether a key is a word of an object of cluster `c` that acts at boundaries. -/
def boundaryKey (c k : Nat) : Bool :=
  let i := k / 134217728 / 256
  inCluster c i && (match odFind i (k / 134217728 % 256) with
    | some r => r.eff = .boundary
    | none => false)

/-- A cluster adopts its modelled band (05, R169). -/
def State.adoptBand (s : State) (c : Nat) : State := s.setReg (peIdx 0x29 c) 0xF2 (s.reg 0x0701 0x05 c)

/-- Step 3 of the boundary order, as far as the router goes: class 0xB, and the segment-start triggers in BRINGUP, SELFTEST and
RECOVERY (06, R199, R211). -/
def State.segmentEvents (s : State) (c tb : Nat) : State :=
  let s := s.raiseEvent (0xB000 + c) (s.mAt tb)
  if s.devState = 2 ∨ s.devState = 5 ∨ s.devState = 6 then s.repeat 8 (fun k s => s.raiseEvent (0x1000 + 8 * c + k) (s.mAt tb))
  else s

/-- The run starts at its start instant (05, R159, R167, R169; 06, R203, R211, R212, R215; 07, R240). -/
def State.runStarts (s : State) (c r : Nat) : State :=
  let i := seqIdx 0 c
  let s := s.activateKeys (boundaryKey c)
  let s := (s.calBoundary c (s.clock + 1)).adoptBand c
  let s := s.setRegN i 0 3
  let s := (List.range 25).foldl (fun s n => s.onSlice c n (fun x => { x with drive := 0, data := false })) s
  let s := (s.setReg80 i 0x0A 0).setReg i 0x0B 0
  let s := s.setReg80 i 0x0C (s.mAt r)
  let s := s.onSq c (fun q => { q with due := r, phase := .play, opening := true, segFrom := r, tb := r, ts := r, start := none, plays := 0, prev := none, writes := [], history := [], seen := [] })
  let s := (s.loadStore c false).apgStart c
  ((s.segmentEvents c r).segmentItem c 0 r r).deviceRuns

/-! ## The jump window (06, R207 to R210) -/

/-- The instant at which the window of the segment that now ends closed, from its plays: `history` holds, latest first, the cycle
starts of the plays before the last (06, R207). -/
def SeqSt.windowClose (q : SeqSt) : Nat :=
  let last := q.history.take 32
  match last.find? (fun h => h.2.isSome) with
  | some (_, some b) => if q.history.length < 32 then q.ts else b
  | _ => if q.history.length < 32 then q.ts else (last.getD 31 (q.ts, none)).1

/-- A jump request reaches the sequencer in RUN (06, R206, R208, R209). -/
def State.jumpAsk (s : State) (c target arrival : Nat) : State :=
  let i := seqIdx 2 c
  let q := s.sq c
  let s := s.when q.jump.isSome (fun s => s.addReg i 7 1)
  let s := s.setReg80 i 9 (s.mAt arrival)
  let late := match q.closed with
    | some k => k ≤ arrival || k < s.clock
    | none => false
  let s := s.onSq c (fun q => { q with jump := some ⟨target, arrival, s.clock, late⟩ })
  if late then (s.setRegN i 3 2).addReg i 5 1 else s.setRegN i 3 1

/-- JUMP_LINE_TARGET as it was at an instant (06, R218: a request takes the value in effect at its arrival instant). -/
def State.lineTarget (s : State) (c at_ : Nat) : Nat :=
  match (s.sq c).lineTargets.find? (fun e => at_ < e.1) with
  | some e => e.2
  | none => s.regN (seqIdx 2 c) 2

/-- At the close of the window the target of a pending jump starts to be fetched: the vectors after the 512th of a target in the store, a
target that is not in it from its first (07, R225). -/
def State.fetchTarget (s : State) (c : Nat) : State :=
  match s.jumpTo c with
  | none => s
  | some a => s.onSq c (fun q => { q with coming := some (a, (q.stored a).getD (Fetch.start (Ctl.at a))) })

/-! ## The boundary (06, R199 to R205; 16, R462, R474) -/

/-- Length in et of the throttle gap due at a boundary of a segment that lasted `len` et (16, R462). -/
def State.throttleGap (s : State) (len : Nat) : Nat :=
  let tmax := (s.reg 0x0700 0x01).toInt
  let x := (min 10000 (tmax - 100000)).toNat
  min (usEt (s.regN 0x0700 0x07)) (x * s.regN 0x0700 0x06 * len / 1000000)

/-- Step 1: the jump decision (06, R199, R204, R208). -/
def State.jumpDecision (s : State) (c tb close : Nat) : State :=
  let q := s.sq c
  let i := seqIdx 2 c
  match q.jump with
  | none => s
  | some j =>
    if j.reached < q.segFrom ∨ (j.arrival < close ∧ j.reached ≤ close) then
      let a := s.sqAct c 1 9 j.target
      let st := q.stored a
      let f := match q.coming with
        | some (b, f) => if b = a then f else st.getD (Fetch.start (Ctl.at a))
        | none => st.getD (Fetch.start (Ctl.at a))
      let s := ((s.setRegN i 3 3).addReg i 4 1).setReg80 i 0x0A (s.mAt tb)
      let s := s.setRegN (seqIdx 0 c) 0x0F 0
      (s.onSq c (fun q => { q with jump := none, ctl := Ctl.at a, kept := [], fetch := f, coming := none, external := st.isNone })).follow c
    else if j.deferred then s.onSq c (fun q => { q with coming := none })
    else ((s.setRegN i 3 2).addReg i 5 1).onSq c (fun q => { q with jump := some { j with deferred := true } })

/-- Step 2: the boundary values whose write completed before the window closed become active (06, R199, R201; 05, R169; 07, R225; 16, R480). -/
def State.boundaryValues (s : State) (c close : Nat) : State :=
  let q := s.sq c
  let s := (q.writes.filter (fun e => e.2.2 < close)).foldl (fun s e => { s with act := SMap.set romDefault s.act e.1 e.2.1 }) s
  let s := s.onSq c (fun q => { q with writes := q.writes.filter (fun e => close ≤ e.2.2) })
  ((s.calBoundary c close).adoptBand c).loadStore c false

/-- The keep-alive cycles of the gap that step 4 inserts after a segment whose vectors lasted `len` et (06, R202; 16, R462, R474). -/
def State.gapCycles (s : State) (c len : Nat) (calSafe : Bool) : Nat :=
  let g := (if calSafe && s.regN (0x0810 + c) 0 = 1 then usEt 800 else 0) + s.throttleGap len
  let p := s.period c (vecSet (s.keepVec c))
  (g + p - 1) / p

/-- Step 4: the boundary gap, calibration part first, of whole keep-alive cycles (06, R199, R202; 16, R462, R474). No edge after it can crowd
with one before. -/
def State.boundaryGap (s : State) (c tb len : Nat) (calSafe : Bool) : State :=
  let cal := calSafe && s.regN (0x0810 + c) 0 = 1
  let thr := s.throttleGap len
  let k := s.gapCycles c len calSafe
  let s := s.when cal (fun s => s.calStart c)
  let s := s.when (thr ≠ 0) (fun s => s.addReg 0x0700 0x09 1)
  if k = 0 then s
  else
    let p := s.period c (vecSet (s.keepVec c))
    ((s.flushFails c 0).keepCycles c tb k).onSq c (fun q => { q with due := tb + k * p, phase := .gap (tb + k * p) })

/-- A segment boundary at tb (06, R199 to R205, R216). -/
def State.boundary (s : State) (c : Nat) (calSafe : Bool) : State :=
  let q := s.sq c
  let tb := q.due
  let close := q.windowClose
  let stops := match q.stopReq with
    | some r => r < q.segFrom || r < close
    | none => false
  if stops then s.endRun c tb 2 5
  else
    let s := s.onSq c (fun q => { q with phase := .play, tb := tb })
    let s := s.jumpDecision c tb close
    let s := s.endSegment c tb
    let s := (s.boundaryValues c close).segmentEvents c tb
    let s := s.onSq c (fun q => { q with opening := true, segFrom := tb }.settle)
    let ts := tb + s.gapCycles c (tb - q.ts) calSafe * s.period c (vecSet (s.keepVec c))
    let s := s.segmentItem c (s.regN (seqIdx 0 c) 0x0B + 1) tb ts
    (s.boundaryGap c tb (tb - q.ts) calSafe).showResident c

/-! ## Match blocks (06, R192 to R197) -/

/-- The sites of a cluster with their lanes, from the site map in effect. -/
def State.sitesOf (s : State) (c : Nat) : List SiteSt :=
  (((List.range 24).filterMap (fun l => siteOf (s.siteWord c l))).eraseDups).map (fun site =>
    ⟨site, (List.range 24).foldl (fun m l => m + b2n (siteOf (s.siteWord c l) = some site) * 2 ^ l) 0, none⟩)

/-- The lanes that hold from an iteration that starts at `at_`: those of the sites matched long enough (06, R193). -/
def heldLanes (group at_ : Nat) (sites : List SiteSt) : Nat :=
  sites.foldl (fun m x => match x.matched with
    | some (_, e) => if group = 0 ∨ e + nsEt 1000 ≤ at_ then m ||| x.lanes else m
    | none => m) 0

/-- MATCH opens a block, or starts its next iteration (06, R192, R193). -/
def State.openBlock (s : State) (c at_ operand : Nat) : State :=
  s.onSq c (fun q => match q.block with
    | none => { q with block := some ⟨q.ctl.pc, countOr operand (s.sqAct c 1 5), 1, at_, s.sitesOf c, 0, 0, [], none, at_, false⟩ }
    | some b => { q with block := some { b with back := false, began := at_, failed := 0, held := heldLanes (s.sqAct c 1 7) at_ b.sites } })

/-- Each site that has not matched at the limit times out (06, R196). -/
def State.matchTimeouts (s : State) (c endm : Nat) (b : BlockSt) : State :=
  let open_ := b.sites.filter (fun x => x.matched.isNone)
  let s := open_.foldl (fun s x => (s.addReg (seqIdx 3 c) 8 1).failItem c
    [State.seqLine c 8 (x.site * 2 ^ 28) endm (s.mAt b.began) (wd b.iter) 0]) s
  let lanes := (open_.foldl (fun m x => m ||| x.lanes) 0) &&& s.sqAct c 1 6
  let at_ := match (s.sq c).prev with | some p => p.at_ | none => b.began
  let s := s.onSq c (fun q => { q with segLanes := q.segLanes ||| lanes })
  s.when (lanes ≠ 0) (fun s => s.countFail c lanes endm at_ (s.regN (seqIdx 0x25 c) 0) (s.regN (seqIdx 0x25 c) 1))

/-- The clusters of a match group that are in a block. -/
def State.groupMates (s : State) (g : Nat) : List Nat :=
  clustersWhere (fun d => s.seqState d = 3 && s.sqAct d 1 7 = g && (s.sq d).block.isSome)

/-- The first iteration in which a site's mask lanes passed in every cluster of the group that has it, with its end in cluster `c`. -/
def State.groupMatch (s : State) (mates : List Nat) (b : BlockSt) (site : Nat) : Option (Nat × Nat) :=
  (b.results.find? (fun r => mates.all (fun d =>
    match (s.sq d).block with
    | none => true
    | some e =>
      match e.sites.find? (fun x => x.site = site) with
      | none => true
      | some x =>
        match e.results.find? (fun k => k.1 = r.1) with
        | none => false
        | some k => x.lanes &&& s.sqAct d 1 6 &&& k.2.2 = 0))).map (fun r => (r.1, r.2.1))

/-- ENDM at `a` ends an iteration at `end_` (06, R193, R194, R196): the next vector is the block's start, or the one after. -/
def State.endBlock (s : State) (c a end_ : Nat) : State :=
  match (s.sq c).block with
  | none => s
  | some b =>
    let mask := s.sqAct c 1 6
    let group := s.sqAct c 1 7
    let sites := if group ≠ 0 then b.sites else
      b.sites.map (fun x => if x.matched.isNone ∧ x.lanes &&& mask &&& b.failed = 0 then { x with matched := some (b.iter, end_) } else x)
    let b := { b with sites := sites, results := if group = 0 then [] else b.results ++ [(b.iter, end_, b.failed)] }
    let s := s.onSq c (fun q => { q with block := some b })
    let done := if group = 0 then sites.all (fun x => x.matched.isSome)
      else match b.groupDone with
        | some e => e + nsEt 1000 ≤ end_
        | none => false
    if done || b.limit ≤ b.iter then
      let mates := s.groupMates group
      let late := if group = 0 then b else
        { b with sites := b.sites.map (fun x => if x.matched.isNone then { x with matched := s.groupMatch mates b x.site } else x) }
      let s := s.when (!done) (fun s => s.matchTimeouts c a late)
      s.onSq c (fun q => { q with block := none, ctl := { q.ctl with pc := (a + 1) % 4294967296 } })
    else s.onSq c (fun q => { q with block := some { b with iter := b.iter + 1, back := true }, ctl := { q.ctl with pc := b.start } })

/-- Match results of the other clusters of the group reach a cluster (06, R193, R194). -/
def State.groupResult (s : State) (c : Nat) : State :=
  let g := s.sqAct c 1 7
  match (s.sq c).block with
  | none => s
  | some b =>
    if g = 0 then s
    else
      let mates := s.groupMates g
      let sites := b.sites.map (fun x => if x.matched.isNone then { x with matched := s.groupMatch mates b x.site } else x)
      let all := (mates.flatMap (fun d => match (s.sq d).block with | some e => e.sites.map (·.site) | none => [])).eraseDups
      let ends := all.map (fun site => s.groupMatch mates b site)
      let done := if ends.all (·.isSome) then some (ends.foldl (fun n e => max n ((e.getD (0, 0)).2)) 0) else none
      s.onSq c (fun q => { q with block := some { b with sites := sites, groupDone := match b.groupDone with | some e => some e | none => done } })

/-! ## Plays (06, R184 to R191) -/

/-- The error that forbids a vector's play: the cause, or 0 (06, R186, R187, R191, R197; 07, R222). -/
def State.playError (s : State) (c : Nat) (v : Vec) : Nat :=
  let q := s.sq c
  let op := vecOp v
  let pc := q.ctl.pc
  let dst := (s.flow c false q.ctl pc v).pc
  let jumps := 0x0A ≤ op && op ≤ 0x0C
  if 0x15 ≤ op then 16
  else
    let nested : Bool := match q.block with
      | none => op = 0x0F
      | some b => op = 0x10 || op = 0x12 || op = 0x14 || (op = 0x0E && !b.back) ||
          (b.iter = 1 && (pc < b.start || b.start + 6144 ≤ pc || (jumps && (dst < b.start || b.start + 6144 ≤ dst))))
    if nested then 20
    else if 6 ≤ op ∧ op ≤ 9 ∧ q.ctl.loop (op - 6) = none then 19
    else if op = 0x0C ∧ 8 ≤ q.ctl.stack.length then 17
    else if op = 0x0D ∧ q.ctl.stack = [] then 18
    else 0

/-- The codes of the lanes in this play: held lanes take the KEEPALIVE codes (06, R193). -/
def State.playCodes (s : State) (c : Nat) (codes : Nat → Nat) (l : Nat) : Nat :=
  match (s.sq c).block with
  | some b => if b.held.testBit l then vecCode (s.keepVec c) l else codes l
  | none => codes l

/-- One cycle of the vector due, with the given codes: its strobes, fails and counts; the next cycle start follows (05, R154;
06, R183, R192, R207). -/
def State.playCycle (s : State) (c : Nat) (v : Vec) (codes : Nat → Nat) (xy : Option (Nat × Nat)) (lastOf : Bool)
    (m : Samples) : State :=
  let s := s.openSegment c
  let q := s.sq c
  let pc := q.ctl.pc
  let at_ := q.due
  let mask := s.sqAct c 1 6
  let judge := fun l => match q.block with
    | some b => mask.testBit l && !b.held.testBit l
    | none => true
  let codes := s.playCodes c codes
  let r := s.cycle c (vecSet v) at_ codes judge m
  let out := r.1
  let s := r.2.flushFails c out.crowd
  let first := match q.rpt with | some (_, f) => f | none => at_
  let blockFirst := match q.block, q.wait with
    | some b, _ => some b.firstPlay
    | none, some w => some w.first
    | none, none => none
  let s := s.onSq c (fun q => { q with due := at_ + s.period c (vecSet v), plays := q.plays + 1, lastPlayed := pc, history := (at_, blockFirst) :: q.history.take 32 })
  let s := (s.addReg80 (seqIdx 0 c) 0x0A 1).setRegN (seqIdx 0 c) 9 pc
  match q.block with
  | some b => s.onSq c (fun q => { q with block := some { b with failed := b.failed ||| out.fails } })
  | none =>
    let s := s.onSq c (fun q => { q with rptFails := q.rptFails ||| out.fails, rptCrowd := q.rptCrowd ||| out.crowd })
    if lastOf then
      let x := match xy with | some p => p.1 | none => s.regN (seqIdx 0x25 c) 0
      let y := match xy with | some p => p.2 | none => s.regN (seqIdx 0x25 c) 1
      let cap := if s.act? (seqIdx 0x24 c) 1 = 1 then xy else none
      s.postCycles c pc first cap x y
    else s

/-- The vector has played: it is taken from the stream and control moves on (06, R184, R186, R187; 07, R221). -/
def State.advance (s : State) (c : Nat) (v : Vec) : State :=
  let q := (s.sq c).take
  let a := q.ctl.pc
  let k := s.flow c false q.ctl a v
  let s := s.onSq c (fun _ => ({ q with ctl := k }).settle)
  (s.setRegN (seqIdx 0 c) 0x0F k.stack.length).showResident c

/-- The vector of a running sequencer falls due: `f` plays it when it is on hand, may be played and has an opcode that `ops`
accepts; an unmapped or poisoned vector, and an error, end the run (06, R179, R180, R191). -/
def State.onVector (s : State) (c : Nat) (ops : Nat → Bool) (f : Vec → State → State) : State :=
  let q := s.sq c
  if s.seqState c ≠ 3 ∨ q.phase ≠ .play ∨ q.gap.isSome then s
  else
    let s := s.tick q.due
    if s.unmapped q.ctl.pc then (s.openSegment c).seqError c 22
    else
      match q.onHand with
      | none => s
      | some v =>
        if v.poison then (s.openSegment c).seqError c 21
        else if ops (vecOp v) then
          let e := s.playError c v
          if e ≠ 0 then (s.openSegment c).seqError c e else f v s
        else s

/-- A vector of one cycle that leads on by control flow alone. -/
def State.playOne (s : State) (c : Nat) (v : Vec) (m : Samples) : State :=
  (s.playCycle c v (vecCode v) none true m).advance c v

/-- One cycle of an RPT (06, R185). -/
def State.playRpt (s : State) (c : Nat) (v : Vec) (m : Samples) : State :=
  let q := s.sq c
  let left := match q.rpt with
    | some (n, _) => n
    | none => countOr (vecOperand v) (s.sqAct c 1 4)
  let s := s.onSq c (fun q => { q with rpt := match q.rpt with | some e => some e | none => some (left, q.due) })
  let s := s.playCycle c v (vecCode v) none (left ≤ 1) m
  if left ≤ 1 then (s.onSq c (fun q => { q with rpt := none })).advance c v
  else s.onSq c (fun q => { q with rpt := q.rpt.map (fun e => (left - 1, e.2)) })

/-- The release instant that a WAIT with operand `n` finds when it opens: LATCHED, from the segment's first occurrence on its line;
else from one stamped at its own start that was delivered before the vector (06, R188). -/
def SeqSt.foundAt (q : SeqSt) (n : Nat) : Option Nat :=
  match (if n.testBit 13 then q.seen.find? (fun e => e.1 = n % 512) else none), q.seen.find? (fun e => e.1 = 512 + n % 512) with
  | some e, _ => some (max e.2 q.due)
  | none, some e => if q.due ≤ e.2 / 2 then some (e.2 / 2 + (if e.2 % 2 = 1 then 0 else nsEt 64)) else none
  | none, none => none

/-- A WAIT whose release instant lies at or before the end of the cycle playing leads on (06, R188); the fails of its cycles are those of one
failing vector (06, R183). -/
def State.waitOver (s : State) (c : Nat) : State :=
  let q := s.sq c
  match q.wait, q.onHand with
  | some w, some v =>
    match w.release with
    | some r =>
      if r ≤ q.due then
        let s := s.postCycles c q.ctl.pc w.first none (s.regN (seqIdx 0x25 c) 0) (s.regN (seqIdx 0x25 c) 1)
        (s.onSq c (fun q => { q with wait := none })).advance c v
      else s
    | none => s
  | _, _ => s

/-- One cycle of a WAIT (06, R188). -/
def State.playWait (s : State) (c : Nat) (v : Vec) (m : Samples) : State :=
  let n := vecOperand v
  let s := s.onSq c (fun q => { q with wait := match q.wait with | some w => some w | none => some ⟨q.due, n % 512, n.testBit 13, q.foundAt n⟩ })
  (s.playCycle c v (vecCode v) none false m).waitOver c

/-- An APGS play (07, R235, R239). -/
def State.playApgs (s : State) (c : Nat) (v : Vec) (m : Samples) : State :=
  let x := s.regN (seqIdx 0x25 c) 0
  let y := s.regN (seqIdx 0x25 c) 1
  let d := s.regN (seqIdx 0x25 c) 2
  let w := s.act? (seqIdx 0x21 c) 0 (vecOperand v)
  let out := s.apgOut c w x y d
  ((s.playCycle c v (s.apgCode c out v) (some (x, y)) true m).apgStep c w).advance c v

/-- MATCH (06, R192): the block opens, or its next iteration starts. -/
def State.playMatch (s : State) (c : Nat) (v : Vec) (m : Samples) : State :=
  (s.openBlock c (s.sq c).due (vecOperand v)).playOne c v m

/-- ENDM (06, R194). -/
def State.playEndm (s : State) (c : Nat) (v : Vec) (m : Samples) : State :=
  let a := (s.sq c).ctl.pc
  let s := s.playCycle c v (vecCode v) none true m
  let s := s.onSq c (fun q => { q.take with ctl := q.ctl.note a })
  let s := s.endBlock c a (s.sq c).due
  (s.onSq c SeqSt.settle).showResident c

/-- SEG (06, R198): the segment ends at the end of this cycle. -/
def State.playSeg (s : State) (c : Nat) (v : Vec) (m : Samples) : State :=
  let s := s.playOne c v m
  (s.onSq c (fun q => { q with phase := .boundary ((vecOperand v).testBit 13), history := q.history.drop 1 }))

/-- MARK (06, R189, R211). -/
def State.playMark (s : State) (c : Nat) (v : Vec) (m : Samples) : State :=
  let at_ := (s.sq c).due
  let s := s.playOne c v m
  if s.devState = 2 ∨ s.devState = 5 ∨ s.devState = 6 then s
  else s.raiseEvent (0x1000 + 8 * c + vecOperand v % 8) (s.mAt at_)

/-- HALT (06, R205, R217): the run ends in DONE at the end of its cycle. -/
def State.playHalt (s : State) (c : Nat) (v : Vec) (m : Samples) : State :=
  let s := s.playCycle c v (vecCode v) none true m
  s.endRun c (s.sq c).due 1 4

/-! ## Stream gaps (07, R228 to R234) -/

/-- The cause of a stream gap that starts now. -/
def State.gapCause (s : State) (c : Nat) : Nat :=
  if s.attached c && (s.attachedTo (s.bcastGroup c)).any (fun d => d ≠ c && !hasRoom 2048 (s.sq d).fetch) then 3
  else if (s.sq c).external then 2 else 1

/-- A keep-alive cycle of a stream gap starts at the cycle start due (07, steps 1 and 2; 05, R166). -/
def State.gapCycle (s : State) (c : Nat) : State :=
  let q := s.sq c
  if s.seqState c ≠ 3 ∨ q.phase ≠ .play ∨ q.onHand.isSome ∨ s.unmapped q.ctl.pc then s
  else
    let s := s.tick q.due
    let i := seqIdx 0x20 c
    let cause := match q.gap with | some g => g.cause | none => s.gapCause c
    let new := q.gap.isNone
    let s := s.when new (fun s => ((s.addReg i 4 1).addReg 0x3C00 2 1).setRegN i 8 1)
    let s := s.when (new && cause = 3) (fun s =>
      let b := s.bcastGroup c
      let g := s.grp b
      let s := (s.addReg (0x3C00 + b) 5 1).setRegN (0x3C00 + b) 4 2
      s.setGrp b { g with holding := some (match g.holding with | some h => h | none => q.due) })
    let v := s.keepVec c
    let r := s.cycle c (vecSet v) q.due (vecCode v) (fun _ => false) ⟨0, 0⟩
    let s := r.2.flushFails c r.1.crowd
    s.onSq c (fun x => { x with gap := some ⟨match q.gap with | some g => g.from_ | none => q.due, (match q.gap with | some g => g.cycles | none => 0) + 1, cause⟩, due := q.due + s.period c (vecSet v) })

end Sys2Proof.Machine
end

