-- ==== Sys2Proof/Machine/Measure.lean ====
section
/-! DEFINITION. Machine/Measure.lean: ADC sequences, stamp capture and regression units (08). -/

namespace Sys2Proof.Machine

/-- The sequence of ADC `n` of cluster `c`. -/
def State.adc (s : State) (c n : Nat) : AdcSt := SMap.get (fun _ => AdcSt.idle) s.mea.adcs (2 * c + n)
/-- Change the sequence of ADC `n` of cluster `c`. -/
def State.onAdc (s : State) (c n : Nat) (f : AdcSt → AdcSt) : State :=
  { s with mea := { s.mea with adcs := SMap.set (fun _ => AdcSt.idle) s.mea.adcs (2 * c + n) (f (s.adc c n)) } }
/-- The stamp capture of cluster `c`. -/
def State.cap (s : State) (c : Nat) : StampSt := SMap.get (fun _ => StampSt.idle) s.mea.stamps c
/-- Change the stamp capture of cluster `c`. -/
def State.onCap (s : State) (c : Nat) (f : StampSt → StampSt) : State :=
  { s with mea := { s.mea with stamps := SMap.set (fun _ => StampSt.idle) s.mea.stamps c (f (s.cap c)) } }
/-- Regression unit `n` of cluster `c`. -/
def State.ru (s : State) (c n : Nat) : RuSt := SMap.get (fun _ => RuSt.idle) s.mea.rus (4 * c + n)
/-- Change regression unit `n` of cluster `c`. -/
def State.onRu (s : State) (c n : Nat) (f : RuSt → RuSt) : State :=
  { s with mea := { s.mea with rus := SMap.set (fun _ => RuSt.idle) s.mea.rus (4 * c + n) (f (s.ru c n)) } }

/-- Index of ADC `n`'s objects. -/
def adcIdx (c n : Nat) : Nat := meaIdx n c
/-- Index of the stamp capture's objects. -/
def capIdx (c : Nat) : Nat := meaIdx 3 c
/-- Index of regression unit `n`'s objects. -/
def ruIdx (c n : Nat) : Nat := meaIdx (4 + n) c

/-- TIME_STEP when Meridian time stepped between the instants `a` and `b`, in et (03, R91). -/
def State.stepFlag (s : State) (a b : Nat) : MFlags := mflag 17 (s.stepped a b)

/-- W0 of a record (08, R245, R262). -/
def recordW0 (site : Word) (meas c lane : Nat) : Word :=
  match siteOf site with
  | some n => wd (n * 2 ^ 28 + meas * 4096 + c * 64 + lane * 2 + 1)
  | none => wd (meas * 4096 + c * 64 + lane * 2)

/-- Send a measurement item of a KIND, when the lane has a site (08, R244, R245). -/
def State.sendItem (s : State) (c lane meas kind : Nat) (site : Word) (v : Word) (flags : MFlags) (t : U80) : State :=
  match siteOf site with
  | some n => s.sendUpdate ⟨meas, c, lane, n, t, flags, kind, some v, 0, 0, false⟩
  | none => s

/-- A whole record as a packet of unit `unit` in a queue, when it names one (08, R262). -/
def State.sendPacket (s : State) (q c cls unit prodUnit : Nat) (opened : Bool) (ls : List LineData) : State :=
  if 65536 ≤ q then s
  else
    let p : Producer := ⟨c, prodUnit⟩
    let s := if opened then s else s.qHead q p cls unit
    (ls.foldl (fun s l => s.qLine q p l) s).qDone q p

/-- Data lines of six words each (08, R262, R267). -/
def dataLines (fmt : Nat) (ws : List Word) : List LineData :=
  (List.range ((ws.length + 5) / 6)).map (fun k =>
    let g := fun j => ws.getD (6 * k + j) 0
    mkLine fmt 0 false (g 0) (g 1) (g 2) (g 3) (g 4) (g 5))

/-! ## Steps of an ADC sequence -/

/-- Word `w` of step `k` (08, bit map of a measurement step). -/
def State.stepWord (s : State) (c n k w : Nat) : Word := s.reg (adcIdx c n) 3 (6 * k + w)
/-- LANE of a step. -/
def stepLane (w0 : Word) : Nat := fld w0 19 5
/-- QTY of a step: 0 voltage, 1 current. -/
def stepQty (w0 : Word) : Nat := fld w0 18 1
/-- DEST of a step. -/
def stepDest (w0 : Word) : Nat := fld w0 16 2
/-- TRIG of a step. -/
def stepTrig (w0 : Word) : Nat := fld w0 13 3
/-- Spacing of samples in et (08, R248). -/
def stepDiv (w1 : Word) : Nat := fld w1 20 20 * 40960
/-- AVG_N of a step. -/
def stepAvg (w1 : Word) : Nat := fld w1 0 16 + 1
/-- SETTLE of a step in et. -/
def stepSettle (w2 : Word) : Nat := fld w2 0 16 * 409600
/-- PRE of a step. -/
def stepPre (w2 : Word) : Nat := fld w2 16 8

/-- Whether a STEPS write leaves a reserved code or field, or SAMPLE_DIV below 10, in step words that it covers (08, R252). -/
def stepWordBad (w : Nat) (v w0 : Word) : Bool :=
  match w with
  | 0 => 23 < stepLane v || stepDest v = 3 || 3 < stepTrig v || fld v 10 2 = 3 || fld v 8 2 = 3 || fld v 0 7 ≠ 0
  | 1 => fld v 20 20 < 10 || fld v 16 4 ≠ 0
  | 4 => fld w0 10 2 = 2 && fld v 31 9 ≠ 0
  | 5 => fld w0 10 2 = 2 && v ≠ 0
  | _ => false

/-- The step in progress. -/
def State.adcStep (s : State) (c n : Nat) : Nat := s.regN (adcIdx c n) 9

/-- Step `k` begins with mux instant `m`; `first` when ARM started it (08, R253, R254, R257). -/
def State.beginStep (s : State) (c n k m : Nat) (first : Bool) : State :=
  let i := adcIdx c n
  let a := s.adc c n
  let w0 := s.stepWord c n k 0
  let w2 := s.stepWord c n k 2
  let sel := (stepLane w0, stepQty w0)
  let ok := if a.mux = some sel then m else m + usEt 2
  let trig := stepTrig w0
  let samples := trig ≠ 0 && (2 ≤ trig || stepPre w2 ≠ 0)
  let s := s.setRegN i 9 k
  let base : AdcSt := { AdcSt.idle with mux := some sel, muxOk := ok, entry := m, stopping := a.stopping }
  if trig = 0 then
    let z := gridUp (max (m + stepSettle w2) ok)
    (s.setRegN i 0 2).onAdc c n (fun _ => if first then { base with armed := some m } else { base with release := some m, s0 := some z, next := z })
  else
    let w := gridUp ok
    (s.setRegN i 0 1).onAdc c n (fun _ => { base with grid := if samples then some w else none, next := w })

/-- The release of the step in progress at `r` (08, R253, R254): the class 0x8 occurrence, and s0. -/
def State.adcRelease (s : State) (c n r kind : Nat) : State :=
  let a := s.adc c n
  let k := s.adcStep c n
  let d := stepDiv (s.stepWord c n k 1)
  let at_ := r + stepSettle (s.stepWord c n k 2)
  let z := match a.grid with
    | some w => w + (at_ - w + (d - 1)) / d * d
    | none => gridUp (max at_ a.muxOk)
  let s := s.onAdc c n (fun a => { a with release := some r, kind := kind, s0 := some z, next := if a.grid.isNone then z else a.next })
  (s.setRegN (adcIdx c n) 0 2).raiseEvent (0x8000 + 4 * c + (if kind = 3 then 1 else 0)) (s.mAt r)

/-- The span of a quantity in its unit (1 nV or 0.1 pA) as (lowest, width): what 65,536 codes divide (08, table of ADC spans). -/
def adcSpan (qty range : Nat) : Int × Int :=
  if qty = 0 then (-1750000000, 6000000000)
  else
    let f : Int := rangeScale range * 10000000
    (-(5 * f) / 2, 5 * f)

/-- One sample: its value times 65,536, its flags, and the range and slice it was taken with (08, R249 to R251). -/
def State.adcValue (s : State) (c lane qty : Nat) (code : BitVec 16) (compliance : Bool) : Int × MFlags × Nat × Nat :=
  let f := s.laneFlags c lane ||| mflag 16 (s.regB (0x0810 + c) 6)
  match s.servedBy c lane with
  | none => (0, f ||| mLaneLost, 0, lane)
  | some sl =>
    let mode := s.pmuMode c sl
    let range := s.regN (peIdx 0x04 c) sl
    let ok := if qty = 0 then mode ≠ 0 else mode = 1 || mode = 2
    let f := f ||| mflag 11 (s.pmuSettling c sl)
    if ok then
      let sp := adcSpan qty range
      (sp.1 * 65536 + sp.2 * code.toNat, f ||| mflag 8 (code = 0 || code = 65535) ||| mflag 7 (compliance && mode ≠ 3), range, sl)
    else (0, f ||| mPmuOff, range, sl)

/-- OVER_RANGE of PMU_STATUS, bit 2, follows a sample (04, R151): a current beyond the full scale of its range; a voltage, which has no full
scale of the PMU's, at either end of the ADC span (DESIGN CHOICE, log entry 55). -/
def State.noteSample (s : State) (c lane qty : Nat) (x : Int × MFlags × Nat × Nat) : State :=
  match s.servedBy c lane with
  | none => s
  | some n =>
    if x.2.1 &&& mPmuOff ≠ 0 then s
    else
      let beyond := if qty = 1 then decide (rangeScale x.2.2.1 * 10000000 * 65536 < x.1.natAbs) else x.2.1 &&& mOverRange ≠ 0
      s.setReg (peIdx 0x1E c) n (setBit (s.reg (peIdx 0x1E c) n) 2 beyond)

/-- n / d rounded to the nearest integer, halves away from zero (08, R249). -/
def roundDiv (n : Int) (d : Nat) : Int :=
  let q : Nat := (2 * n.natAbs + d) / (2 * d)
  if n < 0 then -(q : Int) else q

/-- `k` pre-trigger results, oldest first, from the samples before s0, latest first (08, R255). -/
def preResults (avg : Nat) : Nat → List PreSample → List Word
  | 0, _ => []
  | k + 1, h => preResults avg k (h.drop avg) ++ [wdI (roundDiv ((h.take avg).foldl (fun n e => n + e.value) 0) (65536 * avg))]

/-- What a record keeps of its pre-trigger part (08, R255): how many intervals lie whole before s0, those of them that were
sampled, and the samples of these, latest first. All are sampled when s0 falls due; before that the last ones are still missing. -/
def AdcSt.preTrigger (a : AdcSt) (pre avg d : Nat) : Nat × Nat × List PreSample :=
  match a.grid, a.s0 with
  | some w, some z =>
    let whole := min pre ((z - w) / (avg * d))
    let missing := (z - a.next) / d
    let gone := (missing + avg - 1) / avg
    let n := whole - gone
    (whole, n, (a.hist.drop (gone * avg - missing)).take (n * avg))
  | _, _ => (0, 0, [])

/-- The record of the step in progress begins, its pre-trigger results in it (08, R255, R262): `x` is the sample at s0, with its slice, or
what it would be when the step is cut before it. -/
def State.recordOpen (s : State) (c n : Nat) (x : MFlags × Nat × Nat) : State :=
  let i := adcIdx c n
  let k := s.adcStep c n
  let w0 := s.stepWord c n k 0
  let w1 := s.stepWord c n k 1
  let pre := stepPre (s.stepWord c n k 2)
  let avg := stepAvg w1
  let p := (s.adc c n).preTrigger pre avg (stepDiv w1)
  let used := p.2.2
  let fs := used.foldl (fun f e => f ||| e.flags) 0 &&& ~~~ mTimeUncertain
  let f0 := (match used.getLast? with
    | some e => e.flags
    | none => x.1) &&& mTimeUncertain
  let s := s.onAdc c n (fun a => { a with
    started := true, preCount := p.2.1, results := preResults avg p.2.1 used, hist := []
    flags := a.flags ||| fs ||| f0 ||| mflag 5 (p.2.1 < pre) ||| mflag 10 (a.kind = 3) ||| mflag 0 (used.any (fun e => e.range ≠ x.2.1))
    range := x.2.1, lastRange := x.2.1, slice := x.2.2, site := s.siteWord c (stepLane w0)
    queue := s.regN i 8, first := a.s0.getD 0 - p.1 * avg * stepDiv w1 })
  s.when (stepDest w0 ≠ 0 && s.regN i 8 < 65536) (fun s => s.qHead (s.regN i 8) ⟨c, 1 + n⟩ 2 n)

/-- A LINE or LEVEL trigger at the instant of the AUTO release takes precedence over it (08, R253): the release is its own. -/
def State.adcReclaim (s : State) (c n kind : Nat) : State :=
  let i := adcIdx c n
  let m := s.mAt ((s.adc c n).release.getD 0)
  let ls := s.linesOf (0x8000 + 4 * c + 1)
  let mine := fun d => match occurrenceOf d with
    | some (l, k) => k = m && ls.contains l
    | none => false
  let s := { s with agenda := s.agenda.filter (fun d => !mine d) }
  ((s.setRegN i 0x0D (s.regN i 0x0D - 1)).onAdc c n (fun a => { a with kind := kind })).raiseEvent (0x8000 + 4 * c) m

/-- Whether the step was released by AUTO at `r` and no sample of its record is taken yet. -/
def State.adcAutoAt (s : State) (c n r : Nat) : Bool :=
  let a := s.adc c n
  s.regN (adcIdx c n) 0 = 2 && a.kind = 3 && a.release = some r && !a.started

/-- A sample may release a LEVEL step (08, R253); `v` is its value times 65,536, `range` the range. -/
def State.levelTrigger (s : State) (c n at_ : Nat) (v : Int) (range : Nat) : State :=
  let i := adcIdx c n
  let k := s.adcStep c n
  let w0 := s.stepWord c n k 0
  let trig := stepTrig w0
  if 2 ≤ trig ∧ (s.regN i 0 = 1 ∨ s.adcAutoAt c n at_ = true) then
    let low := (s.adc c n).low
    let lvl := (s.stepWord c n k 3).toInt * 65536
    let h := (s.regN i 6 : Int) * (adcSpan (stepQty w0) range).2
    let hit := if trig = 2 then low && lvl ≤ v else low && v ≤ lvl
    let arm := if trig = 2 then v ≤ lvl - h else lvl + h ≤ v
    if !hit then s.onAdc c n (fun a => { a with low := a.low || arm })
    else if s.regN i 0 = 1 then s.adcRelease c n at_ 2
    else s.adcReclaim c n 2
  else s

/-- A sample of ADC `n` falls due (08, R248 to R255). -/
def State.adcSample (s : State) (c n : Nat) (code : BitVec 16) (compliance : Bool) : State :=
  let i := adcIdx c n
  let k := s.adcStep c n
  let w0 := s.stepWord c n k 0
  let w1 := s.stepWord c n k 1
  let w2 := s.stepWord c n k 2
  let d := stepDiv w1
  let avg := stepAvg w1
  let s := match (s.adc c n).armed with
    | none => s
    | some m => s.onAdc c n (fun a =>
        let lo := gridUp (max (gridUp m + stepSettle w2) a.muxOk)
        let hi := gridUp (max ((m + usEt 1) / 40960 * 40960 + stepSettle w2) a.muxOk)
        let z := max lo (min hi (gridUp s.clock))
        { a with armed := none, release := some (z - stepSettle w2), s0 := some z, next := z })
  let a := s.adc c n
  if (s.regN i 0 = 2 ∨ (s.regN i 0 = 1 ∧ a.grid.isSome)) ∧ a.count ≠ avg then
    let at_ := a.next
    let s := s.tick at_
    let x := s.adcValue c (stepLane w0) (stepQty w0) code compliance
    let s := (s.noteSample c (stepLane w0) (stepQty w0) x).levelTrigger c n at_ x.1 x.2.2.1
    if (s.adc c n).s0.any (fun z => z ≤ at_) then
      let s := s.when (!(s.adc c n).started) (fun s => s.recordOpen c n x.2)
      let first := a.count = 0
      let f := if first then x.2.1 else x.2.1 &&& ~~~ mTimeUncertain
      s.onAdc c n (fun a => { a with
        sum := (if first then 0 else a.sum) + x.1, count := a.count + 1, next := at_ + d
        accFrom := if first then at_ else a.accFrom
        itemFlags := (if first then mflag 10 (a.kind = 3) else a.itemFlags) ||| f ||| mflag 0 (x.2.2.1 ≠ a.lastRange)
        itemSite := if first then s.siteWord c (stepLane w0) else a.itemSite
        lastRange := x.2.2.1 })
    else s.onAdc c n (fun a => { a with hist := (⟨x.1, x.2.1, x.2.2.1⟩ :: a.hist).take (stepPre w2 * avg), next := at_ + d })
  else s

/-- The record of the step in progress is closed (08, R262); `extra` flags are added. -/
def State.closeRecord (s : State) (c n : Nat) (extra : MFlags) : State :=
  let a := s.adc c n
  let k := s.adcStep c n
  let w0 := s.stepWord c n k 0
  let w1 := s.stepWord c n k 1
  if !a.started || stepDest w0 = 0 || 65536 ≤ a.queue then s
  else
    let t := s.mAt a.first
    let qty := stepQty w0
    let flags := a.flags ||| extra ||| s.stepFlag a.first (a.next - stepDiv w1)
    let head := mkLine 2 0 false (recordW0 a.site (fld w0 24 16) c (stepLane w0)) (loWord t) (hiWord t)
      (wd (a.results.length * 2 ^ 20 + a.violation))
      (wd (flags.toNat * 2 ^ 20 + (stepAvg w1 - 1) * 16 + (if qty = 0 then 7 else a.range) * 2 + qty))
      (wd (fld w1 20 20 * 2 ^ 20 + a.preCount * 4096 + a.slice * 128 + a.kind * 16 + n * 8))
    s.sendPacket a.queue c 2 n (1 + n) true (head :: dataLines 3 a.results)

/-- A step ends at `e` (08, R257, R259, table of sequence states): the record, the class 0x8 occurrence, what follows. -/
def State.endStep (s : State) (c n e : Nat) (masked stopSeq : Bool) : State :=
  let i := adcIdx c n
  let k := s.adcStep c n
  let s := s.closeRecord c n 0
  let s := s.addReg i 0x0B 1
  let s := s.when masked (fun s => (s.addReg i 0x0E 1).raiseEvent (0x8000 + 4 * c + 2) (s.mAt e))
  let s := s.raiseEvent (0x8000 + 4 * c + 3) (s.mAt e)
  let stop (s : State) (st cause : Nat) : State :=
    ((s.setRegN i 0 st).setRegN i 0x0A cause).onAdc c n (fun a => { AdcSt.idle with mux := a.mux })
  if stopSeq then stop s 3 3
  else if (s.adc c n).stopping then stop s 4 2
  else if bit (s.stepWord c n k 0) 7 then
    if s.regB i 7 then s.beginStep c n 0 e false else stop s 3 1
  else s.beginStep c n (k + 1) e false

/-- The limits that post-trigger result `j` is tested against, when it is tested; POISON of the mask table's line (08, R258). -/
def State.maskLimits (s : State) (c n k j : Nat) : Option (Int × Int) × Bool × State :=
  let w0 := s.stepWord c n k 0
  match fld w0 10 2 with
  | 1 => (some ((s.stepWord c n k 4).toInt, (s.stepWord c n k 5).toInt), false, s)
  | 2 =>
    let r := s.hbmRead (fld (s.stepWord c n k 4) 0 31 + j / 3) 0x10
    if linePoison r.1 then (none, true, r.2)
    else (some ((lineWord r.1 (2 * (j % 3))).toInt, (lineWord r.1 (2 * (j % 3) + 1)).toInt), false, r.2)
  | _ => (none, false, s)

/-- An interval ends (08, R249, R257 to R259): its result, its mask, its item, and at the last interval the step. -/
def State.intervalEnd (s : State) (c n : Nat) : State :=
  let i := adcIdx c n
  let k := s.adcStep c n
  let a := s.adc c n
  let w0 := s.stepWord c n k 0
  let w1 := s.stepWord c n k 1
  let avg := stepAvg w1
  if s.regN i 0 ≠ 2 ∨ a.count ≠ avg ∨ !a.started then s
  else
    let e := a.accFrom + avg * stepDiv w1
    let s := s.tick e
    let v := roundDiv a.sum (65536 * avg)
    let j := a.post
    let lim := s.maskLimits c n k j
    let s := lim.2.2
    let bad := match lim.1 with
      | some (lo, hi) => v < lo || hi < v
      | none => false
    let fi := a.itemFlags ||| mflag 9 bad ||| mflag 19 lim.2.1 ||| s.stepFlag a.accFrom (a.next - stepDiv w1)
    let fst := bad && a.violation = 0xFFFFF
    let s := s.onAdc c n (fun a => { a with count := 0, sum := 0, post := j + 1, results := a.results ++ [wdI v], flags := a.flags ||| (fi &&& ~~~ mTimeUncertain), violation := if fst then a.preCount + j else a.violation })
    let s := (s.setReg i 0x0F (wdI v)).setReg80 i 0x10 (s.mAt a.accFrom)
    let s := s.when (stepDest w0 ≠ 1) (fun s => s.sendItem c (stepLane w0) (fld w0 24 16) (stepQty w0) a.itemSite (wdI v) fi (s.mAt a.accFrom))
    let act := if fst then fld w0 8 2 else 0
    if act ≠ 0 then s.endStep c n e true (act = 2)
    else if fld (s.stepWord c n k 2) 24 16 ≤ j then s.endStep c n e false false
    else s

/-- STOP 2 or Eclipse ends the step in progress at once (08, R261). In ACQUIRE before the sample at s0 its record holds what
pre-trigger results are complete, and is dated from s0; in WAIT_TRIG, with no s0, there is none: DESIGN CHOICE, log entry 50. -/
def State.adcCut (s : State) (c n cause : Nat) : State :=
  let i := adcIdx c n
  let st := s.regN i 0
  if st = 1 ∨ st = 2 then
    let lane := stepLane (s.stepWord c n (s.adcStep c n) 0)
    let s := s.when (st = 2 && (s.adc c n).s0.isSome && !(s.adc c n).started) (fun s =>
      let sl := (s.servedBy c lane).getD lane
      s.recordOpen c n (s.laneFlags c lane, s.regN (peIdx 0x04 c) sl, sl))
    let s := s.closeRecord c n mTruncated
    ((s.setRegN i 0 4).setRegN i 0x0A cause).onAdc c n (fun a => { AdcSt.idle with mux := a.mux })
  else s

/-- ARM of an ADC sequence (08, R260): the counters that count since ARM clear, step 0 begins. -/
def State.adcStart (s : State) (c n : Nat) : State :=
  let i := adcIdx c n
  let s := [0x0B, 0x0C, 0x0D, 0x0E].foldl (fun s k => s.setReg i k 0) s
  (s.onAdc c n (fun a => { AdcSt.idle with mux := a.mux })).beginStep c n 0 s.clock true

/-- Why an ARM of an ADC sequence is refused at check 10, or 0 (08, R260; 17, R498). -/
def State.adcArmRefusal (s : State) (c n : Nat) : Nat :=
  let i := adcIdx c n
  let st := s.regN i 0
  let lastAt := (List.range 256).find? (fun k => bit (s.stepWord c n k 0) 7)
  if st = 1 ∨ st = 2 ∨ s.seqState c = 7 ∨ s.regN 0x0100 0x0B = 1 then 9
  else match lastAt with
    | none => 0x91
    | some k =>
      if s.regN i 4 = 0xFFFF ∧ ((List.range (k + 1)).any (fun j => stepTrig (s.stepWord c n j 0) = 1)) then 0x95 else 0

/-- AUTO of the step in progress releases it at `r` (08, R253). -/
def State.adcAutoRelease (s : State) (c n r : Nat) : State := (s.adcRelease c n r 3).addReg (adcIdx c n) 0x0D 1

/-- The instant at which AUTO releases the step in progress, when it is set (08, R253). -/
def State.autoInstant (s : State) (c n : Nat) : Option Nat :=
  if bit (s.stepWord c n (s.adcStep c n) 0) 12 then some ((s.adc c n).entry + usEt (s.regN (adcIdx c n) 5)) else none

/-- An occurrence on TRIG_LINE (08, R253, R256): the earlier of its release and AUTO's is the step's, its own at one instant. -/
def State.adcLine (s : State) (c n : Nat) (stamp : U80) (timed : Bool) : State :=
  let i := adcIdx c n
  let a := s.adc c n
  let r := s.releaseAt stamp timed
  let mine := stepTrig (s.stepWord c n (s.adcStep c n) 0) = 1 && a.entry ≤ s.localOf stamp * 32
  if s.regN i 0 = 1 ∧ mine = true then
    match (s.autoInstant c n).filter (fun e => e < r) with
    | some e => (s.adcAutoRelease c n e).addReg i 0x0C 1
    | none => s.adcRelease c n r 1
  else if mine = true ∧ s.adcAutoAt c n r = true then s.adcReclaim c n 1
  else s.addReg i 0x0C 1

/-- AUTO_TIMEOUT expires (08, R253). -/
def State.adcAuto (s : State) (c n : Nat) : State :=
  match s.autoInstant c n with
  | some r => if s.regN (adcIdx c n) 0 = 1 ∧ r ≤ s.clock then s.adcAutoRelease c n r else s
  | none => s

/-! ## Stamps (08, R263 to R267) -/

/-- Whether a STAMP_EDGE code selects a transition. -/
def selects (code : Nat) (e : Crossing) : Bool :=
  match code, e with
  | 1, .intoH | 2, .intoL | 3, .intoH | 3, .intoL | 4, .outOfL | 5, .outOfH => true
  | _, _ => false
/-- Polarity of a transition: falling is true. -/
def fallsAt : Crossing → Bool
  | .intoH | .outOfL => false
  | .intoL | .outOfH => true

/-- Change one lane of a stamp capture. -/
def State.onLane (s : State) (c l : Nat) (f : StampLane → StampLane) : State :=
  s.onCap c (fun x => { x with lanes := SMap.set (fun _ => StampLane.empty) x.lanes l (f (SMap.get (fun _ => StampLane.empty) x.lanes l)) })

/-- The present gate of the capture, in mt: it opened at the first and ends before the second (08, R266). -/
def State.capGate (s : State) (c : Nat) : Nat × Nat :=
  let r := ((s.cap c).release.getD 0) / 32
  (r, r + s.regN (capIdx c) 5 * 128)

/-- The present gate of a regression unit, in mt (08, R268). -/
def State.ruGate (s : State) (c n : Nat) : Nat × Nat :=
  let r := (s.ru c n).opened / 32
  (r, r + s.regN (ruIdx c n) 5 * 128)

/-- Every open gate on a lane that holds an instant takes a flag. -/
def State.gateFlag (s : State) (c l mt : Nat) (f : MFlags) : State :=
  let holds := fun g : Nat × Nat => g.1 ≤ mt && mt < g.2
  let s := s.when (s.regN (capIdx c) 0 = 2 && (s.regN (capIdx c) 3).testBit l && holds (s.capGate c)) (fun s =>
    s.onLane c l (fun x => { x with flags := x.flags ||| f }))
  s.repeat 4 (fun n s => s.when (s.regN (ruIdx c n) 0 = 2 && s.regN (ruIdx c n) 3 = l && holds (s.ruGate c n)) (fun s =>
    s.onRu c n (fun x => { x with flags := x.flags ||| f })))

/-- Every record, item and gate of a cluster that is open takes a flag: the samples it has, the gates that have opened (05, R169). -/
def State.markOpen (s : State) (c : Nat) (f : MFlags) : State :=
  let s := s.repeat 2 (fun n s => s.when (1 ≤ s.regN (adcIdx c n) 0 && s.regN (adcIdx c n) 0 ≤ 2) (fun s => s.onAdc c n (fun a => { a with
    hist := a.hist.map (fun e => { e with flags := e.flags ||| f })
    flags := if a.started then a.flags ||| f else a.flags
    itemFlags := if a.count = 0 then a.itemFlags else a.itemFlags ||| f })))
  let s := s.when (s.regN (capIdx c) 0 = 2) (fun s => s.repeat 24 (fun l s => s.when ((s.regN (capIdx c) 3).testBit l) (fun s =>
    s.onLane c l (fun x => { x with flags := x.flags ||| f }))))
  s.repeat 4 (fun n s => s.when (s.regN (ruIdx c n) 0 = 2) (fun s => s.onRu c n (fun x => { x with flags := x.flags ||| f })))

/-- The capture takes a stamp that its open gate holds (08, R265, R266): into the lane's burst buffer, or lost to it. -/
def State.capTake (s : State) (c : Nat) (e : EarlyStamp) : State :=
  let g := s.capGate c
  let x := SMap.get (fun _ => StampLane.empty) (s.cap c).lanes e.lane
  if e.mt < g.1 ∨ g.2 ≤ e.mt ∨ s.regN (capIdx c) 6 ≤ x.buffer.length + x.stamps.length then s
  else
    let w := wd (b2n e.falling * 2 ^ 39 + (e.mt - g.1))
    if x.buffer.length < 64 then s.onLane c e.lane (fun x => { x with buffer := x.buffer ++ [w], flags := x.flags ||| e.flags })
    else (s.addReg (capIdx c) 9 1).onLane c e.lane (fun x => { x with lost := x.lost + 1, flags := x.flags ||| e.flags ||| mStampLost })

/-- A regression unit takes a stamp (08, R268 to R270): into its present gate, or kept for a gate to come. -/
def State.ruTake (s : State) (c n : Nat) (e : EarlyStamp) : State :=
  let g := s.ruGate c n
  if e.mt < g.1 then s
  else if g.2 ≤ e.mt then s.onRu c n (fun x => { x with early := x.early ++ [e] })
  else s.onRu c n (fun x =>
    let o : Int := e.mt - g.1
    { x with m := x.m + 1, st := x.st + o, snt := x.snt + x.m * o, flags := x.flags ||| e.flags })

/-- Stamps kept for a gate that has not opened: those that lie ahead of now. -/
def keptEarly (now : Nat) (l : List EarlyStamp) (e : EarlyStamp) : List EarlyStamp := (l ++ [e]).filter (fun x => now ≤ x.mt)

/-- A stamp of a lane reaches the units that use it (08, R263 to R270). -/
def State.stampTaken (s : State) (c : Nat) (e : EarlyStamp) : State :=
  let s := { s with mea := { s.mea with lastStamp := SMap.set (fun _ => none) s.mea.lastStamp (24 * c + e.lane) (some e.mt) } }
  let s := s.repeat 4 (fun n s =>
    if s.regN (ruIdx c n) 3 ≠ e.lane ∨ (s.regN (ruIdx c n) 4 = 1) ≠ (e.falling = true) then s
    else match s.regN (ruIdx c n) 0 with
      | 1 => s.onRu c n (fun x => { x with early := keptEarly s.localMt x.early e })
      | 2 => s.ruTake c n e
      | _ => s)
  if (s.regN (capIdx c) 3).testBit e.lane then
    match s.regN (capIdx c) 0 with
    | 1 => s.onCap c (fun x => { x with early := keptEarly s.localMt x.early e })
    | 2 => s.capTake c e
    | _ => s
  else s

/-- A selected transition in the stamper's dead time: counted, and every gate that spans it flagged (08, R264). -/
def State.stampMissed (s : State) (c l mt : Nat) : State :=
  let s := (s.addReg (capIdx c) 0x0A 1).onCap c (fun x => { x with missed := SMap.set (fun _ => 0) x.missed l (SMap.get (fun _ => 0) x.missed l + 1) })
  s.gateFlag c l mt mDeadTime

/-- A comparator transition of a lane at the instant now (08, R263 to R265): stamped, or missed in dead time. -/
def State.stampEdge (s : State) (c l : Nat) (e : Crossing) : State :=
  match s.servedBy c l with
  | none => s
  | some sl =>
    if s.strobesFail c l ∨ !selects (s.regN (meaIdx 2 c) l) e then s
    else
      let mt := (((s.clock : Int) - s.deskew c sl true) / 32).toNat
      let x : EarlyStamp := ⟨l, mt, fallsAt e, s.laneFlags c l &&& ~~~ mTimeUncertain⟩
      match SMap.get (fun _ => none) s.mea.lastStamp (24 * c + l) with
      | some p => if mt < p + 64 then s.stampMissed c l mt else s.stampTaken c x
      | none => s.stampTaken c x

/-- The slices whose buffers hold stamps, in the order in which the drain comes to them after slice `turn` (08, R265). -/
def StampSt.waiting (x : StampSt) : List Nat :=
  let on := fun n => x.lanes.any (fun e => e.2.slice = n && !e.2.buffer.isEmpty)
  ((List.range 25).map (fun k => (x.turn + 1 + k) % 25)).filter on

/-- One stamp leaves a burst buffer toward the queue pool: round-robin over the slices with stamps waiting (08, R265). -/
def State.stampDrain (s : State) (c : Nat) : State :=
  match (s.cap c).waiting with
  | [] => s
  | n :: _ =>
    let s := ((s.cap c).lanes.filter (fun e => e.2.slice = n)).foldl (fun s e => s.onLane c e.1 (fun x => match x.buffer with
      | [] => x
      | w :: ws => { x with buffer := ws, stamps := x.stamps ++ [w] })) s
    s.onCap c (fun x => { x with turn := n })

/-- How long after an instant the device has still to wait, in et, until every edge stamped before it has come: the largest DSK_CMP of the
cluster's slices (08, R263). -/
def State.stampLag (s : State) (c : Nat) : Nat := (List.range 25).foldl (fun m n => max m (s.deskew c n true).toNat) 0

/-- The release instant of a gate whose TRIG_LINE is none: the first grid instant at which the unit has taken the ARM (08, R266). -/
def gridTaken (armed now : Nat) : Nat := min (gridUp now) ((armed + usEt 1) / 40960 * 40960)

/-- The release of a gate, when it has come: by its line, or the grid instant (08, R266, R268). -/
def State.gateRelease (s : State) (line : Nat) (armed : Nat) (release : Option Nat) : Option Nat :=
  if line = 0xFFFF then some (gridTaken armed s.clock)
  else match release with
    | some r => if r ≤ s.clock then some r else none
    | none => none

/-- The capture gate opens (08, R266). -/
def State.capOpen (s : State) (c : Nat) : State :=
  let i := capIdx c
  if s.regN i 0 ≠ 1 then s
  else
    match s.gateRelease (s.regN i 4) (s.cap c).armed (s.cap c).release with
    | none => s
    | some r =>
      let ls := lanesIn (s.regN i 3)
      let lanes := ls.foldl (fun m l => SMap.set (fun _ => StampLane.empty) m l { StampLane.empty with flags := s.laneFlags c l, site := s.siteWord c l, slice := (s.servedBy c l).getD l }) []
      let early := (s.cap c).early
      let s := (s.onCap c (fun x => { x with release := some r, lanes := lanes, early := [] })).setRegN i 0 2
      early.foldl (fun s e => s.capTake c e) s

/-- The record of one lane of a capture (08, R262, R267). -/
def State.stampRecord (s : State) (c l r e : Nat) (extra : MFlags) : List LineData :=
  let x := SMap.get (fun _ => StampLane.empty) (s.cap c).lanes l
  let ws := x.stamps ++ x.buffer
  let t := s.mAt r
  let f := x.flags ||| extra ||| mflag 16 (s.calStale c) ||| s.stepFlag r e
  let head := mkLine 4 0 false (recordW0 x.site (s.regN (capIdx c) 7) c l) (loWord t) (hiWord t)
    (wd (ws.length * 2 ^ 20 + min x.lost 0xFFFFF)) (wd (f.toNat * 2 ^ 20 + min (SMap.get (fun _ => 0) (s.cap c).missed l) 0xFFFFF)) (wd (x.slice * 128))
  head :: dataLines 5 ws

/-- The capture gate closes at `at_` (08, R266, R267): one record per lane, the class 0x8 occurrence. -/
def State.capClose (s : State) (c at_ st : Nat) (extra : MFlags) : State :=
  let i := capIdx c
  let r := (s.cap c).release.getD 0
  let s := (lanesIn (s.regN i 3)).foldl (fun s l => s.sendPacket (s.regN i 8) c 3 0 3 false (s.stampRecord c l r at_ extra)) s
  let s := s.raiseEvent (0x8000 + 4 * c + 3) (s.mAt at_)
  (s.setRegN i 0 st).onCap c (fun x => { StampSt.idle with missed := x.missed })

/-- STOP 2 or Eclipse on a stamp capture (08, R267). -/
def State.capCut (s : State) (c : Nat) : State :=
  match s.regN (capIdx c) 0 with
  | 1 => (s.setRegN (capIdx c) 0 4).onCap c (fun _ => StampSt.idle)
  | 2 => s.capClose c s.clock 4 mTruncated
  | _ => s

/-! ## Regression units (08, R268 to R271) -/

/-- A gate of a regression unit opens at `r` as gate `g`. -/
def State.ruOpen (s : State) (c n r g : Nat) : State :=
  let l := s.regN (ruIdx c n) 3
  let early := (s.ru c n).early
  let s := (s.setRegN (ruIdx c n) 0 2).onRu c n (fun x => { x with release := some r, opened := r, gate := g, m := 0, st := 0, snt := 0, flags := s.laneFlags c l, site := s.siteWord c l, early := [] })
  early.foldl (fun s e => s.ruTake c n e) s

/-- FREQ and PERIOD of a gate with `m` stamps and the sums of offsets and of number times offset; whether FREQ is beyond its
range (08, R269, R270). -/
def gateResult (m : Nat) (st snt : Int) : Nat × Nat × Bool :=
  if m < 3 then (0, 0, false)
  else
    let sn : Int := m * (m - 1) / 2
    let num := (12 * (m * snt - sn * st)).toNat
    let den := m * m * (m * m - 1)
    if num = 0 then (0xFFFFFFFFFF, 0, true)
    else
      let f := (2 * 128000000000000 * den + num) / (2 * num)
      let p := (num * 15625 + den) / (2 * den)
      (min f 0xFFFFFFFFFF, min p 0xFFFFFFFFFF, 0xFFFFFFFFFF < f)

/-- A gate ends: its result, its item or record (08, R271). -/
def State.ruResult (s : State) (c n e : Nat) (extra : MFlags) : State :=
  let i := ruIdx c n
  let x := s.ru c n
  let l := s.regN i 3
  let r := gateResult x.m x.st x.snt
  let f := x.flags ||| extra ||| mflag 8 r.2.2 ||| mflag 3 (x.m < 3) ||| mflag 16 (s.calStale c) ||| s.stepFlag x.opened e
  let t := s.mAt x.opened
  let s := ((s.setRegN i 0x0B r.1).setRegN i 0x0C r.2.1).setRegN i 0x0D x.m
  let s := (s.setReg80 i 0x0E t).setRegN i 0x0F f.toNat
  let dest := s.regN i 9
  let s := s.when (dest ≠ 1) (fun s => s.sendItem c l (s.regN i 8) 2 x.site (wd r.1) f t)
  let q := s.regN i 0x0A
  s.when (dest ≠ 0 && q < 65536) (fun s => s.qItem q c
    [mkLine 6 0 false (recordW0 x.site (s.regN i 8) c l) (loWord t) (hiWord t) (wd r.1) (wd (f.toNat * 2 ^ 20 + min x.m 0xFFFFF)) (wd r.2.1)])

/-- The present gate's end is reached: its result, and the next gate opens with no dead time (08, R268, R271). -/
def State.ruGateEnd (s : State) (c n : Nat) : State :=
  let i := ruIdx c n
  let x := s.ru c n
  let e := x.opened + nsEt (s.regN i 5)
  if s.regN i 0 ≠ 2 ∨ s.clock < e + s.stampLag c then s
  else
    let s := s.ruResult c n e 0
    let gates := s.regN i 7
    if x.stopping then (s.setRegN i 0 4).onRu c n (fun _ => RuSt.idle)
    else if gates ≠ 0 ∧ gates ≤ x.gate + 1 then (s.setRegN i 0 3).onRu c n (fun _ => RuSt.idle)
    else s.ruOpen c n e (x.gate + 1)

/-- STOP 2 or Eclipse on a regression unit (08, R268). -/
def State.ruCut (s : State) (c n : Nat) : State :=
  match s.regN (ruIdx c n) 0 with
  | 1 => (s.setRegN (ruIdx c n) 0 4).onRu c n (fun _ => RuSt.idle)
  | 2 => ((s.ruResult c n s.clock mTruncated).setRegN (ruIdx c n) 0 4).onRu c n (fun _ => RuSt.idle)
  | _ => s

/-- Every measurement unit of a cluster ends as for STOP 2 (08, R261, R267, R268). -/
def State.measureCut (s : State) (c cause : Nat) : State :=
  let s := (s.adcCut c 0 cause).adcCut c 1 cause
  (s.capCut c).repeat 4 (fun n s => s.ruCut c n)

/-- Every measurement unit of a cluster goes to IDLE, its record in progress discarded and logged (08, R261, R267). -/
def State.measureReset (s : State) (c : Nat) : State :=
  let s := s.repeat 2 (fun n s =>
    let s := s.when (s.regN (adcIdx c n) 0 = 2) (fun s => s.logPut 0x0504 (wd (c * 2 ^ 34 + n)) 0)
    (s.setRegN (adcIdx c n) 0 0).onAdc c n (fun _ => AdcSt.idle))
  let s := s.when (s.regN (capIdx c) 0 = 2) (fun s => s.logPut 0x0504 (wd (c * 2 ^ 34 + 2)) 0)
  let s := (s.setRegN (capIdx c) 0 0).onCap c (fun _ => StampSt.idle)
  s.repeat 4 (fun n s => (s.setRegN (ruIdx c n) 0 0).onRu c n (fun _ => RuSt.idle))

/-- An occurrence on the TRIG_LINE of a waiting stamp capture sets its release, the first one (08, R266). -/
def State.capLine (s : State) (c : Nat) (stamp : U80) (timed : Bool) : State :=
  let x := s.cap c
  if s.regN (capIdx c) 0 = 1 ∧ x.release = none ∧ x.armed ≤ s.localOf stamp * 32 then
    let r := s.releaseAt stamp timed
    s.onCap c (fun x => { x with release := some r })
  else s

/-- An occurrence on the TRIG_LINE of a waiting regression unit sets its release, the first one (08, R268). -/
def State.ruLine (s : State) (c n : Nat) (stamp : U80) (timed : Bool) : State :=
  let x := s.ru c n
  if s.regN (ruIdx c n) 0 = 1 ∧ x.release = none ∧ x.armed ≤ s.localOf stamp * 32 then
    let r := s.releaseAt stamp timed
    s.onRu c n (fun x => { x with release := some r })
  else s

end Sys2Proof.Machine
end

