-- ==== Sys2Proof/Machine/Stimulus.lean ====
section
/-! DEFINITION. Machine/Stimulus.lean: the analogue stimulus outputs (11): ranges, strobes, clear codes, playback, the NCO. -/

namespace Sys2Proof.Machine

/-- Output `n`. -/
def State.out (s : State) (n : Nat) : AsSt := SMap.get (fun _ => AsSt.idle) s.stim n
/-- Change output `n`. -/
def State.onOut (s : State) (n : Nat) (f : AsSt → AsSt) : State :=
  { s with stim := SMap.set (fun _ => AsSt.idle) s.stim n (f (s.out n)) }

/-- Index of an output's objects. -/
def asIdx (n : Nat) : Nat := 0x8000 + n
/-- STATE of an output: 0 IDLE, 1 ARMING, 2 ARMED, 3 RUN, 4 WAITING, 5 DONE, 6 STOPPED (11, table of playback states). -/
def State.asState (s : State) (n : Nat) : Nat := s.regN (asIdx n) 0x11
/-- The active MODE of an output. -/
def State.asMode (s : State) (n : Nat) : Nat := s.actN (asIdx n) 0x00
/-- Whether an output is ARMING, ARMED, RUN or WAITING. -/
def State.asBusy (s : State) (n : Nat) : Bool := 1 ≤ s.asState n && s.asState n ≤ 4
/-- Whether LVLCLR_N is low or the device is in ECLIPSE: outputs are held clear (11, R335, R337). -/
def State.asHeld (s : State) : Bool := s.pins.lvlclrLow || s.devState = 7

/-- The objects of an output with the effect rule load (11, R331). -/
def asLoadSub (sub : Nat) : Bool := sub ≤ 5 || sub = 9 || sub = 0xA
/-- Keys of the load objects of an output. -/
def asLoadKey (n k : Nat) : Bool := k / 134217728 / 256 = asIdx n && asLoadSub (k / 134217728 % 256)
/-- PENDING of STATUS: some load object's written value is not active. -/
def State.asPending (s : State) (n : Nat) : Bool :=
  (List.range 11).any (fun k => asLoadSub k && s.reg (asIdx n) k ≠ s.act? (asIdx n) k)
/-- STATUS of an output (0x13). -/
def State.asStatus (s : State) (n : Nat) : Word := setBit (s.reg (asIdx n) 0x13) 5 (s.asPending n)
/-- Set a bit of STATUS. -/
def State.asFlag (s : State) (n b : Nat) (v : Bool) : State :=
  s.setReg (asIdx n) 0x13 (setBit (s.reg (asIdx n) 0x13) b v)

/-- LOW and SPAN of a range in µV (11, table of output ranges). -/
def asRange (r : Nat) : Int × Nat := if r = 1 then (-500000, 2000000) else (-1500000, 5500000)
/-- Whether a voltage lies in a range. -/
def inRange (r : Nat) (v : Int) : Bool := (asRange r).1 ≤ v && v ≤ (asRange r).1 + (asRange r).2

/-- The 20-bit code of a target of `num`/`den` µV in a range, and whether it was clipped (11, R330). -/
def asCode (r : Nat) (num : Int) (den : Nat) : Nat × Bool :=
  let low := (asRange r).1 * den
  let span := (asRange r).2
  let x := num - low
  let c := (2 * x * 1048575 + (span * den : Nat)).fdiv (2 * (span * den : Nat))
  if x < 0 then (0, true) else if (span * den : Nat) < x then (1048575, true) else (c.toNat, false)

/-- The target of an output beside its clear code, as a fraction in µV: none while nothing has been played (11, R330, table of output modes). -/
def State.asTarget (s : State) (n : Nat) : Option (Int × Nat) :=
  let i := asIdx n
  if (s.out n).mode = 1 then some ((s.act? i 2).toInt, 1)
  else (s.out n).sample.map (fun x => ((s.act? i 5).toInt * (524287 * 65536) + (s.act? i 4).toInt * x, 524287 * 65536))

/-- The voltage that an output aims at, as a fraction in µV: none in OFF; its clear code while it is held clear, waits for a strobe or a start
after that, or changes its range; else its target (11, R330, R334 to R337). -/
def State.asAims (s : State) (n : Nat) : Option (Int × Nat) :=
  let x := s.out n
  if x.mode = 0 then none
  else if x.cleared || x.clrPlay || x.change.isSome then some (x.clr, 1)
  else s.asTarget n

/-- What an output drives: nothing (OFF), or a code of its range (11, R330). -/
def State.asDrives (s : State) (n : Nat) : Option Nat := (s.asAims n).map (fun v => (asCode (s.out n).range v.1 v.2).1)

/-- The output takes what it aims at: CLIPPED is set when that lies outside the range (11, R330). -/
def State.asApply (s : State) (n : Nat) : State :=
  match s.asAims n with
  | some v => s.when (asCode (s.out n).range v.1 v.2).2 (fun s => s.asFlag n 2 true)
  | none => s

/-- The output stage takes MODE and CLR_V of the active set; one that was cleared leaves its clear code, in WAVE or NCO only with the next
start (11, R333, R334, R336). -/
def State.asTake (s : State) (n : Nat) : State :=
  let m := s.asMode n
  let s := s.when (s.out n).cleared (fun s => s.asFlag n 4 false)
  (s.onOut n (fun x => { x with
    mode := m, clr := (s.act? (asIdx n) 3).toInt, cleared := false, clrPlay := (x.cleared || x.clrPlay) && 2 ≤ m })).asApply n

/-- A LOAD strobe reaches an output (11, R333 to R337, R345). While LVLCLR_N is low or the device is in ECLIPSE it changes no output; one that
changes RANGE, or comes during such a change, waits for step 4 of the change. -/
def State.asStrobe (s : State) (n : Nat) : State :=
  let i := asIdx n
  let freq := s.act? i 9
  let s := s.activateKeys (asLoadKey n)
  let s := s.when (s.act? i 9 ≠ freq) (fun s => s.onOut n (fun x => { x with rephase := true }))
  if s.asHeld || (s.out n).change.isSome then s
  else if s.actN i 1 ≠ (s.out n).range then
    ((s.onOut n (fun x => { x with change := some s.clock })).asFlag n 3 true).asApply n
  else s.asTake n

/-- Step 2 of a range change (11, R334). -/
def State.asRangeSwitch (s : State) (n : Nat) : State :=
  match (s.out n).change with
  | none => s
  | some _ =>
    let r := s.actN (asIdx n) 1
    (s.onOut n (fun x => { x with range := r })).asApply n

/-- Step 4 of a range change (11, R334): what strobes made active meanwhile is applied too; of an output held clear, at its first strobe after
that. -/
def State.asRangeDone (s : State) (n : Nat) : State :=
  match (s.out n).change with
  | none => s
  | some _ =>
    let r := s.actN (asIdx n) 1
    let s := (s.onOut n (fun x => { x with change := none, range := r })).asFlag n 3 false
    if s.asHeld then s else s.asTake n

/-- Playback ends in STOPPED with a cause (11, table of playback states). -/
def State.asEnd (s : State) (n cause : Nat) : State :=
  if s.asBusy n then
    ((s.setRegN (asIdx n) 0x11 6).setRegN (asIdx n) 0x12 cause).onOut n (fun x => { x with ahead := [], table := [], stop := 0, under := false, ended := true })
  else s

/-- An output is held clear by LVLCLR_N (cause 3) or Eclipse (cause 4) (11, R335, R337). -/
def State.asClear (s : State) (n cause : Nat) : State :=
  let s := s.asEnd n cause
  if (s.out n).mode = 0 then s else ((s.onOut n (fun x => { x with cleared := true })).asFlag n 4 true).asApply n

/-- Word `w` of sequence entry `e`. -/
def State.asEntry (s : State) (n e w : Nat) : Word := s.reg (asIdx n) 7 (3 * e + w)
/-- LENGTH of an entry. -/
def State.asLength (s : State) (n e : Nat) : Nat := fld (s.asEntry n e 1) 16 24

/-- The first tick of the modulator at or after an instant in et: ticks fall every 160 mt (11, R339). -/
def tickUp (t : Nat) : Nat := (t + 5119) / 5120 * 5120
/-- The start instant that an occurrence gives (11, R339): T of a timed event, else the stamp plus 64 ns. -/
def State.asStartAt (s : State) (stamp : U80) (timed : Bool) : Nat :=
  tickUp (s.localOf stamp * 32 + (if timed then 0 else nsEt 64))

/-- The 12 samples of a line (11, "Waveform sequences"); a poisoned line's samples carry its address. -/
def lineSamples (a : Nat) (bad : Bool) (l : LineData) : List (Int × Option Nat) :=
  (List.range 12).map (fun k =>
    let v := signedOf20 (fld (lineWord l (k / 2)) (20 * (k % 2)) 20)
    (max v (-524287), if bad then some a else none))
where
  signedOf20 (x : Nat) : Int := if x < 524288 then (x : Int) else (x : Int) - 1048576

/-- Read one waveform line (11, R342, R343): unmapped lines count as poisoned. -/
def State.waveRead (s : State) (a : Nat) : List (Int × Option Nat) × Bool × State :=
  if s.unmapped (2 * a) then (lineSamples a true 0, true, s)
  else
    let r := s.hbmRead a 2
    (lineSamples a (linePoison r.1) r.1, linePoison r.1, r.2)

/-- The next line of the waveform reaches the prefetch (11, R342). -/
def State.asFetch (s : State) (n : Nat) : State :=
  let x := s.out n
  if !s.asBusy n || s.asMode n ≠ 2 || x.ended || 4084 < x.ahead.length then s
  else
    let e := x.fetch.1
    let rep := x.fetch.2.1
    let pos := x.fetch.2.2
    let len := max 1 (s.asLength n e)
    let r := s.waveRead (fld (s.asEntry n e 0) 0 31 + pos / 12)
    let got := r.1.take (len - pos)
    let pos' := pos + got.length
    let w2 := s.asEntry n e 2
    let last := len ≤ pos'
    let past := last && fld (s.asEntry n e 1) 0 16 ≤ rep + 1
    let cur := if !last then (e, rep, pos') else if past then (fld w2 32 8, 0, 0) else (e, rep + 1, 0)
    r.2.2.onOut n (fun x => { x with fetch := cur, ended := past && bit w2 31, ahead := x.ahead ++ got.drop x.skip, skip := x.skip - got.length })

/-- Whether ARM of an output is refused at check 10, or 0 (11, R335, R341). -/
def State.asArmRefusal (s : State) (n : Nat) : Nat :=
  let i := asIdx n
  if s.asMode n ≤ 1 ∨ s.asHeld = true ∨ s.asBusy n = true then 9
  else if s.reg i 0 ≠ s.act? i 0 ∨ s.reg i 1 ≠ s.act? i 1 then 0xB2
  else 0

/-- ARM of an output (11, R341). -/
def State.asArmed (s : State) (n : Nat) : State :=
  let i := asIdx n
  let e := s.regN i 8
  let s := (s.setRegN i 0x11 1).setRegN i 0x12 0
  let s := s.setReg i 0x13 (s.reg i 0x13 &&& 0x18#40)
  let s := (s.setRegN i 0x14 0).setRegN i 0x15 e
  s.onOut n (fun x => { x with rep := 0, pos := 0, fetch := (e, 0, 0), ended := false, ahead := [], skip := 0, table := [], stop := 0, under := false })

/-- The NCO table's samples, when no line of it is poisoned or unmapped (11, R344). -/
def State.ncoTable (s : State) (n : Nat) : Option (List Int) × State :=
  let base := fld (s.reg (asIdx n) 0x0B) 0 31
  let r := (List.range 342).foldl (fun (r : List Int × Bool × State) k =>
    let g := r.2.2.waveRead (base + k)
    (r.1 ++ g.1.map (fun e => e.1), r.2.1 || g.2.1, g.2.2)) ([], false, s)
  (if r.2.1 then none else some (r.1.take 4096), r.2.2)

/-- The prefetch or the NCO table is loaded (11, table of playback states). -/
def State.asReady (s : State) (n : Nat) : State :=
  if s.asState n ≠ 1 then s
  else if s.asMode n = 3 then
    let r := s.ncoTable n
    match r.1 with
    | some tb => (r.2.onOut n (fun x => { x with table := tb })).setRegN (asIdx n) 0x11 2
    | none => r.2.asEnd n 5
  else
    let s := if (s.out n).ahead.isEmpty then s.asFetch n else s
    match (s.out n).ahead with
    | (_, none) :: _ => s.setRegN (asIdx n) 0x11 2
    | _ => s.asEnd n 5

/-- An occurrence on START_LINE (11, R339 to R341). -/
def State.asStart (s : State) (n : Nat) (stamp : U80) (timed : Bool) : State :=
  let i := asIdx n
  let at_ := s.asStartAt stamp timed
  match s.asState n with
  | 2 =>
    let ph := s.actN i 0x0A
    ((s.setRegN i 0x11 3).setReg80 i 0x16 (s.meridianOf (at_ / 32))).onOut n (fun x => { x with next := at_, clrPlay := false, phase := ph, rephase := false })
  | 4 =>
    if (s.out n).lastEnd ≤ s.localOf stamp * 32 then (s.setRegN i 0x11 3).onOut n (fun x => { x with next := at_ }) else s
  | _ => s

/-- Playback goes on past a sample instant of a waveform (11, R340, R341). -/
def State.asAdvance (s : State) (n : Nat) : State :=
  let i := asIdx n
  let x := s.out n
  let e := s.regN i 0x15
  let w2 := s.asEntry n e 2
  if x.pos + 1 < s.asLength n e then s.onOut n (fun x => { x with pos := x.pos + 1 })
  else if x.stop = 1 then s.asEnd n 2
  else if x.rep + 1 < fld (s.asEntry n e 1) 0 16 then s.onOut n (fun x => { x with pos := 0, rep := x.rep + 1 })
  else if bit w2 31 then (s.setRegN i 0x11 5).setRegN i 0x12 1
  else
    let e' := fld w2 32 8
    let s := (s.setRegN i 0x15 e').onOut n (fun x => { x with pos := 0, rep := 0 })
    s.when (bit (s.asEntry n e' 2) 30) (fun s => (s.setRegN i 0x11 4).onOut n (fun x => { x with lastEnd := x.next }))

/-- The NCO's next sample (11, R344, R345), times 65,536. -/
def State.ncoStep (s : State) (n : Nat) : State :=
  let i := asIdx n
  let x := s.out n
  let p := if x.rephase then s.actN i 0x0A else x.phase
  let k := p >>> 28
  let f : Int := (p >>> 12) % 65536
  let a := x.table.getD k 0
  let b := x.table.getD ((k + 1) % 4096) 0
  let inc := s.actN i 9
  (s.onOut n (fun x => { x with sample := some (a * 65536 + (b - a) * f), phase := (p + inc) % 1099511627776, rephase := false })).asApply n

/-- A sample instant passes (11, R339 to R345). -/
def State.asSample (s : State) (n : Nat) : State :=
  let i := asIdx n
  if s.asState n ≠ 3 then s
  else
    let x := s.out n
    let s := s.tick x.next
    if x.stop = 2 ∨ (x.stop = 1 ∧ s.asMode n = 3) then s.asEnd n 2
    else
      let s := s.onOut n (fun x => { x with next := x.next + s.regN i 6 * 5120 })
      if s.asMode n = 3 then s.ncoStep n
      else
        match x.ahead with
        | [] =>
          let s := (s.asFlag n 1 true).addReg i 0x14 1
          let s := s.when (!x.under) (fun s => s.addReg 0x8020 2 1)
          let s := s.logPut 0x0701 (wd n) 0
          (s.onOut n (fun x => { x with under := true, skip := x.skip + 1 })).asAdvance n
        | (v, bad) :: rest =>
          let s := s.onOut n (fun x => { x with ahead := rest, under := false })
          match bad with
          | some line => (((s.asFlag n 0 true).logPut 0x0702 (wd n) (wd line))).asAdvance n
          | none => ((s.onOut n (fun x => { x with sample := some (v * 65536) })).asApply n).asAdvance n

/-- STOP of an output (11, R341): 1 after the repeat, 2 at the next sample. -/
def State.asStop (s : State) (n v : Nat) : State :=
  if s.asState n = 3 then s.onOut n (fun x => { x with stop := v }) else s.asEnd n 2

/-- The cluster whose spare bus an output's LOOPBACK reaches (11). -/
def loopCluster (n : Nat) : Nat := if n < 16 then n else n + 8

/-- LOOPBACK of every output to a cluster opens, as an internal write (11, R346). -/
def State.openLoop (s : State) (c : Nat) : State :=
  if s.looped c then s.internalWrite (asIdx (if c < 16 then c else c - 8)) 0x10 0 else s

/-! ## The rows -/

/-- AS_LOAD_STROBE (11, R333). -/
def execAsLoadStrobe (n : Fin 32) (t : Nat) (s : State) : Host.Outcome State Fault Refusal :=
  s.perform fun s => (s.tick t).asStrobe n

/-- AS_RANGE_SWITCH (11, R334 step 2). -/
def execAsRangeSwitch (n : Fin 32) (t : Nat) (s : State) : Host.Outcome State Fault Refusal :=
  s.perform fun s => (s.tick t).asRangeSwitch n

/-- AS_RANGE_DONE (11, R334 step 4). -/
def execAsRangeDone (n : Fin 32) (t : Nat) (s : State) : Host.Outcome State Fault Refusal :=
  s.perform fun s => (s.tick t).asRangeDone n

/-- AS_ARMED (11, table of playback states). -/
def execAsArmed (n : Fin 32) (upset : List (Nat × LineData)) (t : Nat) (s : State) : Host.Outcome State Fault Refusal :=
  s.perform fun s => ((s.tick t).upset upset).asReady n

/-- AS_START_LINE (11, R339, R340). -/
def execAsStartLine (n : Fin 32) (stamp : U80) (timed : Bool) (t : Nat) (s : State) : Host.Outcome State Fault Refusal :=
  s.perform fun s => (s.tick t).asStart n stamp timed

/-- AS_SAMPLE (11, R339, R344). -/
def execAsSample (n : Fin 32) (t : Nat) (s : State) : Host.Outcome State Fault Refusal :=
  s.perform fun s => (s.tick t).asSample n

/-- AS_PREFETCH (11, R342). -/
def execAsPrefetch (n : Fin 32) (upset : List (Nat × LineData)) (t : Nat) (s : State) : Host.Outcome State Fault Refusal :=
  s.perform fun s => ((s.tick t).upset upset).asFetch n

end Sys2Proof.Machine
end

