-- ==== Sys2Proof/Machine/Events.lean ====
section
/-! DEFINITION. Machine/Events.lean: an occurrence on an event line reaches the sinks of the line (03, R97 to R104). -/

namespace Sys2Proof.Machine

/-- The sequencer of cluster `c` takes note of an occurrence: the segment's first one on a line may release a LATCHED WAIT, and one
stamped at a WAIT's own start releases it (06, R188). -/
def State.noteLine (s : State) (c line : Nat) (stamp : U80) (timed : Bool) : State :=
  let q := s.sq c
  let at_ := s.localOf stamp * 32
  if s.seqState c = 3 ∧ q.segFrom ≤ at_ then
    let seen := SMap.set (fun _ => 0) q.seen (512 + line) (2 * at_ + b2n timed)
    let seen := if q.seen.any (fun e => e.1 = line) then seen else SMap.set (fun _ => 0) seen line (s.releaseAt stamp timed)
    s.onSq c (fun q => { q with seen := seen })
  else s

/-- An EVT output of the line starts or extends its pulse (03, R103). -/
def State.evtPulse (s : State) (k : Nat) : State :=
  if s.regN (0x0980 + k) 0 = 1 then
    { s with sync := { s.sync with evtOut := SMap.set (fun _ => none) s.sync.evtOut k (some (s.clock + s.regN (0x0980 + k) 2 * 32)) } }
  else s

/-- Every sink of a line gets an occurrence (03, table of sinks). -/
def State.toSinks (s : State) (line : Nat) (stamp : U80) (timed : Bool) : State :=
  let t := s.clock
  let s := (s.seqsIn 3).foldl (fun s c => s.noteLine c line stamp timed) s
  let s := (s.sinksAt 0x3000 0x40 48 5 line).foldl (fun s c => s.due (.startLineOccurrence (Fin.ofNat 48 c) stamp timed t)) s
  let s := (s.sinksAt 0x3002 0x40 48 1 line).foldl (fun s c => s.due (.jumpLineOccurrence (Fin.ofNat 48 c) stamp timed t)) s
  let s := ((s.seqsIn 3).filter (fun c => (s.sq c).wait.any (fun w => w.line = line && w.release.isNone))).foldl
    (fun s c => s.due (.waitRelease (Fin.ofNat 48 c) (Fin.ofNat 512 line) stamp timed t)) s
  let s := s.repeat 2 (fun n s => (s.sinksAt (0x5000 + n) 0x40 48 4 line).foldl
    (fun s c => s.due (.adcLineTrigger (Fin.ofNat 48 c) (Fin.ofNat 2 n) stamp timed t)) s)
  let s := (s.sinksAt 0x5003 0x40 48 4 line).foldl (fun s c => s.capLine c stamp timed) s
  let s := s.repeat 4 (fun n s => (s.sinksAt (0x5004 + n) 0x40 48 6 line).foldl (fun s c => s.ruLine c n stamp timed) s)
  let s := (s.sinksAt 0x201F 0x40 48 0xF0 line).foldl (fun s c => s.due (.loadStrobe (Fin.ofNat 48 c) t)) s
  let s := (s.sinksAt 0x8000 1 32 0x0C line).foldl (fun s n => s.due (.asLoadStrobe (Fin.ofNat 32 n) t)) s
  let s := (s.sinksAt 0x8000 1 32 0x0D line).foldl (fun s n => s.due (.asStartLine (Fin.ofNat 32 n) stamp timed t)) s
  let s := s.when ((s.listedWords 0x6004 0).any (fun e => e.1 % 8 = 0 && fld e.2 34 2 = 2 && fld e.2 25 9 = line)) (fun s =>
    s.due (.lineCloseOccurrence (Fin.ofNat 512 line) stamp t))
  let s := ((List.range 64).filter (fun v => s.regN 0x1010 0 v = line)).foldl (fun s v => s.due (.msixSend (Fin.ofNat 64 v) t)) s
  let s := (s.sinksAt 0x0980 1 8 1 line).foldl (fun s k => s.evtPulse k) s
  (s.linesOf (0xA000 + line)).foldl (fun s n => s.due (.eventOccurrence (Fin.ofNat 512 n) stamp timed)) s

/-- An occurrence on a line: merged when its stamp lies less than 5 ns from that of the last one delivered, which then has the
earlier stamp, else delivered (03, R98, R99, R104). That the stamp compared with is the delivered one's: DESIGN CHOICE, log entry 47. -/
def State.occurs (s : State) (line : Nat) (stamp : U80) (timed : Bool) : State :=
  let i := 0x0A00 + line
  let last := s.reg80 i 8
  let apart := (stamp - last).toNat
  let near := apart < 640 || (last - stamp).toNat < 640
  if (s.regN i 6 ≠ 0 ∨ last ≠ 0) ∧ near = true then (s.addReg i 7 1).when (640 ≤ apart) (fun s => s.setReg80 i 8 stamp)
  else
    let s := (s.addReg i 6 1).setReg80 i 8 stamp
    let s := s.toSinks line stamp timed
    s.when (s.regB i 4) (fun s => s.originate 4 (at_ 32 1) [at_ 31 line, loWord stamp, hiWord stamp])

/-- EVENT_OCCURRENCE (03, R98); `timed`: its head of chain is a timed-event slot. -/
def execEventOccurrence (line : Fin 512) (stamp : U80) (timed : Bool) (s : State) : Host.Outcome State Fault Refusal :=
  s.perform fun s => s.occurs line stamp timed

end Sys2Proof.Machine
end

