-- ==== Sys2Proof/Machine/Locks.lean ====
section
/-! DEFINITION. Machine/Locks.lean: the sequence locks (02, R56 to R70): slots, staging, leases, waiting requests, breaks. -/

namespace Sys2Proof.Machine

/-- The slots not FREE, rising. -/
def State.lockSlots (s : State) : List Nat :=
  s.regs.filterMap (fun e =>
    let i := e.1 / 134217728 / 256
    if 0x0210 ≤ i ∧ i < 0x0250 ∧ e.1 / 134217728 % 256 = 0 ∧ e.1 % 134217728 = 0 ∧ e.2 ≠ 0 then some (i - 0x0210) else none)
/-- OWNER of a slot. -/
def State.lockOwner (s : State) (n : Nat) : Word := s.reg (0x0210 + n) 0x03
/-- FIRST of a slot. -/
def State.lockFirst (s : State) (n : Nat) : Nat := s.regN (0x0210 + n) 0x01
/-- LAST of a slot. -/
def State.lockLast (s : State) (n : Nat) : Nat := s.regN (0x0210 + n) 0x02
/-- Whether a slot is held, and by `src`. -/
def State.holds (s : State) (src : Word) (n : Nat) : Bool := s.lockSlots.contains n && s.lockOwner n == src
/-- The held slot that covers an index. -/
def State.lockOf (s : State) (i : Nat) : Option Nat :=
  s.lockSlots.find? (fun n => s.lockFirst n ≤ i && i ≤ s.lockLast n)
/-- What a slot has staged. -/
def State.stagedIn (s : State) (n : Nat) : List Staged := SMap.get (fun _ => []) s.locks.staged n
/-- Put what a slot has staged; STAGED and STAGED_IN_USE follow. -/
def State.setStaged (s : State) (n : Nat) (l : List Staged) : State :=
  let s := { s with locks := { s.locks with staged := SMap.set (fun _ => []) s.locks.staged n l } }
  let s := s.setRegN (0x0210 + n) 0x07 l.length
  s.setRegN 0x0200 0x07 (s.locks.staged.foldl (fun a e => a + e.2.length) 0)
/-- The lease of a slot starts again (R65). -/
def State.leaseRestart (s : State) (n : Nat) : State :=
  { s with locks := { s.locks with leaseFrom := SMap.set (fun _ => 0) s.locks.leaseFrom n s.clock } }
/-- The instant at which the lease of a slot expires, in et. -/
def State.leaseEnd (s : State) (n : Nat) : Nat :=
  SMap.get (fun _ => 0) s.locks.leaseFrom n + msEt (s.regN (0x0210 + n) 0x05)
/-- REMAINING of a slot: whole ms left of its lease, 0 when FREE (R70). Rounded down: DESIGN CHOICE, log entry 42. -/
def State.leaseLeft (s : State) (n : Nat) : Nat :=
  if s.lockSlots.contains n then (s.leaseEnd n - s.clock) / msEt 1 else 0

/-- Whether two index ranges meet. -/
def rangesMeet (a b c d : Nat) : Bool := a ≤ d && c ≤ b
/-- A free slot, the lowest: DESIGN CHOICE, log entry 20. -/
def State.lockFree (s : State) : Option Nat := (List.range 64).find? (fun n => !(s.lockSlots.contains n))
/-- Whether a range meets a held lock. -/
def State.lockMeets (s : State) (first last : Nat) : Bool :=
  s.lockSlots.any (fun n => rangesMeet first last (s.lockFirst n) (s.lockLast n))

/-- A lock is granted (R69): the slot's objects, the lease, the result; a report the source has still to get for the slot is
cancelled (R67). -/
def State.lockGrant (s : State) (w : Waiter) (n : Nat) : State :=
  let i := 0x0210 + n
  let s := ((s.setRegN i 0x00 1).setRegN i 0x01 w.first).setRegN i 0x02 w.last
  let s := ((s.setReg i 0x03 w.src).setRegN i 0x04 w.label).setRegN i 0x05 w.lease
  let s := (s.setReg80 i 0x08 s.now).leaseRestart n
  let s := { s with locks := { s.locks with reports := s.locks.reports.filter (fun r => r ≠ (n, w.src)) } }
  let s := s.setRegN 0x0200 0x06 s.lockSlots.length
  s.endCmd w.src 0x0200 0 n 0

/-- The earliest waiter that can be granted: its range meets no held lock and no earlier waiter, and a slot is free (R69). -/
def State.lockNext (s : State) : Option Waiter :=
  match s.lockFree with
  | none => none
  | some _ => (s.locks.waiters.zip (List.range s.locks.waiters.length)).findSome? (fun e =>
      if s.lockMeets e.1.first e.1.last || (s.locks.waiters.take e.2).any (fun v => rangesMeet e.1.first e.1.last v.first v.last)
      then none else some e.1)

/-- Waiters that nothing holds back are granted, the earliest first, `n` at most (R69). -/
def State.lockServe (s : State) : Nat → State
  | 0 => s
  | n + 1 =>
    match s.lockNext, s.lockFree with
    | some w, some k =>
      ({ s with locks := { s.locks with waiters := s.locks.waiters.filter (fun v => v.src ≠ w.src) } }.lockGrant w k).lockServe n
    | _, _ => s

/-- A waiter that can now be granted comes due. -/
def State.lockPump (s : State) : State :=
  match s.lockNext with
  | some w => s.due (.acquireGrant w.src s.clock)
  | none => s

/-- A slot becomes FREE: its staged writes are discarded; waiters may follow (R67, R69, R70). Its objects other than OWNER read as at
reset too: DESIGN CHOICE, log entry 41. -/
def State.lockRelease (s : State) (n : Nat) : State :=
  let s := s.setStaged n []
  let s := (List.range 8).foldl (fun s k => s.clearReg (0x0210 + n) k) s
  let s := s.setReg80 (0x0210 + n) 0x08 0
  let s := { s with locks := { s.locks with leaseFrom := SMap.set (fun _ => 0) s.locks.leaseFrom n 0 } }
  (s.setRegN 0x0200 0x06 s.lockSlots.length).lockPump

/-- The entries of a broken lock in the journal and the log (R67; 18, tables of journal events and log codes). -/
def State.lockBrokenEntries (s : State) (time : U80) (n : Nat) (owner : Word) (first last gone : Nat) : State :=
  let s := s.journalAt 5 first 0 3 time owner false (wd (last * 2 ^ 24 + n * 2 ^ 18 + gone))
  s.logAt 0x0201 (owner ||| at_ 24 n) (wd (first * 2 ^ 24 + last * 2 ^ 8 + min 255 gone)) false time

/-- A lock is broken (R66, R67): the slot is freed, the former owner has a report to come, and when `entered` the entries are made
at once. -/
def State.lockBreak (s : State) (entered : Bool) (n : Nat) : State :=
  let owner := s.lockOwner n
  let first := s.lockFirst n
  let last := s.lockLast n
  let gone := (s.stagedIn n).length
  let s := (s.lockRelease n).addReg 0x0200 0x08 1
  let s := { s with locks := { s.locks with reports := s.locks.reports.filter (fun r => r ≠ (n, owner)) ++ [(n, owner)] } }
  s.when entered (fun s => s.lockBrokenEntries s.now n owner first last gone)

/-- A waiting request ends without a grant, with a code (R69). -/
def State.waiterEnd (s : State) (src : Word) (code : Nat) : State :=
  let s := { s with locks := { s.locks with waiters := s.locks.waiters.filter (fun w => w.src ≠ src) } }
  (s.endCmd src 0x0200 0 0 code).lockPump

/-- The path of some sources is reset, or their route is lost: their locks break, their waiting requests end with 0x0023 (R66, R69). -/
def State.lockPathReset (s : State) (entered : Bool) (sel : Word → Bool) : State :=
  let s := ((s.locks.waiters.map Waiter.src).filter sel).foldl (fun s w => s.waiterEnd w 0x23) s
  (s.lockSlots.filter (fun n => sel (s.lockOwner n))).foldl (fun s n => s.lockBreak entered n) s

/-- A transaction of `src` names slot `n`: 0 when `src` holds it, 0x0023 once after a break, else 0x0026 (R67). -/
def State.slotCode (s : State) (src : Word) (n : Nat) : Nat :=
  if s.holds src n then 0 else if (n, src) ∈ s.locks.reports then 0x23 else 0x26
/-- The report of a break is given. -/
def State.slotReported (s : State) (src : Word) (n : Nat) : State :=
  if s.holds src n then s
  else { s with locks := { s.locks with reports := s.locks.reports.filter (fun r => r ≠ (n, src)) } }

/-- The fields of an ACQUIRE, as a request of `src` (R70). -/
def State.acquireOf (s : State) (src : Word) (vals : List Word) : Waiter :=
  let w0 := vals.getD 0 0
  let w1 := (vals.getD 1 0).toNat
  let w2 := vals.getD 2 0
  ⟨src, fld w0 0 16, fld w0 16 16, if w1 = 0 then s.regN 0x0200 0x05 else w1, fld w2 0 16, s.clock + msEt (fld w2 24 16)⟩

/-- Whether the words of an ACQUIRE lie in their ranges (R70; check 9). -/
def acquireRange (vals : List Word) : Bool :=
  fld (vals.getD 0 0) 32 8 == 0 && fld (vals.getD 2 0) 16 8 == 0 && fld (vals.getD 2 0) 24 16 ≤ 10000 &&
    ((vals.getD 1 0).toNat == 0 || (10 ≤ (vals.getD 1 0).toNat && (vals.getD 1 0).toNat ≤ 60000))

/-- Why an ACQUIRE is refused at check 10, or 0: its range, and the order of the locks its source holds (R56, R68). -/
def State.acquireRefusal (s : State) (src : Word) (vals : List Word) : Nat :=
  let w := s.acquireOf src vals
  if w.last < w.first || rangesMeet w.first w.last 0x0200 0x02FF then 0x24
  else if s.lockSlots.any (fun n => s.lockOwner n == src && w.first ≤ s.lockLast n) then 0x0C
  else 0

/-- How a request for a lock that cannot be granted ends: its range is locked or asked for before it, or no slot is free (R69). 0x0006
for one held back by an earlier waiter alone: DESIGN CHOICE, log entry 39. -/
def State.waiterCode (s : State) (w : Waiter) : Nat :=
  if s.lockMeets w.first w.last ||
      (s.locks.waiters.takeWhile (fun v => v.src ≠ w.src)).any (fun v => rangesMeet w.first w.last v.first v.last)
  then 0x06 else 0x21

/-- ACQUIRE (R69): granted at once, waiting, or, with a wait limit of 0, ended. Earlier waiters whose grant is due come first. -/
def State.lockAcquire (s : State) (src : Word) (vals : List Word) : State :=
  let s := s.lockServe s.locks.waiters.length
  let w := s.acquireOf src vals
  let blocked := s.lockMeets w.first w.last || s.locks.waiters.any (fun v => rangesMeet w.first w.last v.first v.last)
  match s.lockFree with
  | some n =>
    if !blocked then s.lockGrant w n
    else if w.deadline ≤ s.clock then s.endCmd src 0x0200 0 0 (s.waiterCode w)
    else { s.setCmd src 0x0200 0 cmdRunning with locks := { s.locks with waiters := s.locks.waiters ++ [w] } }
  | none =>
    if w.deadline ≤ s.clock then s.endCmd src 0x0200 0 0 (s.waiterCode w)
    else { s.setCmd src 0x0200 0 cmdRunning with locks := { s.locks with waiters := s.locks.waiters ++ [w] } }

/-- Words put over staged words, word by word (R60). -/
def mergeWords (old : List (Nat × Word)) (off : Nat) (vals : List Word) : List (Nat × Word) :=
  ((List.range vals.length).zip vals).foldl (fun l e => SMap.place (SMap.erase l (off + e.1)) (off + e.1) (some e.2)) old

/-- Epochs put over the epochs of staged words: each word keeps that of the transaction that staged it last (R60, R74). -/
def mergeEpochs (old : List (Nat × BitVec 8)) (off n : Nat) (epoch : Option (BitVec 8)) : List (Nat × BitVec 8) :=
  old.filter (fun e => e.1 < off || off + n ≤ e.1) ++ (match epoch with
    | some x => (List.range n).map (fun k => (off + k, x))
    | none => [])

/-- Why a write cannot be staged: the limits of R60, or 0. -/
def State.stageRefusal (s : State) (n idx sub : Nat) : Nat :=
  let l := s.stagedIn n
  if l.any (fun g => g.idx == idx && g.sub == sub) then 0
  else if 4096 ≤ l.length || 16384 ≤ s.regN 0x0200 0x07 then 0x22 else 0

/-- Stage a write under slot `n` (R57, R60, R65, R74). -/
def State.stage (s : State) (n idx sub off : Nat) (vals : List Word) (epoch : Option (BitVec 8)) : State :=
  let l := s.stagedIn n
  let l := if l.any (fun g => g.idx == idx && g.sub == sub)
    then l.map (fun g => if g.idx == idx && g.sub == sub then 
      { g with words := mergeWords g.words off vals, epochs := mergeEpochs g.epochs off vals.length epoch } else g)
    else l ++ [⟨idx, sub, mergeWords [] off vals, mergeEpochs [] off vals.length epoch⟩]
  (s.setStaged n l).leaseRestart n

/-- What a read by `src` finds in word `w` of an object: the staged word when it holds the lock that covers it (R57). -/
def State.stagedWord (s : State) (src : Word) (i sub w : Nat) : Option Word :=
  match s.lockOf i with
  | none => none
  | some n =>
    if s.lockOwner n ≠ src then none
    else match (s.stagedIn n).find? (fun g => g.idx == i && g.sub == sub) with
      | none => none
      | some g => (g.words.find? (fun e => e.1 == w)).map (fun e => e.2)

/-! ## Rows that no OD transaction starts -/

/-- ACQUIRE_GRANT (R69): a waiting request of `src` is granted when nothing holds it back. -/
def execAcquireGrant (src : Word) (t : Nat) (s : State) : Host.Outcome State Fault Refusal :=
  s.perform fun s =>
    let s := s.tick t
    match s.lockNext, s.lockFree with
    | some w, some n =>
      if w.src = src then
        let s := { s with locks := { s.locks with waiters := s.locks.waiters.filter (fun v => v.src ≠ src) } }
        (s.lockGrant w n).lockPump
      else s
    | _, _ => s

/-- ACQUIRE_WAIT_EXPIRY (R69): the wait limit of a waiting request has passed. -/
def execAcquireWaitExpiry (src : Word) (t : Nat) (s : State) : Host.Outcome State Fault Refusal :=
  s.perform fun s =>
    let s := s.tick t
    match s.locks.waiters.find? (fun w => w.src = src) with
    | some w => if w.deadline ≤ s.clock then s.waiterEnd src (s.waiterCode w) else s
    | none => s

/-- LEASE_EXPIRY (R65, R66): the lease of a held lock has run out. -/
def execLeaseExpiry (slot : Fin 64) (t : Nat) (s : State) : Host.Outcome State Fault Refusal :=
  s.perform fun s =>
    let s := s.tick t
    if s.lockSlots.contains slot.val ∧ s.leaseEnd slot ≤ s.clock then s.lockBreak true slot else s

/-- ROUTE_LOSS_TIMEOUT (R66; 12, R371): the owner `dev` has been unroutable for 1 ms. -/
def execRouteLossTimeout (dev : BitVec 24) (t : Nat) (s : State) : Host.Outcome State Fault Refusal :=
  s.perform fun s =>
    let s := s.tick t
    if (s.route none dev.toNat).isNone then
      s.lockPathReset true (fun o => srcPath o == 4 && srcDevice o == dev.toNat)
    else s

end Sys2Proof.Machine
end

