-- ==== Sys2Proof/Machine/Host.lean ====
section
/-! DEFINITION. Machine/Host.lean: the host interface's state: mailboxes, rings, vectors, the G1 window, and the answers of OD
transactions on their way back to the path that asked (13). -/

namespace Sys2Proof.Machine

/-- A device whose paths carry transactions: every state but OFF and POWERUP (02, R76). -/
def State.carries (s : State) : Bool := 2 ≤ s.devState

/-- Change the host interface. -/
def State.onHost (s : State) (f : HostSt → HostSt) : State := { s with host := f s.host }
/-- A host access at the instant `t`: nothing read, nothing written to host memory yet. -/
def State.hostAt (s : State) (t : Nat) : State := (s.tick t).onHost (fun h => { h with read := 0, dma := [] })
/-- The value a host read returns. -/
def State.hostRead (s : State) (v : Nat) : State := s.onHost (fun h => { h with read := v })
/-- An access that the host interface does not take (13, R382). -/
def State.badAccess (s : State) : State := s.addReg 0x1000 0x05 1
/-- Write 64-bit values to host memory. -/
def State.dmaWrite (s : State) (ws : List (Nat × Nat)) : State := s.onHost (fun h => { h with dma := h.dma ++ ws })

/-- Mailbox `m`. -/
def State.mbx (s : State) (m : Nat) : Mbx := SMap.get (fun _ => Mbx.idle) s.host.mailboxes m
/-- Change mailbox `m`. -/
def State.onMbx (s : State) (m : Nat) (f : Mbx → Mbx) : State :=
  s.onHost (fun h => { h with mailboxes := SMap.set (fun _ => Mbx.idle) h.mailboxes m (f (s.mbx m)) })
/-- Ring `r`. -/
def State.ring (s : State) (r : Nat) : RingSt := SMap.get (fun _ => RingSt.idle) s.host.rings r
/-- The number under which ring `r`'s transactions are answered: none is answered across a reset, a failure or a new start. -/
def State.ringGen (s : State) (r : Nat) : Nat := s.host.gen * 2 ^ 40 + (s.ring r).starts
/-- Change ring `r`. -/
def State.onRing (s : State) (r : Nat) (f : RingSt → RingSt) : State :=
  s.onHost (fun h => { h with rings := SMap.set (fun _ => RingSt.idle) h.rings r (f (s.ring r)) })

/-! ## MSI-X (R403) -/

/-- Dword `k` of the MSI-X table: after reset every vector is masked. PRESUMED from the PCI Express base specification, log entry 21. -/
def State.msixDword (s : State) (k : Nat) : Nat := SMap.get (fun k => if k % 4 = 3 then 1 else 0) s.host.msix k
/-- Whether a vector's message can be sent: not masked, MSI-X enabled, Bus Master Enable 1. -/
def State.vectorOpen (s : State) (v : Nat) : Bool :=
  s.host.busMaster && s.host.msixEnable && !s.host.functionMask && s.msixDword (4 * v + 3) % 2 == 0
/-- A cause names a vector: its message is to be sent. -/
def State.raiseVector (s : State) (v : Nat) : State := s.due (.msixSend (Fin.ofNat 64 v) s.clock)
/-- Pending messages of vectors that have become open come due. -/
def State.releaseVectors (s : State) : State :=
  (s.host.pendingBits.filter s.vectorOpen).foldl (fun s v => s.raiseVector v) s
/-- The message of a vector goes, or is held pending; causes that waited with it are merged into it. -/
def State.sendVector (s : State) (v : Nat) : State :=
  let s := { s with agenda := s.agenda.filter (fun i => match i with | .msixSend w _ => w.val ≠ v | _ => true) }
  if s.vectorOpen v then
    let s := (s.addReg 0x1010 0x01 1).onHost (fun h => { h with pendingBits := h.pendingBits.filter (· ≠ v) })
    s.dmaWrite [(s.msixDword (4 * v) + s.msixDword (4 * v + 1) * 2 ^ 32, s.msixDword (4 * v + 2))]
  else s.onHost (fun h => { h with pendingBits := h.pendingBits.filter (· ≠ v) ++ [v] })

/-! ## The rings (R396 to R402) -/

/-- Entries of a ring. -/
def RingSt.entries (x : RingSt) : Nat := 2 ^ x.size
/-- Field `k` of a descriptor. -/
def Desc.f (d : Desc) (k : Nat) : Nat := d.d.getD k 0
/-- Bits of a descriptor's field. -/
def Desc.bits (d : Desc) (k lo n : Nat) : Nat := (d.f k) >>> lo % 2 ^ n
/-- OP of a descriptor: 1 READ, 2 WRITE, 3 DESCRIBE, 4 STREAM, 5 NOP. -/
def Desc.op (d : Desc) : Nat := d.bits 0 56 8
/-- COUNT of a descriptor. -/
def Desc.count (d : Desc) : Nat := d.bits 2 0 32
/-- Buffer length of a descriptor. -/
def Desc.len (d : Desc) : Nat := d.bits 4 0 32
/-- REMOTE of a descriptor. -/
def Desc.remote (d : Desc) : Bool := d.bits 0 40 1 == 1
/-- A descriptor that ends with 0x0068 (R398). STREAM pops POP; another object is no queue: DESIGN CHOICE, log entry 22. -/
def Desc.invalid (d : Desc) : Bool :=
  let c := d.count
  !(1 ≤ d.op && d.op ≤ 5) || d.bits 0 41 4 != 0 || d.bits 1 38 2 != 0 || d.bits 1 0 12 != 0 || d.bits 2 32 32 != 0 ||
    d.f 5 != 0 || d.f 6 != 0 || d.f 7 != 0 ||
    (match d.op with
      | 1 | 2 => c < 1 || 1024 < c
      | 4 => c < 1 || 65536 < c || d.bits 1 40 24 != 0x700100
      | _ => c != 0)

/-- The front descriptor of ring `r` completes: its completion waits to be written (R397, R400). -/
def State.descEnd (s : State) (r abort count epoch : Nat) (blocked : Bool) : State :=
  match (s.ring r).prog with
  | [] => s
  | d :: ds =>
    let c : Cpl := ⟨d.idx, d.bits 0 0 16, abort, blocked, if abort = 8 then epoch else 0, count, d.bits 0 46 1 == 1⟩
    let ds := match ds with | e :: es => { e with since := s.clock } :: es | [] => []
    (s.onRing r (fun x => { x with prog := ds, done := x.done ++ [c] })).due (.g3Completion (Fin.ofNat 64 r) s.clock)

/-- Descriptors at the front of ring `r` whose fetch failed or that are invalid end (R398, R401), `n` of them at most. -/
def State.ringKick (s : State) (r : Nat) : Nat → State
  | 0 => s
  | n + 1 =>
    match (s.ring r).prog with
    | d :: _ =>
      if d.bad then State.ringKick (s.descEnd r 0x69 0 0 false) r n
      else if d.invalid && !d.out then State.ringKick (s.descEnd r 0x68 0 0 false) r n
      else s
    | [] => s

/-- The front descriptor of ring `r` ends, and what follows it comes to the front. -/
def State.ringEnd (s : State) (r abort count epoch : Nat) (blocked : Bool) : State :=
  (s.descEnd r abort count epoch blocked).ringKick r 16

/-- The ready descriptor of a ring at a host address, when the address lies in one. -/
def RingSt.readyAt (x : RingSt) (address : Nat) : Option Nat :=
  let i := (address - x.desc) / 64
  if x.desc ≤ address ∧ i < x.entries ∧ (i + x.entries - x.fetched) % x.entries < (x.head + x.entries - x.fetched) % x.entries then some i
  else none

/-- The ring goes to ERROR on a failed host memory access (R401): the failing descriptor ends, no later one is started. That is the one at
the address when its fetch failed, and those before it complete first; else the one at the front. -/
def State.ringError (s : State) (r address : Nat) : State :=
  let s := s.logPut 0x0808 (wd r) (wd address)
  match (s.ring r).readyAt address with
  | some i =>
    (s.onRing r (fun x => { x with state := 2, abort := 0x69, prog := x.prog ++ [⟨i, [], 0, s.clock, false, false, true⟩] })).ringKick r 17
  | none =>
    let s := s.descEnd r 0x69 0 0 false
    s.onRing r (fun x => { x with state := 2, abort := 0x69, prog := [], starts := x.starts + 1 })

/-- CONTROL of ring `r` is written with ENABLE 1 (R396). -/
def State.ringEnable (s : State) (r : Nat) (control : Nat) : State :=
  let x := s.ring r
  let size := control >>> 16 % 32
  if x.state ≠ 0 ∨ size < 4 ∨ 16 < size then s.badAccess
  else s.onRing r (fun x => { x with size := size, vecOn := control >>> 6 % 2 == 1, vec := control % 64, state := 1, abort := 0, head := 0, tail := 0, phase := true, fetched := 0, prog := [], done := [], stopping := false, half := none, starts := x.starts + 1 })

/-- ENABLE of ring `r` is written 0 (R402): a descriptor already handed to the OD service completes, the others do not. -/
def State.ringDisable (s : State) (r : Nat) : State :=
  s.onRing r (fun x =>
    let left := x.prog.takeWhile (fun d => d.begun)
    if x.state = 1 ∧ (left ≠ [] ∨ x.done ≠ []) then { x with stopping := true, prog := left }
    else { x with state := 0, abort := 0, stopping := false, prog := [], done := [] })

/-- HEAD of ring `r` is written (R397). -/
def State.ringHead (s : State) (r v : Nat) : State :=
  if (s.ring r).entries ≤ v then s.badAccess else s.onRing r (fun x => { x with head := v })

/-- A completion entry of ring `r` is written, then its interrupt follows (R397, R400, R402). -/
def State.ringComplete (s : State) (r : Nat) : State :=
  let x := s.ring r
  match x.done with
  | [] => s
  | c :: cs =>
    let a := x.cpl / 16 * 16 + 16 * c.idx
    let w0 := b2n x.phase * 2 ^ 63 + b2n c.blocked * 2 ^ 62 + c.abort * 2 ^ 32 + c.tag * 2 ^ 16 + c.idx
    let s := s.dmaWrite [(a, w0), (a + 8, c.epoch * 2 ^ 32 + c.count)]
    let wrap := x.entries ≤ c.idx + 1
    let s := s.onRing r (fun x => { x with done := cs, tail := (c.idx + 1) % x.entries, phase := x.phase != wrap })
    let s := s.when (c.irq && x.vecOn) (fun s => s.raiseVector x.vec)
    let y := s.ring r
    s.when (y.stopping && y.prog.isEmpty && y.done.isEmpty) (fun s => s.onRing r (fun x => { x with state := 0, stopping := false }))

/-- Words of a buffer in host memory (R383). -/
def bufferWords (a : Nat) (ws : List Word) : List (Nat × Nat) :=
  ws.zipIdx.map (fun e => (a + 8 * e.2, e.1.toNat))

/-- Whether the queue that a local STREAM pops has an OPEN packet at its head (R399). -/
def State.streamBlocked (s : State) (d : Desc) : Bool :=
  let q := d.bits 1 12 26 / 1024
  !d.remote && (s.queue q).opens.any (fun p => p.st = .live) && (s.qHeadOpen q (s.queue q).cells.head?).isNone

/-- The slots of a pop reach a STREAM's buffer (R399): it ends, goes on, or waits. -/
def State.streamTake (s : State) (r : Nat) (d : Desc) (code epoch : Nat) (data : List Word) : State :=
  let n := data.length / 8
  let got := ((List.range n).filter (fun k => bit (data.getD (8 * k + 7) 0) 39)).length
  let cells := d.cells + got
  let s := s.dmaWrite (bufferWords (d.f 3 + 64 * d.cells) (data.take (8 * got)))
  let since := if got = 0 then d.since else s.clock
  let s := s.onRing r (fun x => { x with prog := match x.prog with | _ :: ds => { d with cells := cells, since := since, out := false } :: ds | [] => [] })
  let blocked := s.streamBlocked d || (got == 0 && bit (data.getD 7 0) 35)
  if code ≠ 0 then s.ringEnd r code cells epoch false
  else if d.count ≤ cells ∨ d.len < 64 * (cells + 1) then s.ringEnd r 0 cells 0 false
  else if got < n ∧ (got = 0 ∨ d.remote = false) then
    if since + usEt (d.bits 4 32 32) ≤ s.clock then s.ringEnd r 0 cells 0 blocked else s
  else s.due (.g3Stream (Fin.ofNat 64 r) Env.calm s.clock)

/-- The answer of the descriptor that is with the OD service (R398, R399). -/
def State.ringAnswer (s : State) (r : Nat) (a : OdReply) : State :=
  match (s.ring r).prog with
  | [] => s
  | d :: _ =>
    if !d.out then s
    else if d.op = 4 then s.streamTake r d a.code a.epoch a.data
    else if a.code ≠ 0 then s.ringEnd r a.code 0 a.epoch false
    else if d.op = 2 then s.ringEnd r 0 d.count 0 false
    else if d.len < 8 * a.data.length then s.ringEnd r 0x6A 0 0 false
    else (s.dmaWrite (bufferWords (d.f 3) a.data)).ringEnd r 0 a.data.length 0 false

/-! ## G1 (R387 to R392) -/

/-- The blocks of G1: address, first index, number of indexes (table of G1 blocks). -/
def g1Blocks : List (Nat × Nat × Nat) :=
  [(0x0010000, 0x0000, 0x10), (0x0020000, 0x0100, 0x10), (0x0030000, 0x0900, 0x10), (0x0040000, 0x2000, 0x400),
    (0x0440000, 0x3000, 0x400), (0x0840000, 0x4000, 0x200), (0x0A40000, 0x5000, 0x400)]

/-- The object and register that a G1 address names, when it names an object (R387, R391). -/
def g1Object (a : Nat) : Option (Nat × Nat × Nat) :=
  match g1Blocks.find? (fun b => b.1 ≤ a && a < b.1 + b.2.2 * 4096) with
  | none => none
  | some b =>
    let i := b.2.1 + (a - b.1) / 4096
    let sub := (a - b.1) / 16 % 256
    if (odFind i sub).isSome then some (i, sub, a / 4 % 4) else none

/-- What register `k` of an object shows of its words (R387). -/
def g1Part (ws : List Word) (k : Nat) : Nat :=
  if k % 2 = 0 then fld (ws.getD (k / 2) 0) 0 32 else fld (ws.getD (k / 2) 0) 32 8

/-- A G1 transaction is refused (R391). -/
def State.g1Refuse (s : State) (addr code : Nat) : State :=
  s.onHost (fun h => { h with aborts := (min 0xFFFF (h.aborts.1 + 1), code), abortAddr := addr })

/-- The answer of a G1 access (R388 to R392). -/
def State.g1Answer (s : State) (tx : Tx) (act addr reg : Nat) (a : OdReply) : State :=
  if a.code ≠ 0 then
    let s := s.g1Refuse addr a.code
    if act = 2 then s.onHost (fun h => { h with domRead := 0 }) else s
  else match act with
    | 0 => (s.onHost (fun h => { h with latch := some (tx.idx, tx.sub, a.data) })).hostRead (g1Part a.data reg)
    | 2 => (s.onHost (fun h => { h with domRead := a.data.getD 0 0 })).hostRead (fld (a.data.getD 0 0) 0 32)
    | 3 => (s.onHost (fun h => { h with resData := a.data })).hostRead (g1Part a.data 0)
    | 4 => (s.onHost (fun h => { h with popData := a.data })).hostRead (g1Part a.data 0)
    | _ => s

/-! ## Answers -/

/-- A transaction has ended: its answer goes to the path that asked. -/
def State.deliver (s : State) (tx : Tx) (a : OdReply) : State :=
  match tx.dst with
  | .here => { s with reply := a }
  | .halo port dev seq relayed =>
    let fs := s.replyFrames (if relayed then 0xFFFFFE else dev) dev seq a.code a.epoch a.data
    let s := match s.requester dev with
      | some r =>
        let st := r.stored ++ [(seq, fs)]
        s.keepRequester { r with stored := st.drop (st.length - 16) }
      | none => s
    s.sendReply port fs
  | .g1 act addr reg => s.g1Answer tx act addr reg a
  | .mbox m gen =>
    if gen = s.host.gen then (s.onMbx m (fun x => { x with answer := some a })).due (.mbDone (Fin.ofNat 8 m) s.clock) else s
  | .ring r gen => if gen = s.ringGen r then s.ringAnswer r a else s
  | .service => ({ s with svc := { s.svc with answer := some a } }).due (.svcOdDone s.clock)

/-- A mailbox transaction has ended (R394): data, count and status are written, and the interrupt is sent. -/
def State.mbxDone (s : State) (m : Nat) : State :=
  match (s.mbx m).answer with
  | none => s
  | some a =>
    let x := s.mbx m
    let data := a.data.zipIdx.foldl (fun d e => SMap.set (fun _ => 0) d e.2 e.1) x.data
    let s := s.onMbx m (fun x => { x with data := data, count := a.data.length, state := 2, abort := a.code, epoch := if a.code = 8 then a.epoch else 0, answer := none })
    s.when (bit x.irq 6) (fun s => s.raiseVector (fld x.irq 0 6))

/-- A function-level reset or the loss of the link (R404; 02, R66): the interface as after reset, the locks of host paths broken. -/
def State.hostReset (s : State) : State :=
  ({ s with host := HostSt.idle (s.host.gen + 1) }).lockPathReset true (fun o => 1 ≤ srcPath o && srcPath o ≤ 3)

end Sys2Proof.Machine
end

