-- ==== Sys2Proof/Machine/Microcode.lean ====
section
/-! DEFINITION. Machine/Microcode.lean: microcode images, patches, routines, machine checks and the withdrawal of a cluster (14). -/

namespace Sys2Proof.Machine

/-! ## Ending a run from outside -/

/-- The end of the cycle in progress; in a boundary gap, of the keep-alive cycle in progress. -/
def State.cycleEnd (s : State) (c : Nat) : Nat :=
  let q := s.sq c
  match q.phase with
  | .gap till =>
    let p := max 1 (s.period c (vecSet (s.keepVec c)))
    min till (q.tb + (s.clock - q.tb + (p - 1)) / p * p)
  | _ => q.due

/-- The run ends as for STOP 2; from ARMING or ARMED the sequencer goes to STOPPED (06, R216; 14, R413 step 2). -/
def State.abortRun (s : State) (c cause : Nat) : State :=
  match s.seqState c with
  | 3 => s.endRun c (s.cycleEnd c) cause 5
  | 1 | 2 => ((s.detach c 2).setRegN (seqIdx 0 c) 0 5).onSq c (fun q => { SeqSt.idle with segFrom := q.segFrom, tb := q.tb, due := q.due })
  | _ => s

/-! ## Images (14, R418, R419) -/

/-- Stores of an image class: 1 sequencer patch, 2 engine patch, 3 routine: the microwords and nanowords it may hold. -/
def storeSize (cls : Nat) : Nat × Nat :=
  match cls with
  | 1 => (1024, 256)
  | 2 => (4096, 512)
  | _ => (65536, 8192)

/-- Check 1 of an image: MAGIC, CLASS, reserved fields, counts, LENGTH (14, table of image checks). -/
def imageFormBad (cls : Nat) (g : Nat → Word) : Bool :=
  let x := imageShape cls g
  let sz := storeSize cls
  let body := 8 + x.table
  fld (g 0) 32 8 ≠ 0xD5 || fld (g 0) 28 4 ≠ cls || fld (g 0) 0 28 ≠ 0 || g 2 = 0 || fld (g 4) 0 32 ≠ 0 || fld (g 6) 0 38 ≠ 0 || g 7 ≠ 0 ||
    sz.1 < x.micro || sz.2 < x.nano || (cls ≠ 3 && 32 < x.table) || x.length ≠ body + x.micro + 4 * x.nano + 13 ||
    (List.range x.table).any (fun k => let w := g (8 + k)
      if cls = 3 then (if k % 2 = 0 then fld w 0 7 ≠ 0 else fld w 0 30 ≠ 0) else fld w 18 4 ≠ 0) ||
    (List.range x.micro).any (fun k => let w := g (body + k)
      fld w 24 16 ≠ 0 || fld w 14 8 ≠ 0) ||
    (List.range x.nano).any (fun k => fld (g (body + x.micro + 4 * k + 3)) 18 13 ≠ 0) ||
    fld (g (x.length - 1)) 32 8 ≠ 0

/-- Whether a microword address lies where an image of a class may branch (14, R420, R423). -/
def microOk (cls a : Nat) : Bool :=
  match cls with
  | 1 => a < 8192 || 0x4000 ≤ a && a < 0x4400
  | 2 => a < 16384 || 0x4000 ≤ a && a < 0x5000
  | _ => 0x10000 ≤ a && a < 0x20000
/-- Whether a nanoword address lies where an image of a class may point (14, R420, R423). -/
def nanoOk (cls a : Nat) : Bool :=
  match cls with
  | 1 => a < 2048 || 0x1000 ≤ a && a < 0x1100
  | 2 => a < 4096 || 0x1000 ≤ a && a < 0x1200
  | _ => 0x2000 ≤ a && a < 0x4000

/-- Check 4 of an image: FROM in ROM and named once, TO in patch memory, every NANO and TARGET allowed. -/
def imageAddrBad (cls : Nat) (g : Nat → Word) : Bool :=
  let x := imageShape cls g
  let body := 8 + x.table
  let froms := (List.range x.table).map (fun k => fld (g (8 + k)) 22 18)
  (cls ≠ 3 && (froms.any (fun a => (if cls = 1 then 8192 else 16384) ≤ a) || froms.eraseDups.length ≠ froms.length ||
    (List.range x.table).any (fun k => let a := fld (g (8 + k)) 0 18
      a < 0x4000 || (if cls = 1 then 0x4400 else 0x5000) ≤ a))) ||
    (List.range x.micro).any (fun k => !nanoOk cls (fld (g (body + k)) 0 14)) ||
    (List.range x.nano).any (fun k => let w := g (body + x.micro + 4 * k + 3)
      (fld w 38 2 = 1 || fld w 38 2 = 2) && !microOk cls (fld w 0 18))

/-- Whether an entry of a routine image is loaded and keeps a count. -/
def countValid (image : List Word) (e : Nat) : Bool := e < routineCount image && bit (routineEntry image e 0) 22

/-- Whether a parameter set's words are invalid under a routine image (14, R424). -/
def routineSetBad (image : List Word) (w0 w3 : Word) : Bool :=
  fld w0 36 4 = 15 && (255 < fld w3 0 16 || (fld w0 34 2 = 1 && !countValid image (fld w3 0 16)))

/-- Whether some parameter set would be invalid under a routine image. -/
def State.setsBad (s : State) (image : List Word) : Bool :=
  (s.listedWords 0x6004 0).any (fun e => e.1 % 8 = 0 && routineSetBad image e.2 (s.reg 0x6004 0 (e.1 + 3)))

/-- The words of an image as a list, from word 0 to LENGTH. -/
def imageWords (g : Nat → Word) : List Word := (List.range (g 5).toNat).map g

/-- The first failing check of an image of a class, or 0 (14, table of image checks). -/
def State.imageCode (s : State) (cls : Nat) (g : Nat → Word) : Nat :=
  let key := fld (g 6) 38 2
  let keys := (List.range 7).map (fun k => s.reg 0x0E00 3 (7 * (key - 1) + k))
  if imageFormBad cls g then 0xB8
  else if (key ≠ 0 && (cls ≠ 3 || keys.all (· = 0))) || !Config.signatureValid key (if key = 0 then [] else keys) (imageWords g) then 0xB9
  else if (s.reg 0 5) >>> 8 ≠ (g 1) >>> 8 then 0xBA
  else if imageAddrBad cls g then 0xBB
  else if cls = 3 && s.setsBad (imageWords g) then 0xBC
  else 0

/-- IMAGE of class `cls`: objects 0x0E01 to 0x0E03. -/
def State.imageObj (s : State) (cls k : Nat) : Word := s.reg (0x0E00 + cls) 0 k

/-! ## Patches (14, R420) -/

/-- UNITS word of a unit: its fields VERSION, MCHECKS, WITHDRAWN and SWITCH_PENDING. -/
def State.setUnit (s : State) (u lo n v : Nat) : State := s.setRegW 0x0E10 0 u (setFld (s.reg 0x0E10 0 u) lo n v)

/-- The class of a unit: 1 for a sequencer, 2 for an engine. -/
def unitClass (u : Nat) : Nat := if u < 48 then 1 else 2

/-- Whether a unit takes patches: a sequencer that is not GATED, an engine that is not FAILED. -/
def State.unitLive (s : State) (u : Nat) : Bool :=
  if u < 48 then s.seqState u ≠ 7 else s.regN (0x6010 + (u - 48)) 0 ≠ 3

/-- The active patch's VERSION of a class. -/
def State.patchVersion (s : State) (cls : Nat) : Word := s.reg 0x0E00 (cls - 1)

/-- A unit leaves the patch being applied, switched or gone; after the last the command ends with the number switched. -/
def State.patchLeave (s : State) (u : Nat) (switched : Bool) : State :=
  let cls := unitClass u
  let s := s.setUnit u 0 1 0
  match SMap.get (fun _ => none) s.micro.runs cls with
  | none => s
  | some r =>
    if u ∈ r.left then
      let r := { r with left := r.left.erase u, done := r.done + b2n switched }
      let put (x : Option PatchRun) : State := { s with micro := { s.micro with runs := SMap.set (fun _ => none) s.micro.runs cls x } }
      if r.left.isEmpty then (put none).endCmd r.src (0x0E00 + cls) 1 r.done 0 else put (some r)
    else s

/-- A unit takes the active patch into its active bank and match registers, in one step: at its switch, at its wake or restart (14, R413,
R417, R420). -/
def State.unitReload (s : State) (u : Nat) : State :=
  let image := SMap.get (fun _ => []) s.micro.patches (unitClass u)
  let s := { s with micro := { s.micro with banks := SMap.set (fun _ => []) s.micro.banks u image } }
  (s.setUnit u 24 16 ((s.patchVersion (unitClass u)).toNat % 65536)).patchLeave u true

/-- A patch (or none) becomes the active one of its class; its units switch one by one when `src` asked for it, at once when
defaults are loaded (14, R420, R421). -/
def State.applyPatch (s : State) (cls : Nat) (src : Option Word) (image : List Word) : State :=
  let us := ((List.range 66).filter (fun u => unitClass u = cls)).filter s.unitLive
  let s := s.setReg 0x0E00 (cls - 1) (image.getD 2 0)
  let s := { s with micro := { s.micro with patches := SMap.set (fun _ => []) s.micro.patches cls image } }
  match src with
  | none => us.foldl (fun s u => s.unitReload u) s
  | some w =>
    if us.isEmpty then s.endCmd w (0x0E00 + cls) 1 0 0
    else
      let s := us.foldl (fun s u => s.setUnit u 0 1 1) s
      { s with micro := { s.micro with runs := SMap.set (fun _ => none) s.micro.runs cls (some ⟨w, image.getD 2 0, us, 0⟩) } }

/-! ## Routines (14, R422) -/

/-- The engines in the order in which a routine image is loaded: the SPARE ones, then those that serve a role, in role order. -/
def State.loadOrder (s : State) : List Nat :=
  (((List.range 18).filter (fun e => s.regN (0x6010 + e) 0 = 1)) ++
    ((List.range 16).map s.engineOf).filter (fun e => s.regN (0x6010 + e) 0 ≠ 3)).eraseDups

/-- A routine image is accepted: its engines load it one by one, or all at once when defaults are loaded (14, R421, R422). -/
def State.loadRoutines (s : State) (src : Option Word) (image : List Word) : State :=
  let s := s.setReg 0x0E00 2 (image.getD 2 0)
  let es := s.loadOrder
  let s := { s with micro := { s.micro with image := image } }
  match src with
  | none => { s with micro := { s.micro with routines := es.foldl (fun m e => SMap.set (fun _ => []) m e image) s.micro.routines } }
  | some w =>
    if es.isEmpty then s.endCmd w 0x0E03 1 0 0
    else { s with micro := { s.micro with load := some ⟨some w, image, es, 0⟩ } }

/-- The next engine loads the routine image (14, R422). -/
def State.routineNext (s : State) : State :=
  match s.micro.load with
  | none => s
  | some r =>
    match r.left with
    | [] => s
    | e :: es =>
      let s := s.when (s.regN (0x6010 + e) 0 ≠ 3) (fun s =>
        { s with micro := { s.micro with routines := SMap.set (fun _ => []) s.micro.routines e r.image } })
      if es.isEmpty then
        let s := { s with micro := { s.micro with load := none } }
        match r.src with
        | some w => s.endCmd w 0x0E03 1 0 0
        | none => s
      else { s with micro := { s.micro with load := some { r with left := es, done := r.done + 1 } } }

/-! ## Machine checks (14, R413 to R415) -/

/-- Word 0 of LAST_MCHECK. -/
def mcheckWord (unit store addr : Nat) : Word := wd (unit * 2 ^ 32 + store * 2 ^ 30 + addr)

/-- A machine check or an engine store fault is noted (14, table UCODE_DEVICE). -/
def State.noteMcheck (s : State) (unit : Nat) (detail : Word) (t0 : U80) : State :=
  let w := mcheckWord unit (fld detail 30 2) (fld detail 0 18)
  let s := ((s.setRegW 0x0E00 6 0 w).setRegW 0x0E00 6 1 (loWord t0)).setRegW 0x0E00 6 2 (hiWord t0)
  let s := s.addReg 0x0E00 5 1
  s.setUnit unit 16 8 (min 255 (fld (s.reg 0x0E10 0 unit) 16 8 + 1))

/-- Set or clear a cluster's bit in GATED. -/
def State.setGated (s : State) (c : Nat) (b : Bool) : State :=
  s.setRegW 0x0D00 9 (c / 40) (setBit (s.reg 0x0D00 9 (c / 40)) (c % 40) b)
/-- Whether a cluster is withdrawn (WITHDRAWN of UNITS). -/
def State.withdrawn (s : State) (c : Nat) : Bool := bit (s.reg 0x0E10 0 c) 1

/-- A cluster goes to GATED (15, R437 steps 1 and 3; 08, R261, R267): its measurement units are IDLE, its burst queue is in the pool. That a
packet open then becomes a QUEUE_GAP, as at a cluster reset: DESIGN CHOICE, log entry 51. -/
def State.gateCluster (s : State) (c : Nat) : State :=
  let s := (s.measureReset c).settleQueues (fun b => b = c)
  let s := (s.setRegN (seqIdx 0 c) 0 7).setGated c true
  let s := s.onSq c (fun _ => SeqSt.idle)
  let s := s.repeat 25 (fun n s => s.onSlice c n (fun x => { x with drive := 0, data := false }))
  s.patchLeave c false

/-- A cluster is withdrawn (14, R414; 17, R499). -/
def State.withdraw (s : State) (c code : Nat) : State :=
  let s := s.abortRun c 3
  let s := { s with micro := { s.micro with restarts := SMap.set (fun _ => none) s.micro.restarts c none } }
  let s := (s.gateCluster c).setUnit c 1 1 1
  let s := (s.setRegN (peIdx 0x1F c) 0xF9 0xFFFFFF).epochUp c
  s.logPut 0x0902 (wd c) (wd code)

/-- A parity failure of a sequencer's stores (14, R413 steps 1 and 2, R414). -/
def State.seqMcheck (s : State) (c : Nat) (detail : Word) (code : Nat) (t0 : U80) (at0 : Nat) : State :=
  let store := fld detail 30 2
  let addr := fld detail 0 18
  let s := s.noteMcheck c detail t0
  let again := match SMap.get (fun _ => none) s.micro.last c with
    | some p => p.1 = store && p.2.1 = addr && at0 ≤ p.2.2 + msEt 1000
    | none => false
  if again then s.withdraw c code
  else if s.seqState c = 7 then s
  else
    let s := s.abortRun c 3
    { s with micro := { s.micro with restarts := SMap.set (fun _ => none) s.micro.restarts c (some ⟨at0, store, addr⟩) } }

/-- Whether a cluster microcode restart is under way (14, R413; 06, R214). -/
def State.restarting (s : State) (c : Nat) : Bool := (SMap.get (fun _ => none) s.micro.restarts c).isSome

/-- The stores are reloaded and verified; ARM is accepted again (14, R413 steps 3 and 4). -/
def State.mcheckDone (s : State) (c : Nat) : State :=
  match SMap.get (fun _ => none) s.micro.restarts c with
  | none => s
  | some r =>
    let us := (s.clock - r.at0) / 4096000
    let s := { s with micro := { s.micro with restarts := SMap.set (fun _ => none) s.micro.restarts c none, last := SMap.set (fun _ => none) s.micro.last c (some (r.store, r.addr, s.clock)) } }
    (s.unitReload c).logPut 0x0901 (mcheckWord c r.store r.addr) (wd us)

/-! ## The rows -/

/-- PATCH_SWITCH (14, R420): an engine switches bank and match registers at its safe point. -/
def execPatchSwitch (u : Fin 66) (t : Nat) (s : State) : Host.Outcome State Fault Refusal :=
  s.perform fun s =>
    let s := s.tick t
    match SMap.get (fun _ => none) s.micro.runs (unitClass u) with
    | some r => if u.val ∈ r.left then s.unitReload u else s
    | none => s

/-- ROUTINE_ENGINE_LOAD (14, R422): the next engine in load order. -/
def execRoutineEngineLoad (t : Nat) (s : State) : Host.Outcome State Fault Refusal :=
  s.perform fun s => (s.tick t).routineNext

end Sys2Proof.Machine
end

