-- ==== Sys2Proof/Machine/Memory.lean ====
section
/-! DEFINITION. Machine/Memory.lean: HBM refresh and row repair, power gating, the background test, arbiters (15). -/

namespace Sys2Proof.Machine

/-! ## HBM -/

/-- Refresh multiplier that a band selects (15, table of line rates). -/
def refreshOf (band : Nat) : Nat := if band = 3 then 4 else if band = 2 then 2 else 1

/-- The device is in an idle window (15, R433). -/
def State.idleWindow (s : State) : Bool :=
  s.seqsIn 1 = [] && s.seqsIn 2 = [] && s.seqsIn 3 = [] && (List.range 32).all (fun n => !s.asBusy n)

/-- Repair of the first listed row of a pseudo-channel (15, R433 to R435): its 32 lines are read and written back with their tags and
parity computed again. -/
def State.repairRow (s : State) (p : Nat) : State :=
  match s.mem.repairs.find? (fun e => e.1 = p) with
  | none => s
  | some e =>
    let left := fld (s.reg 0x0D01 0 p) 36 4
    let s := s.when (left ≠ 0) (fun s => s.repeat 32 (fun k s =>
      let r := s.hbmRead (e.2 * 2048 + k * 64 + p) 8
      r.2.hbmPut (e.2 * 2048 + k * 64 + p) (repar r.1)))
    let s := { s with mem := { s.mem with repairs := s.mem.repairs.erase e } }
    let w := s.reg 0x0D01 0 p
    let listed := min 127 ((s.mem.repairs.filter (fun x => x.1 = p)).length)
    let s := s.setRegN 0x0D00 5 s.mem.repairs.length
    if left = 0 then
      let s := s.setRegW 0x0D01 0 p (setFld w 21 7 listed)
      (s.raiseFault (0x46 + p) 0x14 1 (wd e.2)).logPut 0x0907 (wd p) (wd e.2)
    else
      let w := setFld (setFld (setFld (setFld w 36 4 (left - 1)) 28 8 (min 255 (fld w 28 8 + 1))) 21 7 listed) 0 20 e.2
      ((s.setRegW 0x0D01 0 p w).addReg 0x0D00 6 1).logPut 0x0906 (wd p) (wd e.2)

/-! ## Power gating (15, R437 to R439) -/

/-- Whether a measurement unit of a cluster is neither IDLE, DONE nor STOPPED. -/
def State.measureBusy (s : State) (c : Nat) : Bool :=
  let busy := fun i => 1 ≤ s.regN i 0 && s.regN i 0 ≤ 2
  (List.range 2).any (fun n => busy (adcIdx c n)) || busy (capIdx c) || (List.range 4).any (fun n => busy (ruIdx c n))

/-- Whether power-off of a cluster is refused with 0x00B7 (15, R437). -/
def State.gateBusy (s : State) (c : Nat) : Bool :=
  let st := s.seqState c
  (1 ≤ st && st ≤ 3) || (SMap.get (fun _ => none) s.mem.waking c).isSome || s.measureBusy c ||
    (List.range 25).any (fun n => s.pmuMode c n ≠ 0) || s.looped c

/-- Power-off of a cluster (15, R437). -/
def State.powerOff (s : State) (c : Nat) : State :=
  if s.seqState c = 7 then s else s.gateCluster c

/-- The on-chip banks of a cluster are written zero (15, R438): loop buffer and target store, scratch bank. -/
def State.clearBanks (s : State) (c : Nat) : State :=
  let s := { s with regs := s.regs.filter (fun e => e.1 / 134217728 ≠ (0x0D40 + c) * 256) }
  s.onSq c (fun q => { SeqSt.idle with segFrom := q.segFrom, tb := q.tb, due := q.due })

/-- A gated cluster starts to wake (15, R438). -/
def State.wakeStart (s : State) (c : Nat) (src : Word) : State :=
  let s := s.clearBanks c
  { s with mem := { s.mem with waking := SMap.set (fun _ => none) s.mem.waking c (some src) } }

/-- LVLCLR_STATE of a cluster whose outputs hold their clear codes until a strobe (04, R123, R130). -/
def State.awaitStrobe (s : State) (c : Nat) : State :=
  s.setRegN (peIdx 0x1F c) 0xF6 (if s.pins.lvlclrLow then 1 else if s.devState = 7 then 3 else 2)

/-- Wake is complete: the sequencer is IDLE (15, R438). -/
def State.wakeEnd (s : State) (c : Nat) : State :=
  match SMap.get (fun _ => none) s.mem.waking c with
  | none => s
  | some src =>
    let s := { s with mem := { s.mem with waking := SMap.set (fun _ => none) s.mem.waking c none } }
    let s := ((s.setRegN (seqIdx 0 c) 0 0).setGated c false).unitReload c
    (s.awaitStrobe c).endCmd src 0x0D00 8 0 0

/-! ## Background test (15, R440, R441) -/

/-- A word's item is poisoned (15, R436). -/
def State.poisonItem (s : State) (b : BankItem) : State :=
  match b with
  | .other => s
  | .context n =>
    match s.cached n with
    | some (l, d) => s.setCached n (some (poisoned l, d))
    | none => s
  | .vector c a => s.onSq c (fun q =>
      { q with fetch := { q.fetch with ahead := q.fetch.ahead.map (fun e => if e.1 = a then (e.1, { e.2 with poison := true }) else e) }, kept := match SMap.get (fun _ => none) q.kept a with | some v => SMap.set (fun _ => none) q.kept a (some { v with poison := true }) | none => q.kept })
  | .cell q num =>
    let x := s.queue q
    s.setQueue q { x with cells := x.cells.map (fun d => if d.num = num && d.onChip then { d with line := poisoned d.line } else d) }

/-- Cause and severity when a bank's owner has no spare word left (15, R441). -/
def sparesFault (source : Nat) : Nat × Nat :=
  if source < 0x30 then (0x09, 2) else if source < 0x42 then (0x0E, 2) else (0x1D, 3)

/-- A word that a test finds (15, R440, R441). -/
def State.bankWord (s : State) (b : BankWord) : State :=
  let src := b.source.val
  if src < 48 ∧ s.seqState src = 7 then s
  else
    let detail := wd (b.bank.toNat * 2 ^ 32 + b.word.toNat)
    let s := s.when b.parity (fun s => (s.poisonItem b.item).raiseFault src 0x0C 1 detail)
    if !b.march then s
    else
      let k := src * 256 + b.bank.toNat
      let n := SMap.get (fun _ => 0) s.mem.spares k
      if n < 8 then
        let s := { s with mem := { s.mem with spares := SMap.set (fun _ => 0) s.mem.spares k (n + 1) } }
        let s := (s.addReg 0x0D00 2 1).logPut 0x0908 (wd (b.bank.toNat * 2 ^ 32 + src)) (wd b.word.toNat)
        s.raiseFault src 0x0D 0 detail
      else
        let f := sparesFault src
        s.raiseFault src f.1 f.2 (if f.1 = 0x0E then mcheckWord (48 + (src - 0x30)) (b.bank.toNat % 4) (b.word.toNat % 262144) else detail)

/-! ## Arbiters (15, R444 to R450) -/

/-- Source, severity of the HOLD_CUT fault of a requester instance at an arbiter (15, R448; 17, R497). -/
def cutOwner (a r inst : Nat) : Nat × Nat :=
  match r with
  | 0 | 1 => (inst % 48, 2)
  | 2 => (0xA9, 3)
  | 3 => (0x86 + inst % 32, 3)
  | 4 | 5 => (0xAB, 3)
  | 6 => (0xA8, 3)
  | 7 => (0xAE, 3)
  | 8 => (0x46 + a % 64, 3)
  | 9 => (0x30 + inst % 18, 2)
  | 10 => (0x86 + (a - 64) % 32, 3)
  | 11 | 12 | 13 => (0x42 + (a - 96) % 4, 2)
  | _ => (0xAC, 3)

/-- A grant is cut at a beat boundary (15, R447, R448). -/
def State.holdCut (s : State) (a beats : Nat) : State :=
  let x := s.arb a
  match x.grant with
  | none => s
  | some (r, inst, at_, limit) =>
    if beats < limit ∧ s.clock < at_ + usEt 10 then s
    else
      let recent := (x.cuts.filter (fun e => s.clock ≤ e.2.2 + msEt 1)) ++ [(r, inst, s.clock)]
      let mine := recent.filter (fun e => e.1 = r && e.2.1 = inst)
      let full := 8 ≤ mine.length
      let s := s.setArb a { x with grant := none, waiting := x.waiting ++ [(r, inst, s.reqBase r)], cuts := if full then recent.filter (fun e => !(e.1 = r && e.2.1 = inst)) else recent }
      let s := ((s.addReg 0x0C01 1 1 r).addReg 0x0C00 3 1).logPut 0x090A (wd a) (wd r)
      let o := cutOwner a r inst
      s.when full (fun s => s.raiseFault o.1 0x0A o.2 (wd r))

/-- Keys of the shadow objects (15, R449). -/
def shadowKey (k : Nat) : Bool := k / 134217728 = 0x0C00 * 256 + 2 || k / 134217728 = 0x0C01 * 256
/-- SHADOW_DIRTY (15, R449). -/
def State.shadowDirty (s : State) : Bool := s.regs.filter (fun e => shadowKey e.1) ≠ s.act.filter (fun e => shadowKey e.1)

/-! ## The rows -/

/-- HBM_REFRESH (15, R429): the first refresh after a band change takes the interval of the stack's node. The single errors that the stack
has corrected since, and reports with it, are counted. -/
def execHbmRefresh (refresh : StackRefresh) (t : Nat) (s : State) : Host.Outcome State Fault Refusal :=
  s.perform fun s =>
    let s := s.tick t
    let s := s.when (refresh.corrected ≠ 0) (fun s => s.addReg80 0x0D00 0x03 refresh.corrected)
    s.setRegW 0x0D00 7 refresh.stack (wd (refreshOf (fld (s.reg 0x0701 2 (58 + refresh.stack)) 0 2)))

/-- ROW_REPAIR (15, R433): in an idle window. -/
def execRowRepair (pc : Fin 64) (upset : List (Nat × LineData)) (t : Nat) (s : State) : Host.Outcome State Fault Refusal :=
  s.perform fun s =>
    let s := (s.tick t).upset upset
    if s.idleWindow then s.repairRow pc else s

/-- WAKE_DONE (15, R438). -/
def execWakeDone (c : Fin 48) (t : Nat) (s : State) : Host.Outcome State Fault Refusal :=
  s.perform fun s => (s.tick t).wakeEnd c

/-- BANK_TEST (15, R440, R441): every bank tests one region; `found` are the words that fail. -/
def execBankTest (found : List BankWord) (t : Nat) (s : State) : Host.Outcome State Fault Refusal :=
  s.perform fun s =>
    let s := s.tick t
    if s.regN 0x0D00 0 = 0 then s
    else
      let s := { s with mem := { s.mem with rounds := s.mem.rounds + 1 } }
      let s := s.when (s.mem.rounds % max 1 Config.testRegions = 0) (fun s => s.addReg 0x0D00 1 1)
      found.foldl (fun s b => s.bankWord b) s

/-- ARB_GRANT (15, R444). -/
def execArbGrant (arb : Fin 101) (asks : List (Fin 16 × Nat)) (t : Nat) (s : State) : Host.Outcome State Fault Refusal :=
  s.perform fun s => (s.tick t).arbGrant arb (asks.map (fun e => (e.1.val, e.2)))

/-- HOLD_CUT (15, R447): `beats` have passed since the grant. -/
def execHoldCut (arb : Fin 101) (beats : Nat) (t : Nat) (s : State) : Host.Outcome State Fault Refusal :=
  s.perform fun s => (s.tick t).holdCut arb beats

end Sys2Proof.Machine
end

