-- ==== Sys2Proof/Machine/Thermal.lean ====
section
/-! DEFINITION. Machine/Thermal.lean: the housekeeping round: thermal model, bands, throttle, monitors, PMBus; Starfix (16). -/

namespace Sys2Proof.Machine

/-! ## Model and bands -/

/-- Lower boundary of a band in m°C (16, R458). -/
def bandLow (b : Nat) : Int :=
  match b with
  | 0 => -1000000
  | 1 => 45000
  | 2 => 70000
  | _ => 90000

/-- One move of a band, when the temperature asks for one (16, R458). -/
def bandMove (b : Nat) (t : Int) : Nat :=
  if b < 3 ∧ bandLow (b + 1) ≤ t then b + 1 else if 0 < b ∧ t ≤ bandLow b - 2000 then b - 1 else b
/-- The band after a round. -/
def bandNext (b : Nat) (t : Int) : Nat := bandMove (bandMove (bandMove b t) t) t

/-- Modelled temperature of a node. -/
def State.nodeTemp (s : State) (n : Nat) : Int := (s.reg 0x0701 0 n).toInt
/-- The hottest of some nodes, the lowest number first. -/
def State.hottest (s : State) (ns : List Nat) : Nat :=
  ns.foldl (fun b n => if s.nodeTemp b < s.nodeTemp n then n else b) (ns.headD 0)
/-- Temperature of a cluster: the higher of its pin-electronics node and its logic node (16, R454, R458). -/
def State.clusterTemp (s : State) (c : Nat) : Int := max (s.nodeTemp (c / 2)) (s.nodeTemp (24 + c / 2))

/-- Power readings of a round (16, R457): the power the model takes, and the sensors' condition. -/
def State.readPower (s : State) (power : List (Option Nat)) : State :=
  s.repeat 64 (fun n s =>
    let mx := Config.nodeMax n
    let good := match power.getD n none with
      | some p => if 4 * p ≤ 5 * mx then some p else none
      | none => none
    let w := s.reg 0x0701 3 (n / 40)
    match good with
    | some p =>
      let k := SMap.get (fun _ => 0) s.therm.valid n + 1
      let s := { s with therm := { s.therm with valid := SMap.set (fun _ => 0) s.therm.valid n (min k 16) } }
      let s := s.setRegW 0x0701 1 n (wd p)
      s.when (16 ≤ k) (fun s => s.setRegW 0x0701 3 (n / 40) (setBit w (n % 40) false))
    | none =>
      let s := { s with therm := { s.therm with valid := SMap.set (fun _ => 0) s.therm.valid n 0 } }
      let s := (s.setRegW 0x0701 1 n (wd mx)).setRegW 0x0701 3 (n / 40) (setBit w (n % 40) true)
      (s.raiseFault (0xB0 + n) 0x16 1 0).logPut 0x0A01 (wd n) 0)

/-- A band of the table has changed (16, R459). -/
def State.bandChanged (s : State) (what n old new : Nat) : State :=
  (s.raiseEvent 0x7002 s.now).logPut 0x0A02 (wd (what * 2 ^ 32 + n)) (wd (old * 16 + new))

/-- The model advances, and the bands follow (16, R455, R458, R459; 05, R169). -/
def State.advanceModel (s : State) : State :=
  let temps := (List.range 64).map s.nodeTemp
  let powers := (List.range 64).map (fun n => s.regN 0x0701 1 n)
  let tref := (s.reg 0x0700 0).toInt
  let s := s.repeat 64 (fun n s => s.setRegW 0x0701 0 n (wdI (Config.thermalStep temps powers tref n)))
  let s := s.repeat 64 (fun n s =>
    let old := fld (s.reg 0x0701 2 n) 0 2
    let new := bandNext old (s.nodeTemp n)
    (s.setRegW 0x0701 2 n (wd new)).when (58 ≤ n && n ≤ 59 && old ≠ new) (fun s => s.bandChanged 0 n old new))
  let s := s.repeat 48 (fun c s =>
    let old := fld (s.reg 0x0701 5 c) 0 2
    let new := bandNext old (s.clusterTemp c)
    let s := (s.setRegW 0x0701 4 c (wdI (s.clusterTemp c))).setRegW 0x0701 5 c (wd new)
    let s := s.when (old ≠ new) (fun s => s.bandChanged 1 c old new)
    s.when (s.seqState c ≠ 3 && s.regN (peIdx 0x29 c) 0xF2 ≠ new) (fun s => (s.adoptBand c).markOpen c mCalStale))
  let old := s.regN 0x0700 3
  let new := bandNext old (s.nodeTemp (s.hottest ((List.range 34).map (24 + ·))))
  (s.setRegN 0x0700 3 new).when (old ≠ new) (fun s => s.bandChanged 2 0 old new)

/-! ## Throttle -/

/-- A cause that persists is present or absent (17, R491); PERSISTING and REAL_ACTIVE follow. -/
def State.persist (s : State) (source cause : Nat) (on : Bool) : State :=
  let e := (source, cause)
  let l := s.faults.persisting.filter (fun x => x ≠ e)
  let l := if on then l ++ [e] else l
  let s := { s with faults := { s.faults with persisting := l } }
  let s := s.setRegW 0x0601 0 source (setBit (s.reg 0x0601 0 source) 39 (l.any (fun x => x.1 = source)))
  s.setRegN 0x0600 3 l.length

/-- TMAX and the throttle level of a round (16, R460, R464). -/
def State.throttle (s : State) : State :=
  let h := s.hottest (List.range 64)
  let t := s.nodeTemp h
  let s := (s.setReg 0x0700 1 (wdI t)).setRegN 0x0700 2 h
  let s := s.setRegN 0x0700 4 (min 1000 ((t - 100000) / 10).toNat)
  let s := s.when (100000 < t) (fun s => s.addReg 0x0700 8 1)
  let on := s.regB 0x0700 5
  let s := if !on && 100000 ≤ t then ((s.setRegN 0x0700 5 1).raiseEvent 0x7000 s.now).logPut 0x0A03 (wdI t) 0
    else if on && t < 99000 then ((s.setRegN 0x0700 5 0).raiseEvent 0x7001 s.now).logPut 0x0A04 (wdI t) 0
    else s
  if 115000 ≤ t then
    if (0xAA, 0x18) ∈ s.faults.persisting then s else (s.persist 0xAA 0x18 true).raiseFault 0xAA 0x18 3 (wd h)
  else if t < 105000 then s.persist 0xAA 0x18 false
  else s

/-! ## PMBus -/

/-- The request of VDD_CORE after a round, toward its target (16, R461, R465). -/
def State.coreRequest (s : State) : Int :=
  let set : Int := max 700000 (min 850000 (s.reg 0x0702 0).toInt)
  let x := min 10000 (max 0 ((s.reg 0x0700 1).toInt - 100000))
  let target := set - x * (set - 700000) / 10000
  let now := (s.reg 0x0702 1).toInt
  if now = 0 then set else if now < target then min target (now + 5000) else max target (now - 5000)

/-- Whether a VOUT_MODE is linear, the only mode that the DZ-5 supports (21, R569): PMBus gives the mode in bits [7:5] (PRESUMED, log entry 58). -/
def voutLinear (mode : BitVec 8) : Bool := mode.toNat < 32

/-- The 16-bit mantissa of VOUT_COMMAND for a request in µV, in the exponent of VOUT_MODE (21, R569): the nearest one that stays within R16.
The rounding is a DESIGN CHOICE: log entry 58. -/
def voutMantissa (mode : BitVec 8) (v : Int) : Nat :=
  let e := mode.toNat % 32
  let up : Int := if e < 16 then 1 else 2 ^ (32 - e)
  let down : Int := 1000000 * (if e < 16 then 2 ^ e else 1)
  let least := (700000 * up + down - 1) / down
  let most := 850000 * up / down
  (max least (min most ((2 * v * up + down) / (2 * down)))).toNat % 65536

/-- A PMBus transaction that is not acknowledged (16, R465): retried in the next round; the third in a row raises VR_COMM. -/
def State.pmbusNak (s : State) : State :=
  let n := s.therm.naks + 1
  let s := { s with therm := { s.therm with naks := if 3 ≤ n then 0 else n } }
  (s.addReg 0x0702 3 1).when (3 ≤ n) (fun s => s.raiseFault 0xAA 0x19 1 0)

/-- VOUT_MODE is read (16, R465; 21, R569): `answer` is what the regulator gives, none when it does not acknowledge. A mode that is not linear
raises VR_COMM. -/
def State.voutRead (s : State) (answer : Option (BitVec 8)) : State :=
  match answer with
  | none => s.pmbusNak
  | some m => ({ s with therm := { s.therm with naks := 0, vout := some m } } : State).when (!voutLinear m) (fun s => s.raiseFault 0xAA 0x19 1 0)

/-- The PMBus work of a round, from BRINGUP step 3 on (16, R465; 21, R569): VOUT_MODE when it is not read yet, else VOUT_COMMAND when the
request changes and the mode is linear. -/
def State.pmbus (s : State) (answer : Option (BitVec 8)) : State :=
  if s.regN 0x0100 8 ≠ 0 ∧ s.regN 0x0100 8 ≤ 2 then s
  else match s.therm.vout with
    | none => s.voutRead answer
    | some m =>
      let v := s.coreRequest
      if v = (s.reg 0x0702 1).toInt ∨ voutLinear m = false then s
      else if answer.isSome then
        ({ s with therm := { s.therm with naks := 0, mantissa := some (voutMantissa m v) } } : State).setReg 0x0702 1 (wdI v)
      else s.pmbusNak

/-! ## Monitors (16, R466 to R469) -/

/-- Whether a monitor exists. -/
def monitorLive (m : Nat) : Bool := !(10 ≤ m && m ≤ 15) && m < 113

/-- A monitor's filter. -/
def State.mon (s : State) (m : Nat) : MonSt := SMap.get (fun _ => ⟨[], false, 0⟩) s.therm.mons m
/-- Put a monitor's filter. -/
def State.setMon (s : State) (m : Nat) (x : MonSt) : State :=
  { s with therm := { s.therm with mons := SMap.set (fun _ => ⟨[], false, 0⟩) s.therm.mons m x } }

/-- A monitor's filter starts empty (16, R468). -/
def State.monitorRestart (s : State) (m : Nat) : State :=
  let s := s.setMon m ⟨[], false, 0⟩
  let s := s.persist (0xF0 + m) 0x17 false
  s.setRegW 0x0710 5 m (wd (if s.regN 0x0710 4 m = 3 then 4 else 0))

/-- A monitor enters an alarm state (16, R467, R469). -/
def State.monitorAlarm (s : State) (m st : Nat) (v : Int) : State :=
  let s := (s.setRegW 0x0710 5 m (wd st)).addReg 0x0710 7 1 m
  let s := (s.raiseEvent (0x6000 + m) s.now).logPut 0x0A06 (wd m) (wdI v)
  match s.regN 0x0710 4 m with
  | 1 => s.raiseFault (0xF0 + m) 0x17 1 (wdI v)
  | 2 => (s.persist (0xF0 + m) 0x17 true).raiseFault (0xF0 + m) 0x17 3 (wdI v)
  | _ => s

/-- One sample of a monitor (16, R467, R468). -/
def State.monitorSample (s : State) (m : Nat) (v : Int) : State :=
  if !monitorLive m || s.regN 0x0710 4 m = 3 then s
  else
    let s := s.setRegW 0x0710 6 m (wdI v)
    let low := (s.reg 0x0710 0 m).toInt
    let high := (s.reg 0x0710 1 m).toInt
    let hyst := (s.reg 0x0710 2 m).toInt
    let n := fld (s.reg 0x0710 3 m) 4 4
    let mm := fld (s.reg 0x0710 3 m) 0 4
    let x := s.mon m
    let h := x.hist ++ [v]
    let h := h.drop (h.length - mm)
    if h.length < mm then s.setMon m { x with hist := h }
    else
      let count := fun (p : Int → Bool) => n ≤ (h.filter p).length
      let inHigh := count (fun v => high - hyst ≤ v && v ≤ high)
      let inLow := count (fun v => low ≤ v && v ≤ low + hyst)
      if !x.decided && (inHigh || inLow) then
        (s.setMon m ⟨h, true, if inHigh then 1 else 2⟩).setRegW 0x0710 5 m 3
      else
        let out := if x.band = 1 then count (fun v => v < high - hyst || high < v) else count (fun v => v < low || low + hyst < v)
        if x.band ≠ 0 && !out then s.setMon m { x with hist := h }
        else
          let s := s.setMon m ⟨h, true, 0⟩
          let st := if x.band ≠ 0 then 0 else s.regN 0x0710 5 m
          let s := s.when (x.band ≠ 0) (fun s => s.setRegW 0x0710 5 m 0)
          let above := count (fun v => high < v)
          let below := count (fun v => v < low)
          if above && st ≠ 2 then s.monitorAlarm m 2 v
          else if below && st ≠ 1 && !above then s.monitorAlarm m 1 v
          else if st = 2 && !above && count (fun v => v < high - hyst) || st = 1 && !below && count (fun v => low + hyst < v) then
            (s.setRegW 0x0710 5 m 0).persist (0xF0 + m) 0x17 false
          else s

/-! ## Starfix (16, R473 to R480) -/

/-- Whether both ADC sequences of a cluster are IDLE, DONE or STOPPED. -/
def State.adcsFree (s : State) (c : Nat) : Bool :=
  (List.range 2).all (fun n => !(1 ≤ s.regN (adcIdx c n) 0 && s.regN (adcIdx c n) 0 ≤ 2))
/-- Whether a cluster's sequencer is IDLE, DONE, STOPPED or ERROR. -/
def State.seqIdle (s : State) (c : Nat) : Bool := s.seqState c = 0 || (4 ≤ s.seqState c && s.seqState c ≤ 6)

/-- Starfix after a round: idle windows start runs and the ADC part, then temperatures raise requests (16, R473, R474, R476). -/
def State.starfixRound (s : State) : State :=
  s.repeat 48 (fun c s =>
    let s := s.when (s.seqIdle c && s.regB (calIdx c) 6 && s.adcsFree c && s.regN (calIdx c) 0 ≠ 2) (fun s => (s.setRegN (calIdx c) 6 0).calNew c)
    let s := s.when (s.seqIdle c && s.regN (calIdx c) 0 = 1) (fun s => s.calStart c)
    let far := (s.reg 0x0800 2).toInt < ((s.clusterTemp c - (s.reg (calIdx c) 4).toInt).natAbs : Int)
    s.when (s.regB 0x0800 1 && far) (fun s => s.calRequest c))

/-- A Starfix run completes (16, R476, R477). -/
def State.calDone (s : State) (c : Nat) : State :=
  let i := calIdx c
  if s.regN i 0 ≠ 2 then s
  else
    let w := (s.cal c).temp
    let s := s.calNew c
    let s := s.setRegN i 6 (b2n (!s.adcsFree c))
    let s := (((s.setRegN i 0 0).setRegN i 1 2).setReg i 4 w).setReg80 i 5 s.now
    (s.addReg 0x0800 4 1).calMark c

/-- Factory trims are loaded and a quick pass of a cluster starts (16, R478). -/
def State.quickStart (s : State) (c : Nat) : State :=
  let s := s.calAbort c
  let s := (s.calNew c).setRegN (calIdx c) 1 0
  (s.onCal c (fun x => { x with quick := some false, restore := none })).calMark c

/-- A quick pass of a cluster ends (16, R478). -/
def State.quickDone (s : State) (c : Nat) : State :=
  match (s.cal c).quick with
  | none => s
  | some aborted =>
    let s := s.onCal c (fun x => { x with quick := none })
    if aborted then s else ((s.calNew c).setRegN (calIdx c) 1 1).calMark c

/-- VALUES of a cluster as a read gives it (16, R479). -/
def State.calValues (s : State) (c : Nat) : List Word :=
  let i := calIdx c
  let n := (s.cal c).values
  let body := (List.range 4089).map (fun k => if n = 0 then s.reg i 7 (k + 7) else Config.calWord n (k + 7))
  let head := [wd (0xCA * 2 ^ 32 + c), s.reg 0 4, s.reg 0 5, s.reg i 4, s.reg i 5, s.reg i 5 1]
  let crc := (crcWords (head ++ body)).toNat
  head ++ [wd (s.regN i 1 % 256 * 2 ^ 32 + crc)] ++ body

/-- Why a write of VALUES is refused, or 0 (16, R479). -/
def State.valuesBad (s : State) (c : Nat) (ws : List Word) : Nat :=
  let g := fun k => ws.getD k 0
  if g 0 ≠ wd (0xCA * 2 ^ 32 + c) ∨ g 1 ≠ s.reg 0 4 ∨ (g 2) >>> 8 ≠ (s.reg 0 5) >>> 8 then 0x48
  else if (crcWords (ws.take 6 ++ ws.drop 7)).toNat ≠ fld (g 6) 0 32 then 0x49
  else 0

/-- An accepted write of VALUES (16, R480). -/
def State.valuesWritten (s : State) (c : Nat) (ws : List Word) : State :=
  if s.seqState c = 3 then s.onCal c (fun x => { x with restore := some (ws, s.clock) }) else s.calRestore c ws

/-! ## The rows -/

/-- HK_ROUND (16, R455 to R469; 17, R486): power readings by node, monitor samples, whether PMBus acknowledges (and the
VOUT_MODE that a read of it gets), whether the collector finds its own registers bad. -/
def execHkRound (power : List (Option Nat)) (samples : List (Fin 256 × Int)) (pmbusAck : Option (BitVec 8)) (collectorBad : Bool) (t : Nat) (s : State) : Host.Outcome State Fault Refusal :=
  s.perform fun s =>
    let s := s.tick t
    if s.devState ≤ 1 then s
    else
    let s := ((s.readPower power).advanceModel).throttle
    let s := s.addReg80 0x0700 0x0A 1
    let s := samples.foldl (fun s e => s.monitorSample e.1 e.2) s
    let s := (s.pmbus pmbusAck).starfixRound
    s.when collectorBad (fun s => ({ s with faults := { s.faults with selfBad := true } } : State).raiseFault 0x1FF 0x21 3 0)

/-- VR_ALERT (16, R465): the STATUS_WORD that the regulator gives. -/
def execVrAlert (status : BitVec 16) (t : Nat) (s : State) : Host.Outcome State Fault Refusal :=
  s.perform fun s =>
    let s := s.tick t
    (s.setRegN 0x0702 4 status.toNat).logPut 0x0A05 (wd status.toNat) 0

/-- STARFIX_DONE (16, R477). -/
def execStarfixDone (c : Fin 48) (t : Nat) (s : State) : Host.Outcome State Fault Refusal :=
  s.perform fun s => (s.tick t).calDone c

/-- CAL_OVERDUE (16, R474): logged once for a request. -/
def execCalOverdue (c : Fin 48) (t : Nat) (s : State) : Host.Outcome State Fault Refusal :=
  s.perform fun s =>
    let s := s.tick t
    let x := s.cal c
    let lim := s.regN 0x0800 3
    if s.regN (calIdx c) 0 = 1 ∧ x.logged = false ∧ lim ≠ 0 ∧ x.asked + msEt lim ≤ s.clock then
      (s.onCal c (fun x => { x with logged := true })).logPut 0x0A07 (wd c) 0
    else s

/-- QUICK_PASS_DONE (16, R478). -/
def execQuickPassDone (c : Fin 48) (t : Nat) (s : State) : Host.Outcome State Fault Refusal :=
  s.perform fun s => (s.tick t).quickDone c

end Sys2Proof.Machine
end

