-- ==== Sys2Proof/Machine/Faults.lean ====
section
/-! DEFINITION. Machine/Faults.lean: the fault collector, the reactions to faults, the Eclipse state, acknowledgement and injection (17). -/

namespace Sys2Proof.Machine

/-! ## Sources, causes, severities (R482, R483) -/

/-- The causes that each source raises (tables of fault sources and fault causes). -/
def causesOf (source : Nat) : List Nat :=
  if source < 0x30 then [1, 2, 3, 4, 5, 6, 7, 8, 9, 0x0A, 0x0B, 0x0C, 0x0D]
  else if source < 0x42 then [0x0A, 0x0C, 0x0D, 0x0E, 0x0F]
  else if source < 0x46 then [0x0A, 0x10, 0x11, 0x12]
  else if source < 0x86 then [0x0A, 0x13, 0x14]
  else if source < 0xA6 then [0x0A, 0x0C, 0x0D, 0x1D]
  else if 0xB0 ≤ source ∧ source < 0xF0 then [0x16]
  else if 0xF0 ≤ source ∧ source < 0x1F0 then [0x17]
  else match source with
    | 0xA6 | 0xA7 => [0x1E]
    | 0xA8 => [0x0A, 0x1B]
    | 0xA9 => [0x0A, 0x1E]
    | 0xAA => [0x18, 0x19, 0x1E]
    | 0xAB => [0x0A, 0x0C, 0x0D, 0x15, 0x1D, 0x1F]
    | 0xAC => [0x0A, 0x1F]
    | 0xAD => [0x1A, 0x1F, 0x22]
    | 0xAE => [0x0A, 0x0C, 0x0D, 0x1C, 0x1D]
    | 0x1FE => [0x20]
    | 0x1FF => [0x21]
    | _ => []

/-- Whether a monitor whose alarm calls for Eclipse raised the fault: ACTION 2 (16, R469). -/
def State.monitorEclipse (s : State) (source : Nat) : Bool := fld (s.reg 0x0710 0x04 (source - 0xF0)) 0 2 == 2

/-- The severity that a cause has at a source (table of fault causes; R497 for HOLD_CUT; 16, R469 for HK_MONITOR). -/
def State.severityOf (s : State) (source cause : Nat) : Nat :=
  match cause with
  | 0x0A => if source < 0x46 then 2 else 3
  | 0x0B | 0x0C | 0x12 | 0x13 | 0x14 | 0x15 | 0x16 | 0x19 | 0x1A | 0x1C | 0x22 => 1
  | 0x0D | 0x1B => 0
  | 0x17 => if s.monitorEclipse source then 3 else 1
  | 0x18 | 0x1D | 0x1E | 0x1F | 0x20 | 0x21 => 3
  | _ => 2

/-- Whether a source raises a cause with a severity; a monitor's severity is its ACTION's, which may have changed since. -/
def State.faultValid (s : State) (source cause sev : Nat) : Bool :=
  (causesOf source).contains cause && (if cause = 0x17 then sev = 1 || sev = 3 else sev = s.severityOf source cause)

/-! ## The status of a source -/

/-- STATUS of a source after one more fault (table of fault sources objects). -/
def statusWord (w : Word) (cause sev : Nat) (inj : Bool) : Word :=
  if inj then setFld (setFld (setBit w 37 true) 33 2 sev) 19 7 cause
  else setFld (setFld (setFld (setBit w 38 true) 35 2 sev) 26 7 cause) 0 16 (min 0xFFFF (fld w 0 16 + 1))

/-- Whether FAULT_N is low (R485). -/
def State.faultN (s : State) : Bool :=
  s.devState == 7 || (s.listedWords 0x0601 0).any (fun e => bit e.2 38 && 2 ≤ fld e.2 35 2)

/-! ## Eclipse (R487) -/

/-- The pin actions of Eclipse step 2, on every slice and output: levels and outputs begin their move to clear codes, drivers and
PMUs are off while LVLCLR_STATE shows it. A GATED cluster stays gated (R488). -/
def State.eclipsePins (s : State) (lvl asCause : Nat) : State :=
  let s := s.repeat 48 (fun c s => s.setLvlclr c (if s.pins.lvlclrLow then 1 else lvl))
  s.repeat 32 (fun n s =>
    (s.asClear n asCause).when (s.regB (asIdx n) 0x10) (fun s => s.internalWrite (asIdx n) 0x10 0))

/-- A running BIST is aborted (19, R534). -/
def State.bistAbort (s : State) : State := s.when (s.regN 0x0100 0x0B = 1) (fun s => s.setRegN 0x0100 0x0B 4)

/-- Eclipse step 4: runs end, measurement stops, calibration runs are aborted. A sequencer that is ARMED stays so, its START
forgotten: DEDUCED from R216, log entry 24. -/
def State.eclipseStop (s : State) : State :=
  let s := (s.seqsIn 3).foldl (fun s c => s.endRun c s.clock 4 5) s
  let s := (s.seqsIn 2).foldl (fun s c => s.onSq c (fun q => { q with start := none })) s
  let s := s.repeat 48 (fun c s => (s.measureCut c 4).calAbort c)
  s.bistAbort

/-- An S3 fault enters Eclipse (steps of Eclipse entry, R487): from BRINGUP to RECOVERY; in FACTORY steps 2 to 4 alone, the outputs
then waiting for a LOAD strobe (DESIGN CHOICE, log entry 25); in ECLIPSE nothing. -/
def State.eclipse (s : State) (code : Nat) (t0 : U80) : State :=
  let st := s.devState
  if st = 8 then ((s.eclipsePins 2 4).eclipseStop)
  else if st < 2 ∨ 6 < st then s
  else
    let s := { s with faults := { s.faults with before := if st = 4 then 3 else st } }
    let s := (s.setRegN 0x0600 0x01 code).setReg80 0x0600 0x02 t0
    let s := (s.eclipsePins 3 4).eclipseStop
    let s := (s.setRegN 0x0100 0x00 7).addReg 0x0600 0x06 1
    let s := s.journalAt 3 0x0600 0x04 0 s.now s.internal false (wd code)
    let s := s.logPut 0x0B02 (wd code) 0
    s.raiseEvent 0x5002 t0

/-! ## Reactions (table of fault causes) -/

/-- Whether a reaction of a source runs: a recovery of the cluster or a fault that waits for one, a takeover of the engine's roles. -/
def State.reacting (s : State) (source : Nat) : Bool :=
  if source < 0x30 then (s.pe source).swap.isSome || (s.pe source).rehome.isSome || !(s.pe source).waiting.isEmpty || s.restarting source
  else if source < 0x42 then s.red.takeovers.any (fun e => e.2.any (fun k => k.failed = source - 0x30))
  else false

/-- The recovery that runs in a cluster is given up, with those that wait: the slice serves its lane again, the domain is not failed. That a
recovery which is replaced is undone: DESIGN CHOICE, log entry 103. -/
def State.dropRecovery (s : State) (c : Nat) : State :=
  let s := match (s.pe c).swap with
    | some r =>
      let s := (s.setRegN (peIdx 0x1C c) r.unit 0).setRegN (peIdx 0x1D c) r.unit r.lane
      (s.internalWrite (peIdx 0x1F c) 0xF2 (wd 0xFF)).epochUp c
    | none => s
  let s := match (s.pe c).rehome with
    | some r => s.setReg (peIdx 0x29 c) 0xF0 (setBit (s.reg (peIdx 0x29 c) 0xF0) r.unit false)
    | none => s
  let s := s.onPe c (fun p => { p with swap := none, rehome := none, waiting := [] })
  s.when (s.seqState c ≠ 3) (fun s => s.endFlags c)

/-- A real fault's reaction replaces an injected one of its source (R502). An injected cluster restart goes on unless the real fault calls for a
restart too, and of a takeover, which is the same for both, the bound counts from `at0`. -/
def State.replaceReaction (s : State) (source cause at0 : Nat) : State :=
  if source < 0x30 then
    (s.dropRecovery source).when (cause = 0x07 || cause = 0x0A) (fun s =>
      { s with micro := { s.micro with restarts := SMap.set (fun _ => none) s.micro.restarts source none } })
  else
    { s with red := { s.red with takeovers := s.red.takeovers.map (fun e => (e.1, e.2.map (fun k => if k.failed = source - 0x30 then { k with at0 := at0 } else k))) } }

/-- A port's link is lost, unless it is down already (12, R355, R375). -/
def State.portFault (s : State) (p : Nat) : State :=
  if 1 < s.portState p then ((s.portLost p).logPut 0x0802 (wd p) 0).ringWrap p 0 else s

/-- The reaction of a cause at its source (table of fault causes; R497 for HOLD_CUT). Where the unit found the fault itself, it has
reacted already, and nothing is left to do. -/
def State.react (s : State) (source cause : Nat) (detail : Word) (code : Nat) (t0 : U80) (at0 : Nat) (inj : Bool) : State :=
  let c := source
  match cause with
  | 1 | 2 | 3 =>
    let n := fld detail 0 5
    let s := (s.calAbort c).peFault c cause n code t0 at0 (s.segBegan c)
    s.when (n = 24) (fun s => s.openLoop c)
  | 4 =>
    let d := fld detail 0 3
    let w := s.reg 0x0900 0x13 c
    let s := s.when (bit w d) (fun s => (s.setRegW 0x0900 0x13 c (setBit w d false)).addReg 0x0900 0x12 1)
    (s.calAbort c).peFault c cause d code t0 at0 (s.segBegan c)
  | 5 | 6 => (s.calAbort c).peFault c cause (fld detail 0 3) code t0 at0 (s.segBegan c)
  | 7 => if s.restarting c then s else s.seqMcheck c detail code t0 at0
  | 8 =>
    let n := fld detail 0 1
    let s := { s with faults := { s.faults with adcGone := s.faults.adcGone.filter (· ≠ c * 2 + n) ++ [c * 2 + n] } }
    s.adcCut c n 2
  | 9 => s.withdraw c code
  | 0x0A =>
    if source < 0x30 then (if s.restarting c then s else s.seqMcheck c 0 code t0 at0)
    else if source < 0x42 then s.engineFault (source - 0x30)
    else if source < 0x46 then s.portFault (source - 0x42)
    else s
  | 0x0E => (((s.noteMcheck (source - 0x30 + 48) detail t0).engineFault (source - 0x30)).patchLeave (source - 0x30 + 48) false)
  | 0x0F => s.engineFault (source - 0x30)
  | 0x10 =>
    let p := source - 0x42
    let l := fld detail 0 2
    if (s.regN (0x1110 + p) 0x09).testBit l = false then s
    else if s.wideWithout p (2 ^ l) then ((s.control p 4 (2 ^ l)).logPut 0x0801 (wd (p * 4 + l)) 0).stopLanes p (2 ^ l)
    else s.portFault p
  | 0x11 => s.portFault (source - 0x42)
  | 0x13 =>
    let a := fld detail 0 31
    let l := s.hbmRaw a
    let e := (a % 64, a / 2048)
    let due := !linePoison l && (inj || parityBad l)
    let s := s.when due (fun s => s.hbmPut a (poisoned l))
    if e ∈ s.mem.repairs ∨ !due then s
    else { s with mem := { s.mem with repairs := s.mem.repairs ++ [e] } }
  | 0x15 =>
    let q := fld detail 0 16
    let x := s.queue q
    if x.broken then s
    else (s.setQueue q { x with broken := true, opens := x.opens.map (fun p => { p with st := .discarded }) }).logPut 0x0607 (wd q) 0
  | 0x1B => s.hostReset
  | _ => s

/-- A source raises a fault (R484): it is stamped, its status set, counted, logged, presented to the router and handled by its
severity. Two reactions of one source follow R502. -/
def State.faultRaise (s : State) (source cause sev : Nat) (detail : Word) (inj : Bool) : State :=
  if s.devState < 2 || !s.faultValid source cause sev then s
  else
    let t0 := s.now
    let at0 := s.clock
    let code := faultCode cause source
    let s := s.setRegW 0x0601 0x00 source (statusWord (s.reg 0x0601 0x00 source) cause sev inj)
    let s := s.setRegW 0x0601 0x02 source detail
    let s := if inj then s.addReg 0xF010 0x02 1 else s.addReg 0x0600 0x07 1 sev
    let s := s.when (!inj && (cause = 0x1D || cause = 0x1E || cause = 0x1F || cause = 0x21)) (fun s =>
      let s := s.when (cause = 0x1E && (source, cause) ∉ s.faults.persisting) (fun s => s.addReg 0x0900 0x12 1)
      s.persist source cause true)
    let s := s.when (cause = 0x21 && !inj) (fun s => { s with faults := { s.faults with selfBad := true } })
    let s := (s.setRegW 0x0600 0x09 0 (wd (sev * 2 ^ 17 + b2n inj * 2 ^ 16 + code))).setRegW 0x0600 0x09 1 detail
    let s := (s.setRegW 0x0600 0x09 2 (loWord t0)).setRegW 0x0600 0x09 3 (hiWord t0)
    let s := s.logAt 0x0B01 (wd (sev * 2 ^ 17 + code)) detail inj t0
    let s := s.when (sev = 1) (fun s => s.raiseEvent 0x5000 t0)
    let s := s.when (sev = 2) (fun s => s.raiseEvent 0x5001 t0)
    let runs := s.reacting source
    let kind := SMap.get (fun _ => 0) s.faults.reaction source
    let s := s.when (2 ≤ sev) (fun s =>
      { s with faults := { s.faults with reaction := SMap.set (fun _ => 0) s.faults.reaction source (if inj then (if runs && kind = 1 then 1 else 2) else 1) } })
    if inj && runs && kind = 1 then s
    else
      let s := s.when (!inj && runs && kind = 2 && 2 ≤ sev) (fun s => s.replaceReaction source cause at0)
      let s := s.react source cause detail code t0 at0 inj
      s.when (sev = 3) (fun s => s.eclipse code t0)

/-- FAULT_RAISE (R484). -/
def execFaultRaise (source : Fin 512) (cause : Fin 128) (sev : Fin 4) (detail : Word) (inj : Bool) (t : Nat) (s : State) : Host.Outcome State Fault Refusal :=
  s.perform fun s => (s.tick t).faultRaise source cause sev detail inj

/-! ## What software does with faults -/

/-- The causes that persist after one try of the unlocked domains and of the collector's rebuild (R491). -/
def State.stillPersist (s : State) (relocked rebuilt : Bool) : List (Nat × Nat) :=
  s.faults.persisting.filter (fun e => !(relocked && e.2 == 0x1E) && !(rebuilt && e.2 == 0x21))

/-- Why CLEAR is refused at check 10, or 0 (R491; 19, R536). -/
def State.clearRefusal (s : State) (relocked rebuilt : Bool) : Nat :=
  if s.devState ≠ 7 then 0x41
  else if s.regN 0x0100 0x08 ≠ 0 then 0x09
  else if s.stillPersist relocked rebuilt ≠ [] then 0x40
  else 0

/-- The collector's rebuild (R486): every status word from the causes still present, none when CLEAR is accepted. -/
def State.collectorRebuild (s : State) : State :=
  let s := { s with regs := s.regs.filter (fun e =>
    e.1 / 134217728 ≠ 0x060100 ∧ e.1 / 134217728 ≠ 0x060102 ∧ e.1 / 134217728 ≠ 0x060009 ∧ e.1 / 134217728 ≠ 0x060007) }
  { s with faults := { s.faults with selfBad := false } }

/-- CLEAR leaves Eclipse (R491, steps 1 to 5). -/
def State.clearEclipse (s : State) : State :=
  let domains := (s.faults.persisting.filter (fun e => e.2 = 0x1E)).length
  let s := s.faults.persisting.foldl (fun s e => s.persist e.1 e.2 false) s
  let s := s.setReg 0x0900 0x12 (s.reg 0x0900 0x12 - wd domains)
  let s := s.when s.faults.selfBad State.collectorRebuild
  let s := ((s.listedWords 0x0601 0).filter (fun e => bit e.2 38 && fld e.2 35 2 == 3)).foldl
    (fun s e => s.setRegW 0x0601 0x00 e.1 (setBit e.2 38 false)) s
  let s := s.repeat 48 (fun c s => s.repeat 25 (fun n s =>
    (s.internalWrite (peIdx 0x03 c) n 0).internalWrite (peIdx 0x00 c) n 0))
  let s := s.repeat 32 (fun n s => s.internalWrite (asIdx n) 0x00 0)
  let b := s.faults.before
  let s := s.when (b = 2) (fun s => s.setReg 0x0100 0x0F (setBit (s.reg 0x0100 0x0F) 3 true))
  let s := s.setRegN 0x0100 0x00 (if b = 2 ∨ b = 6 then 6 else 3)
  let s := (s.repeat 48 (fun c s => s.awaitStrobe c)).deviceRuns
  let s := s.logPut 0x0B03 0 0
  s.raiseEvent 0x5003 s.now

/-- ENTER (R492): in ECLIPSE it completes with no action. -/
def State.enterEclipse (s : State) (src : Word) : State :=
  if s.devState = 7 then s else s.faultRaise 0x1FE 0x20 3 src false

/-- ACK of one source (R485, R502). -/
def State.ackSource (s : State) (n : Nat) : State :=
  s.setRegW 0x0601 0x00 n (setBit (setBit (s.reg 0x0601 0x00 n) 38 false) 37 false)

/-- Why INJECT is refused at check 10, or 0 (R500). -/
def State.injectRefusal (s : State) (w0 : Word) : Nat :=
  let source := fld w0 0 9
  let cause := fld w0 9 7
  if !s.regB 0xF010 0x00 then 0x42
  else if !(causesOf source).contains cause then 0x43 else 0

/-- INJECT raises the fault it names, with the INJ mark (R500, R501). -/
def State.injectFault (s : State) (w0 detail : Word) : State :=
  let source := fld w0 0 9
  let cause := fld w0 9 7
  s.faultRaise source cause (s.severityOf source cause) detail true

end Sys2Proof.Machine
end

