-- ==== Sys2Proof/Machine/OdCheck.lean ====
section
/-! DEFINITION. Machine/OdCheck.lean: the checks of an OD transaction that depend on the object's row and the words alone:
count (check 8) and value (check 9) of the table of transaction checks (02). -/

namespace Sys2Proof.Machine

/-- Words written, by word number of the object, in the order written. -/
abbrev Words := List (Nat × Word)

/-- The queues that the words of a PUSH name (10, R326). -/
def pushQueues (ws : Words) : List Nat := (ws.map (fun e => e.1 / 1024)).eraseDups

/-- The words of a write at an offset. -/
def wordsAt (off : Nat) (vals : List Word) : Words := vals.zipIdx.map (fun e => (off + e.2, e.1))

/-- The unit of an array that an index addresses. -/
def Obj.unit (r : Obj) (i : Nat) : Nat := (i - r.base) / r.stride

/-- Whether an object is a DOMAIN. -/
def Obj.isDomain (r : Obj) : Bool := r.ty == .domain

/-- Whether a command's words form one parameter block (R586). -/
def Obj.isBlock (r : Obj) : Bool := r.hook == .acquire || r.hook == .issue || r.hook == .cancel || r.hook == .inject

/-- Whether a word lies within an object's type (02, table of OD data types). -/
def OdType.holds (ty : OdType) (v : Word) : Bool :=
  match ty with
  | .bool => v.toNat < 2
  | .u8 | .enum8 => v.toNat < 0x100
  | .u16 => v.toNat < 0x10000
  | .u24 => v.toNat < 0x1000000
  | .str => (List.range 5).all (fun k => let c := fld v (8 * k) 8; c = 0 || (0x20 ≤ c && c ≤ 0x7E))
  | .u40 | .s40 | .u80 | .fx40 | .bits40 | .domain => true

/-- Whether a word lies within a range. -/
def Rng.holds (g : Rng) (v : Word) : Bool :=
  match g with
  | .any => true
  | .among rs => rs.any (fun e => e.1 ≤ v.toNat && v.toNat ≤ e.2)
  | .signed lo hi => lo ≤ v.toInt && v.toInt ≤ hi
  | .mask m => v.toNat &&& m = v.toNat
  | .fields fs =>
    fs.all (fun f => let x := fld v f.2.1 (f.1 - f.2.1 + 1); f.2.2.1 ≤ x && x ≤ f.2.2.2) &&
      v.toNat &&& (fs.foldl (fun m f => m ||| ((2 ^ (f.1 - f.2.1 + 1) - 1) <<< f.2.1)) 0) = v.toNat

/-- Whether a source code names a source that exists (03, R95; table of event source codes). -/
def sourceCodeOk (v : Nat) : Bool :=
  let n := v % 0x1000
  match v / 0x1000 with
  | 0 => n = 0
  | 1 => n ≤ 383
  | 2 => n ≤ 8
  | 3 => n ≤ 63
  | 4 => n = 0
  | 5 => n ≤ 4
  | 6 => n ≤ 255
  | 7 => n ≤ 2
  | 8 => n ≤ 191
  | 9 => n ≤ 127
  | 0xA => n ≤ 511
  | 0xB => n ≤ 47
  | _ => false

/-- The part of check 9 that an object's own text adds to its range: source codes (R95), the blocks of ACQUIRE (R70), ISSUE and
INJECT, clusters of RUN, unused monitors, regions that would reach 0x6000_0000 (R275, R306, R368). Bits to which a block's table gives
no meaning must be 0: DESIGN CHOICE, log entry 40. -/
def Obj.rangeMore (r : Obj) (ws : Words) : Bool :=
  match r.hook with
  | .lineSource => ws.all (fun e => sourceCodeOk e.2.toNat)
  | .acquire => ws.all (fun e => match e.1 with
    | 1 => e.2.toNat = 0 || (10 ≤ e.2.toNat && e.2.toNat ≤ 60000)
    | 2 => fld e.2 24 16 ≤ 10000 && fld e.2 16 8 = 0
    | _ => fld e.2 32 8 = 0)
  | .issue => ws.all (fun e => match e.1 with
    | 2 => fld e.2 10 6 = 0
    | 3 => fld e.2 16 24 = 0
    | _ => true)
  | .inject => ws.all (fun e => e.1 ≠ 0 || fld e.2 16 24 = 0)
  | .starfixRun => ws.all (fun e => e.1 ≠ 1 || e.2.toNat ≤ 0xFF)
  | .ctxBase => ws.all (fun e => e.2.toNat + 2097152 ≤ 0x60000000)
  | .poolRegion => r.subLo ≠ 1 || ws.all (fun e => e.2.toNat % 8 = 0 && 65536 ≤ e.2.toNat && e.2.toNat ≤ 2 ^ 28)
  | .replyCache => ws.all (fun e => e.2.toNat + 720896 ≤ 0x60000000)
  | _ => true

/-- Check 9: every word within the type and the object's range. -/
def Obj.valuesOk (r : Obj) (ws : Words) : Bool :=
  ws.all (fun e => r.ty.holds e.2 && r.rng.holds e.2) && r.rangeMore ws

/-- Check 8 of a read of `cnt` words at `off`: an abort code, or 0 (R38, R39; 09 R298; 10 R319; 18 R519, R525). A string is read from its
first word, whole or in part (02, table of OD data types). A journal or
log read not of whole slots is refused with 0x0004. -/
def Obj.readCount (r : Obj) (off cnt : Nat) : Nat :=
  match r.hook with
  | .pop => if off % 1024 = 0 && cnt % 8 = 0 && 8 ≤ cnt && cnt ≤ 1024 && off < r.words then 0 else 0xA8
  | .results | .live =>
    if cnt = 0 || 1024 < cnt || r.words < off + cnt then 0x04 else if off % 8 ≠ 0 || cnt % 8 ≠ 0 then 0xA2 else 0
  | .journalEntries | .logRecords =>
    if cnt = 0 || 1024 < cnt || r.words < off + cnt || off % 8 ≠ 0 || cnt % 8 ≠ 0 then 0x04 else 0
  | _ =>
    if r.isDomain then (if cnt = 0 || 1024 < cnt || r.words < off + cnt then 0x04 else 0)
    else if r.ty == .str then (if off = 0 && 1 ≤ cnt && cnt ≤ r.words then 0 else 0x04)
    else if off = 0 && cnt = r.words then 0 else 0x04

/-- Check 8 of a write (R38, R39, R586; 10 R326; 16 R479: VALUES is written whole; 20: MBX_OUT at offset 0). -/
def Obj.writeCount (r : Obj) (off cnt : Nat) : Nat :=
  match r.hook with
  | .push => if off % 1024 = 0 && cnt % 6 = 0 && 6 ≤ cnt && cnt ≤ 1020 && off < r.words then 0 else 0xA8
  | .values => if off = 0 && cnt = 4096 then 0 else 0x04
  | .mbxOut => if off = 0 && 1 ≤ cnt && cnt ≤ r.words then 0 else 0x04
  | _ =>
    if r.isBlock then (if off = 0 && cnt = r.words then 0 else 0x04)
    else if r.isDomain then (if cnt = 0 || 1024 < cnt || r.words < off + cnt then 0x04 else 0)
    else if off = 0 && cnt = r.words then 0 else 0x04

end Sys2Proof.Machine
end

