-- ==== Sys2Proof/Machine/SeqRows.lean ====
section
/-! DEFINITION. Machine/SeqRows.lean: the rows of the sequencers and streams that no OD write starts (06, 07). -/

namespace Sys2Proof.Machine

/-- SEQ_ARMED (06, table of sequencer states; 07, R224). -/
def execSeqArmed (c : Fin 48) (t : Nat) (s : State) : Host.Outcome State Fault Refusal :=
  s.perform fun s => (s.tick t).armed c

/-- START_LINE_OCCURRENCE (06, R215): the first fixes the start instant of an ARMED sequencer; any other is missed;
ECLIPSE holds the sink inactive (03, R102). -/
def execStartLineOccurrence (c : Fin 48) (stamp : U80) (timed : Bool) (t : Nat) (s : State) : Host.Outcome State Fault Refusal :=
  s.perform fun s =>
    let s := s.tick t
    if s.devState = 7 then s
    else if s.seqState c = 2 ∧ (s.sq c).start = none then
      let r := s.releaseAt stamp timed
      s.onSq c (fun q => { q with start := some (r, true) })
    else (s.addReg (seqIdx 3 c) 0x0A 1).logPut 0x0501 (wd c) (s.reg (seqIdx 0 c) 5)

/-- RUN_START (06, R215): the start instant is reached; for START, the first MREF grid instant within 1 µs of acceptance. -/
def execRunStart (c : Fin 48) (t : Nat) (s : State) : Host.Outcome State Fault Refusal :=
  s.perform fun s =>
    let s := s.tick t
    match (s.sq c).start with
    | none => s
    | some (r, exact) =>
      if s.seqState c ≠ 2 ∨ s.clock < r then s
      else s.runStarts c (if exact then r else min (gridUp s.clock) ((r + usEt 1) / 40960 * 40960))

/-- JUMP_LINE_OCCURRENCE (06, R206, R210). -/
def execJumpLineOccurrence (c : Fin 48) (stamp : U80) (timed : Bool) (t : Nat) (s : State) : Host.Outcome State Fault Refusal :=
  s.perform fun s =>
    let s := s.tick t
    let _ := timed
    let at_ := s.localOf stamp * 32
    if s.seqState c = 3 then s.jumpAsk c (s.lineTarget c at_) at_
    else s.addReg (seqIdx 2 c) 8 1

/-- JUMP_WINDOW_CLOSE (06, R207, R208): the held request is pending for this boundary, or deferred. -/
def execJumpWindowClose (c : Fin 48) (t : Nat) (s : State) : Host.Outcome State Fault Refusal :=
  s.perform fun s =>
    let s := s.tick t
    let q := s.sq c
    if s.seqState c ≠ 3 ∨ q.closed.isSome then s
    else
      let s := s.onSq c (fun q => { q with closed := some s.clock })
      match q.jump with
      | some j =>
        if j.reached < q.segFrom ∨ j.arrival < s.clock ∨ j.deferred then s.fetchTarget c
        else ((s.setRegN (seqIdx 2 c) 3 2).addReg (seqIdx 2 c) 5 1).onSq c (fun q => { q with jump := some { j with deferred := true } })
      | none => s

/-- ADV (06, R184). -/
def execAdv (c : Fin 48) (m : Samples) (s : State) : Host.Outcome State Fault Refusal :=
  s.perform fun s => s.onVector c (· = 0x00) (fun v s => s.playOne c v m)

/-- RPT (06, R185): one of its cycles. -/
def execRpt (c : Fin 48) (m : Samples) (s : State) : Host.Outcome State Fault Refusal :=
  s.perform fun s => s.onVector c (· = 0x01) (fun v s => s.playRpt c v m)

/-- LOOP (06, R186). -/
def execLoop (c : Fin 48) (m : Samples) (s : State) : Host.Outcome State Fault Refusal :=
  s.perform fun s => s.onVector c (fun o => 2 ≤ o && o ≤ 5) (fun v s => s.playOne c v m)

/-- ENDL (06, R186). -/
def execEndl (c : Fin 48) (m : Samples) (s : State) : Host.Outcome State Fault Refusal :=
  s.perform fun s => s.onVector c (fun o => 6 ≤ o && o ≤ 9) (fun v s => s.playOne c v m)

/-- JMP (06, R184). -/
def execJmp (c : Fin 48) (m : Samples) (s : State) : Host.Outcome State Fault Refusal :=
  s.perform fun s => s.onVector c (· = 0x0A) (fun v s => s.playOne c v m)

/-- JMPR (06, R187). -/
def execJmpr (c : Fin 48) (m : Samples) (s : State) : Host.Outcome State Fault Refusal :=
  s.perform fun s => s.onVector c (· = 0x0B) (fun v s => s.playOne c v m)

/-- CALL (06, R187). -/
def execCall (c : Fin 48) (m : Samples) (s : State) : Host.Outcome State Fault Refusal :=
  s.perform fun s => s.onVector c (· = 0x0C) (fun v s => s.playOne c v m)

/-- RET (06, R187). -/
def execRet (c : Fin 48) (m : Samples) (s : State) : Host.Outcome State Fault Refusal :=
  s.perform fun s => s.onVector c (· = 0x0D) (fun v s => s.playOne c v m)

/-- MATCH (06, R192). -/
def execMatchBlock (c : Fin 48) (m : Samples) (s : State) : Host.Outcome State Fault Refusal :=
  s.perform fun s => s.onVector c (· = 0x0E) (fun v s => s.playMatch c v m)

/-- ENDM (06, R194). -/
def execEndm (c : Fin 48) (m : Samples) (s : State) : Host.Outcome State Fault Refusal :=
  s.perform fun s => s.onVector c (· = 0x0F) (fun v s => s.playEndm c v m)

/-- MATCH_GROUP_RESULT (06, R194). -/
def execMatchGroupResult (c : Fin 48) (t : Nat) (s : State) : Host.Outcome State Fault Refusal :=
  s.perform fun s => (s.tick t).groupResult c

/-- SEG (06, R198); the boundary at its end comes due. -/
def execSeg (c : Fin 48) (m : Samples) (s : State) : Host.Outcome State Fault Refusal :=
  s.perform fun s => s.onVector c (· = 0x10) (fun v s => (s.playSeg c v m).due (.segmentBoundary c))

/-- MARK (06, R189). -/
def execMark (c : Fin 48) (m : Samples) (s : State) : Host.Outcome State Fault Refusal :=
  s.perform fun s => s.onVector c (· = 0x11) (fun v s => s.playMark c v m)

/-- WAIT (06, R188): one of its cycles. -/
def execWait (c : Fin 48) (m : Samples) (s : State) : Host.Outcome State Fault Refusal :=
  s.perform fun s => s.onVector c (· = 0x12) (fun v s => s.playWait c v m)

/-- WAIT_RELEASE (06, R188): the first occurrence on the line, stamped at or after the first cycle's start or, with LATCHED, the
segment's, sets r. -/
def execWaitRelease (c : Fin 48) (line : Fin 512) (stamp : U80) (timed : Bool) (t : Nat) (s : State) : Host.Outcome State Fault Refusal :=
  s.perform fun s =>
    let s := s.tick t
    match (s.sq c).wait with
    | some w =>
      let at_ := s.localOf stamp * 32
      if s.seqState c = 3 ∧ w.line = line ∧ w.release = none ∧ (w.first ≤ at_ ∨ (w.latched = true ∧ (s.sq c).segFrom ≤ at_)) then
        let r := max (s.releaseAt stamp timed) w.first
        (s.onSq c (fun q => { q with wait := some { w with release := some r } })).waitOver c
      else s
    | none => s

/-- WAIT_TIMEOUT (06, R188): r is the first cycle's start plus WAIT_TIMEOUT; counted, and an item enqueued. -/
def execWaitTimeout (c : Fin 48) (t : Nat) (s : State) : Host.Outcome State Fault Refusal :=
  s.perform fun s =>
    let s := s.tick t
    let q := s.sq c
    let n := s.sqAct c 1 8
    match q.wait with
    | some w =>
      let r := w.first + nsEt n
      if s.seqState c = 3 ∧ w.release = none ∧ n ≠ 0 ∧ r ≤ s.clock then
        let s := s.onSq c (fun q => { q with wait := some { w with release := some r } })
        ((s.addReg (seqIdx 3 c) 9 1).failItem c [State.seqLine c 9 w.line q.ctl.pc (s.mAt r) 0 0]).waitOver c
      else s
    | none => s

/-- APGS (07, R235). -/
def execApgs (c : Fin 48) (m : Samples) (s : State) : Host.Outcome State Fault Refusal :=
  s.perform fun s => s.onVector c (· = 0x13) (fun v s => s.playApgs c v m)

/-- HALT (06, R217). -/
def execHalt (c : Fin 48) (m : Samples) (s : State) : Host.Outcome State Fault Refusal :=
  s.perform fun s => s.onVector c (· = 0x14) (fun v s => s.playHalt c v m)

/-- BAD_OPCODE (06, R191): a reserved opcode ends the run in ERROR without playing. -/
def execBadOpcode (c : Fin 48) (s : State) : Host.Outcome State Fault Refusal :=
  s.perform fun s => s.onVector c (fun o => 0x15 ≤ o) (fun _ s => s)

/-- SEGMENT_BOUNDARY (06, R199). -/
def execSegmentBoundary (c : Fin 48) (s : State) : Host.Outcome State Fault Refusal :=
  s.perform fun s =>
    match (s.sq c).phase with
    | .boundary calSafe => if s.seqState c = 3 then (s.tick (s.sq c).due).boundary c calSafe else s
    | _ => s

/-- BOUNDARY_GAP_END (06, R202): the keep-alive cycles have covered the gap; the next segment starts at ts. -/
def execBoundaryGapEnd (c : Fin 48) (s : State) : Host.Outcome State Fault Refusal :=
  s.perform fun s =>
    match (s.sq c).phase with
    | .gap till => if s.seqState c = 3 then (s.tick till).onSq c (fun q => { q with phase := .play }) else s
    | _ => s

/-- STREAM_REFILL (07, R226). -/
def execStreamRefill (c : Fin 48) (into : Fin 6) (upset : List (Nat × LineData)) (t : Nat) (s : State) : Host.Outcome State Fault Refusal :=
  s.perform fun s => ((s.tick t).upset upset).refill c into

/-- STREAM_GAP (07, R228): one keep-alive cycle. -/
def execStreamGap (c : Fin 48) (s : State) : Host.Outcome State Fault Refusal :=
  s.perform fun s => s.gapCycle c

/-- STREAM_GAP_END (07, steps 3 and 4): the awaited vector is on hand at the end of the keep-alive cycle. -/
def execStreamGapEnd (c : Fin 48) (t : Nat) (s : State) : Host.Outcome State Fault Refusal :=
  s.perform fun s =>
    let s := s.tick t
    if s.seqState c = 3 ∧ (s.sq c).gap.isSome ∧ (s.sq c).onHand.isSome then s.gapEnds c else s

/-- BCAST_HOLD_LIMIT (07, R234): the member with the lowest stream position is detached. -/
def execBcastHoldLimit (g : Fin 48) (t : Nat) (s : State) : Host.Outcome State Fault Refusal :=
  s.perform fun s =>
    let s := s.tick t
    match (s.grp g).holding with
    | some h =>
      if h + usEt (s.regN (0x3C00 + g) 3) ≤ s.clock then
        let low := (s.attachedTo g).foldl (fun (b : Option Nat) d => match b with
          | none => some d
          | some e => if (s.sq d).taken < (s.sq e).taken then some d else some e) none
        match low with
        | some d => if (s.attachedTo g).any (fun e => (s.sq d).taken < (s.sq e).taken) then s.detach d 3 else s
        | none => s
      else s
    | none => s

end Sys2Proof.Machine
end

