-- ==== Sys2Proof/Machine/OdCond.lean ====
section
/-! DEFINITION. Machine/OdCond.lean: check 10 of the table of transaction checks (02, R587): each object's own condition, judged
against the values that would hold once the write or the whole lock commit has taken its place. -/

namespace Sys2Proof.Machine

/-- The first condition that fails, or 0. Where an object's text gives several codes and no order, codes of its values come
before those of a unit's state, and regions last: DESIGN CHOICE, log entry 23. -/
def firstCode (l : List (Bool × Nat)) : Nat :=
  match l.find? (fun e => e.1) with
  | some e => e.2
  | none => 0

/-- Put words into an object. -/
def State.putWords (s : State) (i sub : Nat) (ws : Words) : State := ws.foldl (fun s e => s.setRegW i sub e.1 e.2) s

/-- The value a one-word write gives. -/
def word0 (ws : Words) : Word := (ws.head?.map (fun e => e.2)).getD 0

/-- The state that would hold after a write, as far as check 10 looks: the values, and for PMU_RANGE the change it starts (04, R134). -/
def State.suppose (s : State) (r : Obj) (i sub : Nat) (ws : Words) : State :=
  let old := s.regN i sub
  let h := s.putWords i sub ws
  if r.hook == .pmuRange && old ≠ h.regN i sub then h.pmuRangeChange (r.unit i) sub old else h

/-- The units of `size` words that a write covers. -/
def unitsOf (size : Nat) (ws : Words) : List Nat := (ws.map (fun e => e.1 / size)).eraseDups

/-- The lines that class 0xA sources lead to from a list of lines, in `n` rounds. -/
def State.linesFrom (s : State) : Nat → List Nat → List Nat
  | 0, ls => ls
  | n + 1, ls =>
    let next := ls.flatMap (fun l => ((List.range 4).map (fun k => s.regN (0x0A00 + l) k)).filterMap
      (fun v => if v / 0x1000 = 0xA then some (v % 0x1000) else none))
    let all := (ls ++ next).eraseDups
    if all.length = ls.length then ls else s.linesFrom n all

/-- Whether a line leads back to itself (03, R100). -/
def State.lineLoops (s : State) (line : Nat) : Bool :=
  let feeds := ((List.range 4).map (fun k => s.regN (0x0A00 + line) k)).filterMap
    (fun v => if v / 0x1000 = 0xA then some (v % 0x1000) else none)
  (s.linesFrom 512 feeds).contains line

/-- Conditions of Meridian time and the event router (03). -/
def State.condTime (s h : State) (r : Obj) (i : Nat) (ws : Words) : Nat :=
  let w := fun k => (ws.map (fun e => e.2)).getD k 0
  match r.hook with
  | .lineSource => firstCode [(h.lineLoops (i - 0x0A00), 0x50)]
  | .loadCmd => firstCode [(s.syncMode = 2, 0x09)]
  | .pulse => firstCode [(!(List.range 4).any (fun k => s.regN i k = 0x4000), 0x54)]
  | .issue => firstCode
      [ ((u80 (w 0) (w 1)).toNat < s.now.toNat + 128000, 0x51)
      , ((s.teFind s.ownDevice (fld (w 3) 0 16) (fun st => st = 1)).isSome, 0x52) ]
  | _ => 0

/-- Conditions of the pin electronics and timing sets (04, 05). -/
def State.condPins (s h : State) (r : Obj) (i sub : Nat) (ws : Words) : Nat :=
  let c := r.unit i
  let v := (word0 ws).toNat
  match r.hook with
  | .peEnable => firstCode [(v = 0 && h.pmuMode c sub ≠ 0, 0x09), (v = 1 && s.sliceState c sub = 4, 0x71)]
  | .pmuMode => firstCode
      [ (v ≠ 0 && !h.enabled c sub, 0x09), (sub = 24 && v ≠ 0 && v ≠ 3 && h.looped c, 0xB3), (2000000 < h.budgetDevice, 0x0A) ]
  | .pmuRange => firstCode [(h.pmuMode c sub = 2 && !h.fiFits c sub, 0x73), (2000000 < h.budgetDevice, 0x0A)]
  | .pmuFi => firstCode [(!h.fiFits c sub, 0x73)]
  | .pmuVlim => firstCode [((h.reg (peIdx 0x07 c) sub).toInt - (h.reg (peIdx 0x08 c) sub).toInt < 500000, 0x70)]
  | .level => firstCode [(!h.levelsOk c sub 0x0A, 0x70)]
  | .clearCode => firstCode [(!h.levelsOk c sub 0x13, 0x70)]
  | .spareLane =>
    let now := s.spareLane c
    firstCode
      [ (s.seqState c = 3, 0x09), (h.looped c, 0xB3)
      , (v ≠ now && (s.sliceState c 24 = 4 || (now < 24 && (s.sliceState c now = 4 || s.sliceState c now = 5))), 0x72) ]
  | .timingSet => h.setLegal i
  | _ => 0

/-- Conditions of sequencers, streams and the pattern generator (06, 07). -/
def State.condSeq (s h : State) (r : Obj) (i sub : Nat) (ws : Words) : Nat :=
  let c := r.unit i
  let st := s.seqState c
  match r.hook with
  | .arm =>
    let a := s.armRefusal c true
    firstCode [(a ≠ 0, a), (s.restarting c, 0x07), (s.bcastGroup c ≠ 0, 0x88), (s.looped c, 0xB3)]
  | .start => firstCode [(st ≠ 2 || (s.sq c).start.isSome, 0x09)]
  | .stop => firstCode [(st = 0 || 3 < st, 0x09)]
  | .jumpRequest => firstCode [(st ≠ 3, 0x09)]
  | .vecAddr => firstCode [(ws.any (fun e => !h.clearOf (e.2.toNat / 2) 1), 0xB4)]
  | .keepalive => firstCode [(fld (h.reg i sub 2) 21 19 ≠ 0, 0x80)]
  | .bcastGroup => firstCode [(1 ≤ st && st ≤ 3, 0x8B)]
  | .bcastArm =>
    let ms := s.membersOf (c + 1)
    firstCode
      [ (ms.isEmpty, 0x8E), (ms.any (fun c => s.armRefusal c true ≠ 0), 0x09), (ms.any s.restarting, 0x07), (ms.any s.looped, 0xB3) ]
  | .apgProgram => firstCode [(ws.any (fun e => apgBad e.2), 0x89)]
  | .apgPerm => firstCode [(!(List.range 24).all (fun b => (List.range 24).any (fun k => h.regN i sub k = b)), 0x8A)]
  | .apgBounds => firstCode [(h.apgBoundsBad c, 0x8D)]
  | .apgMap => firstCode [(ws.any (fun e => 3 < fld e.2 5 3 || 23 < fld e.2 0 5 || fld e.2 8 32 ≠ 0), 0x8C)]
  | _ => 0

/-- The mask table of a step, as first line and number of lines (08, R258). -/
def State.maskTable (s : State) (c n k : Nat) : Option (Nat × Nat) :=
  if fld (s.stepWord c n k 0) 10 2 = 2 then some (fld (s.stepWord c n k 4) 0 31, (fld (s.stepWord c n k 2) 24 16 + 3) / 3)
  else none

/-- Whether an acquisition unit waits for or takes data (08, table of sequence states). -/
def State.unitBusy (s : State) (i : Nat) : Bool := 1 ≤ s.regN i 0 && s.regN i 0 ≤ 2

/-- ARM of a stamp capture or regression unit (08, R260, R266, R268, R273): its own code while it is busy, else as R214 refuses. -/
def State.gateArm (s : State) (c i busy : Nat) : Nat :=
  firstCode [(s.unitBusy i, busy), (s.seqState c = 7 || s.regN 0x0100 0x0B = 1, 0x09)]

/-- Conditions of measurement (08). -/
def State.condMeasure (s h : State) (r : Obj) (i : Nat) (ws : Words) : Nat :=
  let c := r.unit i
  let n := r.base - 0x5000
  let k := (if r.base < 0x5003 then adcIdx c n else i)
  match r.hook with
  | .adcArm =>
    let a := s.adcArmRefusal c n
    firstCode [(s.faults.adcGone.contains (c * 2 + n), 0x44), (a ≠ 0, a)]
  | .adcStop => firstCode [(!s.unitBusy k, 0x09)]
  | .adcSteps =>
    let tables := (unitsOf 6 ws).filterMap (h.maskTable c n)
    firstCode
      [ (tables.any (fun t => 0x60000000 < t.1 + t.2), 0x05)
      , (ws.any (fun e => stepWordBad (e.1 % 6) e.2 (h.stepWord c n (e.1 / 6) 0)), 0x90)
      , (s.unitBusy k, 0x92), (tables.any (fun t => !h.clearOf t.1 t.2), 0xB4) ]
  | .stampArm => s.gateArm c i 0x94
  | .stampStop => firstCode [(!s.unitBusy i, 0x09)]
  | .stampBusy => firstCode [(s.unitBusy i, 0x94)]
  | .ruArm => s.gateArm c i 0x93
  | .ruStop => firstCode [(!s.unitBusy i, 0x09)]
  | .ruBusy => firstCode [(s.unitBusy i, 0x93)]
  | _ => 0

/-- Whether parameter set `p` breaks R284 (0x00A0), R424 included. -/
def State.psetBad (s : State) (p : Nat) : Bool :=
  let w := fun k => s.reg 0x6004 0 (8 * p + k)
  let recipe := fld (w 0) 36 4
  let mode := fld (w 0) 34 2
  let delay := fld (w 2) 20 20
  let zeros := fun (ks : List Nat) => ks.all (fun k => w k = 0)
  (8 ≤ recipe && recipe ≤ 14) || mode = 3 || fld (w 0) 20 5 ≠ 0 || fld (w 2) 0 8 ≠ 0 ||
  (mode ≠ 2 && fld (w 0) 25 9 ≠ 0) || (if mode = 1 then w 1 = 0 else w 1 ≠ 0) ||
  (if mode = 2 then delay = 0 || 1000000 < delay else delay ≠ 0) || 30 < fld (w 2) 15 5 || 40 < fld (w 2) 9 6 ||
  (match recipe with
    | 1 => !zeros [4, 5, 6, 7]
    | 2 => fld (w 5) 0 8 ≠ 0 || fld (w 6) 0 8 ≠ 0 || !zeros [7]
    | 3 => w 4 = 0 || !zeros [5, 6, 7]
    | 4 => !zeros [6, 7]
    | 5 => fld (w 3) 38 2 = 3 || 47 < fld (w 3) 32 6 || fld (w 3) 0 27 ≠ 0 || !zeros [4, 5, 6, 7]
    | 15 => fld (w 3) 16 24 ≠ 0 || routineSetBad s.micro.image (w 0) (w 3)
    | _ => !zeros [3, 4, 5, 6, 7])

/-- Conditions of contexts, queues and stored replies (09, 10; 12, R368; 18, R516). -/
def State.condData (s h : State) (r : Obj) (ws : Words) : Nat :=
  let w := word0 ws
  let ctx := (h.regN 0x6000 0x00, 2097152)
  let poolLines := h.regN 0x7000 0x01
  let pool := (h.regN 0x7000 0x00, poolLines + poolLines / 8)
  let journal := [(0x5FD00000, 1048576)]
  match r.hook with
  | .ctxBase => firstCode [(meets ctx.1 ctx.2 journal, 0x30)]
  | .poolRegion => firstCode
      [ (0x60000000 < pool.1 + pool.2, 0x05), (meets pool.1 pool.2 journal, 0x30), (meets pool.1 pool.2 [ctx], 0xA9) ]
  | .replyCache =>
    let b := h.regN 0x1100 0x03
    firstCode [(meets b 720896 journal, 0x30), (meets b 720896 [ctx, pool], 0x67)]
  | .redClose | .redReset => firstCode [(0xFFFFF < fld w 20 20 + fld w 0 20, 0xA4)]
  | .bindings =>
    let g := fun m k => h.reg 0x6003 0 (2 * m + k)
    firstCode
      [ (ws.any (fun e => if e.1 % 2 = 0 then fld e.2 0 7 ≠ 0 else fld e.2 0 16 ≠ 0), 0xA0)
      , ((unitsOf 2 ws).any (fun m => 0xFFFFF < fld (g m 0) 20 20 + fld (g m 0) 8 12 || 4095 < fld (g m 1) 16 12 + fld (g m 0) 8 12), 0xA1) ]
  | .psets =>
    let ps := unitsOf 8 ws
    firstCode
      [ (ps.any h.psetBad, 0xA0)
      , (ps.any (fun p => fld (h.reg 0x6004 0 (8 * p)) 36 4 = 7 && fld (h.reg 0x6004 0 (8 * p)) 34 2 = 1), 0xA3) ]
  | .queueConfig => firstCode
      [ (ws.any (fun e => bit e.2 38 && fld e.2 0 20 = 0), 0x05)
      , (s.poolFree < (ws.filter (fun e => bit e.2 39 && !s.qEnabled e.1)).length, 0xAA) ]
  | .queueLevel => firstCode [(ws.any (fun e => h.regN 0x7011 0 e.1 < e.2.toNat), 0x05)]
  | .push =>
    firstCode ((pushQueues ws).flatMap (fun q =>
      [(s.qState q ≠ 1, 0x09), ((s.qTakeReserve q).qFull q ((ws.filter (fun e => e.1 / 1024 = q)).length / 6) ≠ 0, 0xAB)]))
  | _ => 0

/-- Conditions of the stimulus outputs (11). -/
def State.condStim (s h : State) (r : Obj) (i sub : Nat) (ws : Words) : Nat :=
  let n := r.unit i
  let v := (word0 ws).toNat
  let clrOut := !inRange (h.regN i 1) (h.reg i 3).toInt
  match r.hook with
  | .asMode => firstCode [(sub = 1 && clrOut, 0xB0), (s.asBusy n, 0xB2)]
  | .asClr => firstCode [(clrOut, 0xB0)]
  | .asBusy => firstCode [(s.asBusy n, 0xB2)]
  | .asSeq =>
    let es := unitsOf 3 ws
    let line := fun e => fld (h.reg i 7 (3 * e)) 0 31
    let lines := fun e => max 1 ((fld (h.reg i 7 (3 * e + 1)) 16 24 + 11) / 12)
    firstCode
      [ (ws.any (fun e => match e.1 % 3 with
          | 0 => fld e.2 31 9 ≠ 0
          | 1 => fld e.2 16 24 < 24 || fld e.2 0 16 = 0
          | _ => fld e.2 0 30 ≠ 0) || es.any (fun e => 0x60000000 < line e + lines e), 0xB1)
      , (s.asBusy n, 0xB2), (es.any (fun e => !h.clearOf (line e) (lines e)), 0xB4) ]
  | .ncoTable => firstCode [(0x60000000 < v + 342, 0x05), (!h.clearOf v 342, 0xB4)]
  | .asArm =>
    let a := s.asArmRefusal n
    firstCode [(a ≠ 0, a)]
  | .loopback =>
    let c := loopCluster n
    firstCode [(v = 1 && s.sliceState c 24 ≠ 1, 0xB3), (v = 1 && 1 ≤ s.seqState c && s.seqState c ≤ 3, 0x09)]
  | _ => 0

/-- Conditions of Halo (12). -/
def State.condHalo (h : State) (r : Obj) : Nat :=
  let roles := (List.range 4).map (fun p => h.portRole p)
  let ring := roles.any (fun x => x = 1)
  let rolesBad := h.portRole 2 = 1 || h.portRole 3 = 1 || (ring && h.ringSize < 3) || 1 < (roles.filter (fun x => x = 2)).length
  match r.hook with
  | .portRole | .ringSize => firstCode [(rolesBad, 0x61)]
  | .ringPos => firstCode [(h.ringSize ≤ h.ringPos, 0x61)]
  | .routes =>
    let g := fun e k => h.reg 0x1101 0 (3 * e + k)
    firstCode
      [ ((List.range 64).any (fun e => fld (g e 1) 16 24 < fld (g e 0) 16 24 || fld (g e 0) 5 7 ≠ 0 || fld (g e 1) 0 16 ≠ 0 ||
          fld (g e 2) 24 16 ≠ 0 || 24 < fld (g e 0) 0 5 || (bit (g e 0) 14 && h.ringSize ≤ fld (g e 2) 0 24)), 0x62) ]
  | _ => 0

/-- Conditions of microcode, on-chip memory, thermal and calibration objects (14, 15, 16). -/
def State.condUnits (s h : State) (r : Obj) (src : Word) (i sub : Nat) (ws : Words) (e : Env) : Nat :=
  let c := r.unit i
  let w := word0 ws
  let v := w.toNat
  match r.hook with
  | .patch =>
    let cls := i - 0x0E00
    let busy := [1, 2].any (fun k => match SMap.get (fun _ => none) s.micro.runs k with | some p => p.src ≠ src | none => false)
    let code := if v = 1 then s.imageCode cls (s.imageObj cls) else 0
    firstCode [(busy, 0xBD), (code ≠ 0, code)]
  | .routineLoad =>
    let code := s.imageCode 3 (s.imageObj 3)
    firstCode [(match s.micro.load with | some l => l.src ≠ some src | none => false, 0xBD), (code ≠ 0, code)]
  | .gate =>
    let c := fld w 0 6
    let waking := (SMap.get (fun _ => none) s.mem.waking c).isSome
    firstCode
      [ (bit w 8 && (s.seqState c ≠ 7 || waking) && s.gateBusy c, 0xB7), (!bit w 8 && s.withdrawn c, 0x09) ]
  | .scratch => firstCode [(s.seqState c = 7, 0x09), (ws.any (fun x => e.clash.any (fun k => k.1 = x.1)), 0xB5)]
  | .priority => firstCode [(ws.any (fun x => (x.1 ≤ 2 || x.1 = 11) && x.2 ≠ s.reg i sub x.1), 0xB6)]
  | .starfixRun => firstCode [(ws.any (fun x => (List.range 40).any (fun k =>
      let c := 40 * x.1 + k
      c < 48 && bit x.2 k && (s.seqState c = 7 || s.withdrawn c))), 0x09)]
  | .values =>
    let code := s.valuesBad c (ws.map (fun x => x.2))
    firstCode [(code ≠ 0, code)]
  | .monitor =>
    let g := fun m k => h.reg 0x0710 k m
    let bad := fun m =>
      let f := g m 3
      let n := fld f 4 4
      let mm := fld f 0 4
      n = 0 || mm < n || mm = 0 || 8 < mm || (g m 1).toInt - (g m 0).toInt < 2 * (g m 2).toInt
    firstCode
      [ (ws.any (fun x => !monitorLive x.1 && x.2 ≠ 0), 0x05), (ws.any (fun x => monitorLive x.1 && bad x.1), 0x4B) ]
  | _ => 0

/-- Conditions of locks, faults, the Almanac, device state and the service port (02, 17, 18, 19, 20). -/
def State.condDevice (s : State) (r : Obj) (src : Word) (ws : Words) (e : Env) : Nat :=
  let w := fun k => (ws.map (fun e => e.2)).getD k 0
  let v := (w 0).toNat
  match r.hook with
  | .acquire => s.acquireRefusal src (ws.map (fun e => e.2))
  | .clear => s.clearRefusal e.relocked e.rebuilt
  | .inject => s.injectRefusal (w 0)
  | .almanacCommit => firstCode [(match s.alm.run with | some k => k.src ≠ src | none => false, 0x32)]
  | .factoryWrite => firstCode
      [(s.regB 0x0000 0x07, 0x34), (!Config.factoryValid (s.listedWords 0xF020 0), 0x35)]
  | .stateCmd => firstCode
      [ (v = 1 && (s.seqsIn 1 ++ s.seqsIn 2) ≠ [], 0x09), (v = 2 && s.regN 0x0100 0x0B = 1, 0x09) ]
  | .clusterReset => firstCode [(s.seqState v = 7 || s.withdrawn v, 0x09)]
  | .factoryEnter => firstCode [(!s.regB 0x0100 0x05, 0x09)]
  | .mbxInAck => firstCode [(s.regN 0x1200 0x02 < v, 0x6C)]
  | .mbxOut => firstCode [(256 < s.svc.outbox.length + ws.length, 0x6D)]
  | _ => 0

/-- Check 10: the abort code of an object's own condition, or 0. `h` is the state that would hold after the write or commit. -/
def State.odCond (s h : State) (r : Obj) (src : Word) (i sub : Nat) (ws : Words) (e : Env) : Nat :=
  match r.hook with
  | .none => 0
  | .lineSource | .loadCmd | .pulse | .issue => s.condTime h r i ws
  | .peEnable | .pmuMode | .pmuRange | .pmuFi | .pmuVlim | .level | .clearCode | .spareLane | .timingSet => s.condPins h r i sub ws
  | .arm | .start | .stop | .jumpRequest | .vecAddr | .keepalive | .bcastGroup | .bcastArm | .apgProgram | .apgPerm | .apgBounds
  | .apgMap => s.condSeq h r i sub ws
  | .adcArm | .adcStop | .adcSteps | .stampArm | .stampStop | .stampBusy | .ruArm | .ruStop | .ruBusy => s.condMeasure h r i ws
  | .ctxBase | .poolRegion | .replyCache | .redClose | .redReset | .bindings | .psets | .queueConfig | .queueLevel | .push =>
    s.condData h r ws
  | .asMode | .asClr | .asBusy | .asSeq | .ncoTable | .asArm | .loopback => s.condStim h r i sub ws
  | .portRole | .ringSize | .ringPos | .routes => h.condHalo r
  | .patch | .routineLoad | .gate | .scratch | .priority | .starfixRun | .values | .monitor => s.condUnits h r src i sub ws e
  | .acquire | .clear | .inject | .almanacCommit | .factoryWrite | .stateCmd | .clusterReset | .factoryEnter | .mbxInAck | .mbxOut =>
    s.condDevice r src ws e
  | _ => 0

end Sys2Proof.Machine
end

