-- ==== Sys2Proof/Machine/Balls.lean ====
section
/-! DEFINITION. Machine/Balls.lean: the ball grid: what each of its 64 rows and 64 columns carries (21, R559 to R564). -/

namespace Sys2Proof.Machine

/-- What a position of the grid carries. The pairs name the leg, P first. -/
inductive Ball where
  | absent
  | channel (n : Nat)
  | stim (m : Nat)
  | haloTx (p l : Nat) (neg : Bool)
  | haloRx (p l : Nat) (neg : Bool)
  | pcieTx (l : Nat) (neg : Bool)
  | pcieRx (l : Nat) (neg : Bool)
  | event (m : Nat)
  | signal (name : String)
  | rail (name : String)
  | vss
  | reserved
  deriving DecidableEq, Repr

/-- The row and column of channel `n` (R561). -/
def channelBall (n : Nat) : Nat × Nat :=
  let c := n / 24
  let k := c % 24
  let v := k / 2
  let h := k % 2
  let i := n % 24 / 6
  let j := n % 24 % 6
  (8 + 4 * v + i, if c < 24 then 12 * h + 2 * j + i % 2 else 52 - 12 * h + 2 * j + i % 2)

/-- The channel at a position of the channel blocks, if it is no VSS (R560, R561). -/
def channelAt (r col : Nat) : Option Nat :=
  let v := (r - 8) / 4
  let i := (r - 8) % 4
  let right := decide (40 ≤ col)
  let x := if right then col - 40 else col
  let h := if right then 1 - x / 12 else x / 12
  let y := x % 12
  if y % 2 = i % 2 then some (24 * (2 * v + h + if right then 24 else 0) + 6 * i + y / 2) else none

/-- The signal balls that the table of other signal balls names one by one (R562). -/
def namedBalls : List (Nat × Nat × String) :=
  [ (60, 12, "AS_RTN0"), (60, 51, "AS_RTN1"), (60, 8, "CALF0"), (60, 10, "CALS0"), (60, 47, "CALF1"), (60, 49, "CALS1")
  , (60, 16, "VREFP"), (60, 18, "VREFN"), (5, 30, "HREF0_P"), (5, 31, "HREF0_N"), (58, 30, "HREF1_P"), (58, 31, "HREF1_N")
  , (11, 26, "PERST_N"), (11, 27, "CLKREQ_N"), (11, 30, "PE_REFCLK_P"), (11, 31, "PE_REFCLK_N"), (56, 24, "MREF_P"), (56, 25, "MREF_N")
  , (56, 28, "SYNC_IN_P"), (56, 29, "SYNC_IN_N"), (56, 32, "SYNC_OUT_P"), (56, 33, "SYNC_OUT_N")
  , (54, 32, "LVLCLR_N"), (54, 33, "RESET_N"), (54, 34, "ECLIPSE_N"), (54, 35, "FAULT_N"), (54, 36, "TESTMODE")
  , (54, 37, "BOOT_SEL0"), (54, 38, "BOOT_SEL1") ] ++
  [ (52, 24, "SVC_SCK"), (52, 25, "SVC_SDI"), (52, 26, "SVC_SDO"), (52, 27, "SVC_SEL_N"), (52, 28, "SVC_RDY"), (52, 29, "SVC_ATTN_N")
  , (52, 31, "TCK"), (52, 32, "TMS"), (52, 33, "TDI"), (52, 34, "TDO"), (52, 35, "TRST_N")
  , (52, 37, "PMB_SCL"), (52, 38, "PMB_SDA"), (52, 39, "PMB_ALERT_N") ]

/-- The stimulus output at a position (R562). -/
def stimAt (r col : Nat) : Option Nat :=
  let base := if r = 57 then 0 else 8
  let at_ := fun (first m0 : Nat) => if first ≤ col ∧ (col - first) % 3 = 0 ∧ (col - first) / 3 < 8 then some (m0 + base + (col - first) / 3) else none
  if r ≠ 57 ∧ r ≠ 59 then none else (at_ 1 0).or (at_ 41 16)

/-- The reserved balls (R562). -/
def reservedAt (r col : Nat) : Bool :=
  ((r = 5 || r = 58) && ((24 ≤ col && col ≤ 29) || (32 ≤ col && col ≤ 39))) || (r = 11 && col = 28)

/-- The signal or reserved ball at a position outside the channel blocks (R562). -/
def otherSignal (r col : Nat) : Option Ball :=
  let x := col - 24
  let middle := decide (24 ≤ col ∧ col ≤ 39)
  match stimAt r col, namedBalls.find? (fun e => e.1 = r && e.2.1 = col) with
  | some m, _ => some (.stim m)
  | none, some e => some (.signal e.2.2)
  | none, none =>
    if reservedAt r col then some .reserved
    else if !middle then none
    else match r with
      | 1 => some (.haloTx (x / 8) (x % 8 / 2) (x % 2 = 1))
      | 3 => some (.haloRx (x / 8) (x % 8 / 2) (x % 2 = 1))
      | 62 => some (.haloTx (2 + x / 8) (x % 8 / 2) (x % 2 = 1))
      | 60 => some (.haloRx (2 + x / 8) (x % 8 / 2) (x % 2 = 1))
      | 7 => some (.pcieTx (x / 2) (x % 2 = 1))
      | 9 => some (.pcieRx (x / 2) (x % 2 = 1))
      | 54 => if x < 8 then some (.event x) else none
      | _ => none

/-- The supply or ground at a position that carries no signal (R564). -/
def supplyAt (r col : Nat) : Ball :=
  if 24 ≤ col ∧ col ≤ 39 then
    if r = 12 then (if col ≤ 35 then .rail "VDD_IO" else .rail "VDD_FL")
    else if [14, 15, 47, 48, 49].contains r then .rail "VDD_SER"
    else if [17, 18, 45].contains r then .rail "VDD_MEM"
    else if [20, 21, 44].contains r then .rail "VDDQ_MEM"
    else if [23, 24, 41, 42].contains r then .rail "VDD_TD"
    else if [26, 27, 29, 30, 32, 33, 35, 36, 38, 39].contains r then .rail "VDD_CORE"
    else .vss
  else if r < 4 then (if r % 2 = 0 then .rail "VPH" else .rail "VPL")
  else if r = 4 ∨ r = 6 ∨ r = 61 ∨ r = 63 then .rail "VDD_PE"
  else .vss

/-- What row `r`, column `col` of the grid carries (R559 to R564). -/
def ballAt (r col : Nat) : Ball :=
  if (r < 4 ∨ 60 ≤ r) ∧ (col < 6 ∨ 58 ≤ col) then .absent
  else if 8 ≤ r ∧ r ≤ 55 ∧ (col < 24 ∨ 40 ≤ col) then
    match channelAt r col with
    | some n => .channel n
    | none => .vss
  else (otherSignal r col).getD (supplyAt r col)

end Sys2Proof.Machine
end

