-- ==== Sys2Proof/Machine/Defaults.lean ====
section
/-! DEFINITION. Machine/Defaults.lean: the Almanac banks and the loading of defaults (02, R45 to R47; 14, R421; 15, R431; 18, R504 to R513). -/

namespace Sys2Proof.Machine

/-- User bank `n`: 1 is A, 2 is B. -/
def State.bank (s : State) (n : Nat) : Bank := if n = 2 then s.alm.bankB else s.alm.bankA

/-- Put user bank `n`. -/
def State.setBank (s : State) (n : Nat) (b : Bank) : State :=
  if n = 2 then { s with alm := { s.alm with bankB := b } } else { s with alm := { s.alm with bankA := b } }

/-- The objects of ALMANAC that show the banks follow them, with bank `active` in use (18, table 0x0300). -/
def State.showBanks (s : State) (active : Nat) : State :=
  let gen := fun b : Bank => if b.st = 1 then b.gen else 0
  let s := s.setRegN 0x0300 0x01 active
  let s := s.setRegN 0x0300 0x02 s.alm.bankA.st
  let s := s.setRegN 0x0300 0x03 s.alm.bankB.st
  let s := s.setRegN 0x0300 0x04 (gen s.alm.bankA)
  let s := s.setRegN 0x0300 0x05 (gen s.alm.bankB)
  s.setRegN 0x0300 0x08 (if active = 0 then 0 else (s.bank active).bytes)

/-- The VALID banks, the higher GENERATION first. -/
def State.validBanks (s : State) : List Nat :=
  let l := [1, 2].filter (fun n => (s.bank n).st = 1)
  if l.length = 2 && s.alm.bankA.gen < s.alm.bankB.gen then [2, 1] else l

/-- Choose the active user bank (18, R511 to R513; 19, R531): a bank left WRITING by a reset is INVALID; `bad` names the flash areas
whose signature fails now (bit 0 bank A, bit 1 bank B, bit 2 the factory Almanac); `ignore` when the straps leave user banks out. -/
def State.chooseBank (s : State) (bad : BitVec 3) (ignore : Bool) : State :=
  let s := match s.alm.run with
    | none => s
    | some k =>
      let s := (s.setBank k.bank { s.bank k.bank with st := 2, entries := [] }).logPut 0x0103 (wd k.bank) (wd k.gen)
      { s with alm := { s.alm with run := none } }
  let first := s.validBanks.head?
  let s := [1, 2].foldl (fun s n => s.when ((s.bank n).st = 1 && bad.getLsbD (n - 1)) (fun s => s.setBank n { s.bank n with st := 2 })) s
  let used := s.validBanks.head?
  let s := s.when (first ≠ used) (fun s => s.logPut 0x0104 (wd (first.getD 0)) (wd (used.getD 0)))
  let s := s.setRegN 0x0300 0x0A (if s.regN 0x0300 0x0A = 0 then 0 else if bad.getLsbD 2 then 2 else 1)
  let s := s.when (s.regN 0x0300 0x0A ≠ 1) (fun s => s.logPut 0x0106 (s.reg 0x0300 0x0A) 0)
  s.showBanks (if ignore then 0 else used.getD 0)

/-- The entries that user bank `active` (3) and the factory Almanac (1) contribute. -/
def State.levelEntries (s : State) (level : Nat) : SMap (Option Word) :=
  if level = 1 then (if s.regN 0x0300 0x0A = 1 then s.alm.factory else [])
  else if s.regN 0x0300 0x01 = 0 then [] else (s.bank (s.regN 0x0300 0x01)).entries

/-- The object of a store key, as index * 256 + sub. -/
def objOf (k : Nat) : Nat := k / 134217728

/-- The objects that some entries concern, in order. -/
def entryObjects (es : SMap (Option Word)) : List Nat := (es.map (fun e => objOf e.1)).eraseDups

/-- The words that some entries give an object. -/
def entryWords (es : SMap (Option Word)) (ob : Nat) : Words :=
  es.filterMap (fun e => if objOf e.1 = ob then e.2.map (fun v => (e.1 - odKey (ob / 256) (ob % 256) 0, v)) else none)

/-- Check 10 of an entry at a default load: regions are placed by R431 instead. -/
def State.entryCond (h : State) (r : Obj) (i sub : Nat) (ws : Words) : Nat :=
  match r.hook with
  | .ctxBase | .replyCache => 0
  | .poolRegion =>
    let lines := h.regN 0x7000 0x01
    if 0x60000000 < h.regN 0x7000 0x00 + lines + lines / 8 then 0x05 else 0
  | _ => h.odCond h r h.internal i sub ws Env.calm

/-- Why an entry is ignored (02, R47), or 0: a write of its value would be refused. An entry that names no RWS object is
ignored too. `h` holds the values resolved so far. -/
def State.entryCode (h : State) (ob : Nat) (ws : Words) : Nat :=
  match odFind (ob / 256) (ob % 256) with
  | none => 0x01
  | some r =>
    if r.acc ≠ .rws then 0x03
    else if ws.any (fun e => r.words ≤ e.1) then 0x04
    else if !r.valuesOk ws then 0x05
    else h.entryCond r (ob / 256) (ob % 256) ws

/-- Put an object back to its ROM default, every word. -/
def State.clearObject (s : State) (i sub : Nat) : State := (s.listedWords i sub).foldl (fun s e => s.clearReg i sub e.1) s

/-- Put the value that a level gives an object. -/
def State.putEntry (s : State) (level ob : Nat) : State :=
  (s.clearObject (ob / 256) (ob % 256)).putWords (ob / 256) (ob % 256) (entryWords (s.levelEntries level) ob)

/-- Resolve the objects of one level (02, R45, R47), with the objects whose entry stands: every value is put, then each is judged, and
the values that a write would refuse go back to those of the level below. Judged against its level as a whole, over the level below:
DESIGN CHOICE, log entry 37. -/
def State.resolveLevel (s : State) (level from_ : Nat) : State × List Nat :=
  let obs := entryObjects (s.levelEntries level)
  let below := s
  let h := obs.foldl (fun s ob => s.putEntry level ob) s
  obs.foldl (fun x ob =>
    let code := x.1.entryCode ob (entryWords (x.1.levelEntries level) ob)
    if code = 0 then (x.1, x.2 ++ [ob])
    else
      let s := (x.1.clearObject (ob / 256) (ob % 256)).putWords (ob / 256) (ob % 256) (below.listedWords (ob / 256) (ob % 256))
      ((s.addReg 0x0300 0x0B 1).logPut 0x0105 (wd (ob * 2 ^ 16 + code)) (wd from_), x.2)) (h, [])

/-- Place the system regions (15, R431; 18, R516): a region that meets one already placed, or the journal, takes its ROM default. -/
def State.placeRegions (s : State) : State :=
  let journal := (0x5FD00000, 1048576)
  let ctx := fun s : State => (s.regN 0x6000 0x00, 2097152)
  let pool := fun s : State => (s.regN 0x7000 0x00, s.regN 0x7000 0x01 + s.regN 0x7000 0x01 / 8)
  let past := fun (a : Nat × Nat) l => meets a.1 a.2 l
  let s := s.when (past (ctx s) [journal]) (fun s => (s.clearReg 0x6000 0x00).logPut 0x0109 (wd 0x6000) 0)
  let s := s.when (past (pool s) [journal, ctx s]) (fun s =>
    ((s.clearReg 0x7000 0x00).clearReg 0x7000 0x01).logPut 0x0109 (wd 0x7000) 0)
  s.when (past (s.regN 0x1100 0x03, 720896) [journal, ctx s, pool s]) (fun s =>
    (s.clearReg 0x1100 0x03).logPut 0x0109 (wd 0x1100) 0)

/-- Activate the resolved microcode images as if APPLY or LOAD had been written (14, R421); an image of zeros is none. -/
def State.activateImages (s : State) : State :=
  [1, 2, 3].foldl (fun s cls =>
    let g := s.imageObj cls
    if (s.listedWords (0x0E00 + cls) 0).isEmpty then s
    else
      let code := s.imageCode cls g
      if code ≠ 0 then s.logPut 0x0903 (wd (0x0E00 + cls)) (wd code)
      else if cls = 3 then s.loadRoutines none (imageWords g)
      else s.applyPatch cls none (imageWords g)) s

/-- The effect rule of a key's object. -/
def effOf (k : Nat) : Eff :=
  match odFind (objOf k / 256) (objOf k % 256) with
  | some r => r.eff
  | none => .imm

/-- Load the defaults of every object (02, R45; 19, BRINGUP step 2): user bank over factory Almanac over ROM; what has another effect
rule than immediate is active with the value resolved. -/
def State.loadDefaults (s : State) : State :=
  let s := s.setRegN 0x0300 0x0B 0
  let s := (s.resolveLevel 1 1).1
  let s := (s.resolveLevel 3 (s.regN 0x0300 0x01 + 1)).1
  let s := s.placeRegions
  let s := s.activateKeys (fun k => effOf k ≠ .imm)
  s.activateImages

/-- `z` with what is stored in flash, and the identity of the banks, as in `s`. -/
def State.withStored (z s : State) : State :=
  { z with alm := s.alm, regs := s.regs.filter (fun e => objOf e.1 / 256 = 0x0300) }

/-- The resolved default of an object and where it comes from (02, R45 to R47, table DESCRIBE reply: 0 ROM, 1 factory, 2 bank A, 3
bank B): what a load of the defaults that the banks now hold would give it. -/
def State.resolvedDefault (s : State) (r : Obj) (i sub : Nat) : Nat × List Word :=
  let ob := i * 256 + sub
  let f := (State.reset.withStored s).resolveLevel 1 1
  let u := f.1.resolveLevel 3 (s.regN 0x0300 0x01 + 1)
  let p := u.1.placeRegions
  let from_ := if p.listedWords i sub ≠ u.1.listedWords i sub then 0
    else if ob ∈ u.2 then s.regN 0x0300 0x01 + 1
    else if ob ∈ f.2 then 1 else 0
  (from_, (List.range (min 8 r.words)).map (fun w => p.reg i sub w))

/-- The words of an object in its whole value that an Almanac commit stores: those that any level or the object lists (18, R504). -/
def State.commitObject (s : State) (ob : Nat) : List (Nat × Option Word) :=
  let i := ob / 256
  let sub := ob % 256
  let keys := ((s.listedWords i sub).map (fun e => e.1) ++ (entryWords (s.levelEntries 1) ob).map (fun e => e.1)).eraseDups
  let under := fun w => ((entryWords (s.levelEntries 1) ob).find? (fun e => e.1 = w)).map (fun e => e.2)
  if keys.any (fun w => s.reg i sub w ≠ (under w).getD (romDefault (odKey i sub w))) then
    keys.map (fun w => (odKey i sub w, some (s.reg i sub w)))
  else []

/-- What an Almanac commit captures (18, R504, R506, R507): the RWS objects whose value differs from what the factory Almanac and
then the ROM give, and the size of the bank. -/
def State.captureRws (s : State) : SMap (Option Word) × Nat :=
  let obs := (s.regs.map (fun e => objOf e.1) ++ entryObjects (s.levelEntries 1)).eraseDups
  let rows := obs.filterMap (fun ob => (odFind (ob / 256) (ob % 256)).bind (fun r => if r.acc == .rws then some (ob, r.words) else none))
  let kept := (rows.map (fun x => (x.2, s.commitObject x.1))).filter (fun x => !x.2.isEmpty)
  (kept.foldl (fun m x => x.2.foldl (fun m e => SMap.set (fun _ => none) m e.1 e.2) m) [],
    4096 + (kept.map (fun x => 8 + 5 * x.1)).sum)

end Sys2Proof.Machine
end

