-- ==== Sys2Proof/Machine/PinRows.lean ====
section
/-! DEFINITION. Machine/PinRows.lean: the rows of the pin electronics that no OD write starts (04, 05). -/

namespace Sys2Proof.Machine

/-- LOAD_STROBE (04, R118). -/
def execLoadStrobe (c : Fin 48) (t : Nat) (s : State) : Host.Outcome State Fault Refusal :=
  s.perform fun s => (s.tick t).loadStrobe c

/-- LEVEL_SETTLED (04, R118 step 5): the level transitions that began 20 µs ago or earlier have settled. -/
def execLevelSettled (c : Fin 48) (t : Nat) (s : State) : Host.Outcome State Fault Refusal :=
  s.perform fun s =>
    let s := s.tick t
    s.onPe c (fun p => { p with settling := p.settling.filter (fun e => s.clock < e.1 + usEt 20) })

/-- LVLCLR_N is recognised low (04, R121, R124; 11, R335). -/
def State.lvlclrAssert (s : State) : State :=
  let s := { s with pins := { s.pins with lvlclrLow := true } }
  if s.devState = 0 then s
  else
    let s := s.logPut 0x0307 0 0
    let s := s.repeat 48 (fun c s => s.setLvlclr c 1)
    s.repeat 32 (fun n s => s.asClear n 3)

/-- LVLCLR_N returns high (04, R123, R124): outputs hold their clear codes until the next LOAD strobe. -/
def State.lvlclrRelease (s : State) : State :=
  let s := { s with pins := { s.pins with lvlclrLow := false } }
  if s.devState = 0 then s
  else
    let s := s.logPut 0x0308 0 0
    s.repeat 48 (fun c s => s.when (s.lvlclr c = 1) (fun s => s.setRegN (peIdx 0x1F c) 0xF6 (if s.devState = 7 then 3 else 2)))

/-- LVLCLR_ASSERT (04, R121, R122). -/
def execLvlclrAssert (t : Nat) (s : State) : Host.Outcome State Fault Refusal :=
  s.perform fun s => (s.tick t).lvlclrAssert

/-- LVLCLR_RELEASE (04, R123). -/
def execLvlclrRelease (t : Nat) (s : State) : Host.Outcome State Fault Refusal :=
  s.perform fun s => (s.tick t).lvlclrRelease

/-- PMU_RANGE_SETTLED (04, R137). -/
def execPmuRangeSettled (c : Fin 48) (slice : Fin 25) (t : Nat) (s : State) : Host.Outcome State Fault Refusal :=
  s.perform fun s => (s.tick t).onSlice c slice (fun x => { x with settle := none })

/-- A written lane move completes (04, R144): the map shows the new lanes, and a fault that waited is handled. -/
def State.laneMoveDone (s : State) (c : Nat) : State :=
  match (s.pe c).moving with
  | none => s
  | some m => ((s.onPe c (fun p => { p with moving := none })).showMap c m.2).peNext c

end Sys2Proof.Machine
end

