-- ==== Sys2Proof/Machine/Startup.lean ====
section
/-! DEFINITION. Machine/Startup.lean: power-up, BRINGUP, the built-in test and the resets (19). -/

namespace Sys2Proof.Machine

/-! ## Power-on and cold reset (R528 to R539) -/

/-- What a power-on or cold reset leaves (R539): the flash, its lifetime counts, the spare rows, the levels of LVLCLR_N and the
TAP, which have resets of their own; everything else as in `State.reset`. `last` is LAST_RESET. -/
def State.coldState (s : State) (last : Nat) : State :=
  let kept := [(0x0300, 0x06), (0x0300, 0x07), (0x0300, 0x0A), (0x0400, 0x02)]
  let s' := { State.reset with
    pending := s.pending
    alm := { s.alm with head := [], held := [] }
    pins := { State.reset.pins with lvlclrLow := s.pins.lvlclrLow }
    therm := { State.reset.therm with sets := s.therm.sets }
    host := HostSt.idle (s.host.gen + 1)
    tap := s.tap }
  let s' := kept.foldl (fun s' e => s'.setReg e.1 e.2 (s.reg e.1 e.2)) s'
  let s' := s'.when s.pins.lvlclrLow (fun s' => s'.repeat 48 (fun c s' => s'.setRegN (peIdx 0x1F c) 0xF6 1))
  let s' := s'.repeat 64 (fun p s' => s'.setRegW 0x0D01 0 p (at_ 36 (fld (s.reg 0x0D01 0 p) 36 4)))
  (s'.addReg 0x0400 0x02 1).setRegN 0x0100 0x06 last

/-- POWER_ON (R528): the first rail rises. -/
def execPowerOn (t : Nat) (s : State) : Host.Outcome State Fault Refusal :=
  if s.devState = 0 then s.performReset fun s => s.coldState 1 else s.perform fun s => s.tick t

/-- POWER_OFF (R528; table of device states): supplies removed. What the next power-on keeps stands meanwhile. -/
def execPowerOff (t : Nat) (s : State) : Host.Outcome State Fault Refusal :=
  s.performReset fun s => (((s.tick t).coldState 1).setReg 0x0400 0x02 (s.reg 0x0400 0x02)).setRegN 0x0100 0x00 0

/-- COLD_RESET (R530): RESET_N (or `perst` PERST_N) is recognised low. -/
def execColdReset (perst : Bool) (t : Nat) (s : State) : Host.Outcome State Fault Refusal :=
  if s.devState = 0 then s.perform fun s => s.tick t
  else s.performReset fun s =>
    let low := s.start
    let s := (s.tick t).coldState (if perst then 4 else 2)
    { s with start := { s.start with resetLow := low.resetLow || !perst, perstLow := low.perstLow || perst } }

/-- RESET_RELEASE (R531): the rails are in range and both reset balls are high; the straps are sampled, BRINGUP starts. -/
def execResetRelease (bootSel : Fin 4) (testmode : Bool) (t : Nat) (s : State) : Host.Outcome State Fault Refusal :=
  s.perform fun s =>
    if s.devState ≠ 1 then s.tick t
    else
      let s := s.tick t
      let s := (s.setRegN 0x0100 0x04 bootSel).setRegN 0x0100 0x05 (b2n testmode)
      let s := { s with start := { s.start with resetLow := false, perstLow := false, began := s.start.timer } }
      (s.setRegN 0x0100 0x08 1).setRegN 0x0100 0x00 2

/-! ## BRINGUP (R536) -/

/-- What loaded values bring about beside being there (BRINGUP step 2): the Constellation map shows (04, R138), enabled queues take
their reserve (10, R307), the sync state follows MODE (03), members of a group show it (07), outputs switch to their range (11). -/
def State.adoptDefaults (s : State) : State :=
  let s := s.repeat 48 (fun c s => s.when (s.spareLane c < 24) (fun s => s.showMap c (s.spareLane c)))
  let s := ((s.listedWords 0x7010 0).filter (fun e => bit e.2 39)).foldl
    (fun s e => (s.setRegW 0x7010 0 e.1 (setBit e.2 39 false)).qConfig e.1 e.2) s
  let mode := s.regN 0x0900 0x03
  let s := (s.setRegN 0x0900 0x03 0).modeTo mode
  let s := s.repeat 4 (fun p s => s.syncPortJudge p)
  let s := s.repeat 48 (fun c s => s.when (s.bcastGroup c ≠ 0) (fun s => s.setRegN (seqIdx 0x20 c) 9 1))
  let s := s.repeat 32 (fun n s => s.when (s.actN (asIdx n) 1 ≠ 0 || s.act? (asIdx n) 3 ≠ 0) (fun s =>
    s.onOut n (fun x => { x with range := s.actN (asIdx n) 1, clr := (s.act? (asIdx n) 3).toInt })))
  s

/-- The thermal model starts as the housekeeping domain locks (16, R455): every node at T_REF, and the bands that this gives. -/
def State.modelStart (s : State) : State :=
  let tref := s.reg 0x0700 0
  let band := wd (bandNext 0 tref.toInt)
  let s := s.repeat 64 (fun n s => (s.setRegW 0x0701 0 n tref).setRegW 0x0701 2 n band)
  let s := s.repeat 48 (fun c s => (s.setRegW 0x0701 4 c tref).setRegW 0x0701 5 c band)
  (s.setReg 0x0700 1 tref).setReg 0x0700 3 band

/-- BRINGUP step 2, with the VOUT_MODE that the regulator gives. -/
def State.bringupLoad (s : State) (badFlash : BitVec 3) (vout : Option (BitVec 8)) : State :=
  let sel := s.regN 0x0100 0x04
  let strap := sel = 1 ∨ sel = 3
  let s := s.chooseBank badFlash strap
  let invalid := s.validBanks = [] ∧ (s.alm.bankA.st = 2 ∨ s.alm.bankB.st = 2)
  let s := s.setRegN 0x0100 0x0F (b2n strap + 2 * b2n invalid + 4 * b2n (s.regN 0x0300 0x0A ≠ 1))
  let s := s.loadDefaults.adoptDefaults
  let s := s.journalEvent 1 0 (s.reg 0x0400 0x02)
  (s.logPut 0x0108 (wd (if s.regN 0x0100 0x06 = 1 then 1 else 2)) 0).voutRead vout

/-- BRINGUP step 3 (03, R81; 05, R174): the edge-timing domains that have not locked, and the sources whose other domains have not;
the thermal model starts (16, R455). -/
def State.bringupLock (s : State) (domains : List (Fin 48 × Fin 7)) (unlocked : List (Fin 512)) : State :=
  let s := s.repeat 48 (fun c s => s.setRegW 0x0900 0x13 c 0x7F)
  let s := domains.foldl (fun s e => s.faultRaise e.1.val 0x04 2 (wd e.2.val) false) s
  (unlocked.foldl (fun s u => s.faultRaise u.val 0x1E 3 0 false) s).modelStart

/-- The ports that step 5 trains: those with ENABLE 1, unless the straps isolate the device (R531). -/
def State.portsStart (s : State) : State :=
  if s.regN 0x0100 0x04 = 3 then s
  else s.repeat 4 (fun p s => s.when (s.regB (0x1110 + p) 0x00) (fun s => s.setRegN (0x1110 + p) 0x07 1))

/-- BRINGUP ends (table of device states; R532, R533). -/
def State.bringupEnd (s : State) : State :=
  let s := s.setRegN 0x0100 0x08 0
  let s := s.setRegN 0x0100 0x09 ((s.start.timer - s.start.began + s.clock) / usEt 1)
  let s := s.setReg80 0x0100 0x0A s.now
  if s.devState = 7 then s.setReg 0x0100 0x0F (setBit (s.reg 0x0100 0x0F) 3 true)
  else if s.regN 0x0100 0x0F ≠ 0 then s.setRegN 0x0100 0x00 6
  else if s.regN 0x0100 0x04 = 2 then (s.setRegN 0x0100 0x00 5).setRegN 0x0100 0x0B 1
  else s.setRegN 0x0100 0x00 3

/-- BRINGUP_STEP_DONE (R536): the step in progress is done. Step 1 leaves HBM zero, as a reset leaves it, and the log empty. -/
def execBringupStepDone (domains : List (Fin 48 × Fin 7)) (unlocked : List (Fin 512)) (boot : BootRead) (t : Nat) (s : State) :
    Host.Outcome State Fault Refusal :=
  s.perform fun s =>
    let s := s.tick t
    let next := fun s : State => s.addReg 0x0100 0x08 1
    match s.regN 0x0100 0x08 with
    | 1 => next { s with log := State.reset.log }
    | 2 => next (s.bringupLoad boot.badFlash boot.vout)
    | 3 => next (s.bringupLock domains unlocked)
    | 4 => next ((s.repeat 48 (fun c s => ((s.quickStart c).quickDone c).adoptBand c)).setRegN 0x0800 6 (s.clock / usEt 1)).portsStart
    | 5 => s.bringupEnd
    | _ => s

/-- BIST_DONE (R534): the built-in test ends; `failed` are the groups of BIST_RESULT that failed. -/
def execBistDone (failed : BitVec 5) (t : Nat) (s : State) : Host.Outcome State Fault Refusal :=
  s.perform fun s =>
    let s := s.tick t
    if s.regN 0x0100 0x0B ≠ 1 then s
    else (s.setRegN 0x0100 0x0B (if failed = 0 then 2 else 3)).setRegN 0x0100 0x0C failed.toNat

/-! ## Warm reset (R540, R541) -/

/-- A region of HBM is written zero: its stored lines are, the others read so. A context in the RESET state of R295 is such a line. -/
def State.zeroLines (s : State) (a n : Nat) : State :=
  let ls : List Nat := ((s.hbm.map (fun (e : Host.Cell) => e.1 / 32)) ++ s.posted.map (fun e => e.1)).eraseDups.filter (fun l => a ≤ l && l < a + n)
  ls.foldl (fun s l => s.hbmPut l 0) s

/-- The items that a queue holds, an OPEN packet as one. -/
def QState.items (x : QState) : Nat :=
  (x.cells.filter (fun c => c.pkt.isNone && c.last)).length + (x.cells.filterMap (fun c => c.pkt)).eraseDups.length

/-- The pool is rebuilt (R541): every queue is emptied, and one that held cells gets a QUEUE_GAP cell with CAUSE RESET. -/
def State.rebuildPool (s : State) : State :=
  let held := (s.queues.filter (fun e => !e.2.cells.isEmpty)).map (fun e => (e.1, e.2.items, e.2.cells.length))
  let s := (s.queues.map (fun e => e.1)).foldl (fun s q => s.setQueue q { s.queue q with cells := [], broken := false, opens := [] }) s
  held.foldl (fun s h =>
    let l := s.cellLine h.1 (gapLine 3 h.2.1 h.2.2 s.now s.now)
    s.qPut h.1 0 [⟨0, true, true, none, 48, true, l, 0⟩]) s

/-- R541: the regions whose base or size has been written since they were placed move, and what moves is initialised. -/
def State.moveRegions (s : State) : State :=
  let moved := fun i sub => s.reg i sub ≠ s.act? i sub
  let ctx := moved 0x6000 0x00
  let pool := moved 0x7000 0x00 ∨ moved 0x7000 0x01
  let reply := moved 0x1100 0x03
  let s := s.when ctx (fun s => (s.activate 0x6000 0x00).zeroLines (s.regN 0x6000 0x00) 2097152)
  let s := s.when pool (fun s => ((s.activate 0x7000 0x00).activate 0x7000 0x01).rebuildPool)
  s.when reply (fun s => { (s.activate 0x1100 0x03) with halo := { s.halo with requesters := [] } })

/-- A commit of the Almanac is aborted by a warm reset (18, R511). Its command ends with 0x0033: DESIGN CHOICE, log entry 26. -/
def State.commitAbort (s : State) : State :=
  match s.alm.run with
  | none => s
  | some k =>
    let s := (s.setBank k.bank { s.bank k.bank with st := 2, entries := [] }).logPut 0x0103 (wd k.bank) (wd k.gen)
    let s := { s with alm := { s.alm with run := none } }
    ((s.showBanks (s.regN 0x0300 0x01)).setRegN 0x0300 0x09 0).endCmd k.src 0x0300 0x00 0 0x33

/-- WARM_RESET is accepted (R540, steps 1 to 7; 20, R556). -/
def State.warmReset (s : State) (src : Word) : State :=
  let before := if s.devState = 7 then s.faults.before else s.devState
  let s := s.eclipsePins 2 2
  let s := s.repeat 48 (fun c s => ((s.abortRun c 3).measureCut c 2).calAbort c)
  let s := s.bistAbort.commitAbort
  let broken := s.lockSlots.map (fun n => (n, s.lockOwner n, s.lockFirst n, s.lockLast n, (s.stagedIn n).length))
  let s := ({ s with host := HostSt.idle (s.host.gen + 1) }).lockPathReset false (fun _ => true)
  let s := s.settleQueues (fun _ => true)
  let s := (s.red.cache.map (fun e => e.1)).foldl (fun s n => s.writeBack n) s
  let s := s.repeat 64 (fun n s => s.setRegN (0x0920 + n) 0x00 0)
  let s := ({ (s.repeat 48 (fun c s => s.clearBanks c)) with mem := { s.mem with leaked := [] } } : State).setRegN 0x7000 0x03 0
  let s := s.moveRegions
  let s := s.repeat 66 (fun u s => s.when (s.unitLive u) (fun s => s.unitReload u))
  let s := s.repeat 48 (fun c s => s.repeat 25 (fun n s =>
    ((s.clearReg (peIdx 0x00 c) n).clearReg (peIdx 0x01 c) n).clearReg (peIdx 0x03 c) n))
  let s := s.repeat 32 (fun n s => s.clearReg (asIdx n) 0x00)
  let s := (s.alm.held.filter (fun x => x.dst == ReplyTo.service)).foldl (fun s x => s.deliver x ⟨7, 0, []⟩) s
  let s := { s with alm := { s.alm with held := s.alm.held.filter (fun x => x.dst ≠ ReplyTo.service) } }
  let s := (s.addReg 0x0100 0x07 1).setRegN 0x0100 0x06 3
  { (s.setRegN 0x0100 0x00 2) with start := { s.start with warm := some ⟨src, before, s.now, s.clock, broken⟩ } }

/-- WARM_RESET_DONE (R540): the entries are made, and the device enters ECLIPSE, RECOVERY or READY; `unlocked` are the sources whose
domains are found unlocked. -/
def execWarmResetDone (unlocked : List (Fin 512)) (t : Nat) (s : State) : Host.Outcome State Fault Refusal :=
  s.perform fun s =>
    let s := s.tick t
    match s.start.warm with
    | none => s
    | some w =>
      let s := { s with start := { s.start with warm := none } }
      let s := s.journalAt 5 0 0 2 w.at_ s.internal false 0
      let s : State := w.broken.foldl (fun s b => s.lockBrokenEntries w.at_ b.1 b.2.1 b.2.2.1 b.2.2.2.1 b.2.2.2.2) s
      let s := (s.logPut 0x0108 3 0).endCmd w.src 0x0100 0x02 0 0
      let s := (s.setRegN 0x0100 0x09 ((s.clock - w.since) / usEt 1)).setReg80 0x0100 0x0A s.now
      let s := s.setRegN 0x0100 0x00 (if w.before = 6 then 6 else 3)
      let s := if s.faults.persisting = [] then s
        else
          let s := { s with faults := { s.faults with before := if w.before = 6 then 6 else 3 } }
          (s.repeat 48 (fun c s => s.setRegN (peIdx 0x1F c) 0xF6 (if s.pins.lvlclrLow then 1 else 3))).setRegN 0x0100 0x00 7
      unlocked.foldl (fun s u => s.faultRaise u.val 0x1E 3 0 false) s

/-! ## Cluster reset (R542) -/

/-- The effects of a cluster reset (R542). The end of the command status before the quick pass ends is a DESIGN CHOICE (log entry 104). -/
def State.clusterReset (s : State) (c : Nat) (src : Word) : State :=
  let s := (s.abortRun c 3).measureReset c
  let s := ((s.settleQueues (fun b => b = c)).clearBanks c).unitReload c
  let s := s.repeat 25 (fun n s => ((s.clearReg (peIdx 0x00 c) n).clearReg (peIdx 0x01 c) n).clearReg (peIdx 0x03 c) n)
  let s := (s.quickStart c).logPut 0x0108 4 (wd c)
  (s.addReg 0x0100 0x0D 1).endCmd src 0x0100 0x03 0 0

/-- Whether a cluster reset has to wait for a recovery of the cluster. -/
def State.recovering (s : State) (c : Nat) : Bool := (s.pe c).swap.isSome || (s.pe c).rehome.isSome || s.restarting c

/-- CLUSTER_RESET is accepted: it acts at once, or after the recovery that runs, its command RUNNING until then. -/
def State.clusterResetAsk (s : State) (c : Nat) (src : Word) : State :=
  if s.recovering c then { s.setCmd src 0x0100 0x03 cmdRunning with start := { s.start with waiting := s.start.waiting ++ [(c, src)] } }
  else s.clusterReset c src

/-- The cluster resets whose recovery has ended act. -/
def State.resumeResets (s : State) : State :=
  let go := s.start.waiting.filter (fun e => !s.recovering e.1)
  go.foldl (fun s e => s.clusterReset e.1 e.2) { s with start := { s.start with waiting := s.start.waiting.filter (fun e => s.recovering e.1) } }

/-- LANE_MOVE_DONE (04, R144). -/
def execLaneMoveDone (c : Fin 48) (t : Nat) (s : State) : Host.Outcome State Fault Refusal :=
  s.perform fun s => ((s.tick t).laneMoveDone c).resumeResets

/-- SLICE_SWAP_DONE (04, R144, R147). -/
def execSliceSwapDone (c : Fin 48) (t : Nat) (s : State) : Host.Outcome State Fault Refusal :=
  s.perform fun s => ((s.tick t).swapDone c).resumeResets

/-- REHOME_DONE (05, R171). -/
def execRehomeDone (c : Fin 48) (t : Nat) (s : State) : Host.Outcome State Fault Refusal :=
  s.perform fun s => ((s.tick t).rehomeDone c).resumeResets

/-- SEQ_MCHECK_DONE (14, R413 step 4). -/
def execSeqMcheckDone (c : Fin 48) (t : Nat) (s : State) : Host.Outcome State Fault Refusal :=
  s.perform fun s => ((s.tick t).mcheckDone c).resumeResets

end Sys2Proof.Machine
end

