-- ==== Sys2Proof/Machine/OdEffects.lean ====
section
/-! DEFINITION. Machine/OdEffects.lean: what an accepted write or command of each object does (02, R52; each owning chapter). -/

namespace Sys2Proof.Machine

/-! ## Writes of values -/

/-- The cluster at whose segment boundaries an object acts (02, R52: boundary). -/
def boundaryCluster (i : Nat) : Nat :=
  if i < 0x3000 then (i - 0x2000) / 0x40
  else if i < 0x4000 then (i - 0x3000) / 0x40
  else if i < 0x5000 then (i - 0x4000) / 0x20
  else i - 0x6040

/-- Values take their place under the effect rule of their object: in RUN a boundary object's words wait for the next boundary
whose close follows the write (02, R52; 06, R199). What JUMP_LINE_TARGET was is kept (06, R218). -/
def State.putValues (s : State) (r : Obj) (i sub : Nat) (ws : Words) : State :=
  let c := boundaryCluster i
  let s := if i = seqIdx 2 c ∧ sub = 2 then s.onSq c (fun q => { q with lineTargets := q.lineTargets ++ [(s.clock, s.regN i sub)] }) else s
  let s := s.putWords i sub ws
  if r.eff == .boundary && s.seqState c = 3 then
    s.onSq c (fun q => { q with writes := q.writes ++ (ws.map fun (e : Nat × Word) => (odKey i sub e.1, e.2, s.clock)) })
  else s

/-- ENABLE of a Halo port (12, table of port states): 1 takes a disabled port to DOWN unless the straps isolate the device (19, R531),
0 disables it. -/
def State.portEnable (s : State) (p : Nat) (on : Bool) : State :=
  if on then s.when (s.portState p = 0 && s.regN 0x0100 0x04 ≠ 3) (fun s => s.setRegN (0x1110 + p) 0x07 1)
  else (s.when (s.portState p ≠ 0) (fun s => s.portLost p)).setRegN (0x1110 + p) 0x07 0

/-- A DATA, SET or CLEAR transaction of a scratch bank (15, R442, R443). -/
def State.scratchWrite (s : State) (i sub : Nat) (ws : Words) : State :=
  ws.foldl (fun (s : State) (e : Nat × Word) =>
    let old := s.reg i 0 e.1
    s.setRegW i 0 e.1 (if sub = 0 then e.2 else if sub = 1 then old ||| e.2 else old &&& ~~~ e.2)) s

/-- A PUSH (10, R326): each six words one cell of kind 0xF, the words of one queue together one item. -/
def State.pushItem (s : State) (ws : Words) : State :=
  (pushQueues ws).foldl (fun s q =>
    let vs := (ws.filter (fun e => e.1 / 1024 = q)).map (fun e => e.2)
    let g := fun k => vs.getD k 0
    s.qItem q 48 ((List.range (vs.length / 6)).map (fun k =>
      mkLine 0xF 0 false (g (6 * k)) (g (6 * k + 1)) (g (6 * k + 2)) (g (6 * k + 3)) (g (6 * k + 4)) (g (6 * k + 5))))) s

/-- Words enter the outbound mailbox (20, R558). -/
def State.mbxOutAppend (s : State) (ws : Words) : State :=
  let s := { s with svc := { s.svc with outbox := s.svc.outbox ++ (ws.map fun (e : Nat × Word) => e.2) } }
  s.setRegN 0x1200 0x05 s.svc.outbox.length

/-- An accepted write of a value object takes effect. -/
def State.applyWrite (s : State) (r : Obj) (i sub : Nat) (ws : Words) : State :=
  let u := r.unit i
  let v := (word0 ws).toNat
  match r.hook with
  | .modeWrite => s.modeTo v
  | .syncPortEnable => (s.putValues r i sub ws).syncPortJudge u
  | .portEnable => (s.putValues r i sub ws).portEnable u (v = 1)
  | .portRole | .ringSize | .ringPos => (s.putValues r i sub ws).when (s.reg i sub ≠ word0 ws) (fun s => s.linksChanged)
  | .expectPeer => (s.putValues r i sub ws).linksJudged
  | .minWidth => (s.putValues r i sub ws).widthJudged u
  | .deviceNumber =>
    let old := s.reg i sub
    let s := s.putValues r i sub ws
    let s := s.when (s.syncMode = 1) (fun s => s.setRegN 0x0900 0x08 s.ownDevice)
    s.when (old ≠ word0 ws) (fun s => s.linksChanged)
  | .evtDirection =>
    let s := s.putValues r i sub ws
    s.when (v = 0) (fun s => { s with sync := { s.sync with evtOut := SMap.set (fun _ => none) s.sync.evtOut u none } })
  | .pmuRange =>
    let old := s.regN i sub
    let s := s.putValues r i sub ws
    s.when (old ≠ v) (fun s => s.pmuRangeChange u sub old)
  | .spareLane =>
    let old := s.spareLane u
    (s.putValues r i sub ws).moveLane u old v
  | .bcastGroup => (s.putValues r i sub ws).setRegN (seqIdx 0x20 u) 0x09 (if v = 0 then 0 else 1)
  | .queueConfig => ws.foldl (fun s (e : Nat × Word) => s.qConfig e.1 e.2) s
  | .queueRole => ws.foldl (fun s (e : Nat × Word) =>
      let s := s.setRegW i sub e.1 e.2
      s.setRegW 0x7015 0 e.1 (wd ((s.regN 0x7015 0 e.1 + 1) % 256))) s
  | .push => s.pushItem ws
  | .scratch => s.scratchWrite i sub ws
  | .monitor => ((ws.map (fun e => e.1)).filter monitorLive).foldl (fun s m => s.monitorRestart m) (s.putValues r i sub ws)
  | .values => s.valuesWritten u (ws.map (fun e => e.2))
  | .logMode =>
    let s := s.putValues r i sub ws
    { s with log := { s.log with windows := [] } }
  | .stampEdge => (s.putValues r i sub ws).when (s.reg i sub ≠ word0 ws) (fun s => s.gateFlag u sub s.localMt mDeadTime)
  | .mbxOut => s.mbxOutAppend ws
  | _ => s.putValues r i sub ws

/-! ## Commands -/

/-- LOAD_CMD (03, R93): 1 waits for a rising edge of SYNC_IN, 2 acts at once. -/
def State.loadCommand (s : State) (src : Word) (v : Nat) : State :=
  if v = 1 then
    let s := { s with sync := { s.sync with loads := s.sync.loads ++ [(src, s.clock)] } }
    s.setCmd src 0x0900 0x0E cmdRunning
  else s.loadTime.endCmd src 0x0900 0x0E 0 0

/-- ISSUE (03, R105): the own device arms its slot when the target includes it, and the event goes out on every port. -/
def State.issueEvent (s : State) (src : Word) (vals : List Word) : State :=
  let w := fun k => vals.getD k 0
  let target := fld (w 2) 16 24
  let id := fld (w 3) 0 16
  let line := fld (w 2) 0 9
  let own := target = 0xFFFFFF ∨ target = s.ownDevice
  let x := if own then s.teTake s.ownDevice id (u80 (w 0) (w 1)) line (bit (w 2) 9) else (0xFF, s)
  let s := x.2.originate 5 (at_ 16 target) [wd (2 ^ 36 + b2n (bit (w 2) 9) * 2 ^ 35 + line * 2 ^ 16 + id), w 0, w 1]
  s.endCmd src 0x0910 0 x.1 0

/-- CANCEL (03, R110). -/
def State.cancelEvent (s : State) (src : Word) (w : Word) : State :=
  let target := fld w 16 24
  let id := fld w 0 16
  let s := if target = 0xFFFFFF ∨ target = s.ownDevice then s.teCancel s.ownDevice id else s
  (s.originate 5 (at_ 16 target) [wd (2 * 2 ^ 36 + id), 0, 0]).endCmd src 0x0910 1 0 0

/-- STOP of a sequencer (06, R216, R217): 1 in RUN waits for the boundary; 2, or either one before the run, ends it at once. -/
def State.stopSeq (s : State) (c v : Nat) : State :=
  if v = 1 ∧ s.seqState c = 3 then s.onSq c (fun q => { q with stopReq := some (q.stopReq.getD s.clock) }) else s.abortRun c 3

/-- ARM of a broadcast group (07, R232): every member is armed at the group's START_ADDR and attached to its stream. -/
def State.bcastArm (s : State) (g : Nat) : State :=
  let i := 0x3C00 + g
  let a := s.regN i 0x02
  let s := s.setGrp g { s.grp g with next := a, holding := none }
  let s := (((s.setRegN i 0x04 1).setRegN i 0x05 0).setRegW i 0x06 0 0).setRegW i 0x06 1 0
  (s.membersOf g).foldl (fun s c => (s.setRegN (seqIdx 0x20 c) 0x09 1).armSeq c a) s

/-- ARM of a stamp capture (08, R266). -/
def State.stampArm (s : State) (c : Nat) : State :=
  let i := meaIdx 0x03 c
  let s := (s.setRegN i 0x00 1).onCap c (fun _ => { StampSt.idle with armed := s.clock })
  (s.setRegN i 0x09 0).setRegN i 0x0A 0

/-- ARM of a regression unit (08, R268). -/
def State.ruArm (s : State) (c n : Nat) : State :=
  (s.setRegN (meaIdx (4 + n) c) 0x00 1).onRu c n (fun _ => { RuSt.idle with armed := s.clock })

/-- CLOSE or RESET of a range of contexts begins (09, R295); its command runs until the last context is done. -/
def State.sweepStart (s : State) (reset : Bool) (src : Word) (w : Word) : State :=
  let s := { s with red := { s.red with sweeps := s.red.sweeps ++ [Sweep.mk reset (fld w 20 20) (fld w 0 20 + 1) src] } }
  s.setCmd src 0x6000 (if reset then 2 else 1) cmdRunning

/-- RETRAIN of a port (12, table of port states): an UP or ISOLATED port trains again; the partner is told. DEDUCED, log entry 27. -/
def State.retrain (s : State) (p : Nat) : State :=
  s.when (s.portState p = 3 || s.portState p = 4) (fun s => (s.control p 6 0).startTraining p)

/-- GATE (15, R437 to R439): power-off, or wake, whose command runs until WAKE_DONE. -/
def State.gateCommand (s : State) (src : Word) (w : Word) : State :=
  let c := fld w 0 6
  let waking := (SMap.get (fun _ => none) s.mem.waking c).isSome
  if bit w 8 then (if s.seqState c = 7 ∧ waking = false then s else s.powerOff c).endCmd src 0x0D00 0x08 0 0
  else if s.seqState c = 7 ∧ waking = false then (s.wakeStart c src).setCmd src 0x0D00 0x08 cmdRunning
  else s.endCmd src 0x0D00 0x08 0 0

/-- The bank that a commit writes (18, R507, R508): the one not active; with none active, the one that is not the newest VALID.
DESIGN CHOICE for the latter, log entry 28. -/
def State.commitBank (s : State) : Nat :=
  if s.regN 0x0300 0x01 ≠ 0 then 3 - s.regN 0x0300 0x01
  else match s.validBanks with
    | n :: _ => 3 - n
    | [] => 1

/-- COMMIT of the Almanac begins (18, R507 steps 1 and 2): the values are captured, the inactive bank is being written. -/
def State.commitBegin (s : State) (src : Word) (empty : Bool) : State :=
  let n := s.commitBank
  let gen := max s.alm.bankA.gen s.alm.bankB.gen + 1
  let x := if empty then ([], 4096) else s.captureRws
  let s := { s with alm := { s.alm with run := some ⟨src, n, gen, x.1, x.2⟩ } }
  let s := (s.setBank n { Bank.erased with st := 3 }).showBanks (s.regN 0x0300 0x01)
  (s.setRegN 0x0300 0x09 0).setCmd src 0x0300 0 cmdRunning

/-- FACTORY_WRITE (18, R515). -/
def State.factoryWrite (s : State) : State :=
  let es := (Config.factoryEntries (s.listedWords 0xF020 0)).foldl (fun m e => SMap.set (fun _ => none) m e.1 (some e.2)) []
  ({ s with alm := { s.alm with factory := es } }).setRegN 0x0300 0x0A 1

/-- STATE_CMD (19, table of device states): 1 starts the built-in test, 2 returns to READY. -/
def State.stateCommand (s : State) (v : Nat) : State :=
  if v = 1 then (s.setRegN 0x0100 0x0B 1).setRegN 0x0100 0x00 5 else s.setRegN 0x0100 0x00 3

/-- RUN of Starfix (16, R473): a request for every cluster whose bit is set. -/
def State.starfixRun (s : State) (ws : Words) : State :=
  ws.foldl (fun s (e : Nat × Word) => (List.range 40).foldl (fun s k => s.when (bit e.2 k && 40 * e.1 + k < 48) (fun s => s.calRequest (40 * e.1 + k))) s) s

/-- An accepted command that has no result and ends at once. -/
def State.instantCommand (s : State) (r : Obj) (src : Word) (i : Nat) (ws : Words) (e : Env) : State :=
  let u := r.unit i
  let w := word0 ws
  let v := w.toNat
  match r.hook with
  | .renew => s.leaseRestart v
  | .release => s.lockRelease v
  | .pulse => s.due (.eventOccurrence (Fin.ofNat 512 u) s.now false)
  | .loadNow => s.loadStrobe u
  | .arm => s.armSeq u (s.regN (seqIdx 0 u) 0x04)
  | .start => s.onSq u (fun q => { q with start := some (s.clock, false) })
  | .stop => s.stopSeq u v
  | .jumpRequest => s.jumpAsk u v s.clock
  | .bcastArm => s.bcastArm (u + 1)
  | .adcArm => s.adcStart u (r.base - 0x5000)
  | .adcStop =>
    let n := r.base - 0x5000
    if v = 1 then s.onAdc u n (fun x => { x with stopping := true }) else s.adcCut u n 2
  | .stampArm => s.stampArm u
  | .stampStop => if v = 1 then s else s.capCut u
  | .ruArm => s.ruArm u (r.base - 0x5004)
  | .ruStop =>
    let n := r.base - 0x5004
    if v = 1 then s.onRu u n (fun x => { x with stopping := true }) else s.ruCut u n
  | .flush => (ws.filter (fun x => x.2 = 1)).foldl (fun s x => s.qFlush x.1 (if some x.1 = ws.head?.map (fun y => y.1) then e.broken else none)) s
  | .clearHit => ws.foldl (fun s x => s.setLevelHit x.1 false) s
  | .asLoadNow => (List.range 32).foldl (fun s n => s.when (bit w n) (fun s => s.asStrobe n)) s
  | .asArm => s.asArmed u
  | .asStop => s.asStop u v
  | .retrain => s.retrain u
  | .arbCommit => s.activateKeys shadowKey
  | .starfixRun => s.starfixRun ws
  | .enter => s.enterEclipse src
  | .clear => s.clearEclipse
  | .ack => (ws.filter (fun x => x.2 = 1)).foldl (fun s x => s.ackSource x.1) s
  | .inject => s.injectFault w ((ws.map (fun x => x.2)).getD 1 0)
  | .factoryWrite => s.factoryWrite
  | .stateCmd => s.stateCommand v
  | .factoryEnter => s.setRegN 0x0100 0x00 8
  | .mbxInAck => (s.setRegN 0x1200 0x01 ((s.regN 0x1200 0x01 + v) % 256)).setRegN 0x1200 0x02 (s.regN 0x1200 0x02 - v)
  | _ => s

/-- An accepted command acts: those with a result or a duration keep their status themselves, every other one ends at once (02, R42). -/
def State.command (s : State) (r : Obj) (src : Word) (i sub : Nat) (ws : Words) (e : Env) : State :=
  let w := word0 ws
  let v := w.toNat
  let vals := ws.map (fun x => x.2)
  match r.hook with
  | .acquire => s.lockAcquire src vals
  | .loadCmd => s.loadCommand src v
  | .issue => s.issueEvent src vals
  | .cancel => s.cancelEvent src w
  | .redClose => s.sweepStart false src w
  | .redReset => s.sweepStart true src w
  | .patch => s.setCmd src i sub cmdRunning |>.applyPatch (i - 0x0E00) (some src) (if v = 1 then imageWords (s.imageObj (i - 0x0E00)) else [])
  | .routineLoad => s.setCmd src i sub cmdRunning |>.loadRoutines (some src) (imageWords (s.imageObj 3))
  | .gate => s.gateCommand src w
  | .almanacCommit => s.commitBegin src (v = 2)
  | .warmReset => (s.setCmd src i sub cmdRunning).warmReset src
  | .clusterReset => s.clusterResetAsk v src
  | _ => (s.instantCommand r src i ws e).endCmd src i sub 0 0

end Sys2Proof.Machine
end

