-- ==== Sys2Proof/Machine/OdService.lean ====
section
/-! DEFINITION. Machine/OdService.lean: the OD service (02, R33 to R75; 18, R517 to R519): the checks of a transaction in their order,
reads, writes, commands, lock commits, and the transactions held for room in the journal's head. -/

namespace Sys2Proof.Machine

/-! ## Checks 1 to 7 -/

/-- Whether an object is there: FT objects are in factory test mode only (R41). -/
def State.objSeen (s : State) (r : Obj) : Bool := !r.ft || s.devState = 8

/-- Checks 1 and 2 (R34): the abort code, or 0. -/
def State.existCode (s : State) (i sub : Nat) : Nat :=
  let here := (odPage (i / 0x1000)).filter (fun r => r.hasIndex i && s.objSeen r)
  if here.isEmpty then 0x01 else if here.any (fun r => r.hasSub sub) then 0 else 0x02

/-- POWERUP, and BRINGUP until its step 2 ends (19, R536, R537). -/
def State.bootEarly (s : State) : Bool := s.devState < 2 || s.regN 0x0100 0x08 = 1 || s.regN 0x0100 0x08 = 2

/-- Whether the service is closed to a transaction (19, R537, R540; 20, R556): until BRINGUP step 2 ends and during a warm reset,
except reads of the identity objects, of STATE and of BRINGUP_STEP. DEDUCED for the warm reset, log entry 31. -/
def State.serviceClosed (s : State) (tx : Tx) : Bool :=
  let step := s.regN 0x0100 0x08
  (step = 1 || step = 2 || s.start.warm.isSome) &&
    !(tx.op != .write && (tx.idx < 0x100 || (tx.idx = 0x0100 && (tx.sub = 0 || tx.sub = 8))))

/-- Check 3: the writes that Eclipse forbids (17, R489). -/
def eclipseForbids (r : Obj) (ws : Words) : Bool :=
  let v := (word0 ws).toNat
  match r.hook with
  | .peEnable | .loopback => v = 1
  | .peForce => v = 1 || v = 2
  | .pmuMode => v ≠ 0
  | .asMode => r.subLo = 0 && v ≠ 0
  | .arm | .start | .bcastArm | .adcArm | .stampArm | .ruArm | .asArm => true
  | _ => false

/-- Check 4: whether the device state forbids a write (06, R214; 08, R260; 18, R508; 19, R540, table of device states). -/
def stateForbids (d : Nat) (r : Obj) (ws : Words) : Bool :=
  let v := (word0 ws).toNat
  match r.hook with
  | .arm | .bcastArm | .adcArm | .stampArm | .ruArm => d < 3 || 6 < d
  | .almanacCommit => d < 3
  | .warmReset => d = 2 || d = 8
  | .stateCmd => (v = 1 && d ≠ 3) || (v = 2 && d ≠ 5 && d ≠ 6)
  | .factoryEnter => v = 0xFA && d ≠ 3 && d ≠ 6
  | _ => false

/-- The current epoch of the role-bearing unit an object belongs to (R71), if it belongs to one; a queue's words by their number. -/
def State.unitEpoch (s : State) (i w : Nat) : Option Nat :=
  if 0x2000 ≤ i ∧ i < 0x2C00 then some ((s.pe ((i - 0x2000) / 0x40)).epoch)
  else if 0x3000 ≤ i ∧ i < 0x3C00 then some ((s.pe ((i - 0x3000) / 0x40)).epoch)
  else if 0x4000 ≤ i ∧ i < 0x4600 then some ((s.pe ((i - 0x4000) / 0x20)).epoch)
  else if 0x6010 ≤ i ∧ i < 0x6022 then some (s.regN i 0x02)
  else if i = 0x7001 then some (s.regN 0x7015 0 (w / 1024))
  else if 0x7010 ≤ i ∧ i < 0x701C then some (s.regN 0x7015 0 w)
  else none

/-- Check 5 (R72; 10, R327): the abort code and the current epoch. A DESCRIBE of a per-queue object is judged by the offset and count it
carries, as a READ is: DESIGN CHOICE, log entry 44. -/
def State.epochCode (s : State) (tx : Tx) : Nat × Nat :=
  match tx.req.epoch, s.unitEpoch tx.idx tx.off with
  | some e, some cur =>
    let last := tx.off + tx.cnt - 1
    let one := if tx.idx = 0x7001 then tx.off / 1024 = last / 1024 else if 0x7010 ≤ tx.idx ∧ tx.idx < 0x701C then tx.cnt = 1 else True
    if ¬ one then (0xA9, 0) else if e.toNat ≠ cur then (0x08, cur) else (0, 0)
  | _, _ => (0, 0)

/-- STALE_ROLE is logged (R72). -/
def State.logStale (s : State) (tx : Tx) (cur : Nat) : State :=
  s.logPut 0x0202 tx.req.src (wd (tx.idx * 2 ^ 24 + ((tx.req.epoch.map BitVec.toNat).getD 0) * 2 ^ 8 + cur))

/-- Check 6: whether the access code permits an operation (table of access codes). -/
def Obj.permits (r : Obj) (op : OdOp) : Bool :=
  match op with
  | .read => r.acc != .wo
  | .write => r.acc != .ro
  | .describe => true

/-- Checks 1 to 6 of a transaction with the words it writes: the first that fails, and the epoch for 0x0008. -/
def State.firstChecks (s : State) (tx : Tx) (ws : Words) : Nat × Nat :=
  if s.serviceClosed tx then (0x07, 0)
  else
    let c := s.existCode tx.idx tx.sub
    if c ≠ 0 then (c, 0)
    else match odFind tx.idx tx.sub with
      | none => (0x02, 0)
      | some r =>
        if tx.op == .write && s.devState = 7 && eclipseForbids r ws then (0x0B, 0)
        else if tx.op == .write && stateForbids s.devState r ws then (0x09, 0)
        else
          let e := s.epochCode tx
          if e.1 ≠ 0 then e else if r.permits tx.op then (0, 0) else (0x03, 0)

/-! ## Reads -/

/-- Slots of the journal (18, R519): the entry with SEQ congruent to `k`, still in the head or in its HBM line. -/
def State.journalSlot (s : State) (k : Nat) : List Word × State :=
  let next := s.regN 0x0400 0x01
  let n := s.alm.head.length
  let back := (next + 1048576 - 1 - k) % 1048576
  let r := if back < n then (s.alm.head.getD (n - 1 - back) 0, s) else s.hbmRead (0x5FD00000 + k) 7
  (slotWords r.1 0, r.2)

/-- Slots of the event log (18, R525). -/
def State.logSlot (s : State) (k : Nat) : List Word × State :=
  match SMap.get (fun _ => (none : Option LogRec)) s.log.slots k with
  | none => (List.replicate 8 0, s)
  | some r =>
    let ok := r.crcOf = r.crc
    let w0 := wd (r.code * 2 ^ 24 + b2n r.inj * 2 ^ 23 + b2n r.afterLoss * 2 ^ 22 + r.rep)
    ([w0, wd r.num, loWord r.time, hiWord r.time, r.arg0, r.arg1, wd r.crc.toNat, wd (2 ^ 39 + b2n ok * 2 ^ 38)],
      if ok then s else s.addReg 0x0500 0x08 1)

/-- A context's slot of RESULTS (09, R297, R298). -/
def State.resultSlot (s : State) (n : Nat) : List Word × State :=
  let r := s.resultOf n 10
  (ctxWords n r.1, r.2)

/-- A context's slot of LIVE (09, R298): READY and ALREADY_READ read 0. -/
def State.liveSlot (s : State) (n : Nat) : List Word × State :=
  let r := s.liveRead n 10
  let w := setBit (setBit (lineWord r.1 0) 25 false) 24 false
  (w :: (ctxWords n r.1).drop 1, r.2)

/-- Slots of eight words, `n` of them from `k` on. -/
def State.slots (f : State → Nat → List Word × State) (s : State) (k : Nat) : Nat → List Word × State
  | 0 => ([], s)
  | n + 1 =>
    let a := f s k
    let b := State.slots f a.2 (k + 1) n
    (a.1 ++ b.1, b.2)

/-- What a word of an object that is worked out at the read holds; none for a stored word. -/
def State.workedOut (s : State) (r : Obj) (i sub w : Nat) : Option Word :=
  let u := r.unit i
  let n := fun (k : Nat) => some (wd k)
  let x80 := fun (v : U80) => some (if w = 0 then loWord v else hiWord v)
  match r.hook with
  | .now => x80 s.now
  | .local => x80 (BitVec.ofNat 80 s.localMt)
  | .lockRemaining => n (s.leaseLeft u)
  | .slotsArmed => n ((List.range 64).filter (fun k => s.teState k = 1)).length
  | .queueStatus => some (s.qStatusWord w)
  | .lvlStatus => some (s.lvlStatus u sub)
  | .asStatus => some (s.asStatus u)
  | .compState => n (s.compState u sub)
  | .pmuStatus => some (s.pmuStatus u sub)
  | .budgetCluster => n (s.budgetCluster u)
  | .budgetDevice => n s.budgetDevice
  | .mapDirty => n (b2n (s.mapDirty u))
  | .tsPending => n (b2n (s.setPending i))
  | .markerMode => n (b2n (s.devState = 2 || s.devState = 5 || s.devState = 6))
  | .readAhead => n (s.sq u).fetch.ahead.length
  | .streamDemand => n s.streamDemand
  | .members =>
    let ms := s.membersOf (u + 1)
    n ((ms.filter (fun c => c / 40 = w)).foldl (fun a c => a + 2 ^ (c % 40)) 0)
  | .inputLevel => n (s.redInput u).length
  | .shadowDirty => n (b2n s.shadowDirty)
  | .values => some ((s.calValues u).getD w 0)
  | .safePointMax => some (Config.safePointMax s.clock)
  | .eclipseActive => n (b2n (s.devState = 7))
  | .faultN => n (b2n s.faultN)
  | .poolFree => n s.poolFree
  | _ => if i = 0x0300 ∧ sub = 0x09 ∧ s.alm.run.isSome then n (Config.commitProgress s.clock % 1000) else none

/-- A word of an object as a read by `src` finds it: a command's status (R42), a staged word (R57), or the value. The status of a DOMAIN
command stands in word 0 and its other words read 0: DESIGN CHOICE, log entry 36. -/
def State.readWord (s : State) (src : Word) (r : Obj) (i sub w : Nat) : Word :=
  if r.acc == .cmd then (if w = 0 then s.cmdStatus src i sub else 0)
  else match s.stagedWord src i sub w with
    | some v => v
    | none => (s.workedOut r i sub w).getD (s.reg i sub w)

/-- An accepted READ: the words, and what reading leaves behind (R40; 09, R297; 10, R319). -/
def State.odRead (s : State) (tx : Tx) (r : Obj) (e : Env) : List Word × State :=
  let s := s.upset e.upset
  match r.hook with
  | .pop =>
    let q := tx.off / 1024
    let s := match e.broken with | some n => s.qBreak q n | none => s
    s.qPop q (tx.cnt / 8)
  | .results => State.slots State.resultSlot s (tx.off / 8) (tx.cnt / 8)
  | .live => State.slots State.liveSlot s (tx.off / 8) (tx.cnt / 8)
  | .journalEntries => State.slots State.journalSlot s (tx.off / 8) (tx.cnt / 8)
  | .logRecords => State.slots State.logSlot s (tx.off / 8) (tx.cnt / 8)
  | _ => ((List.range tx.cnt).map (fun k => s.readWord tx.req.src r tx.idx tx.sub (tx.off + k)), s)

/-- Checks 8 and 10 of a READ: a gated cluster's scratch objects are not read (15, R439). -/
def State.readCode (s : State) (r : Obj) (tx : Tx) : Nat :=
  let c := r.readCount tx.off tx.cnt
  if c ≠ 0 then c else if r.hook == .scratch && s.seqState (r.unit tx.idx) = 7 then 0x09 else 0

/-- Type codes (02, table of OD data types). -/
def OdType.code (t : OdType) : Nat :=
  match t with
  | .bool => 1 | .u8 => 2 | .u16 => 3 | .u24 => 4 | .u40 => 5 | .s40 => 6 | .u80 => 7 | .fx40 => 8 | .enum8 => 9
  | .bits40 => 0xA | .domain => 0xB | .str => 0xC

/-- Base access codes (02, table DESCRIBE reply). -/
def Acc.code (a : Acc) : Nat := match a with | .ro => 1 | .rw => 2 | .wo => 3 | .rws => 4 | .cmd => 5

/-- The reply of DESCRIBE (R46; table DESCRIBE reply). -/
def State.describeWords (s : State) (r : Obj) (i sub : Nat) : List Word :=
  let d := s.resolvedDefault r i sub
  let len := if r.words < 65536 then r.words else (Config.longLength i sub).toNat
  wd (r.ty.code * 2 ^ 32 + (b2n r.ft * 64 + r.acc.code) * 2 ^ 24 + d.1 * 2 ^ 16 + len) :: d.2

/-! ## Writes and commands -/

/-- Entries that journal an accepted write or command (R54; 18, table of entry kinds): a block's offset and count cover its words. Of
words staged apart, or more than 1,024, they cover the lowest to the highest, the count at most 1,024: DESIGN CHOICE, log entry 38. -/
def State.journalWrite (s : State) (r : Obj) (src : Word) (i sub : Nat) (ws : Words) (locked : Bool) : State :=
  let cmd := r.acc == .cmd
  if r.isDomain || r.words ≠ 1 then
    let nums := ws.map (fun e => e.1)
    let lo := nums.foldl min (nums.headD 0)
    let hi := nums.foldl max lo
    s.journalAt (if cmd then 4 else 2) i sub 0 s.now src locked (wd (lo % 2 ^ 26 * 2 ^ 14 + min 1023 (hi - lo) * 16))
  else s.journalAt (if cmd then 3 else 1) i sub 0 s.now src locked (word0 ws)

/-- Whether a write by `src` is staged (R57, R58): it holds the lock that covers the index, and the object is no command. -/
def State.stagesAt (s : State) (src : Word) (r : Obj) (i : Nat) : Option Nat :=
  match s.lockOf i with
  | some n => if s.lockOwner n = src && r.acc != .cmd then some n else none
  | none => none

/-- Check 10 of a write or command that acts at once: the object's own condition, the slot that a lock command names, the room of a
user bank (R67, R70; 18, R506). -/
def State.ownCode (s : State) (r : Obj) (src : Word) (i sub : Nat) (ws : Words) (e : Env) : Nat :=
  match r.hook with
  | .renew | .commit | .release | .commitRelease => s.slotCode src (word0 ws).toNat
  | .almanacCommit =>
    let c := s.odCond s r src i sub ws e
    if c ≠ 0 then c else if (word0 ws).toNat = 1 && 25165824 + 4096 < s.captureRws.2 then 0x31 else 0
  | _ => s.odCond (s.suppose r i sub ws) r src i sub ws e

/-- Checks 7 to 10 of a write or command (R48): the abort code, or 0. -/
def State.writeCode (s : State) (tx : Tx) (r : Obj) (ws : Words) (e : Env) : Nat :=
  let src := tx.req.src
  let locked : Bool := match s.lockOf tx.idx with | some n => s.lockOwner n ≠ src | none => false
  let c := r.writeCount tx.off tx.cnt
  if locked then 0x06
  else if c ≠ 0 then c
  else if !r.valuesOk ws then 0x05
  else match s.stagesAt src r tx.idx with
    | some n => s.stageRefusal n tx.idx tx.sub
    | none => if r.acc == .cmd && s.cmdBusy src tx.idx tx.sub then 0x25 else s.ownCode r src tx.idx tx.sub ws e

/-- Whether an object commits a lock (R61). -/
def Obj.commits (r : Obj) : Bool := r.hook == .commit || r.hook == .commitRelease

/-- What a refused write or command leaves: the entry of a refused COMMIT (R62), the command's status (R42, R43), the report of a broken
lock (R67), STALE_ROLE (R72), a scratch collision (15, R443). -/
def State.writeRefused (s : State) (tx : Tx) (r : Obj) (ws : Words) (e : Env) (code epoch : Nat) : State :=
  let src := tx.req.src
  let s := s.when r.commits (fun s => s.journalAt 3 0x0200 tx.sub code s.now src false (word0 ws))
  let s := s.when (r.acc == .cmd && !s.cmdBusy src tx.idx tx.sub) (fun s => s.endCmd src tx.idx tx.sub 0 code)
  let s := s.when (code = 0x08) (fun s => s.logStale tx epoch)
  let s := s.when (code = 0x23) (fun s => s.slotReported src (word0 ws).toNat)
  if code = 0xB5 then
    let c := r.unit tx.idx
    let w := (e.clash.find? (fun k => ws.any (fun x => x.1 = k.1))).map (fun k => k.1) |>.getD 0
    let s := e.clash.foldl (fun s k => s.setRegW tx.idx 0 k.1 k.2) s
    ((s.addReg tx.idx 0x03 1).logPut 0x0909 (wd c) (wd w)).raiseFault c 0x0B 1 (wd (w % 2 ^ 14))
  else s

/-- What a staged object meets at COMMIT (R61, R74): checks 3, 4, the epoch it was staged with, and check 10 against `h`;
the code, and the epoch for 0x0008. -/
def State.stagedCode (s h : State) (src : Word) (g : Staged) : Nat × Nat :=
  match odFind g.idx g.sub with
  | none => (0, 0)
  | some r =>
    if s.devState = 7 && eclipseForbids r g.words then (0x0B, 0)
    else if stateForbids s.devState r g.words then (0x09, 0)
    else
      match g.epochs.findSome? (fun e => (s.unitEpoch g.idx e.1).filter (fun cur => e.2.toNat ≠ cur)) with
      | some cur => (0x08, cur)
      | none => (s.odCond h r src g.idx g.sub g.words Env.calm, 0)

/-- Why COMMIT of slot `n` is refused, or 0: the first failing object in staging order, against the combined result (R61). -/
def State.commitCode (s : State) (n : Nat) : Nat × Nat :=
  let gs := s.stagedIn n
  let h := gs.foldl (fun h g => match odFind g.idx g.sub with | some r => h.suppose r g.idx g.sub g.words | none => h) s
  ((gs.map (fun g => s.stagedCode h (s.lockOwner n) g)).find? (fun c => c.1 ≠ 0)).getD (0, 0)

/-- COMMIT of slot `n` (R61, R62, R585): its own entry, one entry for each staged object, then the effects. Its own entry first:
DEDUCED, log entry 32. -/
def State.commitSlot (s : State) (src : Word) (sub n : Nat) (release : Bool) : State :=
  let gs := s.stagedIn n
  let s := s.journalAt 3 0x0200 sub 0 s.now src false (wd n)
  let s := gs.foldl (fun s g => match odFind g.idx g.sub with | some r => s.journalWrite r src g.idx g.sub g.words true | none => s) s
  let s := s.setStaged n []
  let s := gs.foldl (fun s g => match odFind g.idx g.sub with | some r => s.applyWrite r g.idx g.sub g.words | none => s) s
  let s := s.when release (fun s => s.lockRelease n)
  s.endCmd src 0x0200 sub 0 0

/-- An accepted write or command is performed. The answer's abort code and epoch: a COMMIT can still be refused, with one entry (R62). Its
refusal with 0x0008 (R74) logs no STALE_ROLE: DESIGN CHOICE, log entry 43. -/
def State.writePerform (s : State) (tx : Tx) (r : Obj) (ws : Words) (e : Env) : (Nat × Nat) × State :=
  let src := tx.req.src
  match s.stagesAt src r tx.idx with
  | some n => ((0, 0), s.stage n tx.idx tx.sub tx.off tx.data tx.req.epoch)
  | none =>
    if r.commits then
      let n := (word0 ws).toNat
      let c := s.commitCode n
      if c.1 ≠ 0 then (c, (s.journalAt 3 0x0200 tx.sub c.1 s.now src false (wd n)).endCmd src 0x0200 tx.sub 0 c.1)
      else ((0, 0), s.commitSlot src tx.sub n (r.hook == .commitRelease))
    else
      let s := s.journalWrite r src tx.idx tx.sub ws false
      ((0, 0), if r.acc == .cmd then s.command r src tx.idx tx.sub ws e else s.applyWrite r tx.idx tx.sub ws)

/-- Journal entries that an accepted write or command makes, beside internal ones (R54, R62; 18, R518). -/
def State.entriesOf (s : State) (tx : Tx) (r : Obj) (ws : Words) : Nat :=
  if (s.stagesAt tx.req.src r tx.idx).isSome then 0
  else if r.commits then 1 + (s.stagedIn (word0 ws).toNat).length
  else 1

/-- Whether the journal's head has room for `n` entries of a transaction (18, R518): the last 512 of 4,096 are kept for internal
writes; more than 3,584 entries wait for an empty head. -/
def State.headRoom (s : State) (n : Nat) : Bool :=
  if n = 0 then true else if 3584 < n then s.alm.head.isEmpty else s.alm.head.length + n ≤ 3584

/-! ## The service -/

/-- One transaction is performed or refused, and answered (R48, R49); none when the journal has no room for it yet. -/
def State.odPerform (s : State) (tx : Tx) (e : Env) : Option State :=
  let ws := wordsAt tx.off tx.data
  let c := s.firstChecks tx ws
  match odFind tx.idx tx.sub with
  | none => some (s.deliver tx ⟨c.1, 0, []⟩)
  | some r =>
    match tx.op with
    | .describe =>
      if c.1 ≠ 0 then some ((s.when (c.1 = 0x08) (fun s => s.logStale tx c.2)).deliver tx ⟨c.1, c.2, []⟩)
      else some (s.deliver tx ⟨0, 0, s.describeWords r tx.idx tx.sub⟩)
    | .read =>
      let code := if c.1 ≠ 0 then c.1 else s.readCode r tx
      if code ≠ 0 then some ((s.when (code = 0x08) (fun s => s.logStale tx c.2)).deliver tx ⟨code, c.2, []⟩)
      else
        let x := s.odRead tx r e
        some (x.2.deliver tx ⟨0, 0, x.1⟩)
    | .write =>
      let code := if c.1 ≠ 0 then c.1 else s.writeCode tx r ws e
      if code ≠ 0 then
        if s.serviceClosed tx || c.1 = 0x01 || c.1 = 0x02 then some (s.deliver tx ⟨code, c.2, []⟩)
        else if !r.commits || s.headRoom 1 then some ((s.writeRefused tx r ws e code c.2).deliver tx ⟨code, c.2, []⟩)
        else none
      else if s.headRoom (s.entriesOf tx r ws) then
        let x := s.writePerform tx r ws e
        some (x.2.deliver tx ⟨x.1.1, x.1.2, []⟩)
      else none

/-- A transaction waits for room in the journal's head, or behind one that does (18, R518). -/
def State.odHold (s : State) (tx : Tx) (counts : Bool) : State :=
  let s := { s with alm := { s.alm with held := s.alm.held ++ [tx] } }
  s.when counts (fun s => s.addReg 0x0400 0x05 1)

/-- A transaction reaches the service (R49, R50; 18, R518). -/
def State.odSubmit (s : State) (tx : Tx) (e : Env) : State :=
  let behind := if tx.op == .write then !s.alm.held.isEmpty else s.alm.held.any (fun h => h.req.src = tx.req.src)
  if behind then s.odHold tx false
  else match s.odPerform tx e with
    | some s' => s'
    | none => s.odHold tx true

/-- Held transactions are performed in order while the head has room for them, `n` at most (18, R518). -/
def State.odRelease (s : State) (e : Env) (first : Bool) : Nat → State
  | 0 => s
  | n + 1 =>
    match s.alm.held with
    | [] => s
    | tx :: rest =>
      match { s with alm := { s.alm with held := rest } }.odPerform tx e with
      | some s' => State.odRelease s' e false n
      | none => if first then s else s.addReg 0x0400 0x05 1

/-- A transaction of a request, by its object's number. -/
def mkTx (rq : Req) (op : OdOp) (i sub off cnt : Nat) (data : List Word) (dst : ReplyTo) : Tx := ⟨rq, op, i, sub, off, cnt, data, dst⟩

/-- A write or command row: the transaction of request `rq` reaches the service at `t`. No path carries transactions in OFF and
POWERUP (02, R76). -/
def State.odRow (s : State) (rq : Req) (i sub off : Nat) (vals : List Word) (e : Env) (t : Nat) : State :=
  let s := s.tick t
  if s.carries then s.odSubmit (mkTx rq .write i sub off vals.length vals .here) e else s

end Sys2Proof.Machine
end

