-- ==== Sys2Proof/Machine/HaloOd.lean ====
section
/-! DEFINITION. Machine/HaloOd.lean: remote OD transactions over Halo, at the target and at the requester (12, R364 to R370). -/

namespace Sys2Proof.Machine

/-- What the frames of a train have in common (R364): DEST, SRC, and the payload words before the data without FRAG and LAST. -/
def trainHead (reply : Bool) (f : Frame) : List Nat :=
  [f.dest.toNat, f.src.toNat] ++
    (if reply then [fld (fpay f 0) 8 32, (fpay f 1).toNat]
     else [(fpay f 0).toNat, fld (fpay f 1) 4 36, (setBit (fpay f 2) 23 false).toNat])

/-- Whether the frames of a train belong together: FRAG 0, 1, 2 and so on, LAST on the final frame alone, the other fields identical (R364). -/
def trainWhole (reply : Bool) (fs : List Frame) : Bool :=
  !fs.isEmpty && fs.zipIdx.all (fun e =>
    let frag := if reply then fld (fpay e.1 0) 4 4 else fld (fpay e.1 1) 0 4
    let last := if reply then bit (fpay e.1 0) 3 else bit (fpay e.1 2) 23
    frag == e.2 && last == (e.2 + 1 == fs.length) && e.1.ty == (if reply then 3 else 2) && trainHead reply e.1 == (fs.head?.map (trainHead reply)).getD [])

/-- The data words that the frames of a train carry after their first `n` payload words. -/
def trainData (n : Nat) (fs : List Frame) : List Word := fs.flatMap (fun f => f.payload.drop n)

/-- A request is performed (R365): one transaction of the requester. A reserved OP is answered 0x0004, and a WRITE whose words are
not as many as its count too (02, R38). -/
def State.requestPerform (s : State) (port dev : Nat) (fs : List Frame) (e : Env) : State :=
  match fs with
  | [] => s
  | f :: _ =>
    let op := fld (fpay f 0) 36 4
    let rq : Req := ⟨sourceOf 4 0 dev, if bit (fpay f 0) 35 then some (BitVec.ofNat 8 (fld (fpay f 0) 27 8)) else none⟩
    let dst := ReplyTo.halo port dev (BitVec.ofNat 16 (fld (fpay f 2) 24 16)) (f.dest = 0xFFFFFE)
    let cnt := fld (fpay f 1) 4 10 + 1
    let data := trainData 3 fs
    let tx := fun k d => mkTx rq k (fld (fpay f 0) 8 16) (fld (fpay f 0) 0 8) (fld (fpay f 1) 14 26) cnt d dst
    match op with
    | 1 => s.odSubmit (tx .read []) e
    | 2 => if data.length = cnt then s.odSubmit (tx .write data) e else s.deliver (tx .write data) ⟨0x04, 0, []⟩
    | 3 => s.odSubmit (tx .describe []) e
    | _ => s.deliver (tx .read []) ⟨0x04, 0, []⟩

/-- A reply of this device that performs nothing: its code alone. -/
def State.requestAnswer (s : State) (port dev : Nat) (f : Frame) (code : Nat) : State :=
  s.sendReply port (s.replyFrames (if f.dest = 0xFFFFFE then 0xFFFFFE else dev) dev (BitVec.ofNat 16 (fld (fpay f 2) 24 16)) code 0 [])

/-- A request with RELAY set (R369): passed to the partner of RELAY_PORT, or answered 0x0064. -/
def State.requestRelay (s : State) (port dev : Nat) (fs : List Frame) : State :=
  match fs with
  | [] => s
  | f :: _ =>
    let p := fld (fpay f 2) 20 2
    if s.portState p = 3 ∨ s.portState p = 4 then
      fs.foldl (fun s f =>
        let p2 := setBit (fpay f 2) 22 false
        s.egress (some port) p { f with dest := 0xFFFFFE, payload := (f.payload.take 2) ++ p2 :: f.payload.drop 3 }) s
    else s.requestAnswer port dev f 0x64

/-- What a target does with a request, by its SEQ (R366). -/
def State.requestIn (s : State) (port dev : Nat) (fs : List Frame) (e : Env) : State :=
  match fs with
  | [] => s
  | f :: _ =>
    let seq := BitVec.ofNat 16 (fld (fpay f 2) 24 16)
    if bit (fpay f 2) 22 then s.requestRelay port dev fs
    else if bit (fpay f 0) 24 then (s.keepRequester ⟨dev, seq + 1, []⟩).requestPerform port dev fs e
    else match s.requester dev with
      | none => (s.addReg 0x1100 0x08 1).requestAnswer port dev f 0x66
      | some r =>
        if seq = r.expected then (s.keepRequester { r with expected := r.expected + 1 }).requestPerform port dev fs e
        else
          let s := s.keepRequester r
          match r.stored.find? (fun x => x.1 = seq) with
          | some x => (s.addReg 0x1100 0x07 1).sendReply port x.2
          | none => s.discard port fs.length

/-- OD_REQUEST_RX (R364 to R366, R369): a whole train has arrived; one that is not whole is discarded. -/
def execOdRequestRx (port : Fin 4) (train : List Frame) (e : Env) (t : Nat) (s : State) : Host.Outcome State Fault Refusal :=
  s.perform fun s =>
    let s := s.tick t
    if !s.carries then s
    else if trainWhole false train then
      match train with
      | f :: _ => s.requestIn port f.src.toNat train e
      | [] => s
    else s.discard port train.length

/-- The target of the unanswered request that a reply 0x0063 with a SEQ ends: a device on the way sent it, so that its SRC need not
be the target; of several the one asked first. DESIGN CHOICE, log entry 34. -/
def State.askedWith (s : State) (seq : BitVec 16) (src : Nat) : Option Nat :=
  if (s.target (targetKey src none)).out.any (fun r => r.seq = seq) then some src
  else
    let asked := s.halo.targets.flatMap (fun e => (e.2.out.filter (fun r => r.seq = seq)).map (fun r => (r.sentAt, e.1 / 8)))
    (asked.foldl (fun b e => match b with | some x => if e.1 < x.1 then some e else b | none => some e) none).map (fun e => e.2)

/-- A reply reaches its requester (R366, R367). -/
def State.replyIn (s : State) (port : Nat) (fs : List Frame) : State :=
  match fs with
  | [] => s
  | f :: _ =>
    let seq := BitVec.ofNat 16 (fld (fpay f 0) 24 16)
    let code := fld (fpay f 0) 8 16
    let dev := if code = 0x63 then (s.askedWith seq f.src.toNat).getD f.src.toNat else f.src.toNat
    let k := targetKey dev none
    let x := s.target k
    match x.out.find? (fun r => r.seq = seq) with
    | none => s.discard port fs.length
    | some r =>
      if code = 0x66 then
        let again := (x.out.dropWhile (fun r => r.seq ≠ seq)).map (fun r => { r with sentAt := s.clock })
        let s := s.setTarget k { x with out := x.out.takeWhile (fun r => r.seq ≠ seq) ++ again }
        s.resendAll dev true again
      else
        let s := s.setTarget k { x with out := x.out.filter (fun r => r.seq ≠ seq) }
        (s.deliver r.tx ⟨code, fld (fpay f 1) 0 8, trainData 2 fs⟩).pumpTarget dev none 16

/-- OD_REPLY_RX (R367, R369): a reply for another requester goes on toward it. -/
def execOdReplyRx (port : Fin 4) (train : List Frame) (t : Nat) (s : State) : Host.Outcome State Fault Refusal :=
  s.perform fun s =>
    let s := s.tick t
    if trainWhole true train then
      match train with
      | f :: _ =>
        let dst := fld (fpay f 1) 16 24
        if dst = s.ownDevice then s.replyIn port train
        else if f.dest = 0xFFFFFE then train.foldl (fun s f => s.sendFrame (some port.val) { f with dest := BitVec.ofNat 24 dst }) s
        else s.discard port train.length
      | [] => s
    else s.discard port train.length

/-- The oldest request to a target is resent with all behind it, or after RETRIES resends they end with 0x0060 (R367). -/
def State.targetTimeout (s : State) (dev : Nat) : State :=
  let k := targetKey dev none
  let x := s.target k
  match x.out with
  | [] => s
  | r :: rs =>
    if s.clock < r.sentAt + usEt (s.regN 0x1100 0x01) then s
    else if r.retries < s.regN 0x1100 0x02 then
      let out := { r with retries := r.retries + 1, sentAt := s.clock } :: rs
      (s.setTarget k { x with out := out }).resendAll dev false out
    else
      let s := s.setTarget k { x with out := [], reset := true }
      ((r :: rs).foldl (fun s r => s.deliver r.tx ⟨0x60, 0, []⟩) s).pumpTarget dev none 16

/-- REPLY_TIMEOUT (R367). -/
def execReplyTimeout (dev : BitVec 24) (t : Nat) (s : State) : Host.Outcome State Fault Refusal :=
  s.perform fun s => (s.tick t).targetTimeout dev.toNat

end Sys2Proof.Machine
end

