-- ==== Sys2Proof/Machine/SvcRows.lean ====
section
/-! DEFINITION. Machine/SvcRows.lean: the service port: frames, registers, transactions and the raw mailboxes (20). -/

namespace Sys2Proof.Machine

/-- A local transaction reaches the service, or goes to another device as a request (13, R395; 20, R554; 12, R370), which ends with 0x0007
until BRINGUP step 2 ends (19, R537; 20, R556). -/
def State.pathSubmit (s : State) (remote : Bool) (dev : Nat) (tx : Tx) (e : Env) : State :=
  if !remote then s.odSubmit tx e
  else if s.bootEarly then s.deliver tx ⟨0x07, 0, []⟩
  else if s.ownDevice = 0xFFFFFD then s.deliver tx ⟨0x65, 0, []⟩
  else s.remoteRequest dev none tx

/-- Change the service port. -/
def State.onSvc (s : State) (f : SvcSt → SvcSt) : State := { s with svc := f s.svc }

/-! ## Registers -/

/-- ATTN_CAUSE (R553): bits [1] and [3] latch, [0] and [2] follow their condition. -/
def State.attnCause (s : State) : Nat :=
  (s.svc.cause &&& 0xA) + b2n (!s.svc.outbox.isEmpty) + 4 * b2n s.faultN
/-- SVC_ATTN_N is low (R553). -/
def State.attnLow (s : State) : Bool := s.attnCause &&& s.svc.mask ≠ 0

/-- The status byte (R545, R546). -/
def State.statusByte (s : State) : Nat :=
  128 * b2n s.attnLow + 64 * b2n s.svc.busy + 32 * b2n s.svc.done + 16 * b2n (s.regN 0x1200 0x02 = 256) +
    8 * b2n s.svc.short + 4 * b2n s.svc.long + 2 * b2n s.svc.ovr + b2n s.svc.err

/-- Byte `k` of a 40-bit word, the most significant one first. -/
def byteOf (w : Word) (k : Nat) : Nat := fld w (8 * (4 - k)) 8
/-- A word with byte `k` replaced, the most significant byte first. -/
def putByte (w : Word) (k b : Nat) : Word := setFld w (8 * (4 - k)) 8 b
/-- Word `k` of the data buffer. -/
def State.svcData (s : State) (k : Nat) : Word := SMap.get (fun _ => 0) s.svc.data k

/-- What register `a` reads (table of service port registers). -/
def State.svcReg (s : State) (a : Nat) : Nat :=
  let x := s.svc
  if 0x10 ≤ a ∧ a ≤ 0x14 then byteOf x.cmd (a - 0x10)
  else if 0x15 ≤ a ∧ a ≤ 0x19 then byteOf x.range (a - 0x15)
  else if 0x1A ≤ a ∧ a ≤ 0x1C then x.target >>> (8 * (0x1C - a)) % 256
  else if 0x27 ≤ a ∧ a ≤ 0x2B then byteOf (s.svcData x.ptr) (a - 0x27)
  else match a with
    | 0x00 => s.statusByte
    | 0x01 => s.devState
    | 0x02 => s.regN 0x0100 0x08
    | 0x03 => 1
    | 0x04 => s.regN 0x1200 0x08 / 256
    | 0x05 => s.regN 0x1200 0x08 % 256
    | 0x08 => min 255 (256 - s.regN 0x1200 0x02)
    | 0x09 => min 255 x.outbox.length
    | 0x0A => x.mask
    | 0x0B => s.attnCause
    | 0x1D => x.flags
    | 0x20 => x.result / 256
    | 0x21 => x.result % 256
    | 0x22 => x.epoch
    | 0x23 => x.count / 256
    | 0x24 => x.count % 256
    | 0x25 => x.ptr / 256
    | 0x26 => x.ptr % 256
    | _ => 0

/-- The transaction that the request registers describe is submitted (R554), unless one is in progress. -/
def State.svcSubmit (s : State) (e : Env) : State :=
  let x := s.svc
  if x.busy then s
  else
    let s := s.onSvc (fun x => { x with busy := true, done := false })
    let op := fld x.cmd 36 4
    let cnt := fld x.range 4 10 + 1
    let rq : Req := ⟨sourceOf 5 0 s.ownDevice, if bit x.cmd 35 then some (BitVec.ofNat 8 (fld x.cmd 27 8)) else none⟩
    let kind := if op = 1 then OdOp.read else if op = 2 then OdOp.write else OdOp.describe
    let data := if op = 2 then (List.range cnt).map s.svcData else []
    let tx := mkTx rq kind (fld x.cmd 8 16) (fld x.cmd 0 8) (fld x.range 14 26) cnt data .service
    if op < 1 ∨ 3 < op ∨ fld x.cmd 24 3 ≠ 0 ∨ fld x.range 0 4 ≠ 0 then s.deliver tx ⟨0x04, 0, []⟩
    else s.pathSubmit (x.flags % 2 = 1) x.target tx e

/-- Latched bits of ATTN_CAUSE are cleared by writing 1 (R553). -/
def State.attnClear (s : State) (v : Nat) : State := s.onSvc (fun x => { x with cause := x.cause &&& (0xF ^^^ (v &&& 0xA)) })
/-- An access to register 0x2B advances DATA_PTR (R552; table of service port registers). -/
def State.dataNext (s : State) : State := s.onSvc (fun x => { x with ptr := (x.ptr + 1) % 1024 })

/-- A byte is written to register `a`; GO acts after every register of its frame. -/
def State.svcPut (s : State) (a v : Nat) : State :=
  let x := s.svc
  if 0x10 ≤ a ∧ a ≤ 0x14 then s.onSvc (fun x => { x with cmd := putByte x.cmd (a - 0x10) v })
  else if 0x15 ≤ a ∧ a ≤ 0x19 then s.onSvc (fun x => { x with range := putByte x.range (a - 0x15) v })
  else if 0x1A ≤ a ∧ a ≤ 0x1C then
    let k := 8 * (0x1C - a)
    s.onSvc (fun x => { x with target := x.target - (x.target >>> k % 256) * 2 ^ k + v * 2 ^ k })
  else if 0x27 ≤ a ∧ a ≤ 0x2B then
    let s := s.onSvc (fun y => { y with data := SMap.set (fun _ => 0) y.data x.ptr (putByte (s.svcData x.ptr) (a - 0x27) v) })
    s.when (a = 0x2B) State.dataNext
  else match a with
    | 0x0A => s.onSvc (fun x => { x with mask := v % 16 })
    | 0x0B => s.attnClear v
    | 0x1D => s.onSvc (fun x => { x with flags := v % 2 })
    | 0x25 => s.onSvc (fun x => { x with ptr := v % 4 * 256 + x.ptr % 256 })
    | 0x26 => s.onSvc (fun x => { x with ptr := x.ptr / 256 * 256 + v })
    | _ => s

/-- Bytes are written to registers `a` and on (R550, R551): all of them, then the transaction that GO submits. -/
def State.svcPutAll (s : State) (a : Nat) (bytes : List Nat) (e : Env) : State :=
  let named := (bytes.zipIdx).filter (fun b => a + b.2 < 0x40)
  let s := named.foldl (fun s b => s.svcPut (a + b.2) b.1) s
  s.when (named.any (fun b => a + b.2 = 0x1E && b.1 = 1)) (fun s => s.svcSubmit e)

/-! ## Frames (R545 to R551) -/

/-- LEN. -/
def State.svcLen (s : State) : Nat := s.regN 0x1200 0x08
/-- Whole bytes of a frame's body (R548). -/
def State.bodyBytes (s : State) : Nat := (s.svcLen - 8) / 8
/-- Whether a READ or WRITE frame from register `a` goes beyond register 0x3F (R551), in the bytes that its counted edges reach. -/
def State.beyond (s : State) (a edges : Nat) : Bool := 0x40 < a + min s.bodyBytes ((edges - 8) / 8)
/-- Whole words of a frame's body (R548). -/
def State.bodyWords (s : State) : Nat := (s.svcLen - 8) / 40

/-- A frame of `len` bits ends after `edges` counted edges at `t` (R545 to R551). `err`: R550 refuses it; `past`: it went beyond
register 0x3F; `out`: the bytes its body shifts out; `commit`: its effect. With fewer than 8 edges no command is known (R547). -/
def State.svcFrame (s : State) (len edges : Nat) (err past : Bool) (out : List Nat) (commit : State → State) (t : Nat) : State :=
  let s := s.tick t
  if s.devState = 0 then s
  else
    let need := if edges < 8 then s.svcLen else len
    let short := edges < need
    let long := need < edges
    let good := edges = need
    let known := 8 ≤ edges
    let refused := good && known && err
    let beyond := known && past
    let bytes := ((s.statusByte :: out) ++ List.replicate (edges / 8) 0).take (edges / 8)
    let s := if good && known && !err then commit s else s
    let s := s.addReg 0x1200 0x06 (b2n (good && !refused))
    let s := s.addReg 0x1200 0x07 (b2n (short || long || beyond || refused))
    s.onSvc (fun x => { x with short := short, long := long, ovr := beyond, err := refused, shifted := bytes })

/-- In POWERUP most commands are refused (R550). -/
def State.svcClosed (s : State) : Bool := s.devState = 1

/-- SVC_READ (R546, R548, R551). In POWERUP the registers read must lie in 0x00 to 0x03 (R550): DEDUCED, log entry 35. -/
def execSvcRead (reg : Fin 64) (edges : Nat) (t : Nat) (s : State) : Host.Outcome State Fault Refusal :=
  s.perform fun s =>
    let n := s.bodyBytes
    let out := (List.range n).map (fun k => if reg.val + k < 0x40 then s.svcReg (reg.val + k) else 0)
    let touches := reg.val ≤ 0x2B && 0x2B < reg.val + n
    s.svcFrame s.svcLen edges (s.svcClosed && 4 < reg.val + n) (s.beyond reg.val edges) out (fun s => s.when touches State.dataNext) t

/-- SVC_WRITE (R550, R551). -/
def execSvcWrite (reg : Fin 64) (bytes : List (BitVec 8)) (edges : Nat) (e : Env) (t : Nat) (s : State) : Host.Outcome State Fault Refusal :=
  s.perform fun s =>
    let n := s.bodyBytes
    let bs := ((bytes.map BitVec.toNat) ++ List.replicate n 0).take n
    let busy := s.svc.busy && reg.val ≤ 0x2B && 0x10 < reg.val + n
    s.svcFrame s.svcLen edges (s.svcClosed || busy) (s.beyond reg.val edges) [] (fun s => s.svcPutAll reg.val bs e) t

/-- SETLEN (R547). -/
def execSetlen (len : BitVec 16) (edges : Nat) (t : Nat) (s : State) : Host.Outcome State Fault Refusal :=
  s.perform fun s =>
    let n := len.toNat
    s.svcFrame 24 edges (n < 1 || 4096 < n) false [] (fun s => s.setRegN 0x1200 0x08 n) t

/-- Words enter the inbound ring (R557). -/
def State.inboxAppend (s : State) (ws : List Word) : State :=
  let first := s.regN 0x1200 0x01
  let count := s.regN 0x1200 0x02
  let s := ws.zipIdx.foldl (fun s e => s.setRegW 0x1200 0x00 ((first + count + e.2) % 256) e.1) s
  s.setRegN 0x1200 0x02 (count + ws.length)

/-- MBX_WRITE (R550, R557). -/
def execMbxWrite (words : List Word) (edges : Nat) (t : Nat) (s : State) : Host.Outcome State Fault Refusal :=
  s.perform fun s =>
    let n := s.bodyWords
    let ws := (words ++ List.replicate n 0).take n
    s.svcFrame s.svcLen edges (s.svcClosed || 256 < s.regN 0x1200 0x02 + n) false [] (fun s => s.inboxAppend ws) t

/-- MBX_READ (R557). -/
def execMbxRead (edges : Nat) (t : Nat) (s : State) : Host.Outcome State Fault Refusal :=
  s.perform fun s =>
    let n := s.bodyWords
    let out := ((s.svc.outbox ++ List.replicate n 0).take n).flatMap (fun w => (List.range 5).map (byteOf w))
    s.svcFrame s.svcLen edges s.svcClosed false out (fun s =>
      let s := s.onSvc (fun x => { x with outbox := x.outbox.drop n })
      s.setRegN 0x1200 0x05 s.svc.outbox.length) t

/-- STATUS (R546): eight bits, no effect. -/
def execSvcStatus (edges : Nat) (t : Nat) (s : State) : Host.Outcome State Fault Refusal :=
  s.perform fun s => s.svcFrame 8 edges false false [] (fun s => s) t

/-- SVC_RESERVED_COMMAND (R550): a frame whose command byte is 0x83 to 0xFE. -/
def execSvcReservedCommand (code : BitVec 8) (edges : Nat) (t : Nat) (s : State) : Host.Outcome State Fault Refusal :=
  s.perform fun s =>
    if 0x83 ≤ code.toNat ∧ code.toNat ≤ 0xFE then s.svcFrame s.svcLen edges true false [] (fun s => s) t else s.tick t

/-! ## What a committed frame brings about, and the end of its transaction -/

/-- GO (R554). -/
def execSvcGo (e : Env) (t : Nat) (s : State) : Host.Outcome State Fault Refusal :=
  s.perform fun s =>
    let s := s.tick t
    if s.carries then s.svcSubmit e else s

/-- ATTN_CAUSE_CLEAR (R553). -/
def execAttnCauseClear (bits : BitVec 8) (t : Nat) (s : State) : Host.Outcome State Fault Refusal :=
  s.perform fun s => (s.tick t).attnClear bits.toNat

/-- DATA_ACCESS (R552). -/
def execDataAccess (t : Nat) (s : State) : Host.Outcome State Fault Refusal :=
  s.perform fun s => (s.tick t).dataNext

/-- SVC_OD_DONE (R555): the buffer, RES_COUNT, RES_EPOCH and RESULT are filled, DONE is set, ATTN_CAUSE [1] latches. -/
def execSvcOdDone (t : Nat) (s : State) : Host.Outcome State Fault Refusal :=
  s.perform fun s =>
    let s := s.tick t
    match s.svc.answer with
    | none => s
    | some a => s.onSvc (fun x =>
        let data := a.data.zipIdx.foldl (fun d e => SMap.set (fun _ => 0) d e.2 e.1) x.data
        { x with data := data, count := a.data.length, epoch := if a.code = 8 then a.epoch else 0, result := a.code, done := true, busy := false, cause := x.cause ||| 2, answer := none })

end Sys2Proof.Machine
end

