-- ==== Sys2Proof/Machine/HostRows.lean ====
section
/-! DEFINITION. Machine/HostRows.lean: the rows of the host interface: registers, G1, mailboxes, rings, BAR2, the link, MSI-X (13), and
the test access port (21). -/

namespace Sys2Proof.Machine

/-! ## G1 (R387 to R392) -/

/-- The SOURCE of G1. -/
def State.g1Req (s : State) : Req := ⟨sourceOf 1 0 s.ownDevice, none⟩

/-- A G1 access that begins: nothing happens while no path carries transactions (02, R76). -/
def State.g1At (s : State) (t : Nat) (f : State → State) : State :=
  let s := s.hostAt t
  if s.carries then f s else s

/-- A read of register `k` of an object through G1 (R388, R390): DOMAIN objects read as zero. -/
def State.g1ObjectRead (s : State) (a i sub k : Nat) (e : Env) : State :=
  match odFind i sub with
  | none => s
  | some r =>
    if r.isDomain then s
    else match k, s.host.latch with
      | 0, _ => s.odSubmit (mkTx s.g1Req .read i sub 0 r.words [] (.g1 0 a k)) e
      | _, some (li, ls, ws) =>
        if li = i ∧ ls = sub then s.hostRead (g1Part ws k) else s.odSubmit (mkTx s.g1Req .read i sub 0 r.words [] (.g1 0 a k)) e
      | _, none => s.odSubmit (mkTx s.g1Req .read i sub 0 r.words [] (.g1 0 a k)) e

/-- Register 1, 2 or 3 of an object is written: its part goes to the write latch (R389). -/
def State.g1Latch (s : State) (i sub k v : Nat) : State :=
  let parts := match s.host.wlatch with
    | some (li, ls, ps) => if li = i ∧ ls = sub then ps else [0, 0, 0]
    | none => [0, 0, 0]
  s.onHost (fun h => { h with wlatch := some (i, sub, parts.set (k - 1) v) })

/-- Register 0 of an object is written: one OD WRITE of the whole value, then the latch is clear (R389, R390). -/
def State.g1ObjectWrite (s : State) (a i sub v : Nat) (e : Env) : State :=
  match odFind i sub with
  | none => s
  | some r =>
    let parts := match s.host.wlatch with
      | some (li, ls, ps) => if li = i ∧ ls = sub then ps else [0, 0, 0]
      | none => [0, 0, 0]
    let w0 := wd (parts.getD 0 0 % 256 * 2 ^ 32 + v)
    let w1 := wd (parts.getD 2 0 % 256 * 2 ^ 32 + parts.getD 1 0)
    let s := s.onHost (fun h => { h with wlatch := none })
    if r.isDomain || r.ty == .str then s.g1Refuse a 0x04
    else
      let data := if r.words = 1 then [w0] else [w0, w1]
      s.odSubmit (mkTx s.g1Req .write i sub 0 data.length data (.g1 1 a 0)) e

/-- A one-word read at DOM_OFFSET (R390). -/
def State.domRead (s : State) (e : Env) : State :=
  let h := s.host
  s.odSubmit (mkTx s.g1Req .read (h.domTarget / 256) (h.domTarget % 256) h.domOffset 1 [] (.g1 2 0x308 0)) e

/-- DOM_DATA_HI is read: bits [39:32] of the latched word, and DOM_OFFSET goes on (R390). -/
def State.domHigh (s : State) : State :=
  (s.hostRead (fld s.host.domRead 32 8)).onHost (fun h => { h with domOffset := (h.domOffset + 1) % 2 ^ 26 })

/-- A one-word write at DOM_OFFSET (R390). -/
def State.domPut (s : State) (v : Nat) (e : Env) : State :=
  let h := s.host
  let w := wd (h.domWrite * 2 ^ 32 + v)
  let s := s.odSubmit (mkTx s.g1Req .write (h.domTarget / 256) (h.domTarget % 256) h.domOffset 1 [w] (.g1 1 0x308 0)) e
  s.onHost (fun h => { h with domWrite := 0, domOffset := (h.domOffset + 1) % 2 ^ 26 })

/-- RES_DATA is read at register `k` from 0x110 on (R392). -/
def State.resRead (s : State) (k : Nat) (e : Env) : State :=
  if k = 0 then s.odSubmit (mkTx s.g1Req .read 0x6001 0 (8 * s.host.resCtx) 8 [] (.g1 3 0x110 0)) e
  else s.hostRead (g1Part s.host.resData k)

/-- POP_DATA is read at register `k` from 0x210 on (R392). -/
def State.popRead (s : State) (k : Nat) (e : Env) : State :=
  if k = 0 then s.odSubmit (mkTx s.g1Req .read 0x7001 0 (1024 * s.host.popQueue) 8 [] (.g1 4 0x210 0)) e
  else s.hostRead (g1Part s.host.popData k)

/-- A read of a G1 control register (table of G1 control registers); an unused address reads zero. -/
def State.g1ControlRead (s : State) (a : Nat) (e : Env) : State :=
  if 0x110 ≤ a ∧ a < 0x150 then s.resRead ((a - 0x110) / 4) e
  else if 0x210 ≤ a ∧ a < 0x250 then s.popRead ((a - 0x210) / 4) e
  else match a with
    | 0x000 => s.hostRead (s.host.aborts.1 * 65536 + s.host.aborts.2)
    | 0x004 => s.hostRead s.host.abortAddr
    | 0x100 => s.hostRead s.host.resCtx
    | 0x200 => s.hostRead s.host.popQueue
    | 0x300 => s.hostRead s.host.domTarget
    | 0x304 => s.hostRead s.host.domOffset
    | 0x308 => s.domRead e
    | 0x30C => s.domHigh
    | _ => s

/-- A write of a G1 control register. -/
def State.g1ControlWrite (s : State) (a v : Nat) (e : Env) : State :=
  match a with
  | 0x000 => s.onHost (fun h => { h with aborts := (0, 0) })
  | 0x100 => s.onHost (fun h => { h with resCtx := v % 2 ^ 20 })
  | 0x200 => s.onHost (fun h => { h with popQueue := v % 2 ^ 16 })
  | 0x300 => s.onHost (fun h => { h with domTarget := v % 2 ^ 24 })
  | 0x304 => s.onHost (fun h => { h with domOffset := v % 2 ^ 26 })
  | 0x308 => s.domPut v e
  | 0x30C => s.onHost (fun h => { h with domWrite := v % 256 })
  | _ => s

/-- A read of a G1 address (R387, R391). -/
def State.g1Read (s : State) (a : Nat) (e : Env) : State :=
  if a < 0x10000 then s.g1ControlRead a e
  else match g1Object a with
    | some (i, sub, k) => s.g1ObjectRead a i sub k e
    | none => s

/-- A write of a G1 address (R389, R391). -/
def State.g1Write (s : State) (a v : Nat) (e : Env) : State :=
  if a < 0x10000 then s.g1ControlWrite a v e
  else match g1Object a with
    | some (i, sub, k) => if k = 0 then s.g1ObjectWrite a i sub v e else s.g1Latch i sub k v
    | none => s

/-- G1_REG0_READ (R388): register 0 of an object, or a control register. -/
def execG1Reg0Read (addr : BitVec 24) (e : Env) (t : Nat) (s : State) : Host.Outcome State Fault Refusal :=
  s.perform fun s => s.g1At t (fun s => if addr.toNat < 0x10000 ∨ addr.toNat / 4 % 4 = 0 then s.g1Read addr.toNat e else s)

/-- G1_REGN_READ (R388): register 1, 2 or 3 of an object. -/
def execG1RegnRead (addr : BitVec 24) (e : Env) (t : Nat) (s : State) : Host.Outcome State Fault Refusal :=
  s.perform fun s => s.g1At t (fun s => if 0x10000 ≤ addr.toNat ∧ addr.toNat / 4 % 4 ≠ 0 then s.g1Read addr.toNat e else s)

/-- G1_HIGH_WRITE (R389): register 1, 2 or 3 of an object. -/
def execG1HighWrite (addr : BitVec 24) (v : BitVec 32) (t : Nat) (s : State) : Host.Outcome State Fault Refusal :=
  s.perform fun s => s.g1At t (fun s =>
    if 0x10000 ≤ addr.toNat ∧ addr.toNat / 4 % 4 ≠ 0 then s.g1Write addr.toNat v.toNat Env.calm else s)

/-- G1_REG0_WRITE (R389): register 0 of an object. -/
def execG1Reg0Write (addr : BitVec 24) (v : BitVec 32) (e : Env) (t : Nat) (s : State) : Host.Outcome State Fault Refusal :=
  s.perform fun s => s.g1At t (fun s =>
    if 0x10000 ≤ addr.toNat ∧ addr.toNat / 4 % 4 = 0 then s.g1Write addr.toNat v.toNat e else s)

/-- DOM_DATA_LO_READ (R390). -/
def execDomDataLoRead (e : Env) (t : Nat) (s : State) : Host.Outcome State Fault Refusal :=
  s.perform fun s => s.g1At t (fun s => s.domRead e)

/-- DOM_DATA_HI_READ (R390). -/
def execDomDataHiRead (t : Nat) (s : State) : Host.Outcome State Fault Refusal :=
  s.perform fun s => s.g1At t State.domHigh

/-- DOM_DATA_HI_WRITE (R390). -/
def execDomDataHiWrite (v : BitVec 32) (t : Nat) (s : State) : Host.Outcome State Fault Refusal :=
  s.perform fun s => s.g1At t (fun s => s.g1ControlWrite 0x30C v.toNat Env.calm)

/-- DOM_DATA_LO_WRITE (R390). -/
def execDomDataLoWrite (v : BitVec 32) (e : Env) (t : Nat) (s : State) : Host.Outcome State Fault Refusal :=
  s.perform fun s => s.g1At t (fun s => s.domPut v.toNat e)

/-- RES_DATA_READ (R392). -/
def execResDataRead (addr : BitVec 24) (e : Env) (t : Nat) (s : State) : Host.Outcome State Fault Refusal :=
  s.perform fun s => s.g1At t (fun s => if 0x110 ≤ addr.toNat ∧ addr.toNat < 0x150 then s.resRead ((addr.toNat - 0x110) / 4) e else s)

/-- POP_DATA_READ (R392). -/
def execPopDataRead (addr : BitVec 24) (e : Env) (t : Nat) (s : State) : Host.Outcome State Fault Refusal :=
  s.perform fun s => s.g1At t (fun s => if 0x210 ≤ addr.toNat ∧ addr.toNat < 0x250 then s.popRead ((addr.toNat - 0x210) / 4) e else s)

/-- G1_ABORT_CLEAR (R391). -/
def execG1AbortClear (t : Nat) (s : State) : Host.Outcome State Fault Refusal :=
  s.perform fun s => s.g1At t (fun s => s.g1ControlWrite 0x000 0 Env.calm)

/-! ## G2 (R393 to R395) -/

/-- A mailbox transaction is submitted (R393). -/
def State.mbSubmit (s : State) (m : Nat) (e : Env) : State :=
  let x := s.mbx m
  let op := fld x.cmd 36 4
  let cnt := fld x.range 4 10 + 1
  let rq : Req := ⟨sourceOf 2 0 s.ownDevice, if bit x.cmd 35 then some (BitVec.ofNat 8 (fld x.cmd 27 8)) else none⟩
  let kind := if op = 1 then OdOp.read else if op = 2 then OdOp.write else OdOp.describe
  let data := if op = 2 then (List.range cnt).map (fun k => SMap.get (fun _ => 0) x.data k) else []
  let tx := mkTx rq kind (fld x.cmd 8 16) (fld x.cmd 0 8) (fld x.range 14 26) cnt data (.mbox m s.host.gen)
  let s := s.onMbx m (fun x => { x with state := 1 })
  if op < 1 ∨ 3 < op ∨ fld x.cmd 24 3 ≠ 0 ∨ fld x.range 0 4 ≠ 0 ∨ fld x.target 25 15 ≠ 0 then s.deliver tx ⟨0x04, 0, []⟩
  else s.pathSubmit (bit x.target 24) (fld x.target 0 24) tx e

/-- A write of MB_GO (R393): 1 submits, unless the mailbox is BUSY. -/
def State.mbGoWrite (s : State) (m v : Nat) (e : Env) : State :=
  if (s.mbx m).state = 1 then s.badAccess else if v % 2 ^ 40 = 1 then s.mbSubmit m e else s

/-- MB_GO (R393). -/
def execMbGo (m : Fin 8) (v : BitVec 64) (e : Env) (t : Nat) (s : State) : Host.Outcome State Fault Refusal :=
  s.perform fun s => s.g1At t (fun s => s.mbGoWrite m v.toNat e)

/-- MB_DONE (R394). -/
def execMbDone (m : Fin 8) (t : Nat) (s : State) : Host.Outcome State Fault Refusal :=
  s.perform fun s => (s.hostAt t).mbxDone m

/-- A 4- or 8-byte write of part of an 8-byte value. -/
def putHalf (old offset size v : Nat) : Nat :=
  if size = 8 then v
  else if offset % 8 = 0 then old / 2 ^ 32 * 2 ^ 32 + v % 2 ^ 32
  else old % 2 ^ 32 + v % 2 ^ 32 * 2 ^ 32

/-- A write of a mailbox register at an offset (table of mailbox registers; R382, R393). -/
def State.mbWrite (s : State) (m o size v : Nat) : State :=
  let x := s.mbx m
  let put := fun (w : Word) => wd (putHalf w.toNat o size v)
  if x.state = 1 ∧ (o < 0x38 ∨ (0x40 ≤ o ∧ o < 0x2040)) then s.badAccess
  else if 0x40 ≤ o ∧ o < 0x2040 then
    let k := (o - 0x40) / 8
    s.onMbx m (fun x => { x with data := SMap.set (fun _ => 0) x.data k (put (SMap.get (fun _ => 0) x.data k)) })
  else match o / 8 with
    | 0 => s.onMbx m (fun x => { x with cmd := put x.cmd })
    | 1 => s.onMbx m (fun x => { x with range := put x.range })
    | 2 => s.onMbx m (fun x => { x with target := put x.target })
    | 3 => if o % 8 = 0 then s.mbGoWrite m v Env.calm else s
    | 4 => s
    | 5 => s
    | 6 => s.onMbx m (fun x => { x with irq := put x.irq })
    | _ => s.badAccess

/-! ## G3 (R396 to R402) -/

/-- RING_ENABLE (R396). -/
def execRingEnable (r : Fin 64) (control : BitVec 32) (t : Nat) (s : State) : Host.Outcome State Fault Refusal :=
  s.perform fun s => s.g1At t (fun s => s.ringEnable r control.toNat)

/-- RING_DISABLE (R402). -/
def execRingDisable (r : Fin 64) (t : Nat) (s : State) : Host.Outcome State Fault Refusal :=
  s.perform fun s => s.g1At t (fun s => s.ringDisable r)

/-- HEAD_DOORBELL (R397). -/
def execHeadDoorbell (r : Fin 64) (v : BitVec 32) (t : Nat) (s : State) : Host.Outcome State Fault Refusal :=
  s.perform fun s => s.g1At t (fun s => s.ringHead r v.toNat)

/-- A base address of a ring is written: in halves it takes effect with the high one (R396). -/
def State.ringBase (s : State) (r o size v : Nat) : State :=
  let x := s.ring r
  if x.state ≠ 0 then s.badAccess
  else
    let put := fun (y : RingSt) (n : Nat) => if o < 8 then { y with desc := n, half := none } else { y with cpl := n, half := none }
    let old := if o < 8 then x.desc else x.cpl
    if size = 8 then s.onRing r (fun y => put y v)
    else if o % 8 = 0 then s.onRing r (fun y => { y with half := some (o, v % 2 ^ 32) })
    else
      let low := match x.half with | some (lo, n) => if lo + 4 = o then n else old % 2 ^ 32 | none => old % 2 ^ 32
      s.onRing r (fun y => put y (v % 2 ^ 32 * 2 ^ 32 + low))

/-- A 4-byte write of a ring register at an offset. -/
def State.ringDword (s : State) (r o v : Nat) : State :=
  match o with
  | 0x10 => if v >>> 31 % 2 = 1 then s.ringEnable r v else s.ringDisable r
  | 0x14 => s
  | 0x18 => s.ringHead r v
  | 0x1C => s
  | _ => s.badAccess

/-- A write of a ring register (table of ring registers). -/
def State.ringWrite (s : State) (r o size v : Nat) : State :=
  if o < 0x10 then s.ringBase r o size v
  else if size = 4 then s.ringDword r o v
  else (s.ringDword r o (v % 2 ^ 32)).ringDword r (o + 4) (v / 2 ^ 32)

/-- DESCRIPTOR_FETCH (R397): ready descriptors are read, as far as 16 are in progress. -/
def State.ringFetch (s : State) (r : Nat) (descs : List (List Nat)) : State :=
  let x := s.ring r
  let ready := (x.head + x.entries - x.fetched) % x.entries
  let n := min descs.length (min (16 - x.prog.length) ready)
  if x.state ≠ 1 ∨ x.stopping = true then s
  else
    let ds := (descs.take n).zipIdx.map (fun e => (⟨(x.fetched + e.2) % x.entries, e.1, 0, s.clock, false, false, false⟩ : Desc))
    (s.onRing r (fun y => { y with fetched := (y.fetched + n) % y.entries, prog := y.prog ++ ds })).ringKick r 16

/-- DESCRIPTOR_FETCH (R397). -/
def execDescriptorFetch (r : Fin 64) (descs : List (List (BitVec 64))) (t : Nat) (s : State) : Host.Outcome State Fault Refusal :=
  s.perform fun s => (s.hostAt t).ringFetch r (descs.map (fun d => d.map BitVec.toNat))

/-- The front descriptor of a ring when it is one of operation `op` that may start: not with the OD service, and with FENCE only
after every earlier completion (table of descriptors). -/
def State.ringFront (s : State) (r op : Nat) : Option Desc :=
  let x := s.ring r
  match x.prog with
  | d :: _ => if x.state ≠ 0 ∧ d.bad = false ∧ d.op = op ∧ d.out = false ∧ (d.bits 0 45 1 = 0 ∨ x.done = []) then some d else none
  | [] => none

/-- The front descriptor's transaction is submitted (R397, R398). -/
def State.ringSubmit (s : State) (r : Nat) (d : Desc) (kind : OdOp) (off cnt : Nat) (data : List Word) (e : Env) : State :=
  let rq : Req := ⟨sourceOf 3 r s.ownDevice, if d.bits 0 55 1 = 1 then some (BitVec.ofNat 8 (d.bits 0 47 8)) else none⟩
  let tx := mkTx rq kind (d.bits 1 48 16) (d.bits 1 40 8) off cnt data (.ring r (s.ringGen r))
  let s := s.onRing r (fun x => { x with prog := match x.prog with | d :: ds => { d with out := true, begun := true } :: ds | [] => [] })
  s.pathSubmit d.remote (d.bits 0 16 24) tx e

/-- READ, WRITE and DESCRIBE of a ring (R398), when they are at its front. -/
def State.ringRun (s : State) (r op : Nat) (buffer : List Nat) (e : Env) : State :=
  match s.ringFront r op with
  | none => s
  | some d =>
    let n := d.count
    if op ≠ 3 ∧ d.len < 8 * n then s.ringEnd r 0x6A 0 0 false
    else if op = 1 then s.ringSubmit r d .read (d.bits 1 12 26) n [] e
    else if op = 3 then s.ringSubmit r d .describe (d.bits 1 12 26) 0 [] e
    else s.ringSubmit r d .write (d.bits 1 12 26) n ((List.range n).map (fun k => wd (buffer.getD k 0))) e

/-- One pop of a STREAM at the front of a ring (R399). -/
def State.streamPop (s : State) (r : Nat) (e : Env) : State :=
  match s.ringFront r 4 with
  | none => s
  | some d =>
    if d.len < 64 then s.ringEnd r 0x6A 0 0 false
    else
      let k := min 128 (min (d.count - d.cells) (d.len / 64 - d.cells))
      s.ringSubmit r d .read (d.bits 1 12 26) (8 * k) [] e

/-- G3_READ (R398). -/
def execG3Read (r : Fin 64) (e : Env) (t : Nat) (s : State) : Host.Outcome State Fault Refusal :=
  s.perform fun s => (s.hostAt t).ringRun r 1 [] e

/-- G3_WRITE (R398): `buffer` is what the DMA read of the write data gave. -/
def execG3Write (r : Fin 64) (buffer : List (BitVec 64)) (e : Env) (t : Nat) (s : State) : Host.Outcome State Fault Refusal :=
  s.perform fun s => (s.hostAt t).ringRun r 2 (buffer.map BitVec.toNat) e

/-- G3_DESCRIBE (R398). -/
def execG3Describe (r : Fin 64) (t : Nat) (s : State) : Host.Outcome State Fault Refusal :=
  s.perform fun s => (s.hostAt t).ringRun r 3 [] Env.calm

/-- G3_STREAM (R399): one pop. -/
def execG3Stream (r : Fin 64) (e : Env) (t : Nat) (s : State) : Host.Outcome State Fault Refusal :=
  s.perform fun s => (s.hostAt t).streamPop r e

/-- G3_NOP (R397): it completes with nothing done. -/
def execG3Nop (r : Fin 64) (t : Nat) (s : State) : Host.Outcome State Fault Refusal :=
  s.perform fun s =>
    let s := s.hostAt t
    if (s.ringFront r 5).isSome then s.ringEnd r 0 0 0 false else s

/-- STREAM_WAIT_TIMEOUT (R399): WAIT has passed since the last cell; a last pop finds whether there is nothing to deliver still. -/
def execStreamWaitTimeout (r : Fin 64) (t : Nat) (s : State) : Host.Outcome State Fault Refusal :=
  s.perform fun s =>
    let s := s.hostAt t
    match s.ringFront r 4 with
    | some d => if d.since + usEt (d.bits 4 32 32) ≤ s.clock then s.streamPop r Env.calm else s
    | none => s

/-- G3_COMPLETION (R397, R400). -/
def execG3Completion (r : Fin 64) (t : Nat) (s : State) : Host.Outcome State Fault Refusal :=
  s.perform fun s => (s.hostAt t).ringComplete r

/-- DMA_ERROR (R401): a host memory access of a ring failed. -/
def execDmaError (r : Fin 64) (address : BitVec 64) (t : Nat) (s : State) : Host.Outcome State Fault Refusal :=
  s.perform fun s =>
    let s := s.hostAt t
    if (s.ring r).state = 1 then s.ringError r address.toNat else s

/-- DMA_TIMEOUT (R401): a host memory read of a ring got no completion within 50 ms. -/
def execDmaTimeout (r : Fin 64) (address : BitVec 64) (t : Nat) (s : State) : Host.Outcome State Fault Refusal :=
  s.perform fun s =>
    let s := s.hostAt t
    if (s.ring r).state = 1 then s.ringError r address.toNat else s

/-! ## BAR2 (R384 to R386; 01, R23 to R26; 09, R299; 10, R323) -/

/-- The SOURCE of a BAR2 access in log records (02, bit map of a SOURCE value). -/
def State.bar2Source (s : State) : Word := sourceOf 7 0 s.ownDevice

/-- What a line of HBM is for, as BAR2 tells apart (table of BAR2 access by HBM region). -/
inductive LineUse where
  | live (n : Nat) | result (n : Nat) | pool | links | replies | journal | user | absent
  deriving DecidableEq, Repr

/-- What line `a` is for. -/
def State.lineUse (s : State) (a : Nat) : LineUse :=
  let base := s.ctxBase
  let pool := s.actN 0x7000 0x00
  let lines := s.actN 0x7000 0x01
  if 0x60000000 ≤ a then .absent
  else if base ≤ a ∧ a < base + 0x100000 then .live (a - base)
  else if base + 0x100000 ≤ a ∧ a < base + 0x200000 then .result (a - base - 0x100000)
  else if pool ≤ a ∧ a < pool + lines then .pool
  else if pool + lines ≤ a ∧ a < pool + lines + lines / 8 then .links
  else if meets a 1 [(s.actN 0x1100 0x03, 720896)] then .replies
  else if meets a 1 [(0x5FD00000, 1048576)] then .journal
  else .user

/-- The line that BAR2 shows at `a`, and what reading it leaves; `w0`: the request covers W0 (R299). -/
def State.bar2Line (s : State) (a : Nat) (w0 : Bool) : LineData × State :=
  match s.lineUse a with
  | .live n => s.liveRead n 6
  | .result n => if w0 then s.resultOf n 6 else s.hbmRead a 6
  | .links | .replies | .absent => (mkLine 0 0 true 0 0 0 0 0 0, s)
  | .journal =>
    let k := a - 0x5FD00000
    let next := s.regN 0x0400 0x01
    let n := s.alm.head.length
    let back := (next + 1048576 - 1 - k) % 1048576
    if back < n then (s.alm.head.getD (n - 1 - back) 0, s) else s.hbmRead a 6
  | .pool | .user => s.hbmRead a 6

/-- The 64 bytes of a slot as one number, byte 0 lowest (table of a BAR2 line slot). -/
def slotNumber (l : LineData) : Nat :=
  (List.range 6).foldl (fun n k => n + (lineWord l k).toNat * 2 ^ (64 * k)) (lineTag l * 2 ^ 384)

/-- A BAR2 read over slots: `n` lines from line `i` of the window, bytes `lo` to `hi` of BAR2, the value gathered so far. -/
def State.bar2Gather (s : State) (lo hi : Nat) : Nat → Nat → Nat → Nat × State
  | 0, _, acc => (acc, s)
  | n + 1, i, acc =>
    let a := max lo (64 * i) - 64 * i
    let b := min hi (64 * i + 64) - 64 * i
    let r := s.bar2Line (s.regN 0x1000 0x04 + i) (a < 8)
    State.bar2Gather r.2 lo hi n (i + 1) (acc + (slotNumber r.1 / 2 ^ (8 * a)) % 2 ^ (8 * (b - a)) * 2 ^ (8 * (64 * i + a - lo)))

/-- BAR2_READ (R386): `len` bytes from an offset. -/
def execBar2Read (offset len : Nat) (upset : List (Nat × LineData)) (t : Nat) (s : State) : Host.Outcome State Fault Refusal :=
  s.perform fun s => s.g1At t (fun s =>
    if len = 0 then s
    else
      let s := s.upset upset
      let r := s.bar2Gather offset (offset + len) ((offset + len - 1) / 64 - offset / 64 + 1) (offset / 64) 0
      r.2.hostRead r.1)

/-- The slot bytes with bytes `a` to `b` replaced from the request's. -/
def spliceSlot (old : Nat) (a : Nat) (bytes : List Byte) : Nat :=
  bytes.zipIdx.foldl (fun n e => n - (n / 2 ^ (8 * (a + e.2)) % 256) * 2 ^ (8 * (a + e.2)) + e.1.toNat * 2 ^ (8 * (a + e.2))) old

/-- The line that slot bytes spell, with POISON as given and PAR computed (R385). -/
def lineOfSlot (n : Nat) (poison : Bool) : LineData :=
  let w := fun k => wd (n / 2 ^ (64 * k))
  let tag := n / 2 ^ 384 % 65536
  mkLine (tag / 2 ^ 7 % 16) (tag / 2 ^ 11) poison (w 0) (w 1) (w 2) (w 3) (w 4) (w 5)

/-- Bytes reach one line (R385; table of BAR2 access by HBM region). -/
def State.bar2Put (s : State) (line a : Nat) (bytes : List Byte) : State :=
  match s.lineUse line with
  | .live _ | .result _ => s.logPut 0x0603 (wd line) s.bar2Source
  | .pool | .links => s.logPut 0x0608 (wd line) s.bar2Source
  | .replies | .journal => s.logPut 0x0807 (wd line) 0
  | .absent => s.logPut 0x0203 (wd line) s.bar2Source
  | .user =>
    if a = 0 ∧ 50 ≤ bytes.length then s.hbmPut line (lineOfSlot (spliceSlot 0 0 bytes) false)
    else if 50 ≤ a then s
    else
      let r := s.hbmRead line 6
      r.2.hbmPut line (lineOfSlot (spliceSlot (slotNumber r.1) a bytes) (linePoison r.1))

/-- A BAR2 write over `n` lines from line `i` of the window. -/
def State.bar2Scatter (s : State) (lo : Nat) (bytes : List Byte) : Nat → Nat → State
  | 0, _ => s
  | n + 1, i =>
    let a := max lo (64 * i) - 64 * i
    let part := (bytes.drop (64 * i + a - lo)).take (64 - a)
    State.bar2Scatter (s.bar2Put (s.regN 0x1000 0x04 + i) a part) lo bytes n (i + 1)

/-- BAR2_WRITE (R385; 01, R26): a poisoned request is counted and discarded. -/
def execBar2Write (offset : Nat) (bytes : List Byte) (poisoned : Bool) (t : Nat) (s : State) : Host.Outcome State Fault Refusal :=
  s.perform fun s => s.g1At t (fun s =>
    if poisoned then s.addReg 0x1000 0x06 1
    else if bytes.isEmpty then s
    else s.bar2Scatter offset bytes ((offset + bytes.length - 1) / 64 - offset / 64 + 1) (offset / 64))

/-! ## Registers, vectors, the link -/

/-- A write to BAR0 (R382; table of the BAR0 map). -/
def State.bar0Write (s : State) (o size v : Nat) : State :=
  if (size ≠ 4 ∧ size ≠ 8) ∨ o % size ≠ 0 then s.badAccess
  else if o < 0x1000000 then
    if size = 4 then s.g1Write o v Env.calm else (s.g1Write o (v % 2 ^ 32) Env.calm).g1Write (o + 4) (v / 2 ^ 32) Env.calm
  else if o < 0x1020000 then s.mbWrite ((o - 0x1000000) / 0x4000) (o % 0x4000) size v
  else if o < 0x1024000 then s.ringWrite ((o - 0x1020000) / 0x100) (o % 0x100) size v
  else if 0x1040000 ≤ o ∧ o < 0x1040400 then
    let k := (o - 0x1040000) / 4
    let put := fun (h : HostSt) (j n : Nat) => { h with msix := SMap.set (fun k => if k % 4 = 3 then 1 else 0) h.msix j (n % 2 ^ 32) }
    let s := s.onHost (fun h => put h k v)
    let s := s.when (size = 8) (fun s => s.onHost (fun h => put h (k + 1) (v / 2 ^ 32)))
    s.releaseVectors
  else if 0x1041000 ≤ o ∧ o < 0x1041008 then s
  else s.badAccess

/-- What a read of dword `k` of mailbox `m` returns (table of mailbox registers; R383). -/
def State.mbDword (s : State) (m k : Nat) : Nat :=
  let x := s.mbx m
  let w : Word := match k / 2 with
    | 0 => x.cmd
    | 1 => x.range
    | 2 => x.target
    | 4 => wd (x.state * 2 ^ 38 + x.epoch * 2 ^ 30 + x.abort)
    | 5 => wd x.count
    | 6 => x.irq
    | n => if 8 ≤ n ∧ n < 1032 then SMap.get (fun _ => 0) x.data (n - 8) else 0
  if k % 2 = 0 then fld w 0 32 else fld w 32 8

/-- What a read of dword `k` of ring `r` returns (table of ring registers). -/
def State.ringValue (s : State) (r k : Nat) : Nat :=
  let x := s.ring r
  match k with
  | 0 => x.desc % 2 ^ 32
  | 1 => x.desc / 2 ^ 32
  | 2 => x.cpl % 2 ^ 32
  | 3 => x.cpl / 2 ^ 32
  | 4 => b2n (x.state ≠ 0 && !x.stopping) * 2 ^ 31 + x.size * 2 ^ 16 + b2n x.vecOn * 64 + x.vec
  | 5 => x.state * 2 ^ 30 + x.abort
  | 6 => x.head
  | 7 => b2n x.phase * 2 ^ 31 + x.tail
  | _ => 0

/-- What a read of BAR0 outside the G1 window returns, at a dword (R382; table of the BAR0 map): it changes nothing; a reserved offset reads
zero. -/
def State.bar0Dword (s : State) (k : Nat) : Nat :=
  let o := 4 * k
  if 0x1000000 ≤ o ∧ o < 0x1020000 then s.mbDword ((o - 0x1000000) / 0x4000) (o % 0x4000 / 4)
  else if 0x1020000 ≤ o ∧ o < 0x1024000 then s.ringValue ((o - 0x1020000) / 0x100) (o % 0x100 / 4)
  else if 0x1040000 ≤ o ∧ o < 0x1040400 then s.msixDword ((o - 0x1040000) / 4)
  else if o = 0x1041000 ∨ o = 0x1041004 then
    (s.host.pendingBits.map (fun v => if v / 32 = k % 2 then 2 ^ (v % 32) else 0)).foldl (fun n b => n ||| b) 0
  else 0

/-- What a read of BAR0 outside the G1 window returns: zero for a size or an alignment that BAR0 does not take (R382). -/
def State.bar0Value (s : State) (o size : Nat) : Nat :=
  if (size ≠ 4 ∧ size ≠ 8) ∨ o % size ≠ 0 then 0
  else if size = 4 then s.bar0Dword (o / 4)
  else s.bar0Dword (o / 4) + s.bar0Dword (o / 4 + 1) * 2 ^ 32

/-- REGISTER_WRITE (R382; 20): a write to a host-interface or service-port register. -/
def execRegisterWrite (w : RegWrite) (t : Nat) (s : State) : Host.Outcome State Fault Refusal :=
  s.perform fun s =>
    match w with
    | .bar0 o size v => s.g1At t (fun s => s.bar0Write o size v)
    | .poisoned => s.g1At t (fun s => s.addReg 0x1000 0x06 1)
    | .function b m f => s.g1At t (fun s => (s.onHost (fun h => { h with busMaster := b, msixEnable := m, functionMask := f })).releaseVectors)
    | .service reg v =>
      let s := s.tick t
      if s.carries then s.svcPutAll reg.val [v.toNat] Env.calm else s

/-- MSIX_SEND (R403). -/
def execMsixSend (vec : Fin 64) (t : Nat) (s : State) : Host.Outcome State Fault Refusal :=
  s.perform fun s => (s.hostAt t).sendVector vec

/-- The width of the link for `n` lanes: x8, x4, x2 or x1 (table of link and function properties). -/
def linkWidth (n : Nat) : Nat := if 8 ≤ n then 8 else if 4 ≤ n then 4 else if 2 ≤ n then 2 else n

/-- HOST_LINK_TRAINED (R380): at the highest rate and width of both partners and MAX_GEN; 64 GT/s needs flit mode. -/
def execHostLinkTrained (gen width : Nat) (flit : Bool) (t : Nat) (s : State) : Host.Outcome State Fault Refusal :=
  s.perform fun s =>
    let s := s.tick t
    if s.devState = 0 then s
    else
      let g := min (min gen (s.regN 0x1000 0x03)) (if flit then 6 else 5)
      if g = 0 ∨ width = 0 then s
      else ((s.setRegN 0x1000 0x00 g).setRegN 0x1000 0x01 (linkWidth width)).setRegN 0x1000 0x02 (b2n flit)

/-- LINK_DOWN (R404, R405; 17, HOST_LINK_DOWN). -/
def execLinkDown (t : Nat) (s : State) : Host.Outcome State Fault Refusal :=
  s.perform fun s =>
    let s := s.tick t
    if s.devState = 0 then s
    else
      let s := (((s.setRegN 0x1000 0x00 0).setRegN 0x1000 0x01 0).setRegN 0x1000 0x02 0).addReg 0x1000 0x08 1
      s.faultRaise 0xA8 0x1B 0 0 false

/-- FLR (R404, R405). -/
def execFlr (t : Nat) (s : State) : Host.Outcome State Fault Refusal :=
  s.perform fun s =>
    let s := s.tick t
    if s.devState = 0 then s else (s.addReg 0x1000 0x07 1).hostReset

/-- The identification code (21, R582). -/
def State.idCode (s : State) : BitVec 32 :=
  BitVec.ofNat 32 (fld (s.reg 0x0000 0x03) 8 4 * 2 ^ 28 + 0xD025 * 2 ^ 12 + Config.manufacturer.toNat * 2 + 1)

/-- The instruction that the test access port acts on (21, R582): EXTEST and its kin act while RESET_N is low, else as BYPASS. -/
def State.tapActs (s : State) : TapInstr :=
  match s.tap.loaded with
  | .extest | .extestPulse | .extestTrain => if s.start.resetLow then s.tap.loaded else .bypass
  | i => i

/-- TEST_ACCESS_PORT_INSTRUCTION (21, R582): an instruction is loaded; IDCODE captures the identification code. -/
def execTestAccessPortInstruction (i : TapInstr) (t : Nat) (s : State) : Host.Outcome State Fault Refusal :=
  s.perform fun s =>
    let s := s.tick t
    { s with tap := ⟨i, if i = .idcode then s.idCode else 0⟩ }

end Sys2Proof.Machine
end

