-- ==== Sys2Proof/Machine/LogRows.lean ====
section
/-! DEFINITION. Machine/LogRows.lean: the rows of the Almanac's flash, the journal's head and the event log (18). -/

namespace Sys2Proof.Machine

/-! ## The event log (R521 to R524) -/

/-- The slot of the log SRAM in which a record lies (R521): the first 256 are kept, later ones take turns. -/
def logSlotOf (num : Nat) : Nat := if num < 256 then num else 256 + (num - 256) % 3840

/-- Codes marked M: they merge on CODE, ARG0 and INJ alone (table of log codes). -/
def mergesAlone (code : Nat) : Bool := [0x0305, 0x0502, 0x0601, 0x0606, 0x0904, 0x090A, 0x0A06, 0x0B01].contains code

/-- Whether an occurrence merges into a stored record (R522). -/
def LogRec.mergesWith (r x : LogRec) : Bool :=
  r.code == x.code && r.arg0 == x.arg0 && r.inj == x.inj && (mergesAlone r.code || r.arg1 == x.arg1)

/-- The record stored last. -/
def State.newestRecord (s : State) : Option LogRec :=
  if s.regN 0x0500 0x03 = 0 then none else SMap.get (fun _ => none) s.log.slots (logSlotOf (s.regN 0x0500 0x03 - 1))

/-- Put a record into its slot. -/
def State.putRecord (s : State) (r : LogRec) : State :=
  { s with log := { s.log with slots := SMap.set (fun _ => none) s.log.slots (logSlotOf r.num) (some r) } }

/-- A merge (R522): REPEAT rises, and ARG1 of a code marked M takes the newest value. -/
def LogRec.merge (x r : LogRec) : LogRec :=
  ({ x with rep := min 0xFFFFF (x.rep + 1), arg1 := if mergesAlone r.code then r.arg1 else x.arg1 }).seal

/-- A record becomes the next stored one (R521). -/
def State.storeRecord (s : State) (r : LogRec) : State :=
  let num := s.regN 0x0500 0x03
  let s := s.when (4096 ≤ num) (fun s => s.addReg 0x0500 0x05 1)
  (s.putRecord ({ r with num := num }).seal).addReg 0x0500 0x03 1

/-- After a merge the next record stored still tells of a loss before it (R524). -/
def State.passLoss (s : State) (r : LogRec) : State :=
  if r.afterLoss then match s.log.input with
    | x :: xs => { s with log := { s.log with input := { x with afterLoss := true } :: xs } }
    | [] => { s with log := { s.log with lossPending := true } }
  else s

/-- LOG_STORE (R522, R524): the oldest record of the input is stored, or under MODE 0 merged into the newest record. -/
def execLogStore (s : State) : Host.Outcome State Fault Refusal :=
  s.perform fun s =>
    match s.log.input with
    | [] => s
    | r :: rest =>
      let s := { s with log := { s.log with input := rest } }
      match s.newestRecord with
      | some x => if s.regN 0x0500 0x00 = 0 ∧ r.mergesWith x = true then (s.putRecord (x.merge r)).passLoss r else s.storeRecord r
      | none => s.storeRecord r

/-- LOG_RECORD (R524): an occurrence is logged. -/
def execLogRecord (code : BitVec 16) (arg0 arg1 : Word) (inj : Bool) (t : Nat) (s : State) : Host.Outcome State Fault Refusal :=
  s.perform fun s => (s.tick t).logPut code.toNat arg0 arg1 inj

/-- RATE_WINDOW_CLOSE (R523): a window that has lasted RATE_WINDOW closes. -/
def execRateWindowClose (code : BitVec 16) (t : Nat) (s : State) : Host.Outcome State Fault Refusal :=
  s.perform fun s => (s.tick t).closeRateWin code.toNat

/-! ## The journal's head (R517, R518) -/

/-- The oldest entry of the head goes to its HBM line. -/
def State.drainOne (s : State) : State :=
  match s.alm.head with
  | [] => s
  | l :: rest =>
    let s := s.hbmPut (0x5FD00000 + (lineWord l 0).toNat % 1048576) l
    { s with alm := { s.alm with head := rest } }

/-- JOURNAL_DRAIN (R518): `n` entries leave the head. -/
def execJournalDrain (n : Nat) (s : State) : Host.Outcome State Fault Refusal :=
  s.perform fun s =>
    let s := s.repeat (min n s.alm.head.length) (fun _ s => s.drainOne)
    s.setRegN 0x0400 0x04 s.alm.head.length

/-- JOURNAL_HOLD_RELEASE (R518): held transactions for which there is room are performed. -/
def execJournalHoldRelease (e : Env) (t : Nat) (s : State) : Host.Outcome State Fault Refusal :=
  s.perform fun s =>
    let s := s.tick t
    s.odRelease e true s.alm.held.length

/-! ## The Almanac commit (R507, R510) -/

/-- The running commit ends well (R507 steps 5 and 6): the bank is VALID and active. -/
def State.commitGood (s : State) (k : CommitRun) : State :=
  let s := { s with alm := { s.alm with run := none } }
  let s := (s.setBank k.bank { st := 1, gen := k.gen, entries := k.entries, bytes := k.bytes }).showBanks k.bank
  let s := (s.addReg 0x0300 (5 + k.bank) 1).setRegN 0x0300 0x09 1000
  let s := s.journalEvent 4 0x0300 (wd (k.bank * 2 ^ 38 + k.gen))
  (s.logPut 0x0101 (wd k.bank) (wd k.gen)).endCmd k.src 0x0300 0 k.bank 0

/-- The running commit fails at a flash byte address (R510). -/
def State.commitFail (s : State) (k : CommitRun) (address : Nat) : State :=
  let s := { s with alm := { s.alm with run := none } }
  let s := (s.setBank k.bank { Bank.erased with st := 2 }).showBanks (s.regN 0x0300 0x01)
  let s := s.journalEvent 5 0x0300 0x33
  let s := (s.logPut 0x0102 0x33 (wd address)).raiseFault 0xAE 0x1C 1 (wd address)
  s.endCmd k.src 0x0300 0 0 0x33

/-- ALMANAC_COMMITTED (R507, R510): the flash programming and verify end. A commit that a cold reset cut ends in BRINGUP step 2 (R511). -/
def execAlmanacCommitted (res : FlashResult) (t : Nat) (s : State) : Host.Outcome State Fault Refusal :=
  s.perform fun s =>
    let s := s.tick t
    match s.alm.run, res with
    | none, _ => s
    | some k, .good => if s.bootEarly then s else s.commitGood k
    | some k, .failed a => if s.bootEarly then s else s.commitFail k a.toNat

end Sys2Proof.Machine
end

