-- ==== Sys2Proof/Machine/MeasureRows.lean ====
section
/-! DEFINITION. Machine/MeasureRows.lean: the rows of ADC sequences, stamp capture and regression units that no OD write starts (08). -/

namespace Sys2Proof.Machine

/-- ADC_LINE_TRIGGER (08, R253, R256). -/
def execAdcLineTrigger (c : Fin 48) (n : Fin 2) (stamp : U80) (timed : Bool) (t : Nat) (s : State) : Host.Outcome State Fault Refusal :=
  s.perform fun s => (s.tick t).adcLine c n stamp timed

/-- ADC_AUTO_TRIGGER (08, R253). -/
def execAdcAutoTrigger (c : Fin 48) (n : Fin 2) (t : Nat) (s : State) : Host.Outcome State Fault Refusal :=
  s.perform fun s => (s.tick t).adcAuto c n

/-- ADC_SAMPLE (08, R248): `code` is the ADC code after calibration, `compliance` what the PMU reports. -/
def execAdcSample (c : Fin 48) (n : Fin 2) (code : BitVec 16) (compliance : Bool) (t : Nat) (s : State) : Host.Outcome State Fault Refusal :=
  s.perform fun s => (s.tick t).adcSample c n code compliance

/-- ADC_INTERVAL_END (08, R257). -/
def execAdcIntervalEnd (c : Fin 48) (n : Fin 2) (upset : List (Nat × LineData)) (t : Nat) (s : State) : Host.Outcome State Fault Refusal :=
  s.perform fun s => ((s.tick t).upset upset).intervalEnd c n

/-- STAMP (08, R263). -/
def execStamp (c : Fin 48) (lane : Fin 24) (edge : Crossing) (t : Nat) (s : State) : Host.Outcome State Fault Refusal :=
  s.perform fun s => (s.tick t).stampEdge c lane edge

/-- STAMP_DRAIN (08, R265). -/
def execStampDrain (c : Fin 48) (t : Nat) (s : State) : Host.Outcome State Fault Refusal :=
  s.perform fun s => (s.tick t).stampDrain c

/-- STAMP_GATE_OPEN (08, R266). -/
def execStampGateOpen (c : Fin 48) (t : Nat) (s : State) : Host.Outcome State Fault Refusal :=
  s.perform fun s => (s.tick t).capOpen c

/-- STAMP_GATE_CLOSE (08, R266, R267): GATE after the release, the gate closes as DONE. -/
def execStampGateClose (c : Fin 48) (t : Nat) (s : State) : Host.Outcome State Fault Refusal :=
  s.perform fun s =>
    let s := s.tick t
    let e := (s.cap c).release.getD 0 + nsEt (s.regN (capIdx c) 5)
    if s.regN (capIdx c) 0 = 2 ∧ e + s.stampLag c ≤ s.clock then s.capClose c e 3 0 else s

/-- RU_GATE_OPEN (08, R268). -/
def execRuGateOpen (c : Fin 48) (n : Fin 4) (t : Nat) (s : State) : Host.Outcome State Fault Refusal :=
  s.perform fun s =>
    let s := s.tick t
    let x := s.ru c n
    if s.regN (ruIdx c n) 0 = 1 then
      match s.gateRelease (s.regN (ruIdx c n) 6) x.armed x.release with
      | some r => s.ruOpen c n r 0
      | none => s
    else s

/-- RU_GATE_END (08, R271). -/
def execRuGateEnd (c : Fin 48) (n : Fin 4) (t : Nat) (s : State) : Host.Outcome State Fault Refusal :=
  s.perform fun s => (s.tick t).ruGateEnd c n

end Sys2Proof.Machine
end

