-- ==== Sys2Proof/Machine/OdRows.lean ====
section
/-! DEFINITION. Machine/OdRows.lean: the rows that are OD transactions of one object: each reaches the OD service as the write,
command, read or DESCRIBE it is. -/

namespace Sys2Proof.Machine

/-! ## Object dictionary and locks (02) -/

/-- OD_WRITE (R52): a write of an object. -/
def execOdWrite (rq : Req) (idx : BitVec 16) (sub : BitVec 8) (off : Nat) (vals : List Word) (e : Env) (t : Nat) (s : State) : Host.Outcome State Fault Refusal :=
  s.perform fun s => s.odRow rq idx.toNat sub.toNat off vals e t

/-- ACQUIRE (R69): a sequence lock is asked for. -/
def execAcquire (rq : Req) (off : Nat) (vals : List Word) (t : Nat) (s : State) : Host.Outcome State Fault Refusal :=
  s.perform fun s => s.odRow rq 0x0200 0x00 off vals Env.calm t

/-- RENEW (R65): the lease of a slot starts again. -/
def execRenew (rq : Req) (slot : Word) (t : Nat) (s : State) : Host.Outcome State Fault Refusal :=
  s.perform fun s => s.odRow rq 0x0200 0x01 0 [slot] Env.calm t

/-- COMMIT (R61): the staged writes of a slot are applied together. -/
def execCommit (rq : Req) (slot : Word) (t : Nat) (s : State) : Host.Outcome State Fault Refusal :=
  s.perform fun s => s.odRow rq 0x0200 0x02 0 [slot] Env.calm t

/-- RELEASE (R70): the staged writes of a slot are discarded, the slot is freed. -/
def execRelease (rq : Req) (slot : Word) (t : Nat) (s : State) : Host.Outcome State Fault Refusal :=
  s.perform fun s => s.odRow rq 0x0200 0x03 0 [slot] Env.calm t

/-- COMMIT_RELEASE (R70): COMMIT, then RELEASE when it succeeded. -/
def execCommitRelease (rq : Req) (slot : Word) (t : Nat) (s : State) : Host.Outcome State Fault Refusal :=
  s.perform fun s => s.odRow rq 0x0200 0x04 0 [slot] Env.calm t

/-- DESCRIBE (R46): an object's type, access code, length and resolved default. -/
def execDescribe (rq : Req) (idx : BitVec 16) (sub : BitVec 8) (t : Nat) (s : State) : Host.Outcome State Fault Refusal :=
  s.perform fun s =>
    let s := s.tick t
    if s.carries then s.odSubmit (mkTx rq .describe idx.toNat sub.toNat 0 0 [] .here) Env.calm else s

/-! ## Meridian time and the event router (03) -/

/-- MODE_WRITE (R83): MODE is written. -/
def execModeWrite (rq : Req) (v : Word) (t : Nat) (s : State) : Host.Outcome State Fault Refusal :=
  s.perform fun s => s.odRow rq 0x0900 0x03 0 [v] Env.calm t

/-- LOAD_CMD_AT_SYNC_IN (R93): Meridian time is loaded at the next edge of SYNC_IN. -/
def execLoadCmdAtSyncIn (rq : Req) (t : Nat) (s : State) : Host.Outcome State Fault Refusal :=
  s.perform fun s => s.odRow rq 0x0900 0x0E 0 [1] Env.calm t

/-- LOAD_CMD_NOW (R93): Meridian time is loaded at once. -/
def execLoadCmdNow (rq : Req) (t : Nat) (s : State) : Host.Outcome State Fault Refusal :=
  s.perform fun s => s.odRow rq 0x0900 0x0E 0 [2] Env.calm t

/-- PULSE (R97): an occurrence is made on a line. -/
def execPulse (rq : Req) (line : Fin 512) (v : Word) (t : Nat) (s : State) : Host.Outcome State Fault Refusal :=
  s.perform fun s => s.odRow rq (0x0A00 + line) 0x05 0 [v] Env.calm t

/-- ISSUE (R105): a timed event is issued. -/
def execIssue (rq : Req) (off : Nat) (vals : List Word) (t : Nat) (s : State) : Host.Outcome State Fault Refusal :=
  s.perform fun s => s.odRow rq 0x0910 0x00 off vals Env.calm t

/-- CANCEL (R110): a timed event is cancelled. -/
def execCancel (rq : Req) (off : Nat) (vals : List Word) (t : Nat) (s : State) : Host.Outcome State Fault Refusal :=
  s.perform fun s => s.odRow rq 0x0910 0x01 off vals Env.calm t

/-! ## Pin electronics (04) -/

/-- LOAD_NOW (R117): a LOAD strobe of a cluster. -/
def execLoadNow (rq : Req) (c : Fin 48) (v : Word) (t : Nat) (s : State) : Host.Outcome State Fault Refusal :=
  s.perform fun s => s.odRow rq (peIdx 0x1F c) 0xF1 0 [v] Env.calm t

/-- ENABLE_WRITE (R127): ENABLE of a slice is written. -/
def execEnableWrite (rq : Req) (c : Fin 48) (slice : Fin 25) (v : Word) (t : Nat) (s : State) : Host.Outcome State Fault Refusal :=
  s.perform fun s => s.odRow rq (peIdx 0x00 c) slice 0 [v] Env.calm t

/-- FORCE_STATE_WRITE (R128): FORCE_STATE of a slice is written. -/
def execForceStateWrite (rq : Req) (c : Fin 48) (slice : Fin 25) (v : Word) (t : Nat) (s : State) : Host.Outcome State Fault Refusal :=
  s.perform fun s => s.odRow rq (peIdx 0x01 c) slice 0 [v] Env.calm t

/-- PMU_MODE_WRITE (R135): PMU_MODE of a slice is written. -/
def execPmuModeWrite (rq : Req) (c : Fin 48) (slice : Fin 25) (v : Word) (t : Nat) (s : State) : Host.Outcome State Fault Refusal :=
  s.perform fun s => s.odRow rq (peIdx 0x03 c) slice 0 [v] Env.calm t

/-- PMU_RANGE_WRITE (R136): PMU_RANGE of a slice is written. -/
def execPmuRangeWrite (rq : Req) (c : Fin 48) (slice : Fin 25) (v : Word) (t : Nat) (s : State) : Host.Outcome State Fault Refusal :=
  s.perform fun s => s.odRow rq (peIdx 0x04 c) slice 0 [v] Env.calm t

/-- SPARE_LANE_WRITE (R143): SPARE_LANE of a cluster is written. -/
def execSpareLaneWrite (rq : Req) (c : Fin 48) (v : Word) (t : Nat) (s : State) : Host.Outcome State Fault Refusal :=
  s.perform fun s => s.odRow rq (peIdx 0x1F c) 0xF2 0 [v] Env.calm t

/-! ## Sequencers and streams (06, 07) -/

/-- ARM (R214): ARM of a sequencer. -/
def execArm (rq : Req) (c : Fin 48) (v : Word) (t : Nat) (s : State) : Host.Outcome State Fault Refusal :=
  s.perform fun s => s.odRow rq (seqIdx 0x00 c) 0x01 0 [v] Env.calm t

/-- START (R215): START of a sequencer. -/
def execStart (rq : Req) (c : Fin 48) (v : Word) (t : Nat) (s : State) : Host.Outcome State Fault Refusal :=
  s.perform fun s => s.odRow rq (seqIdx 0x00 c) 0x02 0 [v] Env.calm t

/-- STOP_AT_BOUNDARY (R216): STOP at the next segment boundary. -/
def execStopAtBoundary (rq : Req) (c : Fin 48) (t : Nat) (s : State) : Host.Outcome State Fault Refusal :=
  s.perform fun s => s.odRow rq (seqIdx 0x00 c) 0x03 0 [1] Env.calm t

/-- STOP_ABORT (R216): STOP at once. -/
def execStopAbort (rq : Req) (c : Fin 48) (t : Nat) (s : State) : Host.Outcome State Fault Refusal :=
  s.perform fun s => s.odRow rq (seqIdx 0x00 c) 0x03 0 [2] Env.calm t

/-- JUMP_REQUEST (R206): an external jump is asked for. -/
def execJumpRequest (rq : Req) (c : Fin 48) (v : Word) (t : Nat) (s : State) : Host.Outcome State Fault Refusal :=
  s.perform fun s => s.odRow rq (seqIdx 0x02 c) 0x00 0 [v] Env.calm t

/-- BCAST_ARM (R232): ARM of a broadcast group. -/
def execBcastArm (rq : Req) (group : Fin 48) (v : Word) (t : Nat) (s : State) : Host.Outcome State Fault Refusal :=
  s.perform fun s => s.odRow rq (0x3C00 + group) 0x01 0 [v] Env.calm t

/-! ## Measurement (08) -/

/-- ADC_ARM (R260): ARM of an ADC sequence. -/
def execAdcArm (rq : Req) (c : Fin 48) (n : Fin 2) (v : Word) (t : Nat) (s : State) : Host.Outcome State Fault Refusal :=
  s.perform fun s => s.odRow rq (meaIdx n c) 0x01 0 [v] Env.calm t

/-- ADC_STOP_AFTER_STEP (R261): an ADC sequence stops after its step. -/
def execAdcStopAfterStep (rq : Req) (c : Fin 48) (n : Fin 2) (t : Nat) (s : State) : Host.Outcome State Fault Refusal :=
  s.perform fun s => s.odRow rq (meaIdx n c) 0x02 0 [1] Env.calm t

/-- ADC_STOP_NOW (R261): an ADC sequence stops at once. -/
def execAdcStopNow (rq : Req) (c : Fin 48) (n : Fin 2) (t : Nat) (s : State) : Host.Outcome State Fault Refusal :=
  s.perform fun s => s.odRow rq (meaIdx n c) 0x02 0 [2] Env.calm t

/-- STAMP_ARM (R266): ARM of a stamp capture. -/
def execStampArm (rq : Req) (c : Fin 48) (v : Word) (t : Nat) (s : State) : Host.Outcome State Fault Refusal :=
  s.perform fun s => s.odRow rq (meaIdx 0x03 c) 0x01 0 [v] Env.calm t

/-- STAMP_STOP_AT_CLOSE (R267): a stamp capture runs to its close. -/
def execStampStopAtClose (rq : Req) (c : Fin 48) (t : Nat) (s : State) : Host.Outcome State Fault Refusal :=
  s.perform fun s => s.odRow rq (meaIdx 0x03 c) 0x02 0 [1] Env.calm t

/-- STAMP_STOP_NOW (R267): the gate of a stamp capture closes at once. -/
def execStampStopNow (rq : Req) (c : Fin 48) (t : Nat) (s : State) : Host.Outcome State Fault Refusal :=
  s.perform fun s => s.odRow rq (meaIdx 0x03 c) 0x02 0 [2] Env.calm t

/-- RU_ARM (R268): ARM of a regression unit. -/
def execRuArm (rq : Req) (c : Fin 48) (n : Fin 4) (v : Word) (t : Nat) (s : State) : Host.Outcome State Fault Refusal :=
  s.perform fun s => s.odRow rq (meaIdx (4 + n) c) 0x01 0 [v] Env.calm t

/-- RU_STOP_AFTER_GATE (R268): a regression unit stops after its gate. -/
def execRuStopAfterGate (rq : Req) (c : Fin 48) (n : Fin 4) (t : Nat) (s : State) : Host.Outcome State Fault Refusal :=
  s.perform fun s => s.odRow rq (meaIdx (4 + n) c) 0x02 0 [1] Env.calm t

/-- RU_STOP_NOW (R268): a regression unit stops at once. -/
def execRuStopNow (rq : Req) (c : Fin 48) (n : Fin 4) (t : Nat) (s : State) : Host.Outcome State Fault Refusal :=
  s.perform fun s => s.odRow rq (meaIdx (4 + n) c) 0x02 0 [2] Env.calm t

/-! ## Contexts and queues (09, 10) -/

/-- CLOSE (R295): a range of contexts is closed. -/
def execClose (rq : Req) (v : Word) (t : Nat) (s : State) : Host.Outcome State Fault Refusal :=
  s.perform fun s => s.odRow rq 0x6000 0x01 0 [v] Env.calm t

/-- RESET (R295): a range of contexts is reset. -/
def execReset (rq : Req) (v : Word) (t : Nat) (s : State) : Host.Outcome State Fault Refusal :=
  s.perform fun s => s.odRow rq 0x6000 0x02 0 [v] Env.calm t

/-- PUSH (R326): cells are pushed to a queue as one item. -/
def execPush (rq : Req) (off : Nat) (vals : List Word) (t : Nat) (s : State) : Host.Outcome State Fault Refusal :=
  s.perform fun s => s.odRow rq 0x7001 0x01 off vals Env.calm t

/-- FLUSH (R324): a queue is flushed. -/
def execFlush (rq : Req) (q : Fin 65536) (v : Word) (broken : Option Nat) (t : Nat) (s : State) : Host.Outcome State Fault Refusal :=
  s.perform fun s => s.odRow rq 0x7016 0x00 q [v] { Env.calm with broken := broken } t

/-- CLEAR_HIT (R325): LEVEL_HIT of a queue is cleared. -/
def execClearHit (rq : Req) (q : Fin 65536) (v : Word) (t : Nat) (s : State) : Host.Outcome State Fault Refusal :=
  s.perform fun s => s.odRow rq 0x701B 0x00 q [v] Env.calm t

/-- QUEUE_ENABLE (R307): CONFIG of a queue is written with ENABLE 1. -/
def execQueueEnable (rq : Req) (q : Fin 65536) (v : Word) (t : Nat) (s : State) : Host.Outcome State Fault Refusal :=
  s.perform fun s => s.odRow rq 0x7010 0x00 q [setBit v 39 true] Env.calm t

/-- QUEUE_DISABLE (R307): CONFIG of a queue is written with ENABLE 0. -/
def execQueueDisable (rq : Req) (q : Fin 65536) (v : Word) (t : Nat) (s : State) : Host.Outcome State Fault Refusal :=
  s.perform fun s => s.odRow rq 0x7010 0x00 q [setBit v 39 false] Env.calm t

/-- ROLE_WRITE (R327): ROLE of a queue is written. -/
def execRoleWrite (rq : Req) (q : Fin 65536) (v : Word) (t : Nat) (s : State) : Host.Outcome State Fault Refusal :=
  s.perform fun s => s.odRow rq 0x7014 0x00 q [v] Env.calm t

/-- RESULT_READ (R297): results of contexts are read. -/
def execResultRead (rq : Req) (off cnt : Nat) (upset : List (Nat × LineData)) (t : Nat) (s : State) : Host.Outcome State Fault Refusal :=
  s.perform fun s =>
    let s := s.tick t
    if s.carries then s.odSubmit (mkTx rq .read 0x6001 0 off cnt [] .here) { Env.calm with upset := upset } else s

/-- POP (R319): cells are taken from the head of a queue. -/
def execPop (rq : Req) (off cnt : Nat) (upset : List (Nat × LineData)) (broken : Option Nat) (t : Nat) (s : State) : Host.Outcome State Fault Refusal :=
  s.perform fun s =>
    let s := s.tick t
    if s.carries then s.odSubmit (mkTx rq .read 0x7001 0 off cnt [] .here) { Env.calm with upset := upset, broken := broken } else s

/-! ## Stimulus outputs (11) -/

/-- AS_LOAD_NOW (R333): a LOAD strobe of some outputs. -/
def execAsLoadNow (rq : Req) (v : Word) (t : Nat) (s : State) : Host.Outcome State Fault Refusal :=
  s.perform fun s => s.odRow rq 0x8020 0x00 0 [v] Env.calm t

/-- AS_ARM (R341): ARM of an output. -/
def execAsArm (rq : Req) (n : Fin 32) (v : Word) (t : Nat) (s : State) : Host.Outcome State Fault Refusal :=
  s.perform fun s => s.odRow rq (asIdx n) 0x0E 0 [v] Env.calm t

/-- AS_STOP_AFTER_REPEAT (R341): an output stops after its repeat. -/
def execAsStopAfterRepeat (rq : Req) (n : Fin 32) (t : Nat) (s : State) : Host.Outcome State Fault Refusal :=
  s.perform fun s => s.odRow rq (asIdx n) 0x0F 0 [1] Env.calm t

/-- AS_STOP_NOW (R341): an output stops at its next sample. -/
def execAsStopNow (rq : Req) (n : Fin 32) (t : Nat) (s : State) : Host.Outcome State Fault Refusal :=
  s.perform fun s => s.odRow rq (asIdx n) 0x0F 0 [2] Env.calm t

/-- LOOPBACK_WRITE (R346): LOOPBACK of an output is written. -/
def execLoopbackWrite (rq : Req) (n : Fin 32) (v : Word) (t : Nat) (s : State) : Host.Outcome State Fault Refusal :=
  s.perform fun s => s.odRow rq (asIdx n) 0x10 0 [v] Env.calm t

/-! ## Halo ports (12) -/

/-- PORT_ENABLE (R348): ENABLE of a port is written 1. -/
def execPortEnable (rq : Req) (port : Fin 4) (v : Word) (t : Nat) (s : State) : Host.Outcome State Fault Refusal :=
  s.perform fun s => s.odRow rq (0x1110 + port) 0x00 0 [setBit v 0 true] Env.calm t

/-- PORT_DISABLE (R348): ENABLE of a port is written 0. -/
def execPortDisable (rq : Req) (port : Fin 4) (v : Word) (t : Nat) (s : State) : Host.Outcome State Fault Refusal :=
  s.perform fun s => s.odRow rq (0x1110 + port) 0x00 0 [setBit v 0 false] Env.calm t

/-- RETRAIN (R354): a port trains again. -/
def execRetrain (rq : Req) (port : Fin 4) (v : Word) (t : Nat) (s : State) : Host.Outcome State Fault Refusal :=
  s.perform fun s => s.odRow rq (0x1110 + port) 0x06 0 [v] Env.calm t

/-! ## Microcode and memory (14, 15) -/

/-- PATCH_APPLY (R420): a patch image is activated. -/
def execPatchApply (rq : Req) (engine : Bool) (t : Nat) (s : State) : Host.Outcome State Fault Refusal :=
  s.perform fun s => s.odRow rq (if engine then 0x0E02 else 0x0E01) 0x01 0 [1] Env.calm t

/-- PATCH_REMOVE (R420): a class runs from ROM again. -/
def execPatchRemove (rq : Req) (engine : Bool) (t : Nat) (s : State) : Host.Outcome State Fault Refusal :=
  s.perform fun s => s.odRow rq (if engine then 0x0E02 else 0x0E01) 0x01 0 [2] Env.calm t

/-- ROUTINE_LOAD (R422): the routine image is loaded. -/
def execRoutineLoad (rq : Req) (v : Word) (t : Nat) (s : State) : Host.Outcome State Fault Refusal :=
  s.perform fun s => s.odRow rq 0x0E03 0x01 0 [v] Env.calm t

/-- GATE_OFF (R437): a cluster is powered off. -/
def execGateOff (rq : Req) (c : Fin 64) (t : Nat) (s : State) : Host.Outcome State Fault Refusal :=
  s.perform fun s => s.odRow rq 0x0D00 0x08 0 [wd (256 + c)] Env.calm t

/-- GATE_WAKE (R438): a cluster wakes. -/
def execGateWake (rq : Req) (c : Fin 64) (t : Nat) (s : State) : Host.Outcome State Fault Refusal :=
  s.perform fun s => s.odRow rq 0x0D00 0x08 0 [wd c] Env.calm t

/-- SCRATCH_DATA_WRITE (R443): words of a scratch bank are written. -/
def execScratchDataWrite (rq : Req) (c : Fin 48) (off : Nat) (vals : List Word) (clash : List (Nat × Word)) (t : Nat) (s : State) : Host.Outcome State Fault Refusal :=
  s.perform fun s => s.odRow rq (0x0D40 + c) 0x00 off vals { Env.calm with clash := clash } t

/-- SCRATCH_SET (R442): bits of a scratch bank are set. -/
def execScratchSet (rq : Req) (c : Fin 48) (off : Nat) (vals : List Word) (clash : List (Nat × Word)) (t : Nat) (s : State) : Host.Outcome State Fault Refusal :=
  s.perform fun s => s.odRow rq (0x0D40 + c) 0x01 off vals { Env.calm with clash := clash } t

/-- SCRATCH_CLEAR (R442): bits of a scratch bank are cleared. -/
def execScratchClear (rq : Req) (c : Fin 48) (off : Nat) (vals : List Word) (clash : List (Nat × Word)) (t : Nat) (s : State) : Host.Outcome State Fault Refusal :=
  s.perform fun s => s.odRow rq (0x0D40 + c) 0x02 off vals { Env.calm with clash := clash } t

/-- ARB_COMMIT (R449): shadow values become active. -/
def execArbCommit (rq : Req) (v : Word) (t : Nat) (s : State) : Host.Outcome State Fault Refusal :=
  s.perform fun s => s.odRow rq 0x0C00 0x00 0 [v] Env.calm t

/-! ## Calibration and faults (16, 17) -/

/-- STARFIX_RUN (R473): calibration of some clusters is asked for. -/
def execStarfixRun (rq : Req) (off : Nat) (vals : List Word) (t : Nat) (s : State) : Host.Outcome State Fault Refusal :=
  s.perform fun s => s.odRow rq 0x0800 0x00 off vals Env.calm t

/-- VALUES_WRITE (R480): a calibration set is restored. -/
def execValuesWrite (rq : Req) (c : Fin 48) (off : Nat) (vals : List Word) (t : Nat) (s : State) : Host.Outcome State Fault Refusal :=
  s.perform fun s => s.odRow rq (calIdx c) 0x07 off vals Env.calm t

/-- ENTER (R492): Eclipse is entered. -/
def execEnter (rq : Req) (v : Word) (t : Nat) (s : State) : Host.Outcome State Fault Refusal :=
  s.perform fun s => s.odRow rq 0x0600 0x04 0 [v] Env.calm t

/-- CLEAR (R491): Eclipse is left. -/
def execClear (rq : Req) (v : Word) (relocked rebuilt : Bool) (t : Nat) (s : State) : Host.Outcome State Fault Refusal :=
  s.perform fun s => s.odRow rq 0x0600 0x05 0 [v] { Env.calm with relocked := relocked, rebuilt := rebuilt } t

/-- ACK (R485): a latched fault is acknowledged. -/
def execAck (rq : Req) (source : Fin 512) (v : Word) (t : Nat) (s : State) : Host.Outcome State Fault Refusal :=
  s.perform fun s => s.odRow rq 0x0601 0x01 source [v] Env.calm t

/-- INJECT (R500): a fault is injected. -/
def execInject (rq : Req) (off : Nat) (vals : List Word) (t : Nat) (s : State) : Host.Outcome State Fault Refusal :=
  s.perform fun s => s.odRow rq 0xF010 0x01 off vals Env.calm t

/-! ## Almanac, log, device state and service port (18, 19, 20) -/

/-- ALMANAC_COMMIT (R507): the RWS values are committed. -/
def execAlmanacCommit (rq : Req) (t : Nat) (s : State) : Host.Outcome State Fault Refusal :=
  s.perform fun s => s.odRow rq 0x0300 0x00 0 [1] Env.calm t

/-- ALMANAC_COMMIT_EMPTY (R507): an empty bank is committed. -/
def execAlmanacCommitEmpty (rq : Req) (t : Nat) (s : State) : Host.Outcome State Fault Refusal :=
  s.perform fun s => s.odRow rq 0x0300 0x00 0 [2] Env.calm t

/-- FACTORY_WRITE (R515): the factory Almanac is replaced. -/
def execFactoryWrite (rq : Req) (v : Word) (t : Nat) (s : State) : Host.Outcome State Fault Refusal :=
  s.perform fun s => s.odRow rq 0xF020 0x01 0 [v] Env.calm t

/-- LOG_MODE_WRITE (R523): MODE of the log is written. -/
def execLogModeWrite (rq : Req) (v : Word) (t : Nat) (s : State) : Host.Outcome State Fault Refusal :=
  s.perform fun s => s.odRow rq 0x0500 0x00 0 [v] Env.calm t

/-- SELFTEST (R534): the built-in test starts. -/
def execSelftest (rq : Req) (t : Nat) (s : State) : Host.Outcome State Fault Refusal :=
  s.perform fun s => s.odRow rq 0x0100 0x01 0 [1] Env.calm t

/-- STATE_CMD_READY (R532): the device returns to READY. -/
def execStateCmdReady (rq : Req) (t : Nat) (s : State) : Host.Outcome State Fault Refusal :=
  s.perform fun s => s.odRow rq 0x0100 0x01 0 [2] Env.calm t

/-- WARM_RESET (R540): a warm reset. -/
def execWarmReset (rq : Req) (v : Word) (t : Nat) (s : State) : Host.Outcome State Fault Refusal :=
  s.perform fun s => s.odRow rq 0x0100 0x02 0 [v] Env.calm t

/-- CLUSTER_RESET (R542): a cluster reset. -/
def execClusterReset (rq : Req) (v : Word) (t : Nat) (s : State) : Host.Outcome State Fault Refusal :=
  s.perform fun s => s.odRow rq 0x0100 0x03 0 [v] Env.calm t

/-- FACTORY_ENTER (R535): factory test mode is entered. -/
def execFactoryEnter (rq : Req) (v : Word) (t : Nat) (s : State) : Host.Outcome State Fault Refusal :=
  s.perform fun s => s.odRow rq 0xF000 0x00 0 [v] Env.calm t

/-- MBX_IN_ACK (R558): words of the inbound mailbox are freed. -/
def execMbxInAck (rq : Req) (v : Word) (t : Nat) (s : State) : Host.Outcome State Fault Refusal :=
  s.perform fun s => s.odRow rq 0x1200 0x03 0 [v] Env.calm t

/-- MBX_OUT_APPEND (R558): words enter the outbound mailbox. -/
def execMbxOutAppend (rq : Req) (off : Nat) (vals : List Word) (t : Nat) (s : State) : Host.Outcome State Fault Refusal :=
  s.perform fun s => s.odRow rq 0x1200 0x04 off vals Env.calm t

end Sys2Proof.Machine
end

