-- ==== Sys2Proof/Machine/QueueRows.lean ====
section
/-! DEFINITION. Machine/QueueRows.lean: the rows of the result queues that no OD transaction starts (10). -/

namespace Sys2Proof.Machine

/-- Q_APPEND (10, R308): what a producer gives a queue; `broken`: the queue's last link is found broken first (R322). -/
def execQAppend (q : Fin 65536) (prod : Producer) (part : QPart) (broken : Bool) (t : Nat) (s : State) : Host.Outcome State Fault Refusal :=
  s.perform fun s =>
    let s := s.tick t
    let s := s.when broken (fun s => s.qBreak q ((s.queue q).cells.length - 1))
    s.qAppendPart q prod part

/-- BURST_WRITEBACK (10, R308): cell `num` of queue `q`, on chip, is written to pool line `loc`, a free line of the pool. -/
def execBurstWriteback (q : Fin 65536) (num loc : Nat) (s : State) : Host.Outcome State Fault Refusal :=
  s.perform fun s =>
    let x := s.queue q
    match x.cells.find? (fun c => c.num = num && c.onChip) with
    | none => s
    | some c =>
      if s.poolLineFree loc then
        (s.hbmPut loc c.line).setQueue q { x with cells := x.cells.map (fun d => if d.num = num && d.onChip then { d with onChip := false, line := 0, loc := loc } else d) }
      else s

end Sys2Proof.Machine
end

