-- ==== Sys2Proof/Machine/ReduceRows.lean ====
section
/-! DEFINITION. Machine/ReduceRows.lean: the rows of the reduction engines that no OD transaction starts (09). -/

namespace Sys2Proof.Machine

/-- The role of the context an update is bound to; none when it is unbound. -/
def State.roleOf (s : State) (u : Upd) : Option Nat := (s.boundTo u.meas u.site).map (fun b => b.1 % 16)

/-- The context cache holds at most 32,768 lines: beyond, places are given up (09, R277; 01, R31). -/
def State.cacheTrim (s : State) : State :=
  (s.red.cache.take (s.red.cache.length - 32768)).foldl (fun s e => s.writeBack e.1) s

/-- RED_UPDATE_APPLY (09, R276, R280): the oldest update of the cluster's input for `role`, or bound to no context; `evict`
names a line whose place in the cache is given up for it. -/
def execRedUpdateApply (c : Fin 48) (role : Fin 16) (evict : Option (Fin 1048576)) (upset : List (Nat × LineData)) (t : Nat) (s : State) : Host.Outcome State Fault Refusal :=
  s.perform fun s =>
    let s := (s.tick t).upset upset
    let s := match evict with
      | some n => s.writeBack n
      | none => s
    let us := s.redInput c
    match us.findIdx? (fun u => s.roleOf u = none || s.roleOf u = some role.val) with
    | none => s
    | some k =>
      match us[k]? with
      | none => s
      | some u =>
        if s.roleOf u = some role.val ∧ s.roleWaits role = true then s
        else ((s.setInput c (us.eraseIdx k)).updateArrives u).cacheTrim

/-- DROP_LIST_FLUSH (09, R289): room in the input; each entry whose role is served sets DROPPED in its live line. -/
def execDropListFlush (c : Fin 48) (t : Nat) (s : State) : Host.Outcome State Fault Refusal :=
  s.perform fun s =>
    let s := s.tick t
    if 4096 ≤ (s.redInput c).length then s
    else
      let ns := s.dropList c
      let s := (ns.filter (fun n => !s.roleWaits (n % 16))).foldl (fun s n =>
        let r := s.liveRead n 9
        let l := withWord r.1 0 (setBit (lineWord r.1 0) 22 true)
        r.2.liveWrite n (retag l (lineFormat l) (s.ctxEpoch n) (linePoison l))) s
      (s.setDrops c (ns.filter (fun n => s.roleWaits (n % 16)))).cacheTrim

/-- FAIL_UPDATE_SEND (09, R288): pending updates whose first fail lies 64 plays back. -/
def execFailUpdateSend (c : Fin 48) (t : Nat) (s : State) : Host.Outcome State Fault Refusal :=
  s.perform fun s =>
    let s := s.tick t
    s.coalSend c (fun k => k.since + 64 ≤ (s.sq c).plays)

/-- Close context `n` for the line close at the front (09, R294): its Tc is kept, the updates it held follow. -/
def State.lineCloseCtx (s : State) (k : LineClose) (n : Nat) : State :=
  let s := s.closeCtx n
  { s with red := { s.red with closedTc := SMap.set (fun _ => (0 : U80)) s.red.closedTc n k.tc } }

/-- One context of the line close under way whose role is served. -/
def State.lineSweep (s : State) : State :=
  match s.red.closes.find? (fun k => k.left.isSome) with
  | none => s
  | some k =>
    match (k.left.getD []).find? (fun n => !s.roleWaits (n % 16)) with
    | none => if k.left = some [] then ({ s with red := { s.red with closes := s.red.closes.erase k } } : State).releaseHeld else s
    | some n =>
      let left := (k.left.getD []).erase n
      let s := s.lineCloseCtx k n
      let cs := if left.isEmpty then s.red.closes.erase k else s.red.closes.map (fun j => if j = k then { j with left := some left } else j)
      ({ s with red := { s.red with closes := cs } } : State).releaseHeld

/-- One context of the CLOSE or RESET at the front; the command ends with its range (09, R295). -/
def State.rangeSweep (s : State) (w : Sweep) : State :=
  if s.roleWaits (w.next % 16) then { s with red := { s.red with sweeps := s.red.sweeps.drop 1 ++ [w] } }
  else
    let s := if w.reset then s.resetCtx w.next else s.closeCtx w.next
    if w.left ≤ 1 then
      let s := { s with red := { s.red with sweeps := s.red.sweeps.drop 1 } }
      s.endCmd w.src 0x6000 (if w.reset then 2 else 1) 0 0
    else { s with red := { s.red with sweeps := s.red.sweeps.drop 1 ++ [{ w with next := w.next + 1, left := w.left - 1 }] } }

/-- SWEEP_STEP (09, R291, R294, R295): one context of a begun line close, else of a commanded range; ranges take turns. -/
def execSweepStep (upset : List (Nat × LineData)) (t : Nat) (s : State) : Host.Outcome State Fault Refusal :=
  s.perform fun s =>
    let s := (s.tick t).upset upset
    if s.red.closes.any (fun k => k.left.isSome) then s.lineSweep.cacheTrim
    else
      match s.red.sweeps with
      | w :: _ => (s.rangeSweep w).cacheTrim
      | [] => s

/-- LINE_CLOSE_OCCURRENCE (09, R294): Tc for every parameter set whose CLOSE_LINE is the line. -/
def execLineCloseOccurrence (line : Fin 512) (stamp : U80) (t : Nat) (s : State) : Host.Outcome State Fault Refusal :=
  s.perform fun s =>
    let s := s.tick t
    let sets := (s.listedWords 0x6004 0).filterMap (fun e =>
      if e.1 % 8 = 0 ∧ fld e.2 34 2 = 2 ∧ fld e.2 25 9 = line then some (e.1 / 8) else none)
    sets.foldl (fun s p =>
      let delay := fld (s.reg 0x6004 0 (8 * p + 2)) 20 20
      { s with red := { s.red with closes := s.red.closes ++ [⟨p, stamp, stamp + BitVec.ofNat 80 (delay * 128000), none⟩] } }) s

/-- LINE_CLOSE_BEGIN (09, R294): line closes whose Tc + CLOSE_DELAY is reached begin, in order of Tc. -/
def execLineCloseBegin (t : Nat) (s : State) : Host.Outcome State Fault Refusal :=
  s.perform fun s =>
    let s := s.tick t
    let cs := s.red.closes.map (fun k =>
      if k.left.isNone && k.begins.toNat ≤ s.now.toNat then { k with left := some (s.contextsOf k.pset) } else k)
    { s with red := { s.red with closes := cs } }

/-- TAKEOVER_DONE (09, R301). -/
def execTakeoverDone (engine : Fin 18) (t : Nat) (s : State) : Host.Outcome State Fault Refusal :=
  s.perform fun s => (s.tick t).takeoverDone engine

end Sys2Proof.Machine
end

