-- ==== Sys2Proof/Machine/Dispatch.lean ====
section
/-! DEFINITION. Machine/Dispatch.lean: one arm per command; each is one call of its meaning. -/

namespace Sys2Proof.Machine

/-- The effect of a command on everything but the queue of waiting commands. -/
def exec (i : Instr) (s : State) : Host.Outcome State Fault Refusal :=
  match i with
  | .registerWrite w t => Sys2Proof.Machine.execRegisterWrite w t s
  | .acquireGrant src t => Sys2Proof.Machine.execAcquireGrant src t s
  | .acquireWaitExpiry src t => Sys2Proof.Machine.execAcquireWaitExpiry src t s
  | .leaseExpiry slot t => Sys2Proof.Machine.execLeaseExpiry slot t s
  | .routeLossTimeout dev t => Sys2Proof.Machine.execRouteLossTimeout dev t s
  | .loadCmdTimeout t => Sys2Proof.Machine.execLoadCmdTimeout t s
  | .syncInEdge t => Sys2Proof.Machine.execSyncInEdge t s
  | .offsetSlew t => Sys2Proof.Machine.execOffsetSlew t s
  | .syncSend t => Sys2Proof.Machine.execSyncSend t s
  | .syncLossTimeout t => Sys2Proof.Machine.execSyncLossTimeout t s
  | .delayReqSend port t => Sys2Proof.Machine.execDelayReqSend port t s
  | .syncOutPulse t => Sys2Proof.Machine.execSyncOutPulse t s
  | .syncOutPulseEnd t => Sys2Proof.Machine.execSyncOutPulseEnd t s
  | .eventOccurrence line stamp timed => Sys2Proof.Machine.execEventOccurrence line stamp timed s
  | .evtInputEdge ball rising t => Sys2Proof.Machine.execEvtInputEdge ball rising t s
  | .evtPulseEnd ball t => Sys2Proof.Machine.execEvtPulseEnd ball t s
  | .teFire slot t => Sys2Proof.Machine.execTeFire slot t s
  | .teIssueRx port f t => Sys2Proof.Machine.execTeIssueRx port f t s
  | .teCancelRx port f t => Sys2Proof.Machine.execTeCancelRx port f t s
  | .loadStrobe c t => Sys2Proof.Machine.execLoadStrobe c t s
  | .levelSettled c t => Sys2Proof.Machine.execLevelSettled c t s
  | .lvlclrAssert t => Sys2Proof.Machine.execLvlclrAssert t s
  | .lvlclrRelease t => Sys2Proof.Machine.execLvlclrRelease t s
  | .pmuRangeSettled c slice t => Sys2Proof.Machine.execPmuRangeSettled c slice t s
  | .laneMoveDone c t => Sys2Proof.Machine.execLaneMoveDone c t s
  | .sliceSwapDone c t => Sys2Proof.Machine.execSliceSwapDone c t s
  | .rehomeDone c t => Sys2Proof.Machine.execRehomeDone c t s
  | .seqArmed c t => Sys2Proof.Machine.execSeqArmed c t s
  | .startLineOccurrence c stamp timed t => Sys2Proof.Machine.execStartLineOccurrence c stamp timed t s
  | .runStart c t => Sys2Proof.Machine.execRunStart c t s
  | .jumpLineOccurrence c stamp timed t => Sys2Proof.Machine.execJumpLineOccurrence c stamp timed t s
  | .jumpWindowClose c t => Sys2Proof.Machine.execJumpWindowClose c t s
  | .adv c sample => Sys2Proof.Machine.execAdv c sample s
  | .rpt c sample => Sys2Proof.Machine.execRpt c sample s
  | .loop c sample => Sys2Proof.Machine.execLoop c sample s
  | .endl c sample => Sys2Proof.Machine.execEndl c sample s
  | .jmp c sample => Sys2Proof.Machine.execJmp c sample s
  | .jmpr c sample => Sys2Proof.Machine.execJmpr c sample s
  | .call c sample => Sys2Proof.Machine.execCall c sample s
  | .ret c sample => Sys2Proof.Machine.execRet c sample s
  | .matchBlock c sample => Sys2Proof.Machine.execMatchBlock c sample s
  | .endm c sample => Sys2Proof.Machine.execEndm c sample s
  | .matchGroupResult c t => Sys2Proof.Machine.execMatchGroupResult c t s
  | .seg c sample => Sys2Proof.Machine.execSeg c sample s
  | .mark c sample => Sys2Proof.Machine.execMark c sample s
  | .wait c sample => Sys2Proof.Machine.execWait c sample s
  | .waitRelease c line stamp timed t => Sys2Proof.Machine.execWaitRelease c line stamp timed t s
  | .waitTimeout c t => Sys2Proof.Machine.execWaitTimeout c t s
  | .apgs c sample => Sys2Proof.Machine.execApgs c sample s
  | .halt c sample => Sys2Proof.Machine.execHalt c sample s
  | .badOpcode c => Sys2Proof.Machine.execBadOpcode c s
  | .segmentBoundary c => Sys2Proof.Machine.execSegmentBoundary c s
  | .boundaryGapEnd c => Sys2Proof.Machine.execBoundaryGapEnd c s
  | .streamRefill c into upset t => Sys2Proof.Machine.execStreamRefill c into upset t s
  | .streamGap c => Sys2Proof.Machine.execStreamGap c s
  | .streamGapEnd c t => Sys2Proof.Machine.execStreamGapEnd c t s
  | .bcastHoldLimit group t => Sys2Proof.Machine.execBcastHoldLimit group t s
  | .adcLineTrigger c n stamp timed t => Sys2Proof.Machine.execAdcLineTrigger c n stamp timed t s
  | .adcAutoTrigger c n t => Sys2Proof.Machine.execAdcAutoTrigger c n t s
  | .adcSample c n code compliance t => Sys2Proof.Machine.execAdcSample c n code compliance t s
  | .adcIntervalEnd c n upset t => Sys2Proof.Machine.execAdcIntervalEnd c n upset t s
  | .stamp c lane edge t => Sys2Proof.Machine.execStamp c lane edge t s
  | .stampDrain c t => Sys2Proof.Machine.execStampDrain c t s
  | .stampGateOpen c t => Sys2Proof.Machine.execStampGateOpen c t s
  | .stampGateClose c t => Sys2Proof.Machine.execStampGateClose c t s
  | .ruGateOpen c n t => Sys2Proof.Machine.execRuGateOpen c n t s
  | .ruGateEnd c n t => Sys2Proof.Machine.execRuGateEnd c n t s
  | .redUpdateApply c role evict upset t => Sys2Proof.Machine.execRedUpdateApply c role evict upset t s
  | .dropListFlush c t => Sys2Proof.Machine.execDropListFlush c t s
  | .failUpdateSend c t => Sys2Proof.Machine.execFailUpdateSend c t s
  | .sweepStep upset t => Sys2Proof.Machine.execSweepStep upset t s
  | .lineCloseOccurrence line stamp t => Sys2Proof.Machine.execLineCloseOccurrence line stamp t s
  | .lineCloseBegin t => Sys2Proof.Machine.execLineCloseBegin t s
  | .takeoverDone engine t => Sys2Proof.Machine.execTakeoverDone engine t s
  | .qAppend q prod part broken t => Sys2Proof.Machine.execQAppend q prod part broken t s
  | .burstWriteback q num loc => Sys2Proof.Machine.execBurstWriteback q num loc s
  | .asLoadStrobe n t => Sys2Proof.Machine.execAsLoadStrobe n t s
  | .asRangeSwitch n t => Sys2Proof.Machine.execAsRangeSwitch n t s
  | .asRangeDone n t => Sys2Proof.Machine.execAsRangeDone n t s
  | .asArmed n upset t => Sys2Proof.Machine.execAsArmed n upset t s
  | .asStartLine n stamp timed t => Sys2Proof.Machine.execAsStartLine n stamp timed t s
  | .asSample n t => Sys2Proof.Machine.execAsSample n t s
  | .asPrefetch n upset t => Sys2Proof.Machine.execAsPrefetch n upset t s
  | .signalDetect port lanes t => Sys2Proof.Machine.execSignalDetect port lanes t s
  | .portTrained port rate lanes t => Sys2Proof.Machine.execPortTrained port rate lanes t s
  | .trainingTimeout port t => Sys2Proof.Machine.execTrainingTimeout port t s
  | .codewordRx port lane cw t => Sys2Proof.Machine.execCodewordRx port lane cw t s
  | .linkLossTimeout port t => Sys2Proof.Machine.execLinkLossTimeout port t s
  | .ringStateResend port t => Sys2Proof.Machine.execRingStateResend port t s
  | .restoreHoldExpiry port t => Sys2Proof.Machine.execRestoreHoldExpiry port t s
  | .frameSend port t => Sys2Proof.Machine.execFrameSend port t s
  | .odRequestRx port train e t => Sys2Proof.Machine.execOdRequestRx port train e t s
  | .odReplyRx port train t => Sys2Proof.Machine.execOdReplyRx port train t s
  | .replyTimeout dev t => Sys2Proof.Machine.execReplyTimeout dev t s
  | .trainTimeout src reply t => Sys2Proof.Machine.execTrainTimeout src reply t s
  | .eventFrameRx port f t => Sys2Proof.Machine.execEventFrameRx port f t s
  | .syncRx port f t => Sys2Proof.Machine.execSyncRx port f t s
  | .delayReqRx port f t => Sys2Proof.Machine.execDelayReqRx port f t s
  | .delayReplyRx port f t => Sys2Proof.Machine.execDelayReplyRx port f t s
  | .ringBrokenRx port f t => Sys2Proof.Machine.execRingBrokenRx port f t s
  | .ringRestoredRx port f t => Sys2Proof.Machine.execRingRestoredRx port f t s
  | .linkInfoRx port f t => Sys2Proof.Machine.execLinkInfoRx port f t s
  | .reservedFrameRx port words t => Sys2Proof.Machine.execReservedFrameRx port words t s
  | .creditRx port vc n => Sys2Proof.Machine.execCreditRx port vc n s
  | .ackRx port lseq => Sys2Proof.Machine.execAckRx port lseq s
  | .nakRx port lseq t => Sys2Proof.Machine.execNakRx port lseq t s
  | .laneDropRx port lanes t => Sys2Proof.Machine.execLaneDropRx port lanes t s
  | .laneDropAckRx port lanes t => Sys2Proof.Machine.execLaneDropAckRx port lanes t s
  | .retrainWordRx port t => Sys2Proof.Machine.execRetrainWordRx port t s
  | .ackTimer port => Sys2Proof.Machine.execAckTimer port s
  | .nakRepeat port => Sys2Proof.Machine.execNakRepeat port s
  | .creditStallTimeout port vc t => Sys2Proof.Machine.execCreditStallTimeout port vc t s
  | .linkDown t => Sys2Proof.Machine.execLinkDown t s
  | .flr t => Sys2Proof.Machine.execFlr t s
  | .g1Reg0Read addr e t => Sys2Proof.Machine.execG1Reg0Read addr e t s
  | .g1RegnRead addr e t => Sys2Proof.Machine.execG1RegnRead addr e t s
  | .g1HighWrite addr v t => Sys2Proof.Machine.execG1HighWrite addr v t s
  | .g1Reg0Write addr v e t => Sys2Proof.Machine.execG1Reg0Write addr v e t s
  | .domDataLoRead e t => Sys2Proof.Machine.execDomDataLoRead e t s
  | .domDataHiRead t => Sys2Proof.Machine.execDomDataHiRead t s
  | .domDataHiWrite v t => Sys2Proof.Machine.execDomDataHiWrite v t s
  | .domDataLoWrite v e t => Sys2Proof.Machine.execDomDataLoWrite v e t s
  | .resDataRead addr e t => Sys2Proof.Machine.execResDataRead addr e t s
  | .popDataRead addr e t => Sys2Proof.Machine.execPopDataRead addr e t s
  | .g1AbortClear t => Sys2Proof.Machine.execG1AbortClear t s
  | .mbGo m v e t => Sys2Proof.Machine.execMbGo m v e t s
  | .mbDone m t => Sys2Proof.Machine.execMbDone m t s
  | .ringEnable r control t => Sys2Proof.Machine.execRingEnable r control t s
  | .ringDisable r t => Sys2Proof.Machine.execRingDisable r t s
  | .headDoorbell r v t => Sys2Proof.Machine.execHeadDoorbell r v t s
  | .descriptorFetch r descs t => Sys2Proof.Machine.execDescriptorFetch r descs t s
  | .g3Read r e t => Sys2Proof.Machine.execG3Read r e t s
  | .g3Write r buffer e t => Sys2Proof.Machine.execG3Write r buffer e t s
  | .g3Describe r t => Sys2Proof.Machine.execG3Describe r t s
  | .g3Stream r e t => Sys2Proof.Machine.execG3Stream r e t s
  | .g3Nop r t => Sys2Proof.Machine.execG3Nop r t s
  | .streamWaitTimeout r t => Sys2Proof.Machine.execStreamWaitTimeout r t s
  | .g3Completion r t => Sys2Proof.Machine.execG3Completion r t s
  | .dmaError r address t => Sys2Proof.Machine.execDmaError r address t s
  | .dmaTimeout r address t => Sys2Proof.Machine.execDmaTimeout r address t s
  | .bar2Read offset len upset t => Sys2Proof.Machine.execBar2Read offset len upset t s
  | .bar2Write offset bytes poisoned t => Sys2Proof.Machine.execBar2Write offset bytes poisoned t s
  | .msixSend vec t => Sys2Proof.Machine.execMsixSend vec t s
  | .patchSwitch u t => Sys2Proof.Machine.execPatchSwitch u t s
  | .routineEngineLoad t => Sys2Proof.Machine.execRoutineEngineLoad t s
  | .seqMcheckDone c t => Sys2Proof.Machine.execSeqMcheckDone c t s
  | .hbmRefresh refresh t => Sys2Proof.Machine.execHbmRefresh refresh t s
  | .rowRepair pc upset t => Sys2Proof.Machine.execRowRepair pc upset t s
  | .wakeDone c t => Sys2Proof.Machine.execWakeDone c t s
  | .bankTest found t => Sys2Proof.Machine.execBankTest found t s
  | .arbGrant arb asks t => Sys2Proof.Machine.execArbGrant arb asks t s
  | .holdCut arb beats t => Sys2Proof.Machine.execHoldCut arb beats t s
  | .hkRound power samples pmbusAck collectorBad t => Sys2Proof.Machine.execHkRound power samples pmbusAck collectorBad t s
  | .vrAlert status t => Sys2Proof.Machine.execVrAlert status t s
  | .starfixDone c t => Sys2Proof.Machine.execStarfixDone c t s
  | .calOverdue c t => Sys2Proof.Machine.execCalOverdue c t s
  | .faultRaise source cause sev detail inj t => Sys2Proof.Machine.execFaultRaise source cause sev detail inj t s
  | .almanacCommitted res t => Sys2Proof.Machine.execAlmanacCommitted res t s
  | .journalDrain n => Sys2Proof.Machine.execJournalDrain n s
  | .journalHoldRelease e t => Sys2Proof.Machine.execJournalHoldRelease e t s
  | .logRecord code arg0 arg1 inj t => Sys2Proof.Machine.execLogRecord code arg0 arg1 inj t s
  | .logStore => Sys2Proof.Machine.execLogStore s
  | .rateWindowClose code t => Sys2Proof.Machine.execRateWindowClose code t s
  | .powerOn t => Sys2Proof.Machine.execPowerOn t s
  | .powerOff t => Sys2Proof.Machine.execPowerOff t s
  | .coldReset perst t => Sys2Proof.Machine.execColdReset perst t s
  | .resetRelease bootSel testmode t => Sys2Proof.Machine.execResetRelease bootSel testmode t s
  | .bringupStepDone domains unlocked boot t => Sys2Proof.Machine.execBringupStepDone domains unlocked boot t s
  | .bistDone failed t => Sys2Proof.Machine.execBistDone failed t s
  | .warmResetDone unlocked t => Sys2Proof.Machine.execWarmResetDone unlocked t s
  | .svcRead reg edges t => Sys2Proof.Machine.execSvcRead reg edges t s
  | .svcWrite reg bytes edges e t => Sys2Proof.Machine.execSvcWrite reg bytes edges e t s
  | .setlen len edges t => Sys2Proof.Machine.execSetlen len edges t s
  | .mbxWrite words edges t => Sys2Proof.Machine.execMbxWrite words edges t s
  | .mbxRead edges t => Sys2Proof.Machine.execMbxRead edges t s
  | .svcStatus edges t => Sys2Proof.Machine.execSvcStatus edges t s
  | .svcReservedCommand code edges t => Sys2Proof.Machine.execSvcReservedCommand code edges t s
  | .svcGo e t => Sys2Proof.Machine.execSvcGo e t s
  | .attnCauseClear bits t => Sys2Proof.Machine.execAttnCauseClear bits t s
  | .dataAccess t => Sys2Proof.Machine.execDataAccess t s
  | .svcOdDone t => Sys2Proof.Machine.execSvcOdDone t s
  | .forwardedFrameRx port f t => Sys2Proof.Machine.execForwardedFrameRx port f t s
  | .codewordLockLoss port lane t => Sys2Proof.Machine.execCodewordLockLoss port lane t s
  | .hostLinkTrained gen width flit t => Sys2Proof.Machine.execHostLinkTrained gen width flit t s
  | .quickPassDone c t => Sys2Proof.Machine.execQuickPassDone c t s
  | .testAccessPortInstruction ins t => Sys2Proof.Machine.execTestAccessPortInstruction ins t s
  | .odWrite rq idx sub off vals e t => Sys2Proof.Machine.execOdWrite rq idx sub off vals e t s
  | .describe rq idx sub t => Sys2Proof.Machine.execDescribe rq idx sub t s
  | .acquire rq off vals t => Sys2Proof.Machine.execAcquire rq off vals t s
  | .renew rq slot t => Sys2Proof.Machine.execRenew rq slot t s
  | .commit rq slot t => Sys2Proof.Machine.execCommit rq slot t s
  | .release rq slot t => Sys2Proof.Machine.execRelease rq slot t s
  | .commitRelease rq slot t => Sys2Proof.Machine.execCommitRelease rq slot t s
  | .modeWrite rq v t => Sys2Proof.Machine.execModeWrite rq v t s
  | .loadCmdAtSyncIn rq t => Sys2Proof.Machine.execLoadCmdAtSyncIn rq t s
  | .loadCmdNow rq t => Sys2Proof.Machine.execLoadCmdNow rq t s
  | .pulse rq line v t => Sys2Proof.Machine.execPulse rq line v t s
  | .issue rq off vals t => Sys2Proof.Machine.execIssue rq off vals t s
  | .cancel rq off vals t => Sys2Proof.Machine.execCancel rq off vals t s
  | .loadNow rq c v t => Sys2Proof.Machine.execLoadNow rq c v t s
  | .enableWrite rq c slice v t => Sys2Proof.Machine.execEnableWrite rq c slice v t s
  | .forceStateWrite rq c slice v t => Sys2Proof.Machine.execForceStateWrite rq c slice v t s
  | .pmuModeWrite rq c slice v t => Sys2Proof.Machine.execPmuModeWrite rq c slice v t s
  | .pmuRangeWrite rq c slice v t => Sys2Proof.Machine.execPmuRangeWrite rq c slice v t s
  | .spareLaneWrite rq c v t => Sys2Proof.Machine.execSpareLaneWrite rq c v t s
  | .arm rq c v t => Sys2Proof.Machine.execArm rq c v t s
  | .start rq c v t => Sys2Proof.Machine.execStart rq c v t s
  | .stopAtBoundary rq c t => Sys2Proof.Machine.execStopAtBoundary rq c t s
  | .stopAbort rq c t => Sys2Proof.Machine.execStopAbort rq c t s
  | .jumpRequest rq c v t => Sys2Proof.Machine.execJumpRequest rq c v t s
  | .bcastArm rq group v t => Sys2Proof.Machine.execBcastArm rq group v t s
  | .adcArm rq c n v t => Sys2Proof.Machine.execAdcArm rq c n v t s
  | .adcStopAfterStep rq c n t => Sys2Proof.Machine.execAdcStopAfterStep rq c n t s
  | .adcStopNow rq c n t => Sys2Proof.Machine.execAdcStopNow rq c n t s
  | .stampArm rq c v t => Sys2Proof.Machine.execStampArm rq c v t s
  | .stampStopAtClose rq c t => Sys2Proof.Machine.execStampStopAtClose rq c t s
  | .stampStopNow rq c t => Sys2Proof.Machine.execStampStopNow rq c t s
  | .ruArm rq c n v t => Sys2Proof.Machine.execRuArm rq c n v t s
  | .ruStopAfterGate rq c n t => Sys2Proof.Machine.execRuStopAfterGate rq c n t s
  | .ruStopNow rq c n t => Sys2Proof.Machine.execRuStopNow rq c n t s
  | .close rq v t => Sys2Proof.Machine.execClose rq v t s
  | .reset rq v t => Sys2Proof.Machine.execReset rq v t s
  | .resultRead rq off cnt upset t => Sys2Proof.Machine.execResultRead rq off cnt upset t s
  | .pop rq off cnt upset broken t => Sys2Proof.Machine.execPop rq off cnt upset broken t s
  | .push rq off vals t => Sys2Proof.Machine.execPush rq off vals t s
  | .flush rq q v broken t => Sys2Proof.Machine.execFlush rq q v broken t s
  | .clearHit rq q v t => Sys2Proof.Machine.execClearHit rq q v t s
  | .queueEnable rq q v t => Sys2Proof.Machine.execQueueEnable rq q v t s
  | .queueDisable rq q v t => Sys2Proof.Machine.execQueueDisable rq q v t s
  | .roleWrite rq q v t => Sys2Proof.Machine.execRoleWrite rq q v t s
  | .asLoadNow rq v t => Sys2Proof.Machine.execAsLoadNow rq v t s
  | .asArm rq n v t => Sys2Proof.Machine.execAsArm rq n v t s
  | .asStopAfterRepeat rq n t => Sys2Proof.Machine.execAsStopAfterRepeat rq n t s
  | .asStopNow rq n t => Sys2Proof.Machine.execAsStopNow rq n t s
  | .loopbackWrite rq n v t => Sys2Proof.Machine.execLoopbackWrite rq n v t s
  | .portEnable rq port v t => Sys2Proof.Machine.execPortEnable rq port v t s
  | .portDisable rq port v t => Sys2Proof.Machine.execPortDisable rq port v t s
  | .retrain rq port v t => Sys2Proof.Machine.execRetrain rq port v t s
  | .patchApply rq engine t => Sys2Proof.Machine.execPatchApply rq engine t s
  | .patchRemove rq engine t => Sys2Proof.Machine.execPatchRemove rq engine t s
  | .routineLoad rq v t => Sys2Proof.Machine.execRoutineLoad rq v t s
  | .gateOff rq c t => Sys2Proof.Machine.execGateOff rq c t s
  | .gateWake rq c t => Sys2Proof.Machine.execGateWake rq c t s
  | .scratchDataWrite rq c off vals clash t => Sys2Proof.Machine.execScratchDataWrite rq c off vals clash t s
  | .scratchSet rq c off vals clash t => Sys2Proof.Machine.execScratchSet rq c off vals clash t s
  | .scratchClear rq c off vals clash t => Sys2Proof.Machine.execScratchClear rq c off vals clash t s
  | .arbCommit rq v t => Sys2Proof.Machine.execArbCommit rq v t s
  | .starfixRun rq off vals t => Sys2Proof.Machine.execStarfixRun rq off vals t s
  | .valuesWrite rq c off vals t => Sys2Proof.Machine.execValuesWrite rq c off vals t s
  | .enter rq v t => Sys2Proof.Machine.execEnter rq v t s
  | .clear rq v relocked rebuilt t => Sys2Proof.Machine.execClear rq v relocked rebuilt t s
  | .ack rq source v t => Sys2Proof.Machine.execAck rq source v t s
  | .inject rq off vals t => Sys2Proof.Machine.execInject rq off vals t s
  | .almanacCommit rq t => Sys2Proof.Machine.execAlmanacCommit rq t s
  | .almanacCommitEmpty rq t => Sys2Proof.Machine.execAlmanacCommitEmpty rq t s
  | .factoryWrite rq v t => Sys2Proof.Machine.execFactoryWrite rq v t s
  | .logModeWrite rq v t => Sys2Proof.Machine.execLogModeWrite rq v t s
  | .selftest rq t => Sys2Proof.Machine.execSelftest rq t s
  | .stateCmdReady rq t => Sys2Proof.Machine.execStateCmdReady rq t s
  | .warmReset rq v t => Sys2Proof.Machine.execWarmReset rq v t s
  | .clusterReset rq v t => Sys2Proof.Machine.execClusterReset rq v t s
  | .factoryEnter rq v t => Sys2Proof.Machine.execFactoryEnter rq v t s
  | .mbxInAck rq v t => Sys2Proof.Machine.execMbxInAck rq v t s
  | .mbxOutAppend rq off vals t => Sys2Proof.Machine.execMbxOutAppend rq off vals t s

end Sys2Proof.Machine
end

