-- ==== Sys2Proof/Machine/Step.lean ====
section
/-! DEFINITION. Machine/Step.lean: one step: the command at the front of the queue, else the step longest due, else nothing. -/

namespace Sys2Proof.Machine

/-- One step of the block. The command at the front of `pending` is taken and performed with the rest; with none waiting, the step
of the agenda that `State.serve` picks is; with neither, the block idles (log entry 1). -/
def step (s : State) : Host.Outcome State Fault Refusal :=
  match s.pending, s.serve with
  | c :: rest, _ => exec c { s with pending := rest }
  | [], some (c, later) => exec c { s with agenda := later }
  | [], none => .next s

/-- `s` with the command that a word spells at the front of its queue. -/
def State.withFetchWord (s : State) (nbits w : Nat) : State :=
  match Sys2Proof.decodeTableWord nbits w with
  | some c => { s with pending := c :: s.pending }
  | none => s

end Sys2Proof.Machine
end

