-- ==== Sys2Proof/Safety.lean ====
section
/-! DEFINITION. Safety.lean: what every step keeps, and the words in which claims say what a step leaves unchanged. -/

namespace Sys2Proof.Machine

/-- What holds between steps: memory is in canonical form and no write to HBM is still on its way. -/
def State.Sound (s : State) : Prop := Memory.wf s.hbm ∧ s.posted = []

/-- The steps that start LOCAL again: a power-on, a power-off, a cold reset (03, R78; 19, R528, R530). -/
def startsAgain (i : Instr) : Bool :=
  match i with
  | .powerOn _ | .powerOff _ | .coldReset _ _ => true
  | _ => false

/-- The state as a step at instant `t` finds it: LOCAL has reached `t`, nothing is posted to memory. -/
def State.at (s : State) (t : Nat) : State := ({ s with posted := [] } : State).tick t

/-- The line of HBM at an address. -/
def State.line (s : State) (a : Nat) : LineData := ({ s with posted := [] } : State).hbmRaw a

/-- Every object word outside `ks` has the written value in `t` that it has in `s`. -/
def SameRegs (s t : State) (ks : List Nat) : Prop :=
  ∀ k, k ∉ ks → SMap.get romDefault t.regs k = SMap.get romDefault s.regs k

/-- Every word of the objects whose index is not one of `f`'s has the written value in `t` that it has in `s`. -/
def SameOutside (s t : State) (f : Nat → Bool) : Prop :=
  ∀ k, f (k / 134217728 / 256) = false → SMap.get romDefault t.regs k = SMap.get romDefault s.regs k

/-- A write or command transaction that reaches the OD service at instant `t` is accepted and acts at once: a path carries it (02, R76),
none waits before it, it passes the checks of R48, it is neither staged (R57) nor a COMMIT (which R61 checks again), and the
journal's head has room for its entry (18, R518). -/
def State.takes (s : State) (rq : Req) (i sub off : Nat) (vals : List Word) (e : Env) (t : Nat) : Bool :=
  let s := s.at t
  let tx := mkTx rq .write i sub off vals.length vals .here
  let ws := wordsAt off vals
  match odFind i sub with
  | none => false
  | some r => s.carries && s.alm.held.isEmpty && (s.firstChecks tx ws).1 == 0 && s.writeCode tx r ws e == 0 &&
      (s.stagesAt rq.src r i).isNone && r.hook != .commit && r.hook != .commitRelease && s.alm.head.length + 1 <= 3584

/-- A read transaction of a whole object, or of words of a DOMAIN, that reaches the OD service at instant `t` is answered with the words:
a path carries it, none waits before it, it passes the checks of R48, and the object's read has no effect of its own. -/
def State.gives (s : State) (rq : Req) (i sub off cnt t : Nat) : Bool :=
  let s := s.at t
  let tx := mkTx rq .read i sub off cnt [] .here
  match odFind i sub with
  | none => false
  | some r => s.carries && s.alm.held.isEmpty && (s.firstChecks tx []).1 == 0 && s.readCode r tx == 0 && r.hook == .none

/-- The words that such a read is answered with. -/
def State.wordsOf (s : State) (src : Word) (i sub off cnt : Nat) : List Word :=
  match odFind i sub with
  | none => []
  | some r => (List.range cnt).map (fun k => s.readWord src r i sub (off + k))

/-- What an accepted transaction leaves beside its own effect: the answer 0x0000, and one entry in the journal's head, numbered
NEXT_SEQ (02, R49, R54; 18, R517). `kind`: 1 write, 2 block write, 3 command, 4 command block. -/
def State.answered (s u : State) (kind i sub : Nat) (src value : Word) (t : Nat) : Prop :=
  u.reply = ⟨0, 0, []⟩ ∧
    u.alm = { s.alm with head := s.alm.head ++ [journalLine kind (s.reg 0x0400 0x01) i sub 0 (s.at t).now src false value] } ∧
    u.reg 0x0400 0x01 = s.reg 0x0400 0x01 + 1

/-- The vector of cluster `c`'s sequencer that falls due is `v`, and it plays: the sequencer is in RUN between boundaries and stream gaps,
`v` is on hand, mapped and sound, and no error of R191 forbids it (06, R179, R180, R191; 07, R219). -/
def State.duePlays (s : State) (c : Nat) (v : Vec) : Bool :=
  s.seqState c == 3 && (s.sq c).phase == .play && (s.sq c).gap.isNone && !s.unmapped (s.sq c).ctl.pc && (s.sq c).onHand == some v &&
    !v.poison && s.playError c v == 0

/-- What every played cycle leaves, whatever its vector: the next cycle start is PERIOD of its set later, the play is counted, LAST_ADDR
and VECTOR_COUNT follow, no other sequencer moves, and nothing outside sequencers, slices, contexts, queues, objects and
the log changes (05, R154; 06, R183, R212). -/
def State.played (s u : State) (c : Nat) (v : Vec) : Prop :=
  (u.sq c).due = (s.sq c).due + s.period c (vecSet v) ∧ (u.sq c).plays = (s.sq c).plays + 1 ∧
    u.reg80 (seqIdx 0 c) 0x0A = s.reg80 (seqIdx 0 c) 0x0A + 1 ∧ u.reg (seqIdx 0 c) 9 = wd (s.sq c).ctl.pc ∧
    (∀ d < 48, d ≠ c → u.sq d = s.sq d) ∧
    u = { s.at (s.sq c).due with regs := u.regs, agenda := u.agenda, log := u.log, queues := u.queues, pins := { s.pins with slices := u.pins.slices }, seqs := u.seqs, red := u.red }

/-- The OD write or command transaction that a command is, when it is one: the request, index, subindex, first word, words, what it meets, the
instant (02, R39, R44). -/
def writeOf (c : Instr) : Option (Req × Nat × Nat × Nat × List Word × Env × Nat) :=
  match c with
  | .odWrite rq idx sub off vals e t => some (rq, idx.toNat, sub.toNat, off, vals, e, t)
  | .acquire rq off vals t => some (rq, 0x0200, 0x00, off, vals, Env.calm, t)
  | .renew rq slot t => some (rq, 0x0200, 0x01, 0, [slot], Env.calm, t)
  | .commit rq slot t => some (rq, 0x0200, 0x02, 0, [slot], Env.calm, t)
  | .release rq slot t => some (rq, 0x0200, 0x03, 0, [slot], Env.calm, t)
  | .commitRelease rq slot t => some (rq, 0x0200, 0x04, 0, [slot], Env.calm, t)
  | .modeWrite rq v t => some (rq, 0x0900, 0x03, 0, [v], Env.calm, t)
  | .loadCmdAtSyncIn rq t => some (rq, 0x0900, 0x0E, 0, [1], Env.calm, t)
  | .loadCmdNow rq t => some (rq, 0x0900, 0x0E, 0, [2], Env.calm, t)
  | .pulse rq line v t => some (rq, 0x0A00 + line, 0x05, 0, [v], Env.calm, t)
  | .issue rq off vals t => some (rq, 0x0910, 0x00, off, vals, Env.calm, t)
  | .cancel rq off vals t => some (rq, 0x0910, 0x01, off, vals, Env.calm, t)
  | .loadNow rq c v t => some (rq, peIdx 0x1F c, 0xF1, 0, [v], Env.calm, t)
  | .enableWrite rq c slice v t => some (rq, peIdx 0x00 c, slice, 0, [v], Env.calm, t)
  | .forceStateWrite rq c slice v t => some (rq, peIdx 0x01 c, slice, 0, [v], Env.calm, t)
  | .pmuModeWrite rq c slice v t => some (rq, peIdx 0x03 c, slice, 0, [v], Env.calm, t)
  | .pmuRangeWrite rq c slice v t => some (rq, peIdx 0x04 c, slice, 0, [v], Env.calm, t)
  | .spareLaneWrite rq c v t => some (rq, peIdx 0x1F c, 0xF2, 0, [v], Env.calm, t)
  | .arm rq c v t => some (rq, seqIdx 0x00 c, 0x01, 0, [v], Env.calm, t)
  | .start rq c v t => some (rq, seqIdx 0x00 c, 0x02, 0, [v], Env.calm, t)
  | .stopAtBoundary rq c t => some (rq, seqIdx 0x00 c, 0x03, 0, [1], Env.calm, t)
  | .stopAbort rq c t => some (rq, seqIdx 0x00 c, 0x03, 0, [2], Env.calm, t)
  | .jumpRequest rq c v t => some (rq, seqIdx 0x02 c, 0x00, 0, [v], Env.calm, t)
  | .bcastArm rq group v t => some (rq, 0x3C00 + group, 0x01, 0, [v], Env.calm, t)
  | .adcArm rq c n v t => some (rq, meaIdx n c, 0x01, 0, [v], Env.calm, t)
  | .adcStopAfterStep rq c n t => some (rq, meaIdx n c, 0x02, 0, [1], Env.calm, t)
  | .adcStopNow rq c n t => some (rq, meaIdx n c, 0x02, 0, [2], Env.calm, t)
  | .stampArm rq c v t => some (rq, meaIdx 0x03 c, 0x01, 0, [v], Env.calm, t)
  | .stampStopAtClose rq c t => some (rq, meaIdx 0x03 c, 0x02, 0, [1], Env.calm, t)
  | .stampStopNow rq c t => some (rq, meaIdx 0x03 c, 0x02, 0, [2], Env.calm, t)
  | .ruArm rq c n v t => some (rq, meaIdx (4 + n) c, 0x01, 0, [v], Env.calm, t)
  | .ruStopAfterGate rq c n t => some (rq, meaIdx (4 + n) c, 0x02, 0, [1], Env.calm, t)
  | .ruStopNow rq c n t => some (rq, meaIdx (4 + n) c, 0x02, 0, [2], Env.calm, t)
  | .close rq v t => some (rq, 0x6000, 0x01, 0, [v], Env.calm, t)
  | .reset rq v t => some (rq, 0x6000, 0x02, 0, [v], Env.calm, t)
  | .push rq off vals t => some (rq, 0x7001, 0x01, off, vals, Env.calm, t)
  | .flush rq q v broken t => some (rq, 0x7016, 0x00, q, [v], { Env.calm with broken := broken }, t)
  | .clearHit rq q v t => some (rq, 0x701B, 0x00, q, [v], Env.calm, t)
  | .queueEnable rq q v t => some (rq, 0x7010, 0x00, q, [setBit v 39 true], Env.calm, t)
  | .queueDisable rq q v t => some (rq, 0x7010, 0x00, q, [setBit v 39 false], Env.calm, t)
  | .roleWrite rq q v t => some (rq, 0x7014, 0x00, q, [v], Env.calm, t)
  | .asLoadNow rq v t => some (rq, 0x8020, 0x00, 0, [v], Env.calm, t)
  | .asArm rq n v t => some (rq, asIdx n, 0x0E, 0, [v], Env.calm, t)
  | .asStopAfterRepeat rq n t => some (rq, asIdx n, 0x0F, 0, [1], Env.calm, t)
  | .asStopNow rq n t => some (rq, asIdx n, 0x0F, 0, [2], Env.calm, t)
  | .loopbackWrite rq n v t => some (rq, asIdx n, 0x10, 0, [v], Env.calm, t)
  | .portEnable rq port v t => some (rq, 0x1110 + port, 0x00, 0, [setBit v 0 true], Env.calm, t)
  | .portDisable rq port v t => some (rq, 0x1110 + port, 0x00, 0, [setBit v 0 false], Env.calm, t)
  | .retrain rq port v t => some (rq, 0x1110 + port, 0x06, 0, [v], Env.calm, t)
  | .patchApply rq engine t => some (rq, if engine then 0x0E02 else 0x0E01, 0x01, 0, [1], Env.calm, t)
  | .patchRemove rq engine t => some (rq, if engine then 0x0E02 else 0x0E01, 0x01, 0, [2], Env.calm, t)
  | .routineLoad rq v t => some (rq, 0x0E03, 0x01, 0, [v], Env.calm, t)
  | .gateOff rq c t => some (rq, 0x0D00, 0x08, 0, [wd (256 + c)], Env.calm, t)
  | .gateWake rq c t => some (rq, 0x0D00, 0x08, 0, [wd c], Env.calm, t)
  | .scratchDataWrite rq c off vals clash t => some (rq, 0x0D40 + c, 0x00, off, vals, { Env.calm with clash := clash }, t)
  | .scratchSet rq c off vals clash t => some (rq, 0x0D40 + c, 0x01, off, vals, { Env.calm with clash := clash }, t)
  | .scratchClear rq c off vals clash t => some (rq, 0x0D40 + c, 0x02, off, vals, { Env.calm with clash := clash }, t)
  | .arbCommit rq v t => some (rq, 0x0C00, 0x00, 0, [v], Env.calm, t)
  | .starfixRun rq off vals t => some (rq, 0x0800, 0x00, off, vals, Env.calm, t)
  | .valuesWrite rq c off vals t => some (rq, calIdx c, 0x07, off, vals, Env.calm, t)
  | .enter rq v t => some (rq, 0x0600, 0x04, 0, [v], Env.calm, t)
  | .clear rq v relocked rebuilt t => some (rq, 0x0600, 0x05, 0, [v], { Env.calm with relocked := relocked, rebuilt := rebuilt }, t)
  | .ack rq source v t => some (rq, 0x0601, 0x01, source, [v], Env.calm, t)
  | .inject rq off vals t => some (rq, 0xF010, 0x01, off, vals, Env.calm, t)
  | .almanacCommit rq t => some (rq, 0x0300, 0x00, 0, [1], Env.calm, t)
  | .almanacCommitEmpty rq t => some (rq, 0x0300, 0x00, 0, [2], Env.calm, t)
  | .factoryWrite rq v t => some (rq, 0xF020, 0x01, 0, [v], Env.calm, t)
  | .logModeWrite rq v t => some (rq, 0x0500, 0x00, 0, [v], Env.calm, t)
  | .selftest rq t => some (rq, 0x0100, 0x01, 0, [1], Env.calm, t)
  | .stateCmdReady rq t => some (rq, 0x0100, 0x01, 0, [2], Env.calm, t)
  | .warmReset rq v t => some (rq, 0x0100, 0x02, 0, [v], Env.calm, t)
  | .clusterReset rq v t => some (rq, 0x0100, 0x03, 0, [v], Env.calm, t)
  | .factoryEnter rq v t => some (rq, 0xF000, 0x00, 0, [v], Env.calm, t)
  | .mbxInAck rq v t => some (rq, 0x1200, 0x03, 0, [v], Env.calm, t)
  | .mbxOutAppend rq off vals t => some (rq, 0x1200, 0x04, off, vals, Env.calm, t)
  | _ => none

/-- The words of the journal's own objects that an entry moves: FIRST_SEQ, NEXT_SEQ, HEAD_COUNT. -/
def journalKeys : List Nat := [odKey 0x0400 0x00 0, odKey 0x0400 0x01 0, odKey 0x0400 0x04 0]

end Sys2Proof.Machine
end

