-- ==== Sys2Proof/Certificates/Slice0/Obligations.lean ====
section
/-! DEFINITION. Certificates/Slice0/Obligations.lean: what is claimed of the model, for the provers. -/

open Sys2Proof Sys2Proof.Machine

/-- O1 (derived, 02, R49, R52, R54, R127, R128, R135, R346, R523). An accepted write of a value puts exactly its words, one journal
entry and the answer 0x0000, and changes nothing else. -/
def Obligations.WritesTakeEffect : Prop :=
  (∀ (s : State) (rq : Req) (idx : BitVec 16) (sub : BitVec 8) (off : Nat) (vals : List Word) (e : Env) (t : Nat) (r : Obj),
    s.takes rq idx.toNat sub.toNat off vals e t = true →
    odFind idx.toNat sub.toNat = some r →
    r.hook = .none →
    r.acc ≠ .cmd →
    (r.eff = .imm ∨ r.eff = .shadow) →
    ∃ u, exec (.odWrite rq idx sub off vals e t) s = .next u ∧
      u.reply = ⟨0, 0, []⟩ ∧
      u.reg 0x0400 0x01 = s.reg 0x0400 0x01 + 1 ∧
      u.alm.head.length = s.alm.head.length + 1 ∧
      (∀ k < vals.length, u.reg idx.toNat sub.toNat (off + k) = vals.getD k 0) ∧
      u = { s.at t with regs := u.regs, alm := { s.alm with head := u.alm.head }, reply := u.reply } ∧
      SameRegs s u ((List.range vals.length).map (fun k => odKey idx.toNat sub.toNat (off + k)) ++ journalKeys)) ∧
  (∀ (s : State) (rq : Req) (c : Fin 48) (n : Fin 25) (v : Word) (t : Nat),
    s.takes rq (peIdx 0x00 c) n 0 [v] Env.calm t = true →
    ∃ u, exec (.enableWrite rq c n v t) s = .next u ∧
      u.reg (peIdx 0x00 c) n = v ∧
      s.answered u 1 (peIdx 0x00 c) n rq.src v t ∧
      u = { s.at t with regs := u.regs, alm := u.alm, reply := u.reply } ∧
      SameRegs s u (odKey (peIdx 0x00 c) n 0 :: journalKeys)) ∧
  (∀ (s : State) (rq : Req) (c : Fin 48) (n : Fin 25) (v : Word) (t : Nat),
    s.takes rq (peIdx 0x01 c) n 0 [v] Env.calm t = true →
    ∃ u, exec (.forceStateWrite rq c n v t) s = .next u ∧
      u.reg (peIdx 0x01 c) n = v ∧
      s.answered u 1 (peIdx 0x01 c) n rq.src v t ∧
      u = { s.at t with regs := u.regs, alm := u.alm, reply := u.reply } ∧
      SameRegs s u (odKey (peIdx 0x01 c) n 0 :: journalKeys)) ∧
  (∀ (s : State) (rq : Req) (c : Fin 48) (n : Fin 25) (v : Word) (t : Nat),
    s.takes rq (peIdx 0x03 c) n 0 [v] Env.calm t = true →
    ∃ u, exec (.pmuModeWrite rq c n v t) s = .next u ∧
      u.reg (peIdx 0x03 c) n = v ∧
      s.answered u 1 (peIdx 0x03 c) n rq.src v t ∧
      u = { s.at t with regs := u.regs, alm := u.alm, reply := u.reply } ∧
      SameRegs s u (odKey (peIdx 0x03 c) n 0 :: journalKeys)) ∧
  (∀ (s : State) (rq : Req) (n : Fin 32) (v : Word) (t : Nat),
    s.takes rq (asIdx n) 0x10 0 [v] Env.calm t = true →
    ∃ u, exec (.loopbackWrite rq n v t) s = .next u ∧
      u.reg (asIdx n) 0x10 = v ∧
      s.answered u 1 (asIdx n) 0x10 rq.src v t ∧
      u = { s.at t with regs := u.regs, alm := u.alm, reply := u.reply } ∧
      SameRegs s u (odKey (asIdx n) 0x10 0 :: journalKeys)) ∧
  (∀ (s : State) (rq : Req) (v : Word) (t : Nat),
    s.takes rq 0x0500 0x00 0 [v] Env.calm t = true →
    ∃ u, exec (.logModeWrite rq v t) s = .next u ∧
      u.log = { s.log with windows := [] } ∧
      u.reg (0x0500) 0x00 = v ∧
      s.answered u 1 (0x0500) 0x00 rq.src v t ∧
      u = { s.at t with regs := u.regs, alm := u.alm, reply := u.reply, log := u.log } ∧
      SameRegs s u (odKey (0x0500) 0x00 0 :: journalKeys))

/-- O2 (derived, 04, R117, R118, R134, R137, R141, R143). PMU_RANGE settles for 10 µs, SPARE_LANE moves a lane and the role epoch,
LOAD_NOW makes pending levels active at once. -/
def Obligations.PinWritesMoveTheMap : Prop :=
  (∀ (s : State) (rq : Req) (c : Fin 48) (n : Fin 25) (v : Word) (t : Nat),
    s.takes rq (peIdx 0x04 c) n 0 [v] Env.calm t = true →
    ∃ u, exec (.pmuRangeWrite rq c n v t) s = .next u ∧
      u.slice c n = (if v = s.reg (peIdx 0x04 c) n then s.slice c n else { s.slice c n with oldRange := s.regN (peIdx 0x04 c) n, settle := some ((s.at t).clock + usEt 10), gap := s.regN (peIdx 0x09 c) n == 1 }) ∧
      (∀ d < 48, ∀ m < 25, (d, m) ≠ (c.val, n.val) → u.slice d m = s.slice d m) ∧
      u.reg (peIdx 0x04 c) n = v ∧
      s.answered u 1 (peIdx 0x04 c) n rq.src v t ∧
      u = { s.at t with regs := u.regs, alm := u.alm, reply := u.reply, pins := { s.pins with slices := u.pins.slices } } ∧
      SameRegs s u (odKey (peIdx 0x04 c) n 0 :: journalKeys)) ∧
  (∀ (s : State) (rq : Req) (c : Fin 48) (v : Word) (t : Nat),
    s.takes rq (peIdx 0x1F c) 0xF2 0 [v] Env.calm t = true →
    v = s.reg (peIdx 0x1F c) 0xF2 →
    ∃ u, exec (.spareLaneWrite rq c v t) s = .next u ∧
      u.reg (peIdx 0x1F c) 0xF2 = v ∧
      s.answered u 1 (peIdx 0x1F c) 0xF2 rq.src v t ∧
      u = { s.at t with regs := u.regs, alm := u.alm, reply := u.reply } ∧
      SameRegs s u (odKey (peIdx 0x1F c) 0xF2 0 :: journalKeys)) ∧
  (∀ (s : State) (rq : Req) (c : Fin 48) (v : Word) (t : Nat),
    s.takes rq (peIdx 0x1F c) 0xF2 0 [v] Env.calm t = true →
    v ≠ s.reg (peIdx 0x1F c) 0xF2 →
    ∃ u, exec (.spareLaneWrite rq c v t) s = .next u ∧
      u.reg (peIdx 0x1F c) 0xF2 = v ∧
      (u.pe c).epoch = ((s.pe c).epoch + 1) % 256 ∧
      ((u.pe c).moving.map (fun m => m.2)) = some v.toNat ∧
      (v.toNat < 24 → (u.lostLanes c).testBit v.toNat = false) ∧
      (∀ d < 48, d ≠ c.val → u.pe d = s.pe d) ∧
      u.reply = ⟨0, 0, []⟩ ∧
      u = { s.at t with regs := u.regs, act := u.act, alm := u.alm, reply := u.reply, pins := { s.pins with clusters := u.pins.clusters } } ∧
      SameOutside s u (fun i => i == 0x0400 || (peIdx 0 c ≤ i && i < peIdx 0x40 c) || (tsIdx c 0 ≤ i && i < tsIdx c 0 + 32))) ∧
  (∀ (s : State) (rq : Req) (c : Fin 48) (v : Word) (t : Nat),
    s.takes rq (peIdx 0x1F c) 0xF1 0 [v] Env.calm t = true →
    s.seqState c ≠ 7 →
    ∃ u, exec (.loadNow rq c v t) s = .next u ∧
      u.reg (peIdx 0x1F c) 0xF5 = s.reg (peIdx 0x1F c) 0xF5 + 1 ∧
      (∀ e ∈ s.regs, loadKey c e.1 = true → SMap.get romDefault u.act e.1 = SMap.get romDefault s.regs e.1) ∧
      s.answered u 3 (peIdx 0x1F c) 0xF1 rq.src v t ∧
      u = { (s.at t).endCmd rq.src (peIdx 0x1F c) 0xF1 0 0 with regs := u.regs, act := u.act, alm := u.alm, reply := u.reply, pins := { s.pins with clusters := u.pins.clusters } } ∧
      SameRegs s u (odKey (peIdx 0x1F c) 0xF5 0 :: odKey (peIdx 0x1F c) 0xF6 0 :: journalKeys))

/-- O3 (derived, 04, 05, R117, R118, R121, R123, R137, R144, R171, R172). A LOAD strobe acts as LOAD_NOW does; LVLCLR_N clears every
cluster until the next strobe; settling, lane moves, swaps, rehomes end. -/
def Obligations.LevelsAndMovesComplete : Prop :=
  (∀ (s : State) (c : Fin 48) (t : Nat),
    s.seqState c ≠ 7 →
    ∃ u, exec (.loadStrobe c t) s = .next u ∧
      u.reg (peIdx 0x1F c) 0xF5 = s.reg (peIdx 0x1F c) 0xF5 + 1 ∧
      (u.lvlclr c = 2 → False) ∧
      (∀ e ∈ s.regs, loadKey c e.1 = true → SMap.get romDefault u.act e.1 = SMap.get romDefault s.regs e.1) ∧
      u = { s.at t with regs := u.regs, act := u.act, pins := { s.pins with clusters := u.pins.clusters } } ∧
      SameRegs s u [odKey (peIdx 0x1F c) 0xF5 0, odKey (peIdx 0x1F c) 0xF6 0]) ∧
  (∀ (s : State) (c : Fin 48) (t : Nat),
    ∃ u, exec (.levelSettled c t) s = .next u ∧
      (u.pe c) = { s.pe c with settling := (s.pe c).settling.filter (fun e => (s.at t).clock < e.1 + usEt 20) } ∧
      (∀ d, d ≠ c.val → u.pe d = s.pe d) ∧
      u = { s.at t with pins := { s.pins with clusters := u.pins.clusters } }) ∧
  (∀ (s : State) (c : Fin 48) (n : Fin 25) (t : Nat),
    ∃ u, exec (.pmuRangeSettled c n t) s = .next u ∧
      (u.slice c n) = { s.slice c n with settle := none } ∧
      (∀ d < 48, ∀ m < 25, (d, m) ≠ (c.val, n.val) → u.slice d m = s.slice d m) ∧
      u = { s.at t with pins := { s.pins with slices := u.pins.slices } }) ∧
  (∀ (s : State) (t : Nat),
    s.devState ≠ 0 →
    ∃ u, exec (.lvlclrAssert t) s = .next u ∧
      (∀ c < 48, u.lvlclr c = 1) ∧
      u.pins.lvlclrLow = true ∧
      u.devState = s.devState ∧
      u = { s.at t with regs := u.regs, log := u.log, pins := { s.pins with clusters := u.pins.clusters, lvlclrLow := true }, stim := u.stim }) ∧
  (∀ (s : State) (t : Nat),
    s.devState ≠ 0 →
    ∃ u, exec (.lvlclrRelease t) s = .next u ∧
      (∀ c < 48, u.lvlclr c = (if s.lvlclr c = 1 then (if s.devState = 7 then 3 else 2) else s.lvlclr c)) ∧
      u.pins.lvlclrLow = false ∧
      u = { s.at t with regs := u.regs, log := u.log, pins := { s.pins with lvlclrLow := false } } ∧
      SameRegs s u (odKey 0x0500 6 0 :: odKey 0x0500 7 0 :: (List.range 48).map (fun c => odKey (peIdx 0x1F c) 0xF6 0))) ∧
  (∀ (s : State) (c : Fin 48) (t : Nat) (m : List Nat × Nat),
    (s.pe c).moving = some m →
    (s.pe c).waiting = [] →
    s.start.waiting = [] →
    ∃ u, exec (.laneMoveDone c t) s = .next u ∧
      u.pe c = { s.pe c with moving := none } ∧
      (∀ n < 24, s.sliceState c n < 4 → u.sliceState c n = (if n = m.2 then 3 else 0)) ∧
      (s.sliceState c 24 ≠ 4 → u.sliceState c 24 = (if m.2 < 24 then 2 else 1)) ∧
      u = { s.at t with regs := u.regs, pins := { s.pins with clusters := u.pins.clusters } } ∧
      SameOutside s u (fun i => i == peIdx 0x1C c || i == peIdx 0x1D c)) ∧
  (∀ (s : State) (c : Fin 48) (t : Nat) (r : Recovery),
    (s.pe c).swap = some r →
    (s.pe c).waiting = [] →
    s.start.waiting = [] →
    ∃ u, exec (.sliceSwapDone c t) s = .next u ∧
      u.sliceState c 24 = 2 ∧
      u.regN (peIdx 0x1D c) 24 = r.lane % 2 ^ 40 ∧
      u.regN (peIdx 0x1F c) 0xF8 = ((s.at t).clock - r.at0) / 4096 % 2 ^ 40 ∧
      (u.pe c).swap = none ∧
      u.locks = s.locks ∧
      u.alm = s.alm ∧
      u.start = s.start) ∧
  (∀ (s : State) (c : Fin 48) (t : Nat) (r : Recovery),
    (s.pe c).rehome = some r →
    (s.pe c).waiting = [] →
    r.unit < 6 →
    s.start.waiting = [] →
    ∃ u, exec (.rehomeDone c t) s = .next u ∧
      (∀ k < 4, u.regN (peIdx 0x28 c) (4 * r.unit + k) = 6) ∧
      (u.pe c).rehome = none ∧
      u.locks = s.locks ∧
      u.alm = s.alm ∧
      u.start = s.start)

/-- O4 (derived, 02, R56, R65, R68, R69, R70). ACQUIRE is granted at once, waits, or ends with its code; a waiter is granted when
nothing holds it back, or ends at its limit. -/
def Obligations.LocksAreAcquired : Prop :=
  (∀ (s : State) (rq : Req) (vals : List Word) (t n : Nat),
    s.takes rq 0x0200 0 0 vals Env.calm t = true →
    s.lockNext = none →
    s.lockFree = some n →
    (s.lockMeets ((s.at t).acquireOf rq.src vals).first ((s.at t).acquireOf rq.src vals).last || s.locks.waiters.any (fun v => rangesMeet ((s.at t).acquireOf rq.src vals).first ((s.at t).acquireOf rq.src vals).last v.first v.last)) = false →
    ∃ u, exec (.acquire rq 0 vals t) s = .next u ∧
      u.reg (0x0210 + n) 0 = 1 ∧
      u.reg (0x0210 + n) 1 = wd (fld (vals.getD 0 0) 0 16) ∧
      u.reg (0x0210 + n) 2 = wd (fld (vals.getD 0 0) 16 16) ∧
      u.lockOwner n = rq.src ∧
      u.reg (0x0210 + n) 4 = wd (fld (vals.getD 2 0) 0 16) ∧
      u.reg (0x0210 + n) 5 = wd ((s.at t).acquireOf rq.src vals).lease ∧
      u.leaseEnd n = (s.at t).clock + msEt (u.regN (0x0210 + n) 5) ∧
      u.cmdStatus rq.src 0x0200 0 = cmdStatusWord false n 0 ∧
      u.reply = ⟨0, 0, []⟩ ∧
      u.reg 0x0400 0x01 = s.reg 0x0400 0x01 + 1 ∧
      u = { s.at t with regs := u.regs, alm := u.alm, reply := u.reply, cmdStat := u.cmdStat, locks := { s.locks with leaseFrom := u.locks.leaseFrom, reports := s.locks.reports.filter (fun r => r ≠ (n, rq.src)) } } ∧
      SameOutside s u (fun i => i == 0x0400 || i == 0x0200 || i == 0x0210 + n)) ∧
  (∀ (s : State) (rq : Req) (vals : List Word) (t : Nat),
    s.takes rq 0x0200 0 0 vals Env.calm t = true →
    s.lockNext = none →
    (s.lockMeets ((s.at t).acquireOf rq.src vals).first ((s.at t).acquireOf rq.src vals).last || s.locks.waiters.any (fun v => rangesMeet ((s.at t).acquireOf rq.src vals).first ((s.at t).acquireOf rq.src vals).last v.first v.last)) = true →
    (s.at t).clock < ((s.at t).acquireOf rq.src vals).deadline →
    ∃ u, exec (.acquire rq 0 vals t) s = .next u ∧
      u.cmdStatus rq.src 0x0200 0 = cmdRunning ∧
      u.reply = ⟨0, 0, []⟩ ∧
      u.reg 0x0400 0x01 = s.reg 0x0400 0x01 + 1 ∧
      u = { (s.at t).setCmd rq.src 0x0200 0 cmdRunning with regs := u.regs, alm := u.alm, reply := u.reply, locks := { s.locks with waiters := s.locks.waiters ++ [(s.at t).acquireOf rq.src vals] } } ∧
      SameRegs s u journalKeys) ∧
  (∀ (s : State) (rq : Req) (vals : List Word) (t : Nat),
    s.takes rq 0x0200 0 0 vals Env.calm t = true →
    s.lockNext = none →
    (s.lockMeets ((s.at t).acquireOf rq.src vals).first ((s.at t).acquireOf rq.src vals).last || s.locks.waiters.any (fun v => rangesMeet ((s.at t).acquireOf rq.src vals).first ((s.at t).acquireOf rq.src vals).last v.first v.last)) = true →
    ((s.at t).acquireOf rq.src vals).deadline ≤ (s.at t).clock →
    ∃ u, exec (.acquire rq 0 vals t) s = .next u ∧
      u.cmdStatus rq.src 0x0200 0 = cmdStatusWord false 0 (s.waiterCode ((s.at t).acquireOf rq.src vals)) ∧
      u.reply = ⟨0, 0, []⟩ ∧
      u.reg 0x0400 0x01 = s.reg 0x0400 0x01 + 1 ∧
      u = { (s.at t).endCmd rq.src 0x0200 0 0 (s.waiterCode ((s.at t).acquireOf rq.src vals)) with regs := u.regs, alm := u.alm, reply := u.reply } ∧
      SameRegs s u journalKeys) ∧
  (∀ (s : State) (rq : Req) (vals : List Word) (t : Nat),
    s.takes rq 0x0200 0 0 vals Env.calm t = true →
    s.lockFree = none →
    (s.at t).clock < ((s.at t).acquireOf rq.src vals).deadline →
    ∃ u, exec (.acquire rq 0 vals t) s = .next u ∧
      u.cmdStatus rq.src 0x0200 0 = cmdRunning ∧
      u.reply = ⟨0, 0, []⟩ ∧
      u.reg 0x0400 0x01 = s.reg 0x0400 0x01 + 1 ∧
      u = { (s.at t).setCmd rq.src 0x0200 0 cmdRunning with regs := u.regs, alm := u.alm, reply := u.reply, locks := { s.locks with waiters := s.locks.waiters ++ [(s.at t).acquireOf rq.src vals] } } ∧
      SameRegs s u journalKeys) ∧
  (∀ (s : State) (rq : Req) (vals : List Word) (t n : Nat) (w : Waiter),
    s.takes rq 0x0200 0 0 vals Env.calm t = true →
    s.lockNext = some w →
    s.lockFree = some n →
    w.src ≠ rq.src →
    ∃ u, exec (.acquire rq 0 vals t) s = .next u ∧
      u.reg (0x0210 + n) 0 = 1 ∧
      u.reg (0x0210 + n) 1 = wd w.first ∧
      u.reg (0x0210 + n) 2 = wd w.last ∧
      u.lockOwner n = w.src ∧
      u.cmdStatus w.src 0x0200 0 = cmdStatusWord false n 0 ∧
      u.reply = ⟨0, 0, []⟩ ∧
      u.reg 0x0400 0x01 = s.reg 0x0400 0x01 + 1) ∧
  (∀ (s : State) (w : Waiter) (n t : Nat),
    s.lockNext = some w →
    s.lockFree = some n →
    ∃ u, exec (.acquireGrant w.src t) s = .next u ∧
      u.reg (0x0210 + n) 0 = 1 ∧
      u.reg (0x0210 + n) 1 = wd w.first ∧
      u.reg (0x0210 + n) 2 = wd w.last ∧
      u.lockOwner n = w.src ∧
      u.reg (0x0210 + n) 5 = wd w.lease ∧
      u.cmdStatus w.src 0x0200 0 = cmdStatusWord false n 0 ∧
      u.locks.waiters = s.locks.waiters.filter (fun v => v.src ≠ w.src) ∧
      u = { s.at t with regs := u.regs, agenda := u.agenda, cmdStat := u.cmdStat, locks := { u.locks with staged := s.locks.staged } } ∧
      SameOutside s u (fun i => i == 0x0200 || i == 0x0210 + n)) ∧
  (∀ (s : State) (w : Waiter) (t : Nat),
    s.locks.waiters.find? (fun v => v.src = w.src) = some w →
    w.deadline ≤ (s.at t).clock →
    ∃ u, exec (.acquireWaitExpiry w.src t) s = .next u ∧
      u.cmdStatus w.src 0x0200 0 = cmdStatusWord false 0 (s.waiterCode w) ∧
      u = { (s.at t).endCmd w.src 0x0200 0 0 (s.waiterCode w) with agenda := u.agenda, locks := { s.locks with waiters := s.locks.waiters.filter (fun v => v.src ≠ w.src) } })

/-- O5 (derived, 02, R57, R61, R62, R65, R66, R67, R70). COMMIT applies all staged writes in one step, RELEASE frees the slot, RENEW
restarts the lease, a lapsed lease or lost route breaks it. -/
def Obligations.LocksCommitAndBreak : Prop :=
  (∀ (s : State) (rq : Req) (slot : Word) (t : Nat),
    s.carries = true →
    s.alm.held = [] →
    slot.toNat < 64 →
    ((s.at t).firstChecks (mkTx rq .write 0x0200 2 0 1 [slot] .here) [(0, slot)]).1 = 0 →
    s.lockOf 0x0200 = none →
    s.cmdBusy rq.src 0x0200 2 = false →
    s.holds rq.src slot.toNat = true →
    ((s.at t).commitCode slot.toNat).1 = 0 →
    s.alm.head.length + 1 + (s.stagedIn slot.toNat).length ≤ 3584 →
    (s.stagedIn slot.toNat).all (fun g => match odFind g.idx g.sub with | some r => r.hook == .none && r.eff == .imm | none => false) = true →
    ∃ u, exec (.commit rq slot t) s = .next u ∧
      u.stagedIn slot.toNat = [] ∧
      u.alm.head.length = s.alm.head.length + 1 + (s.stagedIn slot.toNat).length ∧
      u.cmdStatus rq.src 0x0200 2 = 0 ∧
      u.reply = ⟨0, 0, []⟩ ∧
      u = { (s.at t).endCmd rq.src 0x0200 2 0 0 with regs := u.regs, alm := { s.alm with head := u.alm.head }, reply := u.reply, locks := { s.locks with staged := u.locks.staged } } ∧
      SameRegs s u (odKey (0x0210 + slot.toNat) 7 0 :: ((s.stagedIn slot.toNat).flatMap (fun g => g.words.map (fun w => odKey g.idx g.sub w.1)) ++ odKey 0x0200 7 0 :: journalKeys))) ∧
  (∀ (s : State) (rq : Req) (slot : Word) (t i sub w : Nat) (v : Word),
    s.carries = true →
    s.alm.held = [] →
    slot.toNat < 64 →
    ((s.at t).firstChecks (mkTx rq .write 0x0200 2 0 1 [slot] .here) [(0, slot)]).1 = 0 →
    s.lockOf 0x0200 = none →
    s.cmdBusy rq.src 0x0200 2 = false →
    s.holds rq.src slot.toNat = true →
    ((s.at t).commitCode slot.toNat).1 = 0 →
    s.alm.head.length + 1 + (s.stagedIn slot.toNat).length ≤ 3584 →
    (s.stagedIn slot.toNat).all (fun g => match odFind g.idx g.sub with | some r => r.hook == .none && r.eff == .imm | none => false) = true →
    s.stagedIn slot.toNat = [⟨i, sub, [(w, v)], []⟩] →
    i ≠ 0x0400 →
    i ≠ 0x0200 →
    i ≠ 0x0210 + slot.toNat →
    ∃ u, exec (.commit rq slot t) s = .next u ∧
      u.reg i sub w = v) ∧
  (∀ (s : State) (rq : Req) (slot : Word) (t : Nat),
    s.carries = true →
    s.alm.held = [] →
    slot.toNat < 64 →
    ((s.at t).firstChecks (mkTx rq .write 0x0200 4 0 1 [slot] .here) [(0, slot)]).1 = 0 →
    s.lockOf 0x0200 = none →
    s.cmdBusy rq.src 0x0200 4 = false →
    s.holds rq.src slot.toNat = true →
    ((s.at t).commitCode slot.toNat).1 = 0 →
    s.alm.head.length + 1 + (s.stagedIn slot.toNat).length ≤ 3584 →
    (s.stagedIn slot.toNat).all (fun g => match odFind g.idx g.sub with | some r => r.hook == .none && r.eff == .imm | none => false) = true →
    ∃ u, exec (.commitRelease rq slot t) s = .next u ∧
      u.stagedIn slot.toNat = [] ∧
      u.reg (0x0210 + slot.toNat) 0 = 0 ∧
      u.cmdStatus rq.src 0x0200 4 = 0 ∧
      u.reply = ⟨0, 0, []⟩ ∧
      u.alm.head.length = s.alm.head.length + 1 + (s.stagedIn slot.toNat).length ∧
      u = { (s.at t).endCmd rq.src 0x0200 4 0 0 with regs := u.regs, agenda := u.agenda, alm := { s.alm with head := u.alm.head }, reply := u.reply, locks := { s.locks with staged := u.locks.staged, leaseFrom := u.locks.leaseFrom } } ∧
      SameRegs s u ((List.range 9).map (fun k => odKey (0x0210 + slot.toNat) k 0) ++ odKey (0x0210 + slot.toNat) 8 1 :: odKey 0x0200 6 0 :: ((s.stagedIn slot.toNat).flatMap (fun g => g.words.map (fun w => odKey g.idx g.sub w.1)) ++ odKey 0x0200 7 0 :: journalKeys))) ∧
  (∀ (s : State) (rq : Req) (slot : Word) (t : Nat),
    s.takes rq 0x0200 3 0 [slot] Env.calm t = true →
    ∃ u, exec (.release rq slot t) s = .next u ∧
      u.stagedIn slot.toNat = [] ∧
      u.reg (0x0210 + slot.toNat) 0 = 0 ∧
      s.answered u 3 0x0200 3 rq.src slot t ∧
      u = { (s.at t).endCmd rq.src 0x0200 3 0 0 with regs := u.regs, agenda := u.agenda, alm := u.alm, reply := u.reply, locks := { s.locks with staged := u.locks.staged, leaseFrom := u.locks.leaseFrom } } ∧
      SameRegs s u ((List.range 9).map (fun k => odKey (0x0210 + slot.toNat) k 0) ++ [odKey (0x0210 + slot.toNat) 8 1, odKey 0x0200 6 0, odKey 0x0200 7 0] ++ journalKeys)) ∧
  (∀ (s : State) (rq : Req) (slot : Word) (t : Nat),
    s.takes rq 0x0200 1 0 [slot] Env.calm t = true →
    ∃ u, exec (.renew rq slot t) s = .next u ∧
      u.leaseEnd slot.toNat = (s.at t).clock + msEt (s.regN (0x0210 + slot.toNat) 5) ∧
      s.answered u 3 0x0200 1 rq.src slot t ∧
      u = { (s.at t).endCmd rq.src 0x0200 1 0 0 with regs := u.regs, alm := u.alm, reply := u.reply, locks := { s.locks with leaseFrom := u.locks.leaseFrom } } ∧
      SameRegs s u journalKeys) ∧
  (∀ (s : State) (slot : Fin 64) (t : Nat),
    s.lockSlots.contains slot.val = true →
    s.leaseEnd slot ≤ (s.at t).clock →
    ∃ u, exec (.leaseExpiry slot t) s = .next u ∧
      u.reg (0x0210 + slot) 0 = 0 ∧
      u.stagedIn slot = [] ∧
      (slot.val, s.lockOwner slot) ∈ u.locks.reports ∧
      u.reg 0x0200 8 = s.reg 0x0200 8 + 1 ∧
      u.alm.head.length = s.alm.head.length + 1 ∧
      u = { s.at t with regs := u.regs, agenda := u.agenda, log := u.log, alm := { s.alm with head := u.alm.head }, locks := { u.locks with waiters := s.locks.waiters } } ∧
      SameOutside s u (fun i => i == 0x0200 || i == 0x0400 || i == 0x0500 || i == 0x0210 + slot)) ∧
  (∀ (s : State) (dev : BitVec 24) (t : Nat),
    s.route none dev.toNat = none →
    ∃ u, exec (.routeLossTimeout dev t) s = .next u ∧
      (∀ n < 64, n ∈ s.lockSlots → srcPath (s.lockOwner n) = 4 → srcDevice (s.lockOwner n) = dev.toNat → u.reg (0x0210 + n) 0 = 0) ∧
      (∀ n < 64, (srcPath (s.lockOwner n) ≠ 4 ∨ srcDevice (s.lockOwner n) ≠ dev.toNat) → u.reg (0x0210 + n) 0 = s.reg (0x0210 + n) 0 ∧ u.stagedIn n = s.stagedIn n) ∧
      u = { s.at t with regs := u.regs, agenda := u.agenda, cmdStat := u.cmdStat, log := u.log, alm := { s.alm with head := u.alm.head }, locks := u.locks })

/-- O6 (derived, 03, R83, R93, R92). A write of MODE moves the sync state; LOAD_CMD arms a load or steps Meridian time; SYNC_IN
completes it, or it ends after 1 s. -/
def Obligations.MeridianModeAndLoads : Prop :=
  (∀ (s : State) (rq : Req) (v : Word) (t : Nat),
    s.takes rq 0x0900 0x03 0 [v] Env.calm t = true →
    ∃ u, exec (.modeWrite rq v t) s = .next u ∧
      u.reg 0x0900 0x03 = v ∧
      (v ≠ s.reg 0x0900 0x03 → u.reg 0x0900 0x04 = v) ∧
      (v = s.reg 0x0900 0x03 → u.reg 0x0900 0x04 = s.reg 0x0900 0x04) ∧
      s.answered u 1 0x0900 0x03 rq.src v t ∧
      u = { s.at t with regs := u.regs, alm := u.alm, reply := u.reply, sync := u.sync } ∧
      SameRegs s u ([3, 4, 6, 7, 8].map (fun k => odKey 0x0900 k 0) ++ journalKeys)) ∧
  (∀ (s : State) (rq : Req) (t : Nat),
    s.takes rq 0x0900 0x0E 0 [1] Env.calm t = true →
    ∃ u, exec (.loadCmdAtSyncIn rq t) s = .next u ∧
      s.answered u 3 0x0900 0x0E rq.src 1 t ∧
      u = { (s.at t).setCmd rq.src 0x0900 0x0E cmdRunning with regs := u.regs, alm := u.alm, reply := u.reply, sync := { s.sync with loads := s.sync.loads ++ [(rq.src, (s.at t).clock)] } } ∧
      SameRegs s u journalKeys) ∧
  (∀ (s : State) (rq : Req) (t : Nat),
    s.takes rq 0x0900 0x0E 0 [2] Env.calm t = true →
    ∃ u, exec (.loadCmdNow rq t) s = .next u ∧
      u.now = s.reg80 0x0900 0x0D ∧
      u.reg 0x0900 0x0F = s.reg 0x0900 0x0F + 1 ∧
      s.answered u 3 0x0900 0x0E rq.src 2 t ∧
      u = { (s.at t).endCmd rq.src 0x0900 0x0E 0 0 with regs := u.regs, alm := u.alm, reply := u.reply, log := u.log, agenda := u.agenda, sync := { s.sync with past := u.sync.past } } ∧
      SameOutside s u (fun i => i == 0x0900 || i == 0x0400 || i == 0x0500 || (0x0920 ≤ i && i < 0x0960))) ∧
  (∀ (s : State) (t : Nat),
    s.sync.loads = [] →
    ∃ u, exec (.syncInEdge t) s = .next u ∧
      u.reg80 0x0900 0x10 = (s.at t).now ∧
      u = { s.at t with regs := u.regs, agenda := s.agenda ++ (s.linesOf 0x2008).map (fun n => .eventOccurrence (Fin.ofNat 512 n) (s.at t).now false) } ∧
      SameRegs s u [odKey 0x0900 0x10 0, odKey 0x0900 0x10 1]) ∧
  (∀ (s : State) (t : Nat),
    s.sync.loads ≠ [] →
    ∃ u, exec (.syncInEdge t) s = .next u ∧
      u.now = s.reg80 0x0900 0x0D ∧
      u.reg80 0x0900 0x10 = s.reg80 0x0900 0x0D ∧
      (∀ e ∈ s.sync.loads, u.cmdStatus e.1 0x0900 0x0E = 0) ∧
      u = { s.at t with regs := u.regs, agenda := u.agenda, log := u.log, cmdStat := u.cmdStat, sync := { s.sync with loads := [], past := u.sync.past } } ∧
      SameOutside s u (fun i => i == 0x0900 || i == 0x0500 || (0x0920 ≤ i && i < 0x0960))) ∧
  (∀ (s : State) (t : Nat),
    ∃ u, exec (.loadCmdTimeout t) s = .next u ∧
      (∀ e ∈ s.sync.loads, e.2 + msEt 1000 ≤ (s.at t).clock → u.cmdStatus e.1 0x0900 0x0E = cmdStatusWord false 0 0x0053) ∧
      u = { s.at t with cmdStat := u.cmdStat, sync := { s.sync with loads := s.sync.loads.filter (fun e => (s.at t).clock < e.2 + msEt 1000) } })

/-- O7 (derived, 03, R83, R87, R94). A master sends SYNC on every sync port, a port asks for its delay and answers such a request, and
SYNC_OUT rises and falls. -/
def Obligations.SyncFramesAndPulses : Prop :=
  (∀ (s : State) (t : Nat),
    s.syncMode = 1 →
    ∃ u, exec (.syncSend t) s = .next u ∧
      (∀ p < 4, s.syncPort p = true → (u.port p).txq = (s.port p).txq ++ [⟨2, { mkFrame 6 0xFFFFFE s.ownDevice [wd (s.ownDevice * 65536), 0, 0, 0, wd (s.sync.seq + 1).toNat] with vc := s.regB (0x1110 + p) 0x04 }, none, none⟩]) ∧
      (∀ p < 4, s.syncPort p = false → u.port p = s.port p) ∧
      u = { s.at t with sync := { s.sync with seq := s.sync.seq + 1 }, halo := u.halo }) ∧
  (∀ (s : State) (p : Fin 4) (t : Nat),
    s.syncPort p = true →
    ∃ u, exec (.delayReqSend p t) s = .next u ∧
      (u.port p).txq = (s.port p).txq ++ [⟨2, { mkFrame 7 0xFFFFFE s.ownDevice [wd (s.sync.seq + 1).toNat, 0, 0] with vc := s.regB (0x1110 + p) 0x04 }, none, none⟩] ∧
      (∀ q, q ≠ p.val → u.port q = s.port q) ∧
      u = { s.at t with sync := { s.sync with seq := s.sync.seq + 1 }, halo := u.halo }) ∧
  (∀ (s : State) (p : Fin 4) (f : Frame) (t : Nat),
    s.syncPort p = true →
    f.ty = 7 →
    ∃ u, exec (.delayReqRx p f t) s = .next u ∧
      (u.port p).txq = (s.port p).txq ++ [⟨2, { mkFrame 8 0xFFFFFE s.ownDevice [fpay f 0, loWord (s.at t).now, hiWord (s.at t).now, 0, 0] with vc := s.regB (0x1110 + p) 0x04 }, none, none⟩] ∧
      (∀ q, q ≠ p.val → u.port q = s.port q) ∧
      u = { s.at t with halo := u.halo }) ∧
  (∀ (s : State) (t : Nat),
    s.regN 0x0900 0x11 ≠ 0 →
    (s.at t).now.toNat % s.regN 0x0900 0x11 = 0 →
    s.sync.past.any (fun e => e.step && e.till == (s.at t).localMt) = false →
    exec (.syncOutPulse t) s = .next { s.at t with sync := { s.sync with syncOut := some ((s.at t).clock + 1280 * 32) } }) ∧
  (∀ (s : State) (t e : Nat),
    s.sync.syncOut = some e →
    e ≤ (s.at t).clock →
    exec (.syncOutPulseEnd t) s = .next { s.at t with sync := { s.sync with syncOut := none } })

/-- O8 (derived, 03, R83, R85, R87, R88, R90). A LOCKED slave follows SYNC frames, slews OFFSET by 1 mt, falls to HOLDOVER after 3
intervals; a delay reply gives the path delay. -/
def Obligations.SlaveFollowsItsMaster : Prop :=
  (∀ (s : State) (p : Fin 4) (f : Frame) (t : Nat),
    f.ty = 6 →
    s.syncPort p = true →
    s.syncMode = 2 →
    s.syncState = 4 →
    s.eligible p = true →
    (∀ e ∈ (s.at t).mastersHeard, e.2.1 = fld (fpay f 0) 16 24) →
    s.sync.upstream = some p.val →
    (diff80 (u80 (fpay f 1) (fpay f 2) + BitVec.ofNat 80 ((s.regN (0x0904 + p) 0x02 * 128 + 500) / 1000) - BitVec.ofNat 80 (s.at t).localMt) s.offset).natAbs ≤ s.regN 0x0900 0x0B →
    ∃ u, exec (.syncRx p f t) s = .next u ∧
      u.sync.est = u80 (fpay f 1) (fpay f 2) + BitVec.ofNat 80 ((s.regN (0x0904 + p) 0x02 * 128 + 500) / 1000) - BitVec.ofNat 80 (s.at t).localMt ∧
      u.sync.lastSync = (s.at t).clock ∧
      u.reg 0x0900 0x06 = wd (min 255 (fld (fpay f 0) 8 8 + 1)) ∧
      u.reg 0x0900 0x07 = wd (min 0xFFFFFFFFFF ((fpay f 3).toNat + 20)) ∧
      u.reg 0x0900 0x08 = wd (fld (fpay f 0) 16 24) ∧
      u.offset = s.offset ∧
      u.syncState = 4 ∧
      u.sync.upstream = some p.val ∧
      u = { s.at t with regs := u.regs, sync := u.sync, halo := u.halo } ∧
      SameRegs s u [odKey (0x0904 + p) 0x03 0, odKey (0x0904 + p) 0x04 0, odKey 0x0900 0x06 0, odKey 0x0900 0x07 0, odKey 0x0900 0x08 0]) ∧
  (∀ (s : State) (p : Fin 4) (f : Frame) (t : Nat),
    f.ty = 6 →
    s.syncPort p = true →
    s.syncMode = 2 →
    (s.syncState = 2 ∨ s.syncState = 5) →
    s.eligible p = true →
    (∀ e ∈ (s.at t).mastersHeard, e.2.1 = fld (fpay f 0) 16 24) →
    s.sync.upstream = none →
    ∃ u, exec (.syncRx p f t) s = .next u ∧
      u.sync.ests = [u80 (fpay f 1) (fpay f 2) + BitVec.ofNat 80 ((s.regN (0x0904 + p) 0x02 * 128 + 500) / 1000) - BitVec.ofNat 80 (s.at t).localMt] ∧
      u.sync.upstream = some p.val ∧
      u.syncState = 3 ∧
      u.reg 0x0900 0x07 = 0xFFFFFFFFFF ∧
      u.offset = s.offset ∧
      u = { s.at t with regs := u.regs, sync := u.sync, halo := u.halo } ∧
      SameRegs s u [odKey (0x0904 + p) 0x03 0, odKey (0x0904 + p) 0x04 0, odKey 0x0900 0x04 0, odKey 0x0900 0x06 0, odKey 0x0900 0x07 0, odKey 0x0900 0x08 0]) ∧
  (∀ (s : State) (t : Nat),
    s.syncState = 4 →
    s.sync.est ≠ s.offset →
    ((diff80 s.sync.est s.offset).natAbs ≤ s.regN 0x0900 0x0B ∨ s.stepPermitted = false) →
    exec (.offsetSlew t) s = .next ((s.at t).setOffset (if 0 < diff80 s.sync.est s.offset then s.offset + 1 else s.offset - 1) false)) ∧
  (∀ (s : State) (t : Nat),
    s.syncState = 4 →
    s.sync.est ≠ s.offset →
    s.regN 0x0900 0x0B < (diff80 s.sync.est s.offset).natAbs →
    s.stepPermitted = true →
    ∃ u, exec (.offsetSlew t) s = .next u ∧
      u.offset = s.sync.est ∧
      u.reg 0x0900 0x0F = s.reg 0x0900 0x0F + 1 ∧
      u = { s.at t with regs := u.regs, agenda := u.agenda, log := u.log, sync := { s.sync with past := s.sync.past ++ [⟨(s.at t).localMt, s.offset, true⟩] } }) ∧
  (∀ (s : State) (t : Nat),
    (s.syncState = 4 ∨ s.syncState = 3) →
    s.sync.lastSync + usEt (3 * s.regN 0x0900 0x09) ≤ (s.at t).clock →
    ∃ u, exec (.syncLossTimeout t) s = .next u ∧
      u.syncState = (if s.syncState = 4 then 5 else 2) ∧
      u = { s.at t with regs := u.regs, sync := { s.sync with upstream := none, better := [], ests := [], frames := 0 } } ∧
      SameRegs s u [odKey 0x0900 0x04 0]) ∧
  (∀ (s : State) (p : Fin 4) (f : Frame) (t seq t1 : Nat),
    f.ty = 8 →
    s.syncPort p = true →
    SMap.get (fun _ => none) s.sync.asked p = some (seq, t1) →
    fld (fpay f 0) 0 16 = seq →
    ∃ u, exec (.delayReplyRx p f t) s = .next u ∧
      u.reg (0x0904 + p) 0x02 = wdI (((((s.at t).localMt : Int) - t1 - diff80 (u80 (fpay f 3) (fpay f 4)) (u80 (fpay f 1) (fpay f 2))) * 1000 - (s.reg (0x0904 + p) 0x01).toInt * 128) / 256) ∧
      u.reg (0x0904 + p) 0x05 = 2 ∧
      SMap.get (fun _ => none) u.sync.asked p = none ∧
      u = { s.at t with regs := u.regs, sync := { s.sync with asked := u.sync.asked } } ∧
      SameRegs s u [odKey (0x0904 + p) 0x02 0, odKey (0x0904 + p) 0x05 0])

/-- O9 (derived, 03, R97, R98, R103, R104). PULSE, EVT edges and EVENT frames bring occurrences due on their lines; a line merges near
occurrences and counts the others. -/
def Obligations.OccurrencesReachLines : Prop :=
  (∀ (s : State) (rq : Req) (line : Fin 512) (v : Word) (t : Nat),
    s.takes rq (0x0A00 + line) 0x05 0 [v] Env.calm t = true →
    ∃ u, exec (.pulse rq line v t) s = .next u ∧
      s.answered u 3 (0x0A00 + line) 0x05 rq.src v t ∧
      u = { (s.at t).endCmd rq.src (0x0A00 + line) 0x05 0 0 with regs := u.regs, alm := u.alm, reply := u.reply, agenda := s.agenda ++ [.eventOccurrence line (s.at t).now false] } ∧
      SameRegs s u journalKeys) ∧
  (∀ (s : State) (ball : Fin 8) (rising : Bool) (t : Nat),
    s.regN (0x0980 + ball) 0x00 = 0 →
    exec (.evtInputEdge ball rising t) s = .next { s.at t with agenda := s.agenda ++ (if rising = s.regB (0x0980 + ball) 0x03 then [] else (s.linesOf (0x2000 + ball)).map (fun n => .eventOccurrence (Fin.ofNat 512 n) (s.at t).now false)) }) ∧
  (∀ (s : State) (ball : Fin 8) (t e : Nat),
    SMap.get (fun _ => none) s.sync.evtOut ball = some e →
    e ≤ (s.at t).clock →
    ∃ u, exec (.evtPulseEnd ball t) s = .next u ∧
      SMap.get (fun _ => none) u.sync.evtOut ball = none ∧
      (∀ q, q ≠ ball.val → SMap.get (fun _ => none) u.sync.evtOut q = SMap.get (fun _ => none) s.sync.evtOut q) ∧
      u = { s.at t with sync := { s.sync with evtOut := u.sync.evtOut } }) ∧
  (∀ (s : State) (line : Fin 512) (m : U80) (timed : Bool),
    (s.reg (0x0A00 + line) 0x06 ≠ 0 ∨ s.reg80 (0x0A00 + line) 0x08 ≠ 0) →
    (m - s.reg80 (0x0A00 + line) 0x08).toNat < 640 →
    exec (.eventOccurrence line m timed) s = .next ({ s with posted := [] }.addReg (0x0A00 + line) 0x07 1)) ∧
  (∀ (s : State) (line : Fin 512) (m : U80) (timed : Bool),
    (s.reg (0x0A00 + line) 0x06 ≠ 0 ∨ s.reg80 (0x0A00 + line) 0x08 ≠ 0) →
    640 ≤ (m - s.reg80 (0x0A00 + line) 0x08).toNat →
    (s.reg80 (0x0A00 + line) 0x08 - m).toNat < 640 →
    exec (.eventOccurrence line m timed) s = .next (({ s with posted := [] }.addReg (0x0A00 + line) 0x07 1).setReg80 (0x0A00 + line) 0x08 m)) ∧
  (∀ (s : State) (line : Fin 512) (m : U80) (timed : Bool),
    ((640 ≤ (m - s.reg80 (0x0A00 + line) 0x08).toNat ∧ 640 ≤ (s.reg80 (0x0A00 + line) 0x08 - m).toNat) ∨ (s.reg (0x0A00 + line) 0x06 = 0 ∧ s.reg80 (0x0A00 + line) 0x08 = 0)) →
    ∃ u, exec (.eventOccurrence line m timed) s = .next u ∧
      u.reg (0x0A00 + line) 0x06 = s.reg (0x0A00 + line) 0x06 + 1 ∧
      u.reg80 (0x0A00 + line) 0x08 = m ∧
      (∀ c : Fin 48, s.reg (0x3000 + 0x40 * c) 0x05 = wd line → Instr.startLineOccurrence c m timed s.clock ∈ u.agenda) ∧
      (∀ c : Fin 48, s.reg (0x3002 + 0x40 * c) 0x01 = wd line → Instr.jumpLineOccurrence c m timed s.clock ∈ u.agenda) ∧
      (∀ c : Fin 48, s.reg (0x201F + 0x40 * c) 0xF0 = wd line → Instr.loadStrobe c s.clock ∈ u.agenda) ∧
      (∀ n : Fin 32, s.reg (0x8000 + n) 0x0D = wd line → Instr.asStartLine n m timed s.clock ∈ u.agenda) ∧
      u.locks = s.locks ∧
      u.alm = s.alm ∧
      u.host = s.host ∧
      u.svc = s.svc ∧
      u.start = s.start ∧
      u.hbm = s.hbm) ∧
  (∀ (s : State) (p : Fin 4) (f : Frame) (t : Nat),
    f.ty = 4 →
    ((s.at t).acceptBroadcast p f).1 = true →
    fld (fpay f 0) 32 8 = 1 →
    (f.src.toNat, fld (fpay f 1) 31 9, u80 (fpay f 2) (fpay f 3)) ∉ s.halo.events →
    ∃ u, exec (.eventFrameRx p f t) s = .next u ∧
      (f.src.toNat, fld (fpay f 1) 31 9, u80 (fpay f 2) (fpay f 3)) ∈ u.halo.events ∧
      (∀ k < 128, s.reg 0x0990 0x00 k = wd (f.src.toNat * 65536 + 512 + fld (fpay f 1) 31 9) → ∀ n ∈ s.linesOf (0x9000 + k), Instr.eventOccurrence (Fin.ofNat 512 n) (u80 (fpay f 2) (fpay f 3)) false ∈ u.agenda) ∧
      ((∀ k < 128, s.reg 0x0990 0x00 k ≠ wd (f.src.toNat * 65536 + 512 + fld (fpay f 1) 31 9)) → u.reg 0x0990 0x01 = s.reg 0x0990 0x01 + 1 ∧ u.agenda = s.agenda) ∧
      u = { s.at t with regs := u.regs, agenda := u.agenda, halo := u.halo } ∧
      SameRegs s u [odKey 0x0990 0x01 0]) ∧
  (∀ (s : State) (p : Fin 4) (f : Frame) (t : Nat),
    f.ty = 4 →
    ((s.at t).acceptBroadcast p f).1 = false →
    ∃ u, exec (.eventFrameRx p f t) s = .next u ∧
      u.reg (0x1110 + p) 0x10 = s.reg (0x1110 + p) 0x10 + 1 ∧
      (u.port p).ctl = (s.port p).ctl ++ [wd (2 ^ 36 + 2 ^ 32 + b2n f.vc * 2 ^ 31 + 2 ^ 24)] ∧
      (∀ q, q ≠ p.val → u.port q = s.port q) ∧
      u = { s.at t with regs := u.regs, halo := { s.halo with seen := u.halo.seen, ports := u.halo.ports } } ∧
      SameRegs s u [odKey (0x1110 + p) 0x10 0])

/-- O10 (derived, 03, R105, R106, R107, R110). ISSUE and a received ISSUE arm a slot, an armed slot fires at T, and CANCEL and a
received CANCEL cancel an armed slot. -/
def Obligations.TimedEventsArmAndFire : Prop :=
  (∀ (s : State) (rq : Req) (a b c d : Word) (t n : Nat),
    s.takes rq 0x0910 0x00 0 [a, b, c, d] Env.calm t = true →
    (fld c 16 24 = 0xFFFFFF ∨ fld c 16 24 = s.ownDevice) →
    s.teFree = some n →
    (s.at t).now.toNat + 128000 ≤ (u80 a b).toNat →
    ∃ u, exec (.issue rq 0 [a, b, c, d] t) s = .next u ∧
      u.teState n = 1 ∧
      u.reg80 (0x0920 + n) 0x01 = u80 a b ∧
      u.regN (0x0920 + n) 0x02 = fld c 0 9 ∧
      u.regN (0x0920 + n) 0x03 = s.ownDevice ∧
      u.regN (0x0920 + n) 0x04 = fld d 0 16 ∧
      u.cmdStatus rq.src 0x0910 0x00 = cmdStatusWord false n 0 ∧
      u = { s.at t with regs := u.regs, alm := u.alm, reply := u.reply, cmdStat := u.cmdStat, sync := u.sync, halo := u.halo } ∧
      SameOutside s u (fun i => i == 0x0920 + n || i == 0x0400)) ∧
  (∀ (s : State) (rq : Req) (a b c d : Word) (t : Nat),
    s.takes rq 0x0910 0x00 0 [a, b, c, d] Env.calm t = true →
    fld c 16 24 ≠ 0xFFFFFF →
    fld c 16 24 ≠ s.ownDevice →
    ∃ u, exec (.issue rq 0 [a, b, c, d] t) s = .next u ∧
      u = { (s.at t).endCmd rq.src 0x0910 0x00 0xFF 0 with regs := u.regs, alm := u.alm, reply := u.reply, halo := u.halo } ∧
      SameRegs s u journalKeys) ∧
  (∀ (s : State) (rq : Req) (w : Word) (t n : Nat),
    s.takes rq 0x0910 0x01 0 [w] Env.calm t = true →
    (fld w 16 24 = 0xFFFFFF ∨ fld w 16 24 = s.ownDevice) →
    s.teFind s.ownDevice (fld w 0 16) (fun st => st = 1) = some n →
    ∃ u, exec (.cancel rq 0 [w] t) s = .next u ∧
      u.teState n = 3 ∧
      u = { (s.at t).endCmd rq.src 0x0910 0x01 0 0 with regs := u.regs, alm := u.alm, reply := u.reply, halo := u.halo } ∧
      SameRegs s u (odKey (0x0920 + n) 0x00 0 :: journalKeys)) ∧
  (∀ (s : State) (slot : Fin 64) (t : Nat),
    s.teState slot = 1 →
    (s.reg80 (0x0920 + slot) 0x01).toNat ≤ (s.at t).now.toNat →
    ∃ u, exec (.teFire slot t) s = .next u ∧
      u.teState slot = 2 ∧
      u.reg80 (0x0920 + slot) 0x05 = s.reg80 (0x0920 + slot) 0x01 ∧
      Instr.eventOccurrence (Fin.ofNat 512 (s.regN (0x0920 + slot) 0x02)) (s.reg80 (0x0920 + slot) 0x01) true ∈ u.agenda ∧
      s.agenda <+: u.agenda ∧
      u = { s.at t with regs := u.regs, agenda := u.agenda } ∧
      SameRegs s u [odKey (0x0920 + slot) 0x00 0, odKey (0x0920 + slot) 0x05 0, odKey (0x0920 + slot) 0x05 1]) ∧
  (∀ (s : State) (p : Fin 4) (f : Frame) (t n : Nat),
    f.ty = 5 →
    fld (fpay f 1) 36 4 = 1 →
    ((s.at t).acceptBroadcast p f).1 = true →
    (fld (fpay f 0) 16 24 = 0xFFFFFF ∨ fld (fpay f 0) 16 24 = s.ownDevice) →
    s.teFind f.src.toNat (fld (fpay f 1) 0 16) (fun st => st ≠ 0) = none →
    s.teFree = some n →
    (s.at t).now.toNat + 128000 ≤ (u80 (fpay f 2) (fpay f 3)).toNat →
    ∃ u, exec (.teIssueRx p f t) s = .next u ∧
      u.teState n = 1 ∧
      u.reg80 (0x0920 + n) 0x01 = u80 (fpay f 2) (fpay f 3) ∧
      u.regN (0x0920 + n) 0x02 = fld (fpay f 1) 16 9 ∧
      u.regN (0x0920 + n) 0x03 = f.src.toNat ∧
      u.regN (0x0920 + n) 0x04 = fld (fpay f 1) 0 16 ∧
      u = { s.at t with regs := u.regs, sync := u.sync, halo := u.halo } ∧
      SameOutside s u (fun i => i == 0x0920 + n)) ∧
  (∀ (s : State) (p : Fin 4) (f : Frame) (t n : Nat),
    f.ty = 5 →
    fld (fpay f 1) 36 4 = 2 →
    ((s.at t).acceptBroadcast p f).1 = true →
    (fld (fpay f 0) 16 24 = 0xFFFFFF ∨ fld (fpay f 0) 16 24 = s.ownDevice) →
    s.teFind f.src.toNat (fld (fpay f 1) 0 16) (fun st => st = 1) = some n →
    ∃ u, exec (.teCancelRx p f t) s = .next u ∧
      u.teState n = 3 ∧
      u = { s.at t with regs := u.regs, halo := u.halo } ∧
      SameRegs s u [odKey (0x0920 + n) 0x00 0])

/-- O11 (derived, 05, 06, R154, R179, R183, R184, R185, R186, R212). Each played vector takes its set's PERIOD and counts once; ADV
goes on, RPT repeats, LOOP and ENDL open and close loops. -/
def Obligations.VectorsPlay : Prop :=
  (∀ (s : State) (c : Fin 48) (m : Samples) (v : Vec),
    s.duePlays c v = true →
    vecOp v = 0x00 →
    ∃ u, exec (.adv c m) s = .next u ∧
      (u.sq c).ctl.pc = ((s.sq c).ctl.pc + 1) % 4294967296 ∧
      s.played u c v) ∧
  (∀ (s : State) (c : Fin 48) (m : Samples) (v : Vec) (n first : Nat),
    s.duePlays c v = true →
    vecOp v = 0x01 →
    (s.sq c).rpt = some (n, first) →
    1 < n →
    ∃ u, exec (.rpt c m) s = .next u ∧
      (u.sq c).ctl.pc = (s.sq c).ctl.pc ∧
      (u.sq c).rpt = some (n - 1, first) ∧
      s.played u c v) ∧
  (∀ (s : State) (c : Fin 48) (m : Samples) (v : Vec) (first : Nat),
    s.duePlays c v = true →
    vecOp v = 0x01 →
    (s.sq c).rpt = some (1, first) →
    ∃ u, exec (.rpt c m) s = .next u ∧
      (u.sq c).ctl.pc = ((s.sq c).ctl.pc + 1) % 4294967296 ∧
      (u.sq c).rpt = none ∧
      s.played u c v) ∧
  (∀ (s : State) (c : Fin 48) (m : Samples) (v : Vec),
    s.duePlays c v = true →
    vecOp v = 0x01 →
    (s.sq c).rpt = none →
    1 < vecOperand v →
    ∃ u, exec (.rpt c m) s = .next u ∧
      (u.sq c).ctl.pc = (s.sq c).ctl.pc ∧
      (u.sq c).rpt = some (vecOperand v - 1, (s.sq c).due) ∧
      s.played u c v) ∧
  (∀ (s : State) (c : Fin 48) (m : Samples) (v : Vec) (k : Nat),
    s.duePlays c v = true →
    vecOp v = 2 + k →
    k < 4 →
    (s.sq c).ctl.loops.length = 4 →
    ∃ u, exec (.loop c m) s = .next u ∧
      (u.sq c).ctl.pc = ((s.sq c).ctl.pc + 1) % 4294967296 ∧
      (u.sq c).ctl.loop k = some ⟨countOr (vecOperand v) (s.sqAct c 1 k), (s.sq c).ctl.pc + 1, true, (s.sq c).ctl.pc + 1, (s.sq c).ctl.pc + 1, false⟩ ∧
      s.played u c v) ∧
  (∀ (s : State) (c : Fin 48) (m : Samples) (v : Vec) (k : Nat) (l : LoopSt),
    s.duePlays c v = true →
    vecOp v = 6 + k →
    k < 4 →
    (s.sq c).ctl.loops.length = 4 →
    (s.sq c).ctl.loop k = some l →
    1 < l.count →
    ∃ u, exec (.endl c m) s = .next u ∧
      (u.sq c).ctl.pc = l.start ∧
      ((u.sq c).ctl.loop k).map (fun x => (x.count, x.start, x.first)) = some (l.count - 1, l.start, false) ∧
      s.played u c v) ∧
  (∀ (s : State) (c : Fin 48) (m : Samples) (v : Vec) (k : Nat) (l : LoopSt),
    s.duePlays c v = true →
    vecOp v = 6 + k →
    k < 4 →
    (s.sq c).ctl.loops.length = 4 →
    (s.sq c).ctl.loop k = some l →
    l.count ≤ 1 →
    ∃ u, exec (.endl c m) s = .next u ∧
      (u.sq c).ctl.pc = ((s.sq c).ctl.pc + 1) % 4294967296 ∧
      (u.sq c).ctl.loop k = none ∧
      s.played u c v)

/-- O12 (derived, 06, 07, R184, R187, R217, R235, R237, R191). JMP, JMPR, CALL and RET lead where the jump table, the offset and the
stack say; APGS steps X, Y, D; HALT and a bad opcode end the run. -/
def Obligations.ControlFlowLeadsOn : Prop :=
  (∀ (s : State) (c : Fin 48) (m : Samples) (v : Vec),
    s.duePlays c v = true →
    vecOp v = 0x0A →
    ∃ u, exec (.jmp c m) s = .next u ∧
      (u.sq c).ctl.pc = s.sqAct c 1 9 (vecOperand v) ∧
      s.played u c v) ∧
  (∀ (s : State) (c : Fin 48) (m : Samples) (v : Vec),
    s.duePlays c v = true →
    vecOp v = 0x0B →
    ∃ u, exec (.jmpr c m) s = .next u ∧
      ((u.sq c).ctl.pc : Int) = (((s.sq c).ctl.pc : Int) + jmprOffset (vecOperand v)) % 4294967296 ∧
      s.played u c v) ∧
  (∀ (s : State) (c : Fin 48) (m : Samples) (v : Vec),
    s.duePlays c v = true →
    vecOp v = 0x0C →
    ∃ u, exec (.call c m) s = .next u ∧
      (u.sq c).ctl.pc = s.sqAct c 1 9 (vecOperand v) ∧
      (u.sq c).ctl.stack = ((s.sq c).ctl.pc + 1) :: (s.sq c).ctl.stack ∧
      u.reg (seqIdx 0 c) 0x0F = wd ((s.sq c).ctl.stack.length + 1) ∧
      s.played u c v) ∧
  (∀ (s : State) (c : Fin 48) (m : Samples) (v : Vec) (a : Nat) (st : List Nat),
    s.duePlays c v = true →
    vecOp v = 0x0D →
    (s.sq c).ctl.stack = a :: st →
    ∃ u, exec (.ret c m) s = .next u ∧
      (u.sq c).ctl.pc = a ∧
      (u.sq c).ctl.stack = st ∧
      u.reg (seqIdx 0 c) 0x0F = wd st.length ∧
      s.played u c v) ∧
  (∀ (s : State) (c : Fin 48) (m : Samples) (v : Vec),
    s.duePlays c v = true →
    vecOp v = 0x13 →
    ∃ u, exec (.apgs c m) s = .next u ∧
      (u.sq c).ctl.pc = ((s.sq c).ctl.pc + 1) % 4294967296 ∧
      u.reg (seqIdx 0x25 c) 0 = (s.apgStep c (s.act? (seqIdx 0x21 c) 0 (vecOperand v))).reg (seqIdx 0x25 c) 0 ∧
      u.reg (seqIdx 0x25 c) 1 = (s.apgStep c (s.act? (seqIdx 0x21 c) 0 (vecOperand v))).reg (seqIdx 0x25 c) 1 ∧
      u.reg (seqIdx 0x25 c) 2 = (s.apgStep c (s.act? (seqIdx 0x21 c) 0 (vecOperand v))).reg (seqIdx 0x25 c) 2 ∧
      s.played u c v) ∧
  (∀ (s : State) (c : Fin 48) (m : Samples) (v : Vec),
    s.duePlays c v = true →
    vecOp v = 0x14 →
    ∃ u, exec (.halt c m) s = .next u ∧
      u.seqState c = 4 ∧
      u.reg (seqIdx 0 c) 7 = 1 ∧
      u.reg (seqIdx 0 c) 9 = wd (s.sq c).ctl.pc ∧
      u.reg80 (seqIdx 0 c) 0x0A = s.reg80 (seqIdx 0 c) 0x0A + 1 ∧
      (∀ n < 25, (u.slice c n).drive = 0) ∧
      (∀ d < 48, d ≠ c.val → u.sq d = s.sq d) ∧
      u = { s.at (s.sq c).due with regs := u.regs, agenda := u.agenda, log := u.log, queues := u.queues, pins := u.pins, seqs := u.seqs, groups := u.groups, red := u.red, svc := u.svc }) ∧
  (∀ (s : State) (c : Fin 48) (v : Vec),
    s.seqState c = 3 →
    (s.sq c).phase = .play →
    (s.sq c).gap = none →
    s.unmapped (s.sq c).ctl.pc = false →
    (s.sq c).onHand = some v →
    v.poison = false →
    0x15 ≤ vecOp v →
    ∃ u, exec (.badOpcode c) s = .next u ∧
      u.seqState c = 6 ∧
      u.reg (seqIdx 0 c) 7 = 16 ∧
      u.reg (seqIdx 0 c) 8 = wd (s.sq c).ctl.pc ∧
      u.reg80 (seqIdx 0 c) 0x0A = s.reg80 (seqIdx 0 c) 0x0A ∧
      (∀ d < 48, d ≠ c.val → u.sq d = s.sq d) ∧
      u = { s.at (s.sq c).due with regs := u.regs, agenda := u.agenda, log := u.log, queues := u.queues, pins := u.pins, seqs := u.seqs, groups := u.groups, red := u.red, svc := u.svc })

/-- O13 (derived, 06, R188, R189, R192, R193, R194, R196, R198, R211). MATCH opens a block and ENDM goes back to it or past it; SEG
ends its segment; MARK triggers; WAIT holds until its release. -/
def Obligations.BlocksSegmentsAndWaits : Prop :=
  (∀ (s : State) (c : Fin 48) (m : Samples) (v : Vec) (b : BlockSt),
    s.duePlays c v = true →
    vecOp v = 0x0E →
    (s.sq c).block = some b →
    ∃ u, exec (.matchBlock c m) s = .next u ∧
      (u.sq c).ctl.pc = ((s.sq c).ctl.pc + 1) % 4294967296 ∧
      (u.sq c).block.map (fun x => (x.start, x.limit, x.iter, x.began, x.back)) = some (b.start, b.limit, b.iter, (s.sq c).due, false) ∧
      s.played u c v) ∧
  (∀ (s : State) (c : Fin 48) (m : Samples) (v : Vec),
    s.duePlays c v = true →
    vecOp v = 0x0E →
    (s.sq c).block = none →
    ∃ u, exec (.matchBlock c m) s = .next u ∧
      (u.sq c).ctl.pc = ((s.sq c).ctl.pc + 1) % 4294967296 ∧
      (u.sq c).block.map (fun b => (b.start, b.limit, b.iter, b.back)) = some ((s.sq c).ctl.pc, countOr (vecOperand v) (s.sqAct c 1 5), 1, false) ∧
      s.played u c v) ∧
  (∀ (s : State) (c : Fin 48) (m : Samples) (v : Vec) (b : BlockSt),
    s.duePlays c v = true →
    vecOp v = 0x0F →
    (s.sq c).block = some b →
    s.sqAct c 1 7 = 0 →
    b.iter < b.limit →
    (∃ x ∈ b.sites, x.matched = none ∧ x.lanes &&& s.sqAct c 1 6 &&& b.failed ≠ 0) →
    ∃ u, exec (.endm c m) s = .next u ∧
      (u.sq c).ctl.pc = b.start ∧
      (u.sq c).block.map (fun x => (x.start, x.iter, x.back)) = some (b.start, b.iter + 1, true) ∧
      s.played u c v) ∧
  (∀ (s : State) (c : Fin 48) (m : Samples) (v : Vec) (b : BlockSt),
    s.duePlays c v = true →
    vecOp v = 0x0F →
    (s.sq c).block = some b →
    s.sqAct c 1 7 = 0 →
    (∀ x ∈ b.sites, x.matched ≠ none) →
    ∃ u, exec (.endm c m) s = .next u ∧
      (u.sq c).ctl.pc = ((s.sq c).ctl.pc + 1) % 4294967296 ∧
      (u.sq c).block = none ∧
      s.played u c v) ∧
  (∀ (s : State) (c : Fin 48) (m : Samples) (v : Vec) (b : BlockSt),
    s.duePlays c v = true →
    vecOp v = 0x0F →
    (s.sq c).block = some b →
    s.sqAct c 1 7 ≠ 0 →
    b.groupDone = none →
    b.iter < b.limit →
    ∃ u, exec (.endm c m) s = .next u ∧
      (u.sq c).ctl.pc = b.start ∧
      (u.sq c).block.map (fun x => (x.start, x.iter, x.back)) = some (b.start, b.iter + 1, true) ∧
      s.played u c v) ∧
  (∀ (s : State) (c : Fin 48) (m : Samples) (v : Vec) (b : BlockSt),
    s.duePlays c v = true →
    vecOp v = 0x0F →
    (s.sq c).block = some b →
    s.sqAct c 1 7 = 0 →
    b.limit ≤ b.iter →
    ∃ u, exec (.endm c m) s = .next u ∧
      (u.sq c).ctl.pc = ((s.sq c).ctl.pc + 1) % 4294967296 ∧
      (u.sq c).block = none ∧
      s.played u c v) ∧
  (∀ (s : State) (c : Fin 48) (m : Samples) (v : Vec),
    s.duePlays c v = true →
    vecOp v = 0x10 →
    ∃ u, exec (.seg c m) s = .next u ∧
      (u.sq c).ctl.pc = ((s.sq c).ctl.pc + 1) % 4294967296 ∧
      (u.sq c).phase = .boundary ((vecOperand v).testBit 13) ∧
      Instr.segmentBoundary c ∈ u.agenda ∧
      s.played u c v) ∧
  (∀ (s : State) (c : Fin 48) (m : Samples) (v : Vec),
    s.duePlays c v = true →
    vecOp v = 0x11 →
    s.devState ≠ 2 →
    s.devState ≠ 5 →
    s.devState ≠ 6 →
    ∃ u, exec (.mark c m) s = .next u ∧
      (u.sq c).ctl.pc = ((s.sq c).ctl.pc + 1) % 4294967296 ∧
      (∀ n ∈ s.linesOf (0x1000 + 8 * c + vecOperand v % 8), Instr.eventOccurrence (Fin.ofNat 512 n) (s.mAt (s.sq c).due) false ∈ u.agenda) ∧
      s.played u c v) ∧
  (∀ (s : State) (c : Fin 48) (m : Samples) (v : Vec),
    s.duePlays c v = true →
    vecOp v = 0x11 →
    (s.devState = 2 ∨ s.devState = 5 ∨ s.devState = 6) →
    ∃ u, exec (.mark c m) s = .next u ∧
      (u.sq c).ctl.pc = ((s.sq c).ctl.pc + 1) % 4294967296 ∧
      s.played u c v) ∧
  (∀ (s : State) (c : Fin 48) (m : Samples) (v : Vec),
    s.duePlays c v = true →
    vecOp v = 0x12 →
    (s.sq c).wait = none →
    (∀ r ∈ ((s.sq c).foundAt (vecOperand v)).toList, (s.sq c).due + s.period c (vecSet v) < r) →
    ∃ u, exec (.wait c m) s = .next u ∧
      (u.sq c).ctl.pc = (s.sq c).ctl.pc ∧
      (u.sq c).wait = some ⟨(s.sq c).due, vecOperand v % 512, (vecOperand v).testBit 13, (s.sq c).foundAt (vecOperand v)⟩ ∧
      s.played u c v) ∧
  (∀ (s : State) (c : Fin 48) (m : Samples) (v : Vec) (r : Nat),
    s.duePlays c v = true →
    vecOp v = 0x12 →
    (s.sq c).wait = none →
    (s.sq c).foundAt (vecOperand v) = some r →
    r ≤ (s.sq c).due + s.period c (vecSet v) →
    ∃ u, exec (.wait c m) s = .next u ∧
      (u.sq c).ctl.pc = ((s.sq c).ctl.pc + 1) % 4294967296 ∧
      (u.sq c).wait = none ∧
      s.played u c v) ∧
  (∀ (s : State) (c : Fin 48) (m : Samples) (v : Vec) (w : WaitSt),
    s.duePlays c v = true →
    vecOp v = 0x12 →
    (s.sq c).wait = some w →
    (∀ r ∈ w.release.toList, (s.sq c).due + s.period c (vecSet v) < r) →
    ∃ u, exec (.wait c m) s = .next u ∧
      (u.sq c).ctl.pc = (s.sq c).ctl.pc ∧
      (u.sq c).wait = some w ∧
      s.played u c v) ∧
  (∀ (s : State) (c : Fin 48) (m : Samples) (v : Vec) (w : WaitSt) (r : Nat),
    s.duePlays c v = true →
    vecOp v = 0x12 →
    (s.sq c).wait = some w →
    w.release = some r →
    r ≤ (s.sq c).due + s.period c (vecSet v) →
    ∃ u, exec (.wait c m) s = .next u ∧
      (u.sq c).ctl.pc = ((s.sq c).ctl.pc + 1) % 4294967296 ∧
      (u.sq c).wait = none ∧
      s.played u c v)

/-- O14 (derived, 06, 07, R214, R215, R224). ARM takes a sequencer to ARMING at START_ADDR, SEQ_ARMED to ARMED, a start fixes its
instant, RUN_START begins the run in RUN. -/
def Obligations.RunsAreArmedAndStarted : Prop :=
  (∀ (s : State) (rq : Req) (c : Fin 48) (v : Word) (t : Nat),
    s.takes rq (seqIdx 0x00 c) 0x01 0 [v] Env.calm t = true →
    ∃ u, exec (.arm rq c v t) s = .next u ∧
      u.seqState c = 1 ∧
      (u.sq c).ctl = Ctl.at (s.regN (seqIdx 0 c) 4) ∧
      (u.sq c).start = none ∧
      u.reg (seqIdx 3 c) 4 = 0 ∧
      u.reg (seqIdx 3 c) 5 = 0 ∧
      u.reg (seqIdx 3 c) 8 = 0 ∧
      u.reg (seqIdx 3 c) 9 = 0 ∧
      u.reg (seqIdx 2 c) 3 = 0 ∧
      u.reg (seqIdx 2 c) 7 = 0 ∧
      (∀ d < 48, d ≠ c.val → u.sq d = s.sq d) ∧
      s.answered u 3 (seqIdx 0 c) 1 rq.src v t ∧
      u = { (s.at t).endCmd rq.src (seqIdx 0 c) 1 0 0 with regs := u.regs, alm := u.alm, reply := u.reply, seqs := u.seqs, therm := u.therm } ∧
      SameOutside s u (fun i => i == 0x0400 || (seqIdx 0 c ≤ i && i < seqIdx 0x40 c) || i == calIdx c || i == 0x0800)) ∧
  (∀ (s : State) (c : Fin 48) (t : Nat),
    s.seqState c = 1 →
    s.unmapped (s.sq c).ctl.pc = false →
    s.fetchDone 2048 (s.sq c).fetch = true →
    (s.sq c).store.all (s.fetchDone 512) = true →
    (∀ e ∈ (s.sq c).fetch.ahead, e.2.poison = false) →
    exec (.seqArmed c t) s = .next ((s.at t).setRegN (seqIdx 0 c) 0 2)) ∧
  (∀ (s : State) (c : Fin 48) (t : Nat),
    s.seqState c = 1 →
    s.attached c = false →
    s.unmapped (s.sq c).ctl.pc = true →
    ∃ u, exec (.seqArmed c t) s = .next u ∧
      u.seqState c = 6 ∧
      u.reg (seqIdx 0 c) 7 = 22 ∧
      u.reg (seqIdx 0 c) 8 = wd (s.sq c).ctl.pc ∧
      u = { s.at t with regs := u.regs } ∧
      SameRegs s u [odKey (seqIdx 0 c) 0 0, odKey (seqIdx 0 c) 7 0, odKey (seqIdx 0 c) 8 0]) ∧
  (∀ (s : State) (c : Fin 48) (t a : Nat) (v : Vec) (l : List (Nat × Vec)),
    s.seqState c = 1 →
    s.attached c = false →
    s.unmapped (s.sq c).ctl.pc = false →
    (s.sq c).fetch.ahead = (a, v) :: l →
    v.poison = true →
    ∃ u, exec (.seqArmed c t) s = .next u ∧
      u.seqState c = 6 ∧
      u.reg (seqIdx 0 c) 7 = 21 ∧
      u.reg (seqIdx 0 c) 8 = wd (s.sq c).ctl.pc ∧
      u = { s.at t with regs := u.regs } ∧
      SameRegs s u [odKey (seqIdx 0 c) 0 0, odKey (seqIdx 0 c) 7 0, odKey (seqIdx 0 c) 8 0]) ∧
  (∀ (s : State) (c : Fin 48) (t : Nat),
    s.seqState c = 1 →
    s.attached c = true →
    s.unmapped (s.sq c).ctl.pc = true →
    ∃ u, exec (.seqArmed c t) s = .next u ∧
      u.seqState c = 6 ∧
      u.reg (seqIdx 0 c) 7 = 22 ∧
      u.attached c = false ∧
      u = { s.at t with regs := u.regs, log := u.log, groups := u.groups }) ∧
  (∀ (s : State) (rq : Req) (c : Fin 48) (v : Word) (t : Nat),
    s.takes rq (seqIdx 0x00 c) 0x02 0 [v] Env.calm t = true →
    ∃ u, exec (.start rq c v t) s = .next u ∧
      (u.sq c) = { s.sq c with start := some ((s.at t).clock, false) } ∧
      (∀ d < 48, d ≠ c.val → u.sq d = s.sq d) ∧
      s.answered u 3 (seqIdx 0 c) 2 rq.src v t ∧
      u = { (s.at t).endCmd rq.src (seqIdx 0 c) 2 0 0 with regs := u.regs, alm := u.alm, reply := u.reply, seqs := u.seqs } ∧
      SameRegs s u journalKeys) ∧
  (∀ (s : State) (c : Fin 48) (stamp : U80) (timed : Bool) (t : Nat),
    s.seqState c = 2 →
    (s.sq c).start = none →
    s.devState ≠ 7 →
    ∃ u, exec (.startLineOccurrence c stamp timed t) s = .next u ∧
      (u.sq c) = { s.sq c with start := some (s.localOf stamp * 32 + (if timed then 0 else nsEt 64), true) } ∧
      (∀ d < 48, d ≠ c.val → u.sq d = s.sq d) ∧
      u = { s.at t with seqs := u.seqs }) ∧
  (∀ (s : State) (c : Fin 48) (stamp : U80) (timed : Bool) (t : Nat),
    (s.seqState c ≠ 2 ∨ (s.sq c).start ≠ none) →
    s.devState ≠ 7 →
    ∃ u, exec (.startLineOccurrence c stamp timed t) s = .next u ∧
      u.reg (seqIdx 3 c) 0x0A = s.reg (seqIdx 3 c) 0x0A + 1 ∧
      u = { s.at t with regs := u.regs, log := u.log } ∧
      SameRegs s u [odKey (seqIdx 3 c) 0x0A 0, odKey 0x0500 6 0, odKey 0x0500 7 0]) ∧
  (∀ (s : State) (c : Fin 48) (t r : Nat) (exact : Bool),
    s.seqState c = 2 →
    (s.sq c).start = some (r, exact) →
    r ≤ (s.at t).clock →
    ∃ u, exec (.runStart c t) s = .next u ∧
      u.seqState c = 3 ∧
      (u.sq c).due = (if exact then r else min (gridUp ((s.at t).clock)) ((r + usEt 1) / 40960 * 40960)) ∧
      (u.sq c).start = none ∧
      (u.sq c).plays = 0 ∧
      (u.sq c).ctl = (s.sq c).ctl ∧
      (s.devState = 3 → u.devState = 4) ∧
      (∀ n < 25, (u.slice c n).drive = 0 ∧ (u.slice c n).data = false) ∧
      (∀ d < 48, d ≠ c.val → u.sq d = s.sq d))

/-- O15 (derived, 06, 07, R210, R216, R217, R232, R234). STOP at a boundary is remembered, STOP 2 ends the run; BCAST_ARM arms all
members; a hold past its limit detaches the slowest member. -/
def Obligations.RunsAreStopped : Prop :=
  (∀ (s : State) (rq : Req) (c : Fin 48) (t : Nat),
    s.takes rq (seqIdx 0x00 c) 0x03 0 [1] Env.calm t = true →
    s.seqState c = 3 →
    ∃ u, exec (.stopAtBoundary rq c t) s = .next u ∧
      (u.sq c) = { s.sq c with stopReq := some ((s.sq c).stopReq.getD (s.at t).clock) } ∧
      (∀ d < 48, d ≠ c.val → u.sq d = s.sq d) ∧
      s.answered u 3 (seqIdx 0 c) 3 rq.src 1 t ∧
      u = { (s.at t).endCmd rq.src (seqIdx 0 c) 3 0 0 with regs := u.regs, alm := u.alm, reply := u.reply, seqs := u.seqs } ∧
      SameRegs s u journalKeys) ∧
  (∀ (s : State) (rq : Req) (c : Fin 48) (t : Nat),
    s.takes rq (seqIdx 0x00 c) 0x03 0 [2] Env.calm t = true →
    s.seqState c = 3 →
    ∃ u, exec (.stopAbort rq c t) s = .next u ∧
      u.seqState c = 5 ∧
      u.reg (seqIdx 0 c) 7 = 3 ∧
      (∀ n < 25, (u.slice c n).drive = 0) ∧
      (∀ d < 48, d ≠ c.val → u.sq d = s.sq d) ∧
      u.reply = ⟨0, 0, []⟩ ∧
      u.reg 0x0400 1 = s.reg 0x0400 1 + 1 ∧
      u = { (s.at t).endCmd rq.src (seqIdx 0 c) 3 0 0 with regs := u.regs, alm := u.alm, reply := u.reply, agenda := u.agenda, log := u.log, queues := u.queues, pins := u.pins, seqs := u.seqs, groups := u.groups, red := u.red, svc := u.svc }) ∧
  (∀ (s : State) (rq : Req) (c : Fin 48) (t : Nat),
    s.takes rq (seqIdx 0x00 c) 0x03 0 [2] Env.calm t = true →
    (s.seqState c = 1 ∨ s.seqState c = 2) →
    ∃ u, exec (.stopAbort rq c t) s = .next u ∧
      u.seqState c = 5 ∧
      (∀ d < 48, d ≠ c.val → u.sq d = s.sq d) ∧
      u.reply = ⟨0, 0, []⟩ ∧
      u.reg 0x0400 1 = s.reg 0x0400 1 + 1 ∧
      u = { (s.at t).endCmd rq.src (seqIdx 0 c) 3 0 0 with regs := u.regs, alm := u.alm, reply := u.reply, log := u.log, seqs := u.seqs, groups := u.groups }) ∧
  (∀ (s : State) (rq : Req) (g : Fin 48) (v : Word) (t : Nat),
    s.takes rq (0x3C00 + g) 0x01 0 [v] Env.calm t = true →
    ∃ u, exec (.bcastArm rq g v t) s = .next u ∧
      (∀ c < 48, c ∈ s.membersOf g → u.seqState c = 1 ∧ u.attached c = true ∧ (u.sq c).ctl = Ctl.at (s.regN (0x3C00 + g) 2)) ∧
      u.reg (0x3C00 + g) 5 = 0 ∧
      u.reply = ⟨0, 0, []⟩ ∧
      u.reg 0x0400 1 = s.reg 0x0400 1 + 1) ∧
  (∀ (s : State) (g : Fin 48) (t h : Nat),
    (s.grp g).holding = some h →
    (s.at t).clock < h + usEt (s.regN (0x3C00 + g) 3) →
    exec (.bcastHoldLimit g t) s = .next (s.at t)) ∧
  (∀ (s : State) (g : Fin 48) (t h : Nat),
    (s.grp g).holding = some h →
    h + usEt (s.regN (0x3C00 + g) 3) ≤ (s.at t).clock →
    (∃ d ∈ s.attachedTo g, ∃ e ∈ s.attachedTo g, (s.sq d).taken < (s.sq e).taken) →
    ∃ u, exec (.bcastHoldLimit g t) s = .next u ∧
      (∃ d < 48, d ∈ s.attachedTo g ∧ (∀ e ∈ s.attachedTo g, (s.sq d).taken ≤ (s.sq e).taken) ∧ u.attached d = false) ∧
      u.grp g = s.grp g ∧
      u = { s.at t with regs := u.regs, log := u.log })

/-- O16 (derived, 06, 07, R198, R199, R202, R206, R208, R209, R210, R216). A jump request is held and counted, deferred after the
window, taken at the boundary; a boundary opens the next segment or stops. -/
def Obligations.JumpsAreDecidedAtBoundaries : Prop :=
  (∀ (s : State) (rq : Req) (c : Fin 48) (v : Word) (t : Nat),
    s.takes rq (seqIdx 0x02 c) 0x00 0 [v] Env.calm t = true →
    (s.sq c).closed = none →
    ∃ u, exec (.jumpRequest rq c v t) s = .next u ∧
      (u.sq c) = { s.sq c with jump := some ⟨v.toNat, (s.at t).clock, (s.at t).clock, false⟩ } ∧
      u.reg (seqIdx 2 c) 3 = 1 ∧
      u.reg80 (seqIdx 2 c) 9 = s.mAt ((s.at t).clock) ∧
      u.reg (seqIdx 2 c) 7 = s.reg (seqIdx 2 c) 7 + (if (s.sq c).jump.isSome then 1 else 0) ∧
      (∀ d < 48, d ≠ c.val → u.sq d = s.sq d) ∧
      s.answered u 3 (seqIdx 2 c) 0 rq.src v t ∧
      u = { (s.at t).endCmd rq.src (seqIdx 2 c) 0 0 0 with regs := u.regs, alm := u.alm, reply := u.reply, seqs := u.seqs } ∧
      SameRegs s u (odKey (seqIdx 2 c) 3 0 :: odKey (seqIdx 2 c) 7 0 :: odKey (seqIdx 2 c) 9 0 :: odKey (seqIdx 2 c) 9 1 :: journalKeys)) ∧
  (∀ (s : State) (c : Fin 48) (stamp : U80) (timed : Bool) (t : Nat),
    s.seqState c ≠ 3 →
    exec (.jumpLineOccurrence c stamp timed t) s = .next ((s.at t).addReg (seqIdx 2 c) 8 1)) ∧
  (∀ (s : State) (c : Fin 48) (stamp : U80) (timed : Bool) (t k : Nat),
    s.seqState c = 3 →
    (s.sq c).closed = some k →
    k < (s.at t).clock →
    ∃ u, exec (.jumpLineOccurrence c stamp timed t) s = .next u ∧
      (u.sq c).jump = some ⟨s.lineTarget c (s.localOf stamp * 32), s.localOf stamp * 32, (s.at t).clock, true⟩ ∧
      u.reg (seqIdx 2 c) 3 = 2 ∧
      u.reg (seqIdx 2 c) 5 = s.reg (seqIdx 2 c) 5 + 1 ∧
      (∀ d < 48, d ≠ c.val → u.sq d = s.sq d) ∧
      u = { s.at t with regs := u.regs, seqs := u.seqs }) ∧
  (∀ (s : State) (c : Fin 48) (stamp : U80) (timed : Bool) (t : Nat),
    s.seqState c = 3 →
    (s.sq c).closed = none →
    ∃ u, exec (.jumpLineOccurrence c stamp timed t) s = .next u ∧
      (u.sq c).jump = some ⟨s.lineTarget c (s.localOf stamp * 32), s.localOf stamp * 32, (s.at t).clock, false⟩ ∧
      u.reg (seqIdx 2 c) 3 = 1 ∧
      u.reg (seqIdx 2 c) 5 = s.reg (seqIdx 2 c) 5 ∧
      u.reg80 (seqIdx 2 c) 9 = s.mAt (s.localOf stamp * 32) ∧
      (∀ d < 48, d ≠ c.val → u.sq d = s.sq d) ∧
      u = { s.at t with regs := u.regs, seqs := u.seqs }) ∧
  (∀ (s : State) (c : Fin 48) (t : Nat) (j : JumpReq),
    s.seqState c = 3 →
    (s.sq c).closed = none →
    (s.sq c).jump = some j →
    (j.reached < (s.sq c).segFrom ∨ j.arrival < (s.at t).clock ∨ j.deferred = true) →
    ∃ u, exec (.jumpWindowClose c t) s = .next u ∧
      (u.sq c).closed = some ((s.at t).clock) ∧
      (u.sq c).jump = some j ∧
      (u.sq c).coming = some (s.sqAct c 1 9 j.target, ((s.sq c).stored (s.sqAct c 1 9 j.target)).getD (Fetch.start (Ctl.at (s.sqAct c 1 9 j.target)))) ∧
      (∀ d < 48, d ≠ c.val → u.sq d = s.sq d) ∧
      u = { s.at t with seqs := u.seqs }) ∧
  (∀ (s : State) (c : Fin 48) (t : Nat) (j : JumpReq),
    s.seqState c = 3 →
    (s.sq c).closed = none →
    (s.sq c).jump = some j →
    (s.sq c).segFrom ≤ j.reached →
    (s.at t).clock ≤ j.arrival →
    j.deferred = false →
    ∃ u, exec (.jumpWindowClose c t) s = .next u ∧
      (u.sq c) = { s.sq c with closed := some ((s.at t).clock), jump := some { j with deferred := true } } ∧
      u.reg (seqIdx 2 c) 3 = 2 ∧
      u.reg (seqIdx 2 c) 5 = s.reg (seqIdx 2 c) 5 + 1 ∧
      (∀ d < 48, d ≠ c.val → u.sq d = s.sq d) ∧
      u = { s.at t with regs := u.regs, seqs := u.seqs } ∧
      SameRegs s u [odKey (seqIdx 2 c) 3 0, odKey (seqIdx 2 c) 5 0]) ∧
  (∀ (s : State) (c : Fin 48) (t : Nat),
    s.seqState c = 3 →
    (s.sq c).closed = none →
    (s.sq c).jump = none →
    ∃ u, exec (.jumpWindowClose c t) s = .next u ∧
      (u.sq c) = { s.sq c with closed := some ((s.at t).clock) } ∧
      (∀ d < 48, d ≠ c.val → u.sq d = s.sq d) ∧
      u = { s.at t with seqs := u.seqs }) ∧
  (∀ (s : State) (c : Fin 48) (safe : Bool) (r : Nat),
    s.seqState c = 3 →
    (s.sq c).phase = .boundary safe →
    (s.sq c).stopReq = some r →
    (r < (s.sq c).segFrom ∨ r < (s.sq c).windowClose) →
    ∃ u, exec (.segmentBoundary c) s = .next u ∧
      u.seqState c = 5 ∧
      u.reg (seqIdx 0 c) 7 = 2 ∧
      (u.sq c).jump = none ∧
      (∀ d < 48, d ≠ c.val → u.sq d = s.sq d) ∧
      u = { s.at (s.sq c).due with regs := u.regs, agenda := u.agenda, log := u.log, queues := u.queues, pins := u.pins, seqs := u.seqs, groups := u.groups, red := u.red, svc := u.svc }) ∧
  (∀ (s : State) (c : Fin 48) (safe : Bool),
    s.seqState c = 3 →
    (s.sq c).phase = .boundary safe →
    (s.sq c).stopReq = none →
    (s.sq c).jump = none →
    ∃ u, exec (.segmentBoundary c) s = .next u ∧
      u.seqState c = 3 ∧
      (u.sq c).segFrom = (s.sq c).due ∧
      (u.sq c).tb = (s.sq c).due ∧
      (u.sq c).opening = true ∧
      (u.sq c).ctl = (s.sq c).ctl ∧
      u.reg (seqIdx 0 c) 0x0B = s.reg (seqIdx 0 c) 0x0B ∧
      (∀ d < 48, d ≠ c.val → u.sq d = s.sq d)) ∧
  (∀ (s : State) (c : Fin 48) (safe : Bool) (j : JumpReq),
    s.seqState c = 3 →
    (s.sq c).phase = .boundary safe →
    (s.sq c).stopReq = none →
    (s.sq c).jump = some j →
    (j.reached < (s.sq c).segFrom ∨ (j.arrival < (s.sq c).windowClose ∧ j.reached ≤ (s.sq c).windowClose)) →
    ∃ u, exec (.segmentBoundary c) s = .next u ∧
      u.seqState c = 3 ∧
      (u.sq c).ctl = Ctl.at (s.sqAct c 1 9 j.target) ∧
      (u.sq c).jump = none ∧
      u.reg (seqIdx 2 c) 3 = 3 ∧
      u.reg (seqIdx 2 c) 4 = s.reg (seqIdx 2 c) 4 + 1 ∧
      u.reg80 (seqIdx 2 c) 0x0A = s.mAt (s.sq c).due ∧
      (u.sq c).opening = true ∧
      (u.sq c).segFrom = (s.sq c).due ∧
      (∀ d < 48, d ≠ c.val → u.sq d = s.sq d)) ∧
  (∀ (s : State) (c : Fin 48) (safe : Bool) (j : JumpReq),
    s.seqState c = 3 →
    (s.sq c).phase = .boundary safe →
    (s.sq c).stopReq = none →
    (s.sq c).jump = some j →
    (s.sq c).segFrom ≤ j.reached →
    ((s.sq c).windowClose ≤ j.arrival ∨ (s.sq c).windowClose < j.reached) →
    j.deferred = false →
    ∃ u, exec (.segmentBoundary c) s = .next u ∧
      u.seqState c = 3 ∧
      (u.sq c).ctl = (s.sq c).ctl ∧
      (u.sq c).jump = some { j with deferred := true } ∧
      u.reg (seqIdx 2 c) 3 = 2 ∧
      u.reg (seqIdx 2 c) 5 = s.reg (seqIdx 2 c) 5 + 1 ∧
      (u.sq c).opening = true ∧
      (u.sq c).segFrom = (s.sq c).due ∧
      (∀ d < 48, d ≠ c.val → u.sq d = s.sq d)) ∧
  (∀ (s : State) (c : Fin 48) (m : Samples) (v : Vec),
    s.duePlays c v = true →
    vecOp v = 0x00 →
    (s.sq c).opening = true →
    ∃ u, exec (.adv c m) s = .next u ∧
      (u.sq c).opening = false ∧
      (u.sq c).ts = (s.sq c).due ∧
      u.reg80 (seqIdx 0 c) 0x0D = s.mAt (s.sq c).due ∧
      u.reg (seqIdx 0 c) 0x0E = wd (((s.sq c).due - (s.sq c).tb) / 32) ∧
      u.reg (seqIdx 0 c) 0x0B = s.reg (seqIdx 0 c) 0x0B + (if s.reg80 (seqIdx 0 c) 0x0A ≠ 0 then 1 else 0) ∧
      s.played u c v) ∧
  (∀ (s : State) (c : Fin 48) (till : Nat),
    s.seqState c = 3 →
    (s.sq c).phase = .gap till →
    ∃ u, exec (.boundaryGapEnd c) s = .next u ∧
      (u.sq c) = { s.sq c with phase := .play } ∧
      (∀ d < 48, d ≠ c.val → u.sq d = s.sq d) ∧
      u = { s.at till with seqs := u.seqs })

/-- O17 (derived, 06, 07, R188, R194, R223, R225, R226, R228, R233). A WAIT's line or limit sets its release; match results reach the
group; refills fill the read-ahead; a dry stream plays keep-alive cycles. -/
def Obligations.WaitsAndStreams : Prop :=
  (∀ (s : State) (c : Fin 48) (line : Fin 512) (stamp : U80) (timed : Bool) (t : Nat) (w : WaitSt),
    s.seqState c = 3 →
    (s.sq c).wait = some w →
    w.line = line.val →
    w.release = none →
    (w.first ≤ s.localOf stamp * 32 ∨ (w.latched = true ∧ (s.sq c).segFrom ≤ s.localOf stamp * 32)) →
    ((s.sq c).due < max (s.releaseAt stamp timed) w.first ∨ (s.sq c).onHand = none) →
    ∃ u, exec (.waitRelease c line stamp timed t) s = .next u ∧
      (u.sq c) = { s.sq c with wait := some { w with release := some (max (s.releaseAt stamp timed) w.first) } } ∧
      (∀ d < 48, d ≠ c.val → u.sq d = s.sq d) ∧
      u = { s.at t with seqs := u.seqs }) ∧
  (∀ (s : State) (c : Fin 48) (line : Fin 512) (stamp : U80) (timed : Bool) (t : Nat) (w : WaitSt) (v : Vec),
    s.seqState c = 3 →
    (s.sq c).wait = some w →
    w.line = line.val →
    w.release = none →
    (w.first ≤ s.localOf stamp * 32 ∨ (w.latched = true ∧ (s.sq c).segFrom ≤ s.localOf stamp * 32)) →
    max (s.releaseAt stamp timed) w.first ≤ (s.sq c).due →
    (s.sq c).onHand = some v →
    vecOp v = 0x12 →
    ∃ u, exec (.waitRelease c line stamp timed t) s = .next u ∧
      (u.sq c).wait = none ∧
      (u.sq c).ctl.pc = ((s.sq c).ctl.pc + 1) % 4294967296 ∧
      (u.sq c).due = (s.sq c).due ∧
      (u.sq c).plays = (s.sq c).plays ∧
      (∀ d < 48, d ≠ c.val → u.sq d = s.sq d) ∧
      u = { s.at t with regs := u.regs, agenda := u.agenda, log := u.log, queues := u.queues, seqs := u.seqs, red := u.red }) ∧
  (∀ (s : State) (c : Fin 48) (line : Fin 512) (stamp : U80) (timed : Bool) (t : Nat) (w : WaitSt),
    (s.sq c).wait = some w →
    (w.line ≠ line.val ∨ w.release ≠ none ∨ (s.localOf stamp * 32 < w.first ∧ (w.latched = false ∨ s.localOf stamp * 32 < (s.sq c).segFrom))) →
    exec (.waitRelease c line stamp timed t) s = .next (s.at t)) ∧
  (∀ (s : State) (c : Fin 48) (line : Fin 512) (stamp : U80) (timed : Bool) (t : Nat),
    (s.sq c).wait = none →
    exec (.waitRelease c line stamp timed t) s = .next (s.at t)) ∧
  (∀ (s : State) (c : Fin 48) (t : Nat) (w : WaitSt),
    s.seqState c = 3 →
    (s.sq c).wait = some w →
    w.release = none →
    s.sqAct c 1 8 ≠ 0 →
    w.first + nsEt (s.sqAct c 1 8) ≤ (s.at t).clock →
    ((s.sq c).due < w.first + nsEt (s.sqAct c 1 8) ∨ (s.sq c).onHand = none) →
    ∃ u, exec (.waitTimeout c t) s = .next u ∧
      (u.sq c).wait = some { w with release := some (w.first + nsEt (s.sqAct c 1 8)) } ∧
      (u.sq c).ctl = (s.sq c).ctl ∧
      (u.sq c).due = (s.sq c).due ∧
      u.reg (seqIdx 3 c) 9 = s.reg (seqIdx 3 c) 9 + 1 ∧
      (∀ d < 48, d ≠ c.val → u.sq d = s.sq d) ∧
      u = { s.at t with regs := u.regs, agenda := u.agenda, log := u.log, queues := u.queues, seqs := u.seqs }) ∧
  (∀ (s : State) (c : Fin 48) (t : Nat) (w : WaitSt) (v : Vec),
    s.seqState c = 3 →
    (s.sq c).wait = some w →
    w.release = none →
    s.sqAct c 1 8 ≠ 0 →
    w.first + nsEt (s.sqAct c 1 8) ≤ (s.at t).clock →
    w.first + nsEt (s.sqAct c 1 8) ≤ (s.sq c).due →
    (s.sq c).onHand = some v →
    vecOp v = 0x12 →
    ∃ u, exec (.waitTimeout c t) s = .next u ∧
      u.reg (seqIdx 3 c) 9 = s.reg (seqIdx 3 c) 9 + 1 ∧
      (u.sq c).wait = none ∧
      (u.sq c).ctl.pc = ((s.sq c).ctl.pc + 1) % 4294967296 ∧
      (u.sq c).due = (s.sq c).due ∧
      (u.sq c).plays = (s.sq c).plays ∧
      (∀ d < 48, d ≠ c.val → u.sq d = s.sq d) ∧
      u = { s.at t with regs := u.regs, agenda := u.agenda, log := u.log, queues := u.queues, seqs := u.seqs, red := u.red }) ∧
  (∀ (s : State) (c : Fin 48) (t : Nat),
    (∀ w ∈ (s.sq c).wait.toList, w.release ≠ none ∨ s.sqAct c 1 8 = 0 ∨ (s.at t).clock < w.first + nsEt (s.sqAct c 1 8)) →
    exec (.waitTimeout c t) s = .next (s.at t)) ∧
  (∀ (s : State) (c : Fin 48) (t : Nat),
    (s.sqAct c 1 7 = 0 ∨ (s.sq c).block = none) →
    exec (.matchGroupResult c t) s = .next (s.at t)) ∧
  (∀ (s : State) (c : Fin 48) (t : Nat) (b : BlockSt),
    s.sqAct c 1 7 ≠ 0 →
    (s.sq c).block = some b →
    ∃ u, exec (.matchGroupResult c t) s = .next u ∧
      (u.sq c).block.map (fun x => (x.start, x.iter, x.results)) = some (b.start, b.iter, b.results) ∧
      (u.sq c).block.map (fun x => x.sites) = some (b.sites.map (fun x => if x.matched.isNone then { x with matched := s.groupMatch (s.groupMates (s.sqAct c 1 7)) b x.site } else x)) ∧
      (∀ d < 48, d ≠ c.val → u.sq d = s.sq d) ∧
      u = { s.at t with seqs := u.seqs }) ∧
  (∀ (s : State) (c : Fin 48) (t : Nat) (b : BlockSt) (r : Nat × Nat × Nat) (x : SiteSt),
    s.sqAct c 1 7 ≠ 0 →
    (s.sq c).block = some b →
    b.sites = [x] →
    x.matched = none →
    b.results = [r] →
    r.2.2 = 0 →
    s.groupMates (s.sqAct c 1 7) = [c.val] →
    ∃ u, exec (.matchGroupResult c t) s = .next u ∧
      (u.sq c).block.map (fun y => (y.sites, y.groupDone)) = some ([{ x with matched := some (r.1, r.2.1) }], some (b.groupDone.getD r.2.1)) ∧
      (∀ d < 48, d ≠ c.val → u.sq d = s.sq d) ∧
      u = { s.at t with seqs := u.seqs }) ∧
  (∀ (s : State) (c : Fin 48) (t : Nat),
    1 ≤ s.seqState c ∧ s.seqState c ≤ 3 →
    s.attached c = false →
    s.fetchWants 2048 (s.sq c).fetch = true →
    (s.sq c).fetch.ctl.pc < 0xC0000000 →
    parityBad (s.line ((s.sq c).fetch.ctl.pc / 2)) = false →
    ∃ u, exec (.streamRefill c 0 [] t) s = .next u ∧
      (u.sq c) = { s.sq c with fetch := s.fetchLine c 2048 (s.sq c).fetch (s.line ((s.sq c).fetch.ctl.pc / 2)) } ∧
      (s.sq c).fetch.ahead ++ [((s.sq c).fetch.ctl.pc, lineVec (s.line ((s.sq c).fetch.ctl.pc / 2)) ((s.sq c).fetch.ctl.pc % 2))] <+: (u.sq c).fetch.ahead ∧
      (∀ d < 48, d ≠ c.val → u.sq d = s.sq d) ∧
      u = { s.at t with seqs := u.seqs }) ∧
  (∀ (s : State) (c : Fin 48) (t : Nat) (e : LineData),
    1 ≤ s.seqState c ∧ s.seqState c ≤ 3 →
    s.attached c = false →
    s.fetchWants 2048 (s.sq c).fetch = true →
    (s.sq c).fetch.ctl.pc < 0xC0000000 →
    parityBad ((s.line ((s.sq c).fetch.ctl.pc / 2)) ^^^ e) = true →
    ∃ u, exec (.streamRefill c 0 [((s.sq c).fetch.ctl.pc / 2, e)] t) s = .next u ∧
      ((u.sq c).fetch.ahead[(s.sq c).fetch.ahead.length]?).map (fun x => (x.1, x.2.poison)) = some ((s.sq c).fetch.ctl.pc, true) ∧
      (∀ d < 48, d ≠ c.val → u.sq d = s.sq d)) ∧
  (∀ (s : State) (c : Fin 48) (k : Fin 4) (t : Nat) (f : Fetch),
    1 ≤ s.seqState c ∧ s.seqState c ≤ 3 →
    (s.sq c).store[k.val]? = some f →
    s.fetchWants 512 f = true →
    f.ctl.pc < 0xC0000000 →
    parityBad (s.line (f.ctl.pc / 2)) = false →
    ∃ u, exec (.streamRefill c (k.succ.castLE (by decide)) [] t) s = .next u ∧
      (u.sq c) = { s.sq c with store := (s.sq c).store.set k (s.fetchLine c 512 f (s.line (f.ctl.pc / 2))) } ∧
      (∀ d < 48, d ≠ c.val → u.sq d = s.sq d) ∧
      u = { s.at t with seqs := u.seqs }) ∧
  (∀ (s : State) (c : Fin 48) (t a : Nat) (f : Fetch),
    1 ≤ s.seqState c ∧ s.seqState c ≤ 3 →
    (s.sq c).coming = some (a, f) →
    s.fetchWants 2048 f = true →
    f.ctl.pc < 0xC0000000 →
    parityBad (s.line (f.ctl.pc / 2)) = false →
    ∃ u, exec (.streamRefill c 5 [] t) s = .next u ∧
      (u.sq c) = { s.sq c with coming := some (a, s.fetchLine c 2048 f (s.line (f.ctl.pc / 2))) } ∧
      (∀ d < 48, d ≠ c.val → u.sq d = s.sq d) ∧
      u = { s.at t with seqs := u.seqs }) ∧
  (∀ (s : State) (c : Fin 48) (t : Nat),
    (s.seqState c = 0 ∨ 4 ≤ s.seqState c ∨ (s.attached c = false ∧ s.fetchWants 2048 (s.sq c).fetch = false)) →
    exec (.streamRefill c 0 [] t) s = .next (s.at t)) ∧
  (∀ (s : State) (c : Fin 48) (g t : Nat),
    1 ≤ s.seqState c ∧ s.seqState c ≤ 3 →
    s.attached c = true →
    s.bcastGroup c = g →
    (∀ d ∈ s.attachedTo g, (s.sq d).fetch.ctl.pc = (s.grp g).next ∧ s.fetchWants 2048 (s.sq d).fetch = true) →
    (s.grp g).next < 0xC0000000 →
    parityBad (s.line ((s.grp g).next / 2)) = false →
    ∃ u, exec (.streamRefill c 0 [] t) s = .next u ∧
      (∀ d ∈ s.attachedTo g, u.sq d = { s.sq d with fetch := s.fetchLine d 2048 (s.sq d).fetch (s.line ((s.grp g).next / 2)) }) ∧
      u = { s.at t with regs := u.regs, log := u.log, seqs := u.seqs, groups := u.groups }) ∧
  (∀ (s : State) (c : Fin 48) (g t : Nat),
    1 ≤ s.seqState c ∧ s.seqState c ≤ 3 →
    s.attached c = true →
    s.bcastGroup c = g →
    (∀ d ∈ s.attachedTo g, (s.sq d).fetch.ctl.pc = (s.grp g).next) →
    (∃ d ∈ s.attachedTo g, s.fetchWants 2048 (s.sq d).fetch = false) →
    exec (.streamRefill c 0 [] t) s = .next (s.at t)) ∧
  (∀ (s : State) (c : Fin 48),
    s.seqState c = 3 →
    (s.sq c).phase = .play →
    (s.sq c).onHand = none →
    s.unmapped (s.sq c).ctl.pc = false →
    (s.sq c).gap = none →
    s.gapCause c ≠ 3 →
    ∃ u, exec (.streamGap c) s = .next u ∧
      u.reg (seqIdx 0x20 c) 4 = s.reg (seqIdx 0x20 c) 4 + 1 ∧
      u.reg 0x3C00 2 = s.reg 0x3C00 2 + 1 ∧
      u.reg (seqIdx 0x20 c) 8 = 1 ∧
      (u.sq c).ctl = (s.sq c).ctl ∧
      (u.sq c).plays = (s.sq c).plays ∧
      (u.sq c).gap = some ⟨(s.sq c).due, 1, s.gapCause c⟩ ∧
      (u.sq c).due = (s.sq c).due + s.period c (vecSet (s.keepVec c)) ∧
      (∀ d < 48, d ≠ c.val → u.sq d = s.sq d) ∧
      u = { s.at (s.sq c).due with regs := u.regs, agenda := u.agenda, log := u.log, queues := u.queues, pins := { s.pins with slices := u.pins.slices }, seqs := u.seqs }) ∧
  (∀ (s : State) (c : Fin 48) (h : Nat),
    s.seqState c = 3 →
    (s.sq c).phase = .play →
    (s.sq c).onHand = none →
    s.unmapped (s.sq c).ctl.pc = false →
    (s.sq c).gap = none →
    s.gapCause c = 3 →
    s.bcastGroup c < 48 →
    h = ((s.grp (s.bcastGroup c)).holding).getD (s.sq c).due →
    ∃ u, exec (.streamGap c) s = .next u ∧
      u.reg (seqIdx 0x20 c) 4 = s.reg (seqIdx 0x20 c) 4 + 1 ∧
      u.reg (0x3C00 + s.bcastGroup c) 5 = s.reg (0x3C00 + s.bcastGroup c) 5 + 1 ∧
      u.reg (0x3C00 + s.bcastGroup c) 4 = 2 ∧
      (u.grp (s.bcastGroup c)).holding = some h ∧
      (u.sq c).gap = some ⟨(s.sq c).due, 1, 3⟩ ∧
      (u.sq c).due = (s.sq c).due + s.period c (vecSet (s.keepVec c)) ∧
      (∀ d < 48, d ≠ c.val → u.sq d = s.sq d)) ∧
  (∀ (s : State) (c : Fin 48) (g : GapSt),
    s.seqState c = 3 →
    (s.sq c).phase = .play →
    (s.sq c).onHand = none →
    s.unmapped (s.sq c).ctl.pc = false →
    (s.sq c).gap = some g →
    ∃ u, exec (.streamGap c) s = .next u ∧
      u.reg (seqIdx 0x20 c) 4 = s.reg (seqIdx 0x20 c) 4 ∧
      (u.sq c).ctl = (s.sq c).ctl ∧
      (u.sq c).plays = (s.sq c).plays ∧
      (u.sq c).gap = some { g with cycles := g.cycles + 1 } ∧
      (u.sq c).due = (s.sq c).due + s.period c (vecSet (s.keepVec c)) ∧
      (∀ d < 48, d ≠ c.val → u.sq d = s.sq d)) ∧
  (∀ (s : State) (c : Fin 48) (t : Nat) (g : GapSt) (v : Vec),
    s.seqState c = 3 →
    (s.sq c).gap = some g →
    (s.sq c).onHand = some v →
    ∃ u, exec (.streamGapEnd c t) s = .next u ∧
      (u.sq c).gap = none ∧
      (u.sq c).ctl = (s.sq c).ctl ∧
      (u.sq c).due = (s.sq c).due ∧
      u.reg (seqIdx 0x20 c) 5 = s.reg (seqIdx 0x20 c) 5 + BitVec.ofNat 40 g.cycles ∧
      u.reg (seqIdx 0x20 c) 7 = wd g.cause ∧
      u.reg80 (seqIdx 0x20 c) 6 = s.mAt g.from_ ∧
      (∀ d < 48, d ≠ c.val → u.sq d = s.sq d) ∧
      u = { s.at t with regs := u.regs, agenda := u.agenda, log := u.log, queues := u.queues, seqs := u.seqs, groups := u.groups }) ∧
  (∀ (s : State) (c : Fin 48) (t : Nat) (g : GapSt) (v : Vec),
    s.seqState c = 3 →
    (s.sq c).gap = some g →
    (s.sq c).onHand = some v →
    g.cause = 3 →
    s.attached c = true →
    s.bcastGroup c < 48 →
    (∀ d ∈ s.attachedTo (s.bcastGroup c), d = c.val ∨ ∀ h ∈ (s.sq d).gap.toList, h.cause ≠ 3) →
    ∃ u, exec (.streamGapEnd c t) s = .next u ∧
      (u.sq c).gap = none ∧
      u.reg (0x3C00 + s.bcastGroup c) 4 = 1 ∧
      (u.grp (s.bcastGroup c)).holding = none ∧
      (∀ d < 48, d ≠ c.val → u.sq d = s.sq d))

/-- O18 (derived, 08, R248, R249, R253, R256, R257, R260, R261). ARM begins step 0, a trigger releases the step, samples add up, an
interval ends with its mean, STOP ends the sequence. -/
def Obligations.AdcSequencesRun : Prop :=
  (∀ (s : State) (rq : Req) (c : Fin 48) (n : Fin 2) (v : Word) (t : Nat),
    s.takes rq (meaIdx n c) 0x01 0 [v] Env.calm t = true →
    ∃ u, exec (.adcArm rq c n v t) s = .next u ∧
      u.regN (adcIdx c n) 0 = (if stepTrig (s.stepWord c n 0 0) = 0 then 2 else 1) ∧
      u.reg (adcIdx c n) 9 = 0 ∧
      u.reg (adcIdx c n) 0x0B = 0 ∧
      u.reg (adcIdx c n) 0x0C = 0 ∧
      u.reg (adcIdx c n) 0x0D = 0 ∧
      u.reg (adcIdx c n) 0x0E = 0 ∧
      (u.adc c n).started = false ∧
      (u.adc c n).stopping = false ∧
      (u.adc c n).entry = (s.at t).clock ∧
      (∀ k < 96, k ≠ 2 * c.val + n.val → SMap.get (fun _ => AdcSt.idle) u.mea.adcs k = SMap.get (fun _ => AdcSt.idle) s.mea.adcs k) ∧
      s.answered u 3 (meaIdx n c) 1 rq.src v t ∧
      u = { (s.at t).endCmd rq.src (meaIdx n c) 1 0 0 with regs := u.regs, alm := u.alm, reply := u.reply, mea := { s.mea with adcs := u.mea.adcs } } ∧
      SameRegs s u ([0, 9, 0x0B, 0x0C, 0x0D, 0x0E].map (fun k => odKey (meaIdx n c) k 0) ++ journalKeys)) ∧
  (∀ (s : State) (c : Fin 48) (n : Fin 2) (stamp : U80) (timed : Bool) (t : Nat),
    s.regN (adcIdx c n) 0 = 1 →
    stepTrig (s.stepWord c n (s.adcStep c n) 0) = 1 →
    (s.adc c n).entry ≤ s.localOf stamp * 32 →
    (∀ e ∈ (s.autoInstant c n).toList, s.releaseAt stamp timed ≤ e) →
    ∃ u, exec (.adcLineTrigger c n stamp timed t) s = .next u ∧
      u.regN (adcIdx c n) 0 = 2 ∧
      (u.adc c n).release = some (s.releaseAt stamp timed) ∧
      (u.adc c n).kind = 1 ∧
      (u.adc c n).s0.isSome = true ∧
      (∀ k < 96, k ≠ 2 * c.val + n.val → SMap.get (fun _ => AdcSt.idle) u.mea.adcs k = SMap.get (fun _ => AdcSt.idle) s.mea.adcs k) ∧
      u = { s.at t with regs := u.regs, agenda := u.agenda, mea := { s.mea with adcs := u.mea.adcs } } ∧
      SameRegs s u [odKey (meaIdx n c) 0 0]) ∧
  (∀ (s : State) (c : Fin 48) (n : Fin 2) (stamp : U80) (timed : Bool) (t : Nat) (e : Nat),
    s.regN (adcIdx c n) 0 = 1 →
    stepTrig (s.stepWord c n (s.adcStep c n) 0) = 1 →
    (s.adc c n).entry ≤ s.localOf stamp * 32 →
    s.autoInstant c n = some e →
    e < s.releaseAt stamp timed →
    ∃ u, exec (.adcLineTrigger c n stamp timed t) s = .next u ∧
      u.regN (adcIdx c n) 0 = 2 ∧
      (u.adc c n).release = some e ∧
      (u.adc c n).kind = 3 ∧
      u.reg (adcIdx c n) 0x0D = s.reg (adcIdx c n) 0x0D + 1 ∧
      u.reg (adcIdx c n) 0x0C = s.reg (adcIdx c n) 0x0C + 1 ∧
      (∀ k < 96, k ≠ 2 * c.val + n.val → SMap.get (fun _ => AdcSt.idle) u.mea.adcs k = SMap.get (fun _ => AdcSt.idle) s.mea.adcs k) ∧
      u = { s.at t with regs := u.regs, agenda := u.agenda, mea := { s.mea with adcs := u.mea.adcs } }) ∧
  (∀ (s : State) (c : Fin 48) (n : Fin 2) (stamp : U80) (timed : Bool) (t : Nat),
    stepTrig (s.stepWord c n (s.adcStep c n) 0) = 1 →
    (s.adc c n).entry ≤ s.localOf stamp * 32 →
    s.adcAutoAt c n (s.releaseAt stamp timed) = true →
    ∃ u, exec (.adcLineTrigger c n stamp timed t) s = .next u ∧
      u.adc c n = { s.adc c n with kind := 1 } ∧
      (∀ k < 96, k ≠ 2 * c.val + n.val → SMap.get (fun _ => AdcSt.idle) u.mea.adcs k = SMap.get (fun _ => AdcSt.idle) s.mea.adcs k) ∧
      u = { s.at t with regs := u.regs, agenda := u.agenda, mea := { s.mea with adcs := u.mea.adcs } } ∧
      SameRegs s u [odKey (meaIdx n c) 0x0D 0]) ∧
  (∀ (s : State) (c : Fin 48) (n : Fin 2) (stamp : U80) (timed : Bool) (t : Nat),
    (stepTrig (s.stepWord c n (s.adcStep c n) 0) ≠ 1 ∨ s.localOf stamp * 32 < (s.adc c n).entry ∨ (s.regN (adcIdx c n) 0 ≠ 1 ∧ s.adcAutoAt c n (s.releaseAt stamp timed) = false)) →
    exec (.adcLineTrigger c n stamp timed t) s = .next ((s.at t).addReg (adcIdx c n) 0x0C 1)) ∧
  (∀ (s : State) (c : Fin 48) (n : Fin 2) (t : Nat),
    s.regN (adcIdx c n) 0 = 1 →
    bit (s.stepWord c n (s.adcStep c n) 0) 12 = true →
    (s.adc c n).entry + usEt (s.regN (adcIdx c n) 5) ≤ (s.at t).clock →
    ∃ u, exec (.adcAutoTrigger c n t) s = .next u ∧
      u.regN (adcIdx c n) 0 = 2 ∧
      (u.adc c n).release = some ((s.adc c n).entry + usEt (s.regN (adcIdx c n) 5)) ∧
      (u.adc c n).kind = 3 ∧
      u.reg (adcIdx c n) 0x0D = s.reg (adcIdx c n) 0x0D + 1 ∧
      (∀ k < 96, k ≠ 2 * c.val + n.val → SMap.get (fun _ => AdcSt.idle) u.mea.adcs k = SMap.get (fun _ => AdcSt.idle) s.mea.adcs k) ∧
      u = { s.at t with regs := u.regs, agenda := u.agenda, mea := { s.mea with adcs := u.mea.adcs } } ∧
      SameRegs s u [odKey (meaIdx n c) 0 0, odKey (meaIdx n c) 0x0D 0]) ∧
  (∀ (s : State) (c : Fin 48) (n : Fin 2) (t : Nat),
    (∀ e ∈ (s.autoInstant c n).toList, s.regN (adcIdx c n) 0 ≠ 1 ∨ (s.at t).clock < e) →
    exec (.adcAutoTrigger c n t) s = .next (s.at t)) ∧
  (∀ (s : State) (c : Fin 48) (n : Fin 2) (code : BitVec 16) (compliance : Bool) (t : Nat) (z : Nat),
    s.regN (adcIdx c n) 0 = 2 →
    (s.adc c n).armed = none →
    (s.adc c n).s0 = some z →
    z ≤ (s.adc c n).next →
    (s.adc c n).started = true →
    0 < (s.adc c n).count →
    (s.adc c n).count < stepAvg (s.stepWord c n (s.adcStep c n) 1) →
    ∃ u, exec (.adcSample c n code compliance t) s = .next u ∧
      (u.adc c n).count = (s.adc c n).count + 1 ∧
      (u.adc c n).next = (s.adc c n).next + stepDiv (s.stepWord c n (s.adcStep c n) 1) ∧
      (u.adc c n).sum = (s.adc c n).sum + ((s.at (max t (s.adc c n).next)).adcValue c (stepLane (s.stepWord c n (s.adcStep c n) 0)) (stepQty (s.stepWord c n (s.adcStep c n) 0)) code compliance).1 ∧
      (∀ k < 96, k ≠ 2 * c.val + n.val → SMap.get (fun _ => AdcSt.idle) u.mea.adcs k = SMap.get (fun _ => AdcSt.idle) s.mea.adcs k) ∧
      u = { s.at (max t (s.adc c n).next) with regs := u.regs, mea := { s.mea with adcs := u.mea.adcs } } ∧
      SameRegs s u ((List.range 25).map (fun k => odKey (peIdx 0x1E c) k 0))) ∧
  (∀ (s : State) (c : Fin 48) (n : Fin 2) (code : BitVec 16) (compliance : Bool) (t : Nat) (z : Nat),
    s.regN (adcIdx c n) 0 = 2 →
    (s.adc c n).armed = none →
    (s.adc c n).s0 = some z →
    z ≤ (s.adc c n).next →
    (s.adc c n).started = false →
    (s.adc c n).count = 0 →
    stepTrig (s.stepWord c n (s.adcStep c n) 0) < 2 →
    ∃ u, exec (.adcSample c n code compliance t) s = .next u ∧
      (u.adc c n).started = true ∧
      (u.adc c n).count = 1 ∧
      (u.adc c n).sum = ((s.at (max t (s.adc c n).next)).adcValue c (stepLane (s.stepWord c n (s.adcStep c n) 0)) (stepQty (s.stepWord c n (s.adcStep c n) 0)) code compliance).1 ∧
      (u.adc c n).accFrom = (s.adc c n).next ∧
      (u.adc c n).next = (s.adc c n).next + stepDiv (s.stepWord c n (s.adcStep c n) 1) ∧
      (u.adc c n).queue = s.regN (adcIdx c n) 8 ∧
      (∀ k < 96, k ≠ 2 * c.val + n.val → SMap.get (fun _ => AdcSt.idle) u.mea.adcs k = SMap.get (fun _ => AdcSt.idle) s.mea.adcs k) ∧
      u = { s.at (max t (s.adc c n).next) with regs := u.regs, agenda := u.agenda, log := u.log, queues := u.queues, mea := { s.mea with adcs := u.mea.adcs } }) ∧
  (∀ (s : State) (c : Fin 48) (n : Fin 2) (code : BitVec 16) (compliance : Bool) (t : Nat) (w : Nat),
    s.regN (adcIdx c n) 0 = 1 →
    (s.adc c n).armed = none →
    (s.adc c n).s0 = none →
    (s.adc c n).grid = some w →
    (s.adc c n).count = 0 →
    stepTrig (s.stepWord c n (s.adcStep c n) 0) < 2 →
    ∃ u, exec (.adcSample c n code compliance t) s = .next u ∧
      u.adc c n = { s.adc c n with hist := (⟨((s.at (max t (s.adc c n).next)).adcValue c (stepLane (s.stepWord c n (s.adcStep c n) 0)) (stepQty (s.stepWord c n (s.adcStep c n) 0)) code compliance).1, ((s.at (max t (s.adc c n).next)).adcValue c (stepLane (s.stepWord c n (s.adcStep c n) 0)) (stepQty (s.stepWord c n (s.adcStep c n) 0)) code compliance).2.1, ((s.at (max t (s.adc c n).next)).adcValue c (stepLane (s.stepWord c n (s.adcStep c n) 0)) (stepQty (s.stepWord c n (s.adcStep c n) 0)) code compliance).2.2.1⟩ :: (s.adc c n).hist).take (stepPre (s.stepWord c n (s.adcStep c n) 2) * stepAvg (s.stepWord c n (s.adcStep c n) 1)), next := (s.adc c n).next + stepDiv (s.stepWord c n (s.adcStep c n) 1) } ∧
      (∀ k < 96, k ≠ 2 * c.val + n.val → SMap.get (fun _ => AdcSt.idle) u.mea.adcs k = SMap.get (fun _ => AdcSt.idle) s.mea.adcs k) ∧
      u = { s.at (max t (s.adc c n).next) with regs := u.regs, mea := { s.mea with adcs := u.mea.adcs } } ∧
      SameRegs s u ((List.range 25).map (fun k => odKey (peIdx 0x1E c) k 0))) ∧
  (∀ (s : State) (c : Fin 48) (n : Fin 2) (code : BitVec 16) (compliance : Bool) (t : Nat) (w : Nat),
    s.regN (adcIdx c n) 0 = 1 →
    (s.adc c n).armed = none →
    (s.adc c n).s0 = none →
    (s.adc c n).grid = some w →
    (s.adc c n).count = 0 →
    stepTrig (s.stepWord c n (s.adcStep c n) 0) = 2 →
    (s.adc c n).low = true →
    (s.stepWord c n (s.adcStep c n) 3).toInt * 65536 ≤ ((s.at (max t (s.adc c n).next)).adcValue c (stepLane (s.stepWord c n (s.adcStep c n) 0)) (stepQty (s.stepWord c n (s.adcStep c n) 0)) code compliance).1 →
    ∃ u, exec (.adcSample c n code compliance t) s = .next u ∧
      u.regN (adcIdx c n) 0 = 2 ∧
      (u.adc c n).release = some (s.adc c n).next ∧
      (u.adc c n).kind = 2 ∧
      (u.adc c n).next = (s.adc c n).next + stepDiv (s.stepWord c n (s.adcStep c n) 1) ∧
      (∀ k < 96, k ≠ 2 * c.val + n.val → SMap.get (fun _ => AdcSt.idle) u.mea.adcs k = SMap.get (fun _ => AdcSt.idle) s.mea.adcs k)) ∧
  (∀ (s : State) (c : Fin 48) (n : Fin 2) (code : BitVec 16) (compliance : Bool) (t : Nat),
    (s.adc c n).armed = none →
    ((s.regN (adcIdx c n) 0 ≠ 2 ∧ (s.regN (adcIdx c n) 0 ≠ 1 ∨ (s.adc c n).grid = none)) ∨ (s.adc c n).count = stepAvg (s.stepWord c n (s.adcStep c n) 1)) →
    exec (.adcSample c n code compliance t) s = .next (s.at t)) ∧
  (∀ (s : State) (c : Fin 48) (n : Fin 2) (up : List (Nat × LineData)) (t : Nat),
    s.regN (adcIdx c n) 0 = 2 →
    (s.adc c n).started = true →
    (s.adc c n).count = stepAvg (s.stepWord c n (s.adcStep c n) 1) →
    ∃ u, exec (.adcIntervalEnd c n up t) s = .next u ∧
      u.reg (adcIdx c n) 0x0F = wdI (roundDiv (s.adc c n).sum (65536 * stepAvg (s.stepWord c n (s.adcStep c n) 1))) ∧
      u.reg80 (adcIdx c n) 0x10 = s.mAt (s.adc c n).accFrom ∧
      (u.adc c n).count = 0 ∧
      (∀ k < 96, k ≠ 2 * c.val + n.val → SMap.get (fun _ => AdcSt.idle) u.mea.adcs k = SMap.get (fun _ => AdcSt.idle) s.mea.adcs k)) ∧
  (∀ (s : State) (c : Fin 48) (n : Fin 2) (t : Nat),
    s.regN (adcIdx c n) 0 = 2 →
    (s.adc c n).started = true →
    (s.adc c n).count = stepAvg (s.stepWord c n (s.adcStep c n) 1) →
    fld (s.stepWord c n (s.adcStep c n) 0) 10 2 = 1 →
    stepDest (s.stepWord c n (s.adcStep c n) 0) = 1 →
    (s.adc c n).violation = 0xFFFFF →
    ((roundDiv (s.adc c n).sum (65536 * stepAvg (s.stepWord c n (s.adcStep c n) 1))) < (s.stepWord c n (s.adcStep c n) 4).toInt ∨ (s.stepWord c n (s.adcStep c n) 5).toInt < (roundDiv (s.adc c n).sum (65536 * stepAvg (s.stepWord c n (s.adcStep c n) 1)))) →
    fld (s.stepWord c n (s.adcStep c n) 0) 8 2 = 0 →
    (s.adc c n).post < fld (s.stepWord c n (s.adcStep c n) 2) 24 16 →
    ∃ u, exec (.adcIntervalEnd c n [] t) s = .next u ∧
      (u.adc c n).violation = (s.adc c n).preCount + (s.adc c n).post ∧
      (u.adc c n).flags &&& 512 = 512 ∧
      (u.adc c n).post = (s.adc c n).post + 1 ∧
      (u.adc c n).results = (s.adc c n).results ++ [u.reg (adcIdx c n) 0x0F] ∧
      (∀ k < 96, k ≠ 2 * c.val + n.val → SMap.get (fun _ => AdcSt.idle) u.mea.adcs k = SMap.get (fun _ => AdcSt.idle) s.mea.adcs k)) ∧
  (∀ (s : State) (c : Fin 48) (n : Fin 2) (t : Nat),
    s.regN (adcIdx c n) 0 = 2 →
    (s.adc c n).started = true →
    (s.adc c n).count = stepAvg (s.stepWord c n (s.adcStep c n) 1) →
    fld (s.stepWord c n (s.adcStep c n) 0) 10 2 = 1 →
    stepDest (s.stepWord c n (s.adcStep c n) 0) = 1 →
    (s.adc c n).violation = 0xFFFFF →
    ((roundDiv (s.adc c n).sum (65536 * stepAvg (s.stepWord c n (s.adcStep c n) 1))) < (s.stepWord c n (s.adcStep c n) 4).toInt ∨ (s.stepWord c n (s.adcStep c n) 5).toInt < (roundDiv (s.adc c n).sum (65536 * stepAvg (s.stepWord c n (s.adcStep c n) 1)))) →
    fld (s.stepWord c n (s.adcStep c n) 0) 8 2 = 2 →
    ∃ u, exec (.adcIntervalEnd c n [] t) s = .next u ∧
      u.regN (adcIdx c n) 0 = 3 ∧
      u.regN (adcIdx c n) 0x0A = 3 ∧
      u.reg (adcIdx c n) 0x0E = s.reg (adcIdx c n) 0x0E + 1 ∧
      u.reg (adcIdx c n) 0x0B = s.reg (adcIdx c n) 0x0B + 1 ∧
      (∀ k < 96, k ≠ 2 * c.val + n.val → SMap.get (fun _ => AdcSt.idle) u.mea.adcs k = SMap.get (fun _ => AdcSt.idle) s.mea.adcs k)) ∧
  (∀ (s : State) (c : Fin 48) (n : Fin 2) (t : Nat),
    s.regN (adcIdx c n) 0 = 2 →
    (s.adc c n).started = true →
    (s.adc c n).count = stepAvg (s.stepWord c n (s.adcStep c n) 1) →
    fld (s.stepWord c n (s.adcStep c n) 0) 10 2 = 0 →
    stepDest (s.stepWord c n (s.adcStep c n) 0) = 1 →
    (s.adc c n).post < fld (s.stepWord c n (s.adcStep c n) 2) 24 16 →
    ∃ u, exec (.adcIntervalEnd c n [] t) s = .next u ∧
      u.reg (adcIdx c n) 0x0F = wdI (roundDiv (s.adc c n).sum (65536 * stepAvg (s.stepWord c n (s.adcStep c n) 1))) ∧
      u.reg80 (adcIdx c n) 0x10 = s.mAt (s.adc c n).accFrom ∧
      (u.adc c n).post = (s.adc c n).post + 1 ∧
      (u.adc c n).count = 0 ∧
      (u.adc c n).results = (s.adc c n).results ++ [u.reg (adcIdx c n) 0x0F] ∧
      (∀ k < 96, k ≠ 2 * c.val + n.val → SMap.get (fun _ => AdcSt.idle) u.mea.adcs k = SMap.get (fun _ => AdcSt.idle) s.mea.adcs k) ∧
      u = { s.at (max t ((s.adc c n).accFrom + stepAvg (s.stepWord c n (s.adcStep c n) 1) * stepDiv (s.stepWord c n (s.adcStep c n) 1))) with regs := u.regs, mea := { s.mea with adcs := u.mea.adcs } } ∧
      SameRegs s u [odKey (meaIdx n c) 0x0F 0, odKey (meaIdx n c) 0x10 0, odKey (meaIdx n c) 0x10 1]) ∧
  (∀ (s : State) (c : Fin 48) (n : Fin 2) (t : Nat),
    s.regN (adcIdx c n) 0 = 2 →
    (s.adc c n).started = true →
    (s.adc c n).stopping = false →
    (s.adc c n).count = stepAvg (s.stepWord c n (s.adcStep c n) 1) →
    fld (s.stepWord c n (s.adcStep c n) 0) 10 2 = 0 →
    stepDest (s.stepWord c n (s.adcStep c n) 0) = 1 →
    fld (s.stepWord c n (s.adcStep c n) 2) 24 16 ≤ (s.adc c n).post →
    bit (s.stepWord c n (s.adcStep c n) 0) 7 = true →
    s.regB (adcIdx c n) 7 = false →
    ∃ u, exec (.adcIntervalEnd c n [] t) s = .next u ∧
      u.reg (adcIdx c n) 0x0F = wdI (roundDiv (s.adc c n).sum (65536 * stepAvg (s.stepWord c n (s.adcStep c n) 1))) ∧
      u.regN (adcIdx c n) 0 = 3 ∧
      u.regN (adcIdx c n) 0x0A = 1 ∧
      u.reg (adcIdx c n) 0x0B = s.reg (adcIdx c n) 0x0B + 1 ∧
      (∀ k < 96, k ≠ 2 * c.val + n.val → SMap.get (fun _ => AdcSt.idle) u.mea.adcs k = SMap.get (fun _ => AdcSt.idle) s.mea.adcs k) ∧
      u = { s.at (max t ((s.adc c n).accFrom + stepAvg (s.stepWord c n (s.adcStep c n) 1) * stepDiv (s.stepWord c n (s.adcStep c n) 1))) with regs := u.regs, agenda := u.agenda, log := u.log, queues := u.queues, mea := { s.mea with adcs := u.mea.adcs } }) ∧
  (∀ (s : State) (rq : Req) (c : Fin 48) (n : Fin 2) (t : Nat),
    s.takes rq (meaIdx n c) 0x02 0 [1] Env.calm t = true →
    ∃ u, exec (.adcStopAfterStep rq c n t) s = .next u ∧
      u.adc c n = { s.adc c n with stopping := true } ∧
      (∀ k < 96, k ≠ 2 * c.val + n.val → SMap.get (fun _ => AdcSt.idle) u.mea.adcs k = SMap.get (fun _ => AdcSt.idle) s.mea.adcs k) ∧
      s.answered u 3 (meaIdx n c) 2 rq.src 1 t ∧
      u = { (s.at t).endCmd rq.src (meaIdx n c) 2 0 0 with regs := u.regs, alm := u.alm, reply := u.reply, mea := { s.mea with adcs := u.mea.adcs } } ∧
      SameRegs s u journalKeys) ∧
  (∀ (s : State) (rq : Req) (c : Fin 48) (n : Fin 2) (t : Nat),
    s.takes rq (meaIdx n c) 0x02 0 [2] Env.calm t = true →
    (s.regN (adcIdx c n) 0 = 1 ∨ s.regN (adcIdx c n) 0 = 2) →
    ∃ u, exec (.adcStopNow rq c n t) s = .next u ∧
      u.regN (adcIdx c n) 0 = 4 ∧
      u.regN (adcIdx c n) 0x0A = 2 ∧
      (u.adc c n).started = false ∧
      (∀ k < 96, k ≠ 2 * c.val + n.val → SMap.get (fun _ => AdcSt.idle) u.mea.adcs k = SMap.get (fun _ => AdcSt.idle) s.mea.adcs k) ∧
      u.reply = ⟨0, 0, []⟩ ∧
      u.reg 0x0400 1 = s.reg 0x0400 1 + 1 ∧
      u = { (s.at t).endCmd rq.src (meaIdx n c) 2 0 0 with regs := u.regs, alm := u.alm, reply := u.reply, agenda := u.agenda, log := u.log, queues := u.queues, mea := { s.mea with adcs := u.mea.adcs } })

/-- O19 (derived, 08, R263, R264, R265, R266, R267). A capture is armed, its gate opens, crossings are stamped or missed in dead time,
stamps drain, the gate closes with its records. -/
def Obligations.StampsAreCaptured : Prop :=
  (∀ (s : State) (rq : Req) (c : Fin 48) (v : Word) (t : Nat),
    s.takes rq (meaIdx 0x03 c) 0x01 0 [v] Env.calm t = true →
    ∃ u, exec (.stampArm rq c v t) s = .next u ∧
      u.regN (capIdx c) 0 = 1 ∧
      u.reg (capIdx c) 0x09 = 0 ∧
      u.reg (capIdx c) 0x0A = 0 ∧
      u.cap c = { StampSt.idle with armed := (s.at t).clock } ∧
      (∀ k < 48, k ≠ c.val → u.cap k = s.cap k) ∧
      s.answered u 3 (meaIdx 3 c) 1 rq.src v t ∧
      u = { (s.at t).endCmd rq.src (meaIdx 3 c) 1 0 0 with regs := u.regs, alm := u.alm, reply := u.reply, mea := { s.mea with stamps := u.mea.stamps } } ∧
      SameRegs s u ([0, 0x09, 0x0A].map (fun k => odKey (meaIdx 3 c) k 0) ++ journalKeys)) ∧
  (∀ (s : State) (c : Fin 48) (t : Nat),
    s.regN (capIdx c) 0 = 1 →
    s.regN (capIdx c) 4 = 0xFFFF →
    ∃ u, exec (.stampGateOpen c t) s = .next u ∧
      u.regN (capIdx c) 0 = 2 ∧
      (u.cap c).release = some (gridTaken (s.cap c).armed (s.at t).clock) ∧
      (u.cap c).early = [] ∧
      (∀ k < 48, k ≠ c.val → u.cap k = s.cap k) ∧
      u = { s.at t with regs := u.regs, mea := { s.mea with stamps := u.mea.stamps } } ∧
      SameRegs s u [odKey (meaIdx 3 c) 0 0, odKey (meaIdx 3 c) 9 0]) ∧
  (∀ (s : State) (c : Fin 48) (t r : Nat),
    s.regN (capIdx c) 0 = 1 →
    s.regN (capIdx c) 4 ≠ 0xFFFF →
    (s.cap c).release = some r →
    r ≤ (s.at t).clock →
    ∃ u, exec (.stampGateOpen c t) s = .next u ∧
      u.regN (capIdx c) 0 = 2 ∧
      (u.cap c).release = some r ∧
      (u.cap c).early = [] ∧
      (∀ k < 48, k ≠ c.val → u.cap k = s.cap k) ∧
      u = { s.at t with regs := u.regs, mea := { s.mea with stamps := u.mea.stamps } } ∧
      SameRegs s u [odKey (meaIdx 3 c) 0 0, odKey (meaIdx 3 c) 9 0]) ∧
  (∀ (s : State) (c : Fin 48) (t : Nat),
    s.regN (capIdx c) 0 = 1 →
    s.regN (capIdx c) 4 = 0xFFFF →
    (s.cap c).early = [] →
    ∃ u, exec (.stampGateOpen c t) s = .next u ∧
      (∀ l < 24, (SMap.get (fun _ => StampLane.empty) (u.cap c).lanes l).stamps = [] ∧ (SMap.get (fun _ => StampLane.empty) (u.cap c).lanes l).buffer = [])) ∧
  (∀ (s : State) (c : Fin 48) (t : Nat),
    (s.regN (capIdx c) 0 ≠ 1 ∨ (s.regN (capIdx c) 4 ≠ 0xFFFF ∧ ∀ r ∈ (s.cap c).release.toList, (s.at t).clock < r)) →
    exec (.stampGateOpen c t) s = .next (s.at t)) ∧
  (∀ (s : State) (c : Fin 48) (l : Fin 24) (e : Crossing) (t sl mt : Nat) (r : Nat),
    s.servedBy c l = some sl →
    s.strobesFail c l = false →
    selects (s.regN (meaIdx 2 c) l) e = true →
    mt = ((((s.at t).clock : Nat) - s.deskew c sl true) / 32 : Int).toNat →
    (∀ p ∈ (SMap.get (fun _ => none) s.mea.lastStamp (24 * c + l)).toList, p + 64 ≤ mt) →
    s.regN (capIdx c) 0 = 2 ∧ (s.regN (capIdx c) 3).testBit l = true →
    (s.cap c).release = some r →
    r / 32 ≤ mt →
    mt < r / 32 + s.regN (capIdx c) 5 * 128 →
    (SMap.get (fun _ => StampLane.empty) (s.cap c).lanes l).buffer.length + (SMap.get (fun _ => StampLane.empty) (s.cap c).lanes l).stamps.length < s.regN (capIdx c) 6 →
    (SMap.get (fun _ => StampLane.empty) (s.cap c).lanes l).buffer.length < 64 →
    ∃ u, exec (.stamp c l e t) s = .next u ∧
      (SMap.get (fun _ => StampLane.empty) (u.cap c).lanes l).buffer = (SMap.get (fun _ => StampLane.empty) (s.cap c).lanes l).buffer ++ [wd (b2n (fallsAt e) * 2 ^ 39 + (mt - r / 32))] ∧
      (SMap.get (fun _ => StampLane.empty) (u.cap c).lanes l).stamps = (SMap.get (fun _ => StampLane.empty) (s.cap c).lanes l).stamps ∧
      SMap.get (fun _ => none) u.mea.lastStamp (24 * c + l) = some mt ∧
      (∀ k < 48, k ≠ c.val → u.cap k = s.cap k) ∧
      u = { s.at t with mea := { s.mea with stamps := u.mea.stamps, rus := u.mea.rus, lastStamp := u.mea.lastStamp } }) ∧
  (∀ (s : State) (c : Fin 48) (l : Fin 24) (e : Crossing) (t sl mt : Nat) (r : Nat),
    s.servedBy c l = some sl →
    s.strobesFail c l = false →
    selects (s.regN (meaIdx 2 c) l) e = true →
    mt = ((((s.at t).clock : Nat) - s.deskew c sl true) / 32 : Int).toNat →
    (∀ p ∈ (SMap.get (fun _ => none) s.mea.lastStamp (24 * c + l)).toList, p + 64 ≤ mt) →
    s.regN (capIdx c) 0 = 2 ∧ (s.regN (capIdx c) 3).testBit l = true →
    (s.cap c).release = some r →
    r / 32 ≤ mt →
    mt < r / 32 + s.regN (capIdx c) 5 * 128 →
    (SMap.get (fun _ => StampLane.empty) (s.cap c).lanes l).buffer.length + (SMap.get (fun _ => StampLane.empty) (s.cap c).lanes l).stamps.length < s.regN (capIdx c) 6 →
    64 ≤ (SMap.get (fun _ => StampLane.empty) (s.cap c).lanes l).buffer.length →
    ∃ u, exec (.stamp c l e t) s = .next u ∧
      (SMap.get (fun _ => StampLane.empty) (u.cap c).lanes l).buffer = (SMap.get (fun _ => StampLane.empty) (s.cap c).lanes l).buffer ∧
      (SMap.get (fun _ => StampLane.empty) (u.cap c).lanes l).lost = (SMap.get (fun _ => StampLane.empty) (s.cap c).lanes l).lost + 1 ∧
      u.reg (capIdx c) 9 = s.reg (capIdx c) 9 + 1 ∧
      SMap.get (fun _ => none) u.mea.lastStamp (24 * c + l) = some mt ∧
      (∀ k < 48, k ≠ c.val → u.cap k = s.cap k) ∧
      u = { s.at t with regs := u.regs, mea := { s.mea with stamps := u.mea.stamps, rus := u.mea.rus, lastStamp := u.mea.lastStamp } } ∧
      SameRegs s u [odKey (meaIdx 3 c) 9 0]) ∧
  (∀ (s : State) (c : Fin 48) (l : Fin 24) (e : Crossing) (t sl mt : Nat) (p : Nat),
    s.servedBy c l = some sl →
    s.strobesFail c l = false →
    selects (s.regN (meaIdx 2 c) l) e = true →
    mt = ((((s.at t).clock : Nat) - s.deskew c sl true) / 32 : Int).toNat →
    SMap.get (fun _ => none) s.mea.lastStamp (24 * c + l) = some p →
    mt < p + 64 →
    ∃ u, exec (.stamp c l e t) s = .next u ∧
      u.reg (capIdx c) 0x0A = s.reg (capIdx c) 0x0A + 1 ∧
      SMap.get (fun _ => 0) (u.cap c).missed l = SMap.get (fun _ => 0) (s.cap c).missed l + 1 ∧
      (SMap.get (fun _ => StampLane.empty) (u.cap c).lanes l).buffer = (SMap.get (fun _ => StampLane.empty) (s.cap c).lanes l).buffer ∧
      u.mea.lastStamp = s.mea.lastStamp ∧
      (∀ k < 48, k ≠ c.val → u.cap k = s.cap k) ∧
      u = { s.at t with regs := u.regs, mea := { s.mea with stamps := u.mea.stamps, rus := u.mea.rus } } ∧
      SameRegs s u [odKey (meaIdx 3 c) 0x0A 0]) ∧
  (∀ (s : State) (c : Fin 48) (l : Fin 24) (e : Crossing) (t : Nat),
    (s.servedBy c l = none ∨ s.strobesFail c l = true ∨ selects (s.regN (meaIdx 2 c) l) e = false) →
    exec (.stamp c l e t) s = .next (s.at t)) ∧
  (∀ (s : State) (c : Fin 48) (k : Nat) (ks : List Nat) (l : Fin 24) (x : StampLane) (w : Word) (ws : List Word) (t : Nat),
    (s.cap c).waiting = k :: ks →
    (s.cap c).lanes.filter (fun e => e.2.slice = k) = [(l.val, x)] →
    (SMap.get (fun _ => StampLane.empty) (s.cap c).lanes l) = x →
    x.buffer = w :: ws →
    ∃ u, exec (.stampDrain c t) s = .next u ∧
      (SMap.get (fun _ => StampLane.empty) (u.cap c).lanes l) = { x with buffer := ws, stamps := x.stamps ++ [w] } ∧
      (u.cap c).turn = k ∧
      (∀ k < 48, k ≠ c.val → u.cap k = s.cap k) ∧
      u = { s.at t with mea := { s.mea with stamps := u.mea.stamps } }) ∧
  (∀ (s : State) (c : Fin 48) (t : Nat),
    (s.cap c).waiting = [] →
    exec (.stampDrain c t) s = .next (s.at t)) ∧
  (∀ (s : State) (c : Fin 48) (t r : Nat),
    s.regN (capIdx c) 0 = 2 →
    (s.cap c).release = some r →
    r + nsEt (s.regN (capIdx c) 5) + s.stampLag c ≤ (s.at t).clock →
    ∃ u, exec (.stampGateClose c t) s = .next u ∧
      u.regN (capIdx c) 0 = 3 ∧
      u.cap c = { StampSt.idle with missed := (s.cap c).missed } ∧
      (∀ k < 48, k ≠ c.val → u.cap k = s.cap k) ∧
      u = { s.at t with regs := u.regs, agenda := u.agenda, log := u.log, queues := u.queues, mea := { s.mea with stamps := u.mea.stamps } }) ∧
  (∀ (s : State) (c : Fin 48) (t r : Nat),
    (s.regN (capIdx c) 0 ≠ 2 ∨ ((s.cap c).release = some r ∧ (s.at t).clock < r + nsEt (s.regN (capIdx c) 5) + s.stampLag c)) →
    exec (.stampGateClose c t) s = .next (s.at t)) ∧
  (∀ (s : State) (rq : Req) (c : Fin 48) (t : Nat),
    s.takes rq (meaIdx 0x03 c) 0x02 0 [1] Env.calm t = true →
    ∃ u, exec (.stampStopAtClose rq c t) s = .next u ∧
      s.answered u 3 (meaIdx 3 c) 2 rq.src 1 t ∧
      u = { (s.at t).endCmd rq.src (meaIdx 3 c) 2 0 0 with regs := u.regs, alm := u.alm, reply := u.reply } ∧
      SameRegs s u journalKeys) ∧
  (∀ (s : State) (rq : Req) (c : Fin 48) (t : Nat),
    s.takes rq (meaIdx 0x03 c) 0x02 0 [2] Env.calm t = true →
    (s.regN (capIdx c) 0 = 1 ∨ s.regN (capIdx c) 0 = 2) →
    ∃ u, exec (.stampStopNow rq c t) s = .next u ∧
      u.regN (capIdx c) 0 = 4 ∧
      (u.cap c).release = none ∧
      (u.cap c).lanes = [] ∧
      (∀ k < 48, k ≠ c.val → u.cap k = s.cap k) ∧
      u.reply = ⟨0, 0, []⟩ ∧
      u.reg 0x0400 1 = s.reg 0x0400 1 + 1 ∧
      u = { (s.at t).endCmd rq.src (meaIdx 3 c) 2 0 0 with regs := u.regs, alm := u.alm, reply := u.reply, agenda := u.agenda, log := u.log, queues := u.queues, mea := { s.mea with stamps := u.mea.stamps } })

/-- O20 (derived, 08, R268, R269, R270, R271). A regression unit is armed, its gates open and end with FREQ, PERIOD and STAMPS of the
fitted line, and STOP ends it. -/
def Obligations.RegressionUnitsMeasure : Prop :=
  (∀ (s : State) (rq : Req) (c : Fin 48) (n : Fin 4) (v : Word) (t : Nat),
    s.takes rq (meaIdx (4 + n) c) 0x01 0 [v] Env.calm t = true →
    ∃ u, exec (.ruArm rq c n v t) s = .next u ∧
      u.regN (ruIdx c n) 0 = 1 ∧
      u.ru c n = { RuSt.idle with armed := (s.at t).clock } ∧
      (∀ k < 192, k ≠ 4 * c.val + n.val → SMap.get (fun _ => RuSt.idle) u.mea.rus k = SMap.get (fun _ => RuSt.idle) s.mea.rus k) ∧
      s.answered u 3 (ruIdx c n) 1 rq.src v t ∧
      u = { (s.at t).endCmd rq.src ((ruIdx c n)) 1 0 0 with regs := u.regs, alm := u.alm, reply := u.reply, mea := { s.mea with rus := u.mea.rus } } ∧
      SameRegs s u (odKey (ruIdx c n) 0 0 :: journalKeys)) ∧
  (∀ (s : State) (c : Fin 48) (n : Fin 4) (t : Nat),
    s.regN (ruIdx c n) 0 = 1 →
    s.regN (ruIdx c n) 6 = 0xFFFF →
    ∃ u, exec (.ruGateOpen c n t) s = .next u ∧
      u.regN (ruIdx c n) 0 = 2 ∧
      (u.ru c n).opened = gridTaken (s.ru c n).armed (s.at t).clock ∧
      (u.ru c n).gate = 0 ∧
      ((s.ru c n).early = [] → (u.ru c n).m = 0) ∧
      (∀ k < 192, k ≠ 4 * c.val + n.val → SMap.get (fun _ => RuSt.idle) u.mea.rus k = SMap.get (fun _ => RuSt.idle) s.mea.rus k) ∧
      u = { s.at t with regs := u.regs, mea := { s.mea with rus := u.mea.rus } } ∧
      SameRegs s u [odKey (ruIdx c n) 0 0]) ∧
  (∀ (s : State) (c : Fin 48) (n : Fin 4) (t r : Nat),
    s.regN (ruIdx c n) 0 = 1 →
    s.regN (ruIdx c n) 6 ≠ 0xFFFF →
    (s.ru c n).release = some r →
    r ≤ (s.at t).clock →
    ∃ u, exec (.ruGateOpen c n t) s = .next u ∧
      u.regN (ruIdx c n) 0 = 2 ∧
      (u.ru c n).opened = r ∧
      (u.ru c n).gate = 0 ∧
      (∀ k < 192, k ≠ 4 * c.val + n.val → SMap.get (fun _ => RuSt.idle) u.mea.rus k = SMap.get (fun _ => RuSt.idle) s.mea.rus k) ∧
      u = { s.at t with regs := u.regs, mea := { s.mea with rus := u.mea.rus } } ∧
      SameRegs s u [odKey (ruIdx c n) 0 0]) ∧
  (∀ (s : State) (c : Fin 48) (n : Fin 4) (t : Nat),
    (s.regN (ruIdx c n) 0 ≠ 1 ∨ (s.regN (ruIdx c n) 6 ≠ 0xFFFF ∧ ∀ r ∈ (s.ru c n).release.toList, (s.at t).clock < r)) →
    exec (.ruGateOpen c n t) s = .next (s.at t)) ∧
  (∀ (s : State) (c : Fin 48) (n : Fin 4) (l : Fin 24) (e : Crossing) (t sl mt : Nat),
    s.servedBy c l = some sl →
    s.strobesFail c l = false →
    selects (s.regN (meaIdx 2 c) l) e = true →
    mt = ((((s.at t).clock : Nat) - s.deskew c sl true) / 32 : Int).toNat →
    (∀ p ∈ (SMap.get (fun _ => none) s.mea.lastStamp (24 * c + l)).toList, p + 64 ≤ mt) →
    s.regN (ruIdx c n) 0 = 2 →
    s.regN (ruIdx c n) 3 = l →
    (s.regN (ruIdx c n) 4 = 1) = (fallsAt e = true) →
    (s.ru c n).opened / 32 ≤ mt →
    mt < (s.ru c n).opened / 32 + s.regN (ruIdx c n) 5 * 128 →
    ∃ u, exec (.stamp c l e t) s = .next u ∧
      (u.ru c n).m = (s.ru c n).m + 1 ∧
      (u.ru c n).st = (s.ru c n).st + ((mt : Int) - ((s.ru c n).opened / 32 : Nat)) ∧
      (u.ru c n).snt = (s.ru c n).snt + (s.ru c n).m * ((mt : Int) - ((s.ru c n).opened / 32 : Nat))) ∧
  (∀ (s : State) (c : Fin 48) (n : Fin 4) (t : Nat),
    s.regN (ruIdx c n) 0 = 2 →
    (s.ru c n).opened + nsEt (s.regN (ruIdx c n) 5) + s.stampLag c ≤ (s.at t).clock →
    ∃ u, exec (.ruGateEnd c n t) s = .next u ∧
      u.reg (ruIdx c n) 0x0B = wd (gateResult (s.ru c n).m (s.ru c n).st (s.ru c n).snt).1 ∧
      u.reg (ruIdx c n) 0x0C = wd (gateResult (s.ru c n).m (s.ru c n).st (s.ru c n).snt).2.1 ∧
      u.reg (ruIdx c n) 0x0D = wd (s.ru c n).m ∧
      u.reg80 (ruIdx c n) 0x0E = s.mAt (s.ru c n).opened ∧
      (∀ k < 192, k ≠ 4 * c.val + n.val → SMap.get (fun _ => RuSt.idle) u.mea.rus k = SMap.get (fun _ => RuSt.idle) s.mea.rus k)) ∧
  (∀ (s : State) (c : Fin 48) (n : Fin 4) (t : Nat),
    s.regN (ruIdx c n) 0 = 2 →
    (s.ru c n).opened + nsEt (s.regN (ruIdx c n) 5) + s.stampLag c ≤ (s.at t).clock →
    s.regN (ruIdx c n) 9 = 1 →
    65536 ≤ s.regN (ruIdx c n) 0x0A →
    s.regN (ruIdx c n) 7 ≠ 0 →
    s.regN (ruIdx c n) 7 ≤ (s.ru c n).gate + 1 →
    (s.ru c n).stopping = false →
    ∃ u, exec (.ruGateEnd c n t) s = .next u ∧
      u.regN (ruIdx c n) 0 = 3 ∧
      u.ru c n = RuSt.idle ∧
      (∀ k < 192, k ≠ 4 * c.val + n.val → SMap.get (fun _ => RuSt.idle) u.mea.rus k = SMap.get (fun _ => RuSt.idle) s.mea.rus k) ∧
      u = { s.at t with regs := u.regs, mea := { s.mea with rus := u.mea.rus } } ∧
      SameRegs s u ([0, 0x0B, 0x0C, 0x0D, 0x0E, 0x0F].map (fun k => odKey (ruIdx c n) k 0) ++ [odKey (ruIdx c n) 0x0E 1])) ∧
  (∀ (s : State) (c : Fin 48) (n : Fin 4) (t : Nat),
    s.regN (ruIdx c n) 0 = 2 →
    (s.ru c n).opened + nsEt (s.regN (ruIdx c n) 5) + s.stampLag c ≤ (s.at t).clock →
    (s.ru c n).stopping = true →
    ∃ u, exec (.ruGateEnd c n t) s = .next u ∧
      u.regN (ruIdx c n) 0 = 4 ∧
      u.ru c n = RuSt.idle ∧
      (∀ k < 192, k ≠ 4 * c.val + n.val → SMap.get (fun _ => RuSt.idle) u.mea.rus k = SMap.get (fun _ => RuSt.idle) s.mea.rus k)) ∧
  (∀ (s : State) (c : Fin 48) (n : Fin 4) (t : Nat),
    s.regN (ruIdx c n) 0 = 2 →
    (s.ru c n).opened + nsEt (s.regN (ruIdx c n) 5) + s.stampLag c ≤ (s.at t).clock →
    (s.ru c n).stopping = false →
    (s.regN (ruIdx c n) 7 = 0 ∨ (s.ru c n).gate + 1 < s.regN (ruIdx c n) 7) →
    ∃ u, exec (.ruGateEnd c n t) s = .next u ∧
      u.regN (ruIdx c n) 0 = 2 ∧
      (u.ru c n).opened = (s.ru c n).opened + nsEt (s.regN (ruIdx c n) 5) ∧
      (u.ru c n).gate = (s.ru c n).gate + 1 ∧
      ((s.ru c n).early = [] → (u.ru c n).m = 0) ∧
      (∀ k < 192, k ≠ 4 * c.val + n.val → SMap.get (fun _ => RuSt.idle) u.mea.rus k = SMap.get (fun _ => RuSt.idle) s.mea.rus k)) ∧
  (∀ (s : State) (c : Fin 48) (n : Fin 4) (t : Nat),
    (s.regN (ruIdx c n) 0 ≠ 2 ∨ (s.at t).clock < (s.ru c n).opened + nsEt (s.regN (ruIdx c n) 5) + s.stampLag c) →
    exec (.ruGateEnd c n t) s = .next (s.at t)) ∧
  (∀ (s : State) (rq : Req) (c : Fin 48) (n : Fin 4) (t : Nat),
    s.takes rq (meaIdx (4 + n) c) 0x02 0 [1] Env.calm t = true →
    ∃ u, exec (.ruStopAfterGate rq c n t) s = .next u ∧
      u.ru c n = { s.ru c n with stopping := true } ∧
      (∀ k < 192, k ≠ 4 * c.val + n.val → SMap.get (fun _ => RuSt.idle) u.mea.rus k = SMap.get (fun _ => RuSt.idle) s.mea.rus k) ∧
      s.answered u 3 (ruIdx c n) 2 rq.src 1 t ∧
      u = { (s.at t).endCmd rq.src ((ruIdx c n)) 2 0 0 with regs := u.regs, alm := u.alm, reply := u.reply, mea := { s.mea with rus := u.mea.rus } } ∧
      SameRegs s u journalKeys) ∧
  (∀ (s : State) (rq : Req) (c : Fin 48) (n : Fin 4) (t : Nat),
    s.takes rq (meaIdx (4 + n) c) 0x02 0 [2] Env.calm t = true →
    (s.regN (ruIdx c n) 0 = 1 ∨ s.regN (ruIdx c n) 0 = 2) →
    ∃ u, exec (.ruStopNow rq c n t) s = .next u ∧
      u.regN (ruIdx c n) 0 = 4 ∧
      u.ru c n = RuSt.idle ∧
      (∀ k < 192, k ≠ 4 * c.val + n.val → SMap.get (fun _ => RuSt.idle) u.mea.rus k = SMap.get (fun _ => RuSt.idle) s.mea.rus k) ∧
      u.reply = ⟨0, 0, []⟩ ∧
      u.reg 0x0400 1 = s.reg 0x0400 1 + 1 ∧
      u = { (s.at t).endCmd rq.src ((ruIdx c n)) 2 0 0 with regs := u.regs, alm := u.alm, reply := u.reply, agenda := u.agenda, log := u.log, queues := u.queues, red := u.red, mea := { s.mea with rus := u.mea.rus } })

/-- O21 (derived, 09, R276, R280, R282, R286, R288, R289, R294). An update is applied to its context by its recipe, an unbound one is
discarded and counted, dropped items mark their contexts. -/
def Obligations.UpdatesReduce : Prop :=
  (∀ (s : State) (c : Fin 48) (role : Fin 16) (t n p : Nat) (x : Upd) (us : List Upd) (l : LineData) (dirty : Bool),
    s.redInput c = x :: us →
    s.roleWaits role = false →
    s.boundTo x.meas x.site = some (n, p) →
    n % 16 = role.val →
    s.heldBy x n = false →
    1 ≤ (fld ((s.psetOf p).getD 0 0) 36 4) ∧ (fld ((s.psetOf p).getD 0 0) 36 4) ≤ 7 →
    x.value.isNone = decide ((fld ((s.psetOf p).getD 0 0) 36 4) = 5) →
    x.flags &&& BitVec.ofNat 20 (fld ((s.psetOf p).getD 0 0) 0 20) = 0 →
    fld ((s.psetOf p).getD 0 0) 34 2 ≠ 1 →
    s.cached n = some (l, dirty) →
    lineFormat l = (fld ((s.psetOf p).getD 0 0) 36 4) →
    s.red.cache.length < 32768 →
    s.resultAt n < 0x60000000 →
    parityBad (s.line (s.resultAt n)) = false →
    ∃ u, exec (.redUpdateApply c role none [] t) s = .next u ∧
      u.cached n = some (ctxLine (fld ((s.psetOf p).getD 0 0) 36 4) (s.ctxEpoch n) (linePoison l) (ctxHeader (ctxSeq (lineWord l 0)) false false (bit (lineWord l 0) 23 || (recipeStep (s.imageFor n) (s.psetOf p) ((List.range 5).map (fun k => lineWord l (k + 1))) x).sat) (bit (lineWord l 0) 22 || x.drop) (bit (lineWord l 0) 21 || decide (x.time.toNat < (SMap.get (fun _ => (0 : U80)) s.red.closedTc n).toNat)) (BitVec.ofNat 20 (fld (lineWord l 0) 0 20) ||| x.flags ||| mflag 8 (recipeStep (s.imageFor n) (s.psetOf p) ((List.range 5).map (fun k => lineWord l (k + 1))) x).past ||| mflag 19 (linePoison l))) (recipeStep (s.imageFor n) (s.psetOf p) ((List.range 5).map (fun k => lineWord l (k + 1))) x).ws, true) ∧
      u.redInput c = us ∧
      u.reg80 0x6000 3 = s.reg80 0x6000 3 + 1 ∧
      (∀ d < 48, d ≠ c.val → u.redInput d = s.redInput d) ∧
      (∀ k, k ≠ n → u.cached k = s.cached k) ∧
      u.line (s.resultAt n) = (if bit (lineWord (s.line (s.resultAt n)) 0) 25 then withWord (s.line (s.resultAt n)) 0 (setBit (lineWord (s.line (s.resultAt n)) 0) 25 false) else s.line (s.resultAt n)) ∧
      (∀ a, a ≠ s.resultAt n → u.line a = s.line a) ∧
      u = { s.at t with hbm := u.hbm, regs := u.regs, red := { s.red with inputs := u.red.inputs, cache := u.red.cache } }) ∧
  (∀ (s : State) (c : Fin 48) (role : Fin 16) (t : Nat) (x : Upd) (us : List Upd),
    s.redInput c = x :: us →
    s.boundTo x.meas x.site = none →
    s.red.cache.length ≤ 32768 →
    ∃ u, exec (.redUpdateApply c role none [] t) s = .next u ∧
      u.redInput c = us ∧
      u.reg 0x6000 5 = s.reg 0x6000 5 + 1 ∧
      (∀ d < 48, d ≠ c.val → u.redInput d = s.redInput d) ∧
      u = { s.at t with regs := u.regs, red := { s.red with inputs := u.red.inputs } } ∧
      SameRegs s u [odKey 0x6000 5 0, odKey (0x6040 + c) 2 0]) ∧
  (∀ (s : State) (c : Fin 48) (role : Fin 16) (t n p : Nat) (x : Upd) (us : List Upd),
    s.redInput c = x :: us →
    s.roleWaits role = false →
    s.boundTo x.meas x.site = some (n, p) →
    n % 16 = role.val →
    s.heldBy x n = false →
    s.red.cache.length ≤ 32768 →
    (fld ((s.psetOf p).getD 0 0) 36 4) = 0 →
    ∃ u, exec (.redUpdateApply c role none [] t) s = .next u ∧
      u.redInput c = us ∧
      u = { s.at t with regs := u.regs, red := { s.red with inputs := u.red.inputs } } ∧
      SameRegs s u [odKey (0x6040 + c) 2 0]) ∧
  (∀ (s : State) (c : Fin 48) (role : Fin 16) (t n p : Nat) (x : Upd) (us : List Upd),
    s.redInput c = x :: us →
    s.roleWaits role = false →
    s.boundTo x.meas x.site = some (n, p) →
    n % 16 = role.val →
    s.heldBy x n = false →
    s.red.cache.length ≤ 32768 →
    ((x.value.isSome = true ∧ (fld ((s.psetOf p).getD 0 0) 36 4) = 5) ∨ (x.value = none ∧ (fld ((s.psetOf p).getD 0 0) 36 4) ∈ [1, 2, 3, 4, 6, 7])) →
    ∃ u, exec (.redUpdateApply c role none [] t) s = .next u ∧
      u.redInput c = us ∧
      u.reg 0x6000 7 = s.reg 0x6000 7 + 1 ∧
      u = { s.at t with regs := u.regs, red := { s.red with inputs := u.red.inputs } } ∧
      SameRegs s u [odKey 0x6000 7 0, odKey (0x6040 + c) 2 0]) ∧
  (∀ (s : State) (c : Fin 48) (role : Fin 16) (t n p : Nat) (x : Upd) (us : List Upd) (l : LineData) (dirty : Bool),
    s.redInput c = x :: us →
    s.roleWaits role = false →
    s.boundTo x.meas x.site = some (n, p) →
    n % 16 = role.val →
    s.heldBy x n = false →
    s.red.cache.length ≤ 32768 →
    1 ≤ (fld ((s.psetOf p).getD 0 0) 36 4) ∧ (fld ((s.psetOf p).getD 0 0) 36 4) ≤ 7 →
    x.value.isNone = decide ((fld ((s.psetOf p).getD 0 0) 36 4) = 5) →
    s.cached n = some (l, dirty) →
    lineFormat l ≠ 0 →
    lineFormat l ≠ (fld ((s.psetOf p).getD 0 0) 36 4) →
    ∃ u, exec (.redUpdateApply c role none [] t) s = .next u ∧
      u.redInput c = us ∧
      u.reg 0x6000 6 = s.reg 0x6000 6 + 1 ∧
      u.reg80 0x6000 3 = s.reg80 0x6000 3 ∧
      u = { s.at t with regs := u.regs, log := u.log, red := { s.red with inputs := u.red.inputs } }) ∧
  (∀ (s : State) (c : Fin 48) (role : Fin 16) (t n p : Nat) (x : Upd) (us : List Upd),
    s.redInput c = x :: us →
    s.roleWaits role = false →
    s.boundTo x.meas x.site = some (n, p) →
    n % 16 = role.val →
    s.heldBy x n = true →
    s.red.cache.length ≤ 32768 →
    ∃ u, exec (.redUpdateApply c role none [] t) s = .next u ∧
      u.redInput c = us ∧
      u.red.held = s.red.held ++ [x] ∧
      u = { s.at t with regs := u.regs, red := { s.red with inputs := u.red.inputs, held := u.red.held } } ∧
      SameRegs s u [odKey (0x6040 + c) 2 0]) ∧
  (∀ (s : State) (c : Fin 48) (role : Fin 16) (t n p : Nat) (x : Upd),
    s.redInput c = [x] →
    s.boundTo x.meas x.site = some (n, p) →
    (n % 16 ≠ role.val ∨ s.roleWaits role = true) →
    s.red.cache.length ≤ 32768 →
    exec (.redUpdateApply c role none [] t) s = .next (s.at t)) ∧
  (∀ (s : State) (c : Fin 48) (t : Nat),
    4096 ≤ (s.redInput c).length →
    exec (.dropListFlush c t) s = .next (s.at t)) ∧
  (∀ (s : State) (c : Fin 48) (t n : Nat) (l : LineData) (dirty : Bool),
    (s.redInput c).length < 4096 →
    s.dropList c = [n] →
    s.roleWaits (n % 16) = false →
    s.cached n = some (l, dirty) →
    s.red.cache.length ≤ 32768 →
    ∃ u, exec (.dropListFlush c t) s = .next u ∧
      u.cached n = some (retag (withWord l 0 (setBit (lineWord l 0) 22 true)) (lineFormat (withWord l 0 (setBit (lineWord l 0) 22 true))) (s.ctxEpoch n) (linePoison (withWord l 0 (setBit (lineWord l 0) 22 true))), true) ∧
      u.dropList c = [] ∧
      (∀ k, k ≠ n → u.cached k = s.cached k) ∧
      u = { s.at t with red := { s.red with drops := u.red.drops, cache := u.red.cache } }) ∧
  (∀ (s : State) (c : Fin 48) (t : Nat) (k : Coal),
    s.coalOf c = [k] →
    k.upd.cluster = c.val →
    (k.due = true ∨ k.since + 64 ≤ (s.sq c).plays) →
    (s.redInput c).length < 4096 →
    ∃ u, exec (.failUpdateSend c t) s = .next u ∧
      u.coalOf c = [] ∧
      u.redInput c = s.redInput c ++ [{ k.upd with drop := k.upd.drop || s.regB (0x6040 + c) 2 }] ∧
      (∀ d < 48, d ≠ c.val → u.coalOf d = s.coalOf d) ∧
      u = { s.at t with red := { s.red with inputs := u.red.inputs, coal := u.red.coal } }) ∧
  (∀ (s : State) (c : Fin 48) (t : Nat) (k : Coal),
    s.coalOf c = [k] →
    k.since + 64 ≤ (s.sq c).plays →
    4096 ≤ (s.redInput c).length →
    ∃ u, exec (.failUpdateSend c t) s = .next u ∧
      u.coalOf c = [{ k with due := true }] ∧
      (∀ d < 48, d ≠ c.val → u.coalOf d = s.coalOf d) ∧
      u = { s.at t with red := { s.red with coal := u.red.coal } }) ∧
  (∀ (s : State) (c : Fin 48) (t : Nat),
    (∀ k ∈ s.coalOf c, k.due = false ∧ (s.sq c).plays < k.since + 64) →
    ∃ u, exec (.failUpdateSend c t) s = .next u ∧
      u.coalOf c = s.coalOf c ∧
      (∀ d < 48, d ≠ c.val → u.coalOf d = s.coalOf d) ∧
      u = { s.at t with red := { s.red with coal := u.red.coal } })

/-- O22 (derived, 09, R291, R294, R295, R297, R298, R301). CLOSE and RESET run over their range, a close keeps the line as the result
with the next SEQ, a read sets ALREADY_READ, takeovers end. -/
def Obligations.ContextsCloseAndAreRead : Prop :=
  (∀ (s : State) (rq : Req) (v : Word) (t : Nat),
    s.takes rq 0x6000 0x01 0 [v] Env.calm t = true →
    ∃ u, exec (.close rq v t) s = .next u ∧
      u.cmdStatus rq.src 0x6000 1 = cmdRunning ∧
      s.answered u 3 0x6000 1 rq.src v t ∧
      u = { (s.at t).setCmd rq.src 0x6000 1 cmdRunning with regs := u.regs, alm := u.alm, reply := u.reply, red := { s.red with sweeps := s.red.sweeps ++ [⟨false, fld v 20 20, fld v 0 20 + 1, rq.src⟩] } } ∧
      SameRegs s u journalKeys) ∧
  (∀ (s : State) (rq : Req) (v : Word) (t : Nat),
    s.takes rq 0x6000 0x02 0 [v] Env.calm t = true →
    ∃ u, exec (.reset rq v t) s = .next u ∧
      u.cmdStatus rq.src 0x6000 2 = cmdRunning ∧
      s.answered u 3 0x6000 2 rq.src v t ∧
      u = { (s.at t).setCmd rq.src 0x6000 2 cmdRunning with regs := u.regs, alm := u.alm, reply := u.reply, red := { s.red with sweeps := s.red.sweeps ++ [⟨true, fld v 20 20, fld v 0 20 + 1, rq.src⟩] } } ∧
      SameRegs s u journalKeys) ∧
  (∀ (s : State) (n t : Nat) (src : Word) (l : LineData) (dirty : Bool),
    s.red.closes = [] →
    s.red.sweeps = [⟨false, n, 1, src⟩] →
    s.roleWaits (n % 16) = false →
    s.cached n = some (l, dirty) →
    s.resultAt n < 0x60000000 →
    s.red.cache.length < 32768 →
    ∃ u, exec (.sweepStep [] t) s = .next u ∧
      u.line (s.resultAt n) = (repar (withWord l 0 (setFld (setBit (setBit (lineWord l 0) 25 true) 24 false) 26 14 ((ctxSeq (lineWord l 0) + 1) % 16384)))) ∧
      u.cached n = some (ctxLine (lineFormat l) (s.ctxEpoch n) (linePoison l) (ctxHeader ((ctxSeq (lineWord l 0) + 1) % 16384) false false false false false (mflag 19 (bit (lineWord l 0) 19))) (emptyWords (lineFormat l) (s.ctxPset n (lineFormat l)) (s.imageFor n)), true) ∧
      u.cmdStatus src 0x6000 1 = 0 ∧
      (∀ a, a ≠ s.resultAt n → u.line a = s.line a) ∧
      (∀ k, k ≠ n → u.cached k = s.cached k) ∧
      u = { (s.at t).endCmd src 0x6000 1 0 0 with hbm := u.hbm, red := { s.red with sweeps := [], cache := u.red.cache } }) ∧
  (∀ (s : State) (n t : Nat) (src : Word),
    s.red.closes = [] →
    s.red.sweeps = [⟨true, n, 1, src⟩] →
    s.roleWaits (n % 16) = false →
    s.resultAt n < 0x60000000 →
    s.red.cache.length < 32768 →
    ∃ u, exec (.sweepStep [] t) s = .next u ∧
      u.line (s.resultAt n) = mkLine 0 (s.ctxEpoch n) false 0 0 0 0 0 0 ∧
      u.cached n = some (mkLine 0 (s.ctxEpoch n) false 0 0 0 0 0 0, true) ∧
      u.cmdStatus src 0x6000 2 = 0 ∧
      (∀ a, a ≠ s.resultAt n → u.line a = s.line a) ∧
      (∀ k, k ≠ n → u.cached k = s.cached k) ∧
      u = { (s.at t).endCmd src 0x6000 2 0 0 with hbm := u.hbm, red := { s.red with sweeps := [], cache := u.red.cache } }) ∧
  (∀ (s : State) (n k t : Nat) (src : Word) (l : LineData) (dirty : Bool),
    s.red.closes = [] →
    s.red.sweeps = [⟨false, n, k + 2, src⟩] →
    s.roleWaits (n % 16) = false →
    s.cached n = some (l, dirty) →
    s.resultAt n < 0x60000000 →
    s.red.cache.length < 32768 →
    ∃ u, exec (.sweepStep [] t) s = .next u ∧
      u.line (s.resultAt n) = (repar (withWord l 0 (setFld (setBit (setBit (lineWord l 0) 25 true) 24 false) 26 14 ((ctxSeq (lineWord l 0) + 1) % 16384)))) ∧
      u.cached n = some ((ctxLine (lineFormat l) (s.ctxEpoch n) (linePoison l) (ctxHeader ((ctxSeq (lineWord l 0) + 1) % 16384) false false false false false (mflag 19 (bit (lineWord l 0) 19))) (emptyWords (lineFormat l) (s.ctxPset n (lineFormat l)) (s.imageFor n))), true) ∧
      (∀ a, a ≠ s.resultAt n → u.line a = s.line a) ∧
      (∀ j, j ≠ n → u.cached j = s.cached j) ∧
      u = { s.at t with hbm := u.hbm, red := { s.red with sweeps := [⟨false, n + 1, k + 1, src⟩], cache := u.red.cache } }) ∧
  (∀ (s : State) (n p t : Nat) (tc b : U80) (l : LineData) (dirty : Bool),
    s.red.closes = [⟨p, tc, b, some [n]⟩] →
    s.red.held = [] →
    s.roleWaits (n % 16) = false →
    s.cached n = some (l, dirty) →
    s.resultAt n < 0x60000000 →
    s.red.cache.length < 32768 →
    ∃ u, exec (.sweepStep [] t) s = .next u ∧
      u.line (s.resultAt n) = (repar (withWord l 0 (setFld (setBit (setBit (lineWord l 0) 25 true) 24 false) 26 14 ((ctxSeq (lineWord l 0) + 1) % 16384)))) ∧
      u.cached n = some ((ctxLine (lineFormat l) (s.ctxEpoch n) (linePoison l) (ctxHeader ((ctxSeq (lineWord l 0) + 1) % 16384) false false false false false (mflag 19 (bit (lineWord l 0) 19))) (emptyWords (lineFormat l) (s.ctxPset n (lineFormat l)) (s.imageFor n))), true) ∧
      SMap.get (fun _ => (0 : U80)) u.red.closedTc n = tc ∧
      u.red.closes = [] ∧
      (∀ a, a ≠ s.resultAt n → u.line a = s.line a) ∧
      (∀ j, j ≠ n → u.cached j = s.cached j) ∧
      u = { s.at t with hbm := u.hbm, red := { s.red with closes := [], closedTc := u.red.closedTc, cache := u.red.cache } }) ∧
  (∀ (s : State) (n k t : Nat) (reset : Bool) (src : Word),
    s.red.closes = [] →
    s.red.sweeps = [⟨reset, n, k, src⟩] →
    s.roleWaits (n % 16) = true →
    s.red.cache.length ≤ 32768 →
    exec (.sweepStep [] t) s = .next (s.at t)) ∧
  (∀ (s : State) (line : Fin 512) (stamp : U80) (t : Nat),
    ∃ u, exec (.lineCloseOccurrence line stamp t) s = .next u ∧
      s.red.closes <+: u.red.closes ∧
      (∀ p < 4096, fld (s.reg 0x6004 0 (8 * p)) 34 2 = 2 → fld (s.reg 0x6004 0 (8 * p)) 25 9 = line.val → ⟨p, stamp, stamp + BitVec.ofNat 80 (fld (s.reg 0x6004 0 (8 * p + 2)) 20 20 * 128000), none⟩ ∈ u.red.closes) ∧
      u = { s.at t with red := { s.red with closes := u.red.closes } }) ∧
  (∀ (s : State) (t : Nat),
    exec (.lineCloseBegin t) s = .next { s.at t with red := { s.red with closes := s.red.closes.map (fun k => if k.left = none ∧ k.begins.toNat ≤ (s.at t).now.toNat then { k with left := some (s.contextsOf k.pset) } else k) } }) ∧
  (∀ (s : State) (rq : Req) (n t : Nat) (l : LineData),
    s.carries = true →
    s.alm.held = [] →
    ((s.at t).firstChecks (mkTx rq .read 0x6001 0 (8 * n) 8 [] .here) []).1 = 0 →
    n < 1048576 →
    s.resultAt n < 0x60000000 →
    s.line (s.resultAt n) = l →
    parityBad l = false →
    ∃ u, exec (.resultRead rq (8 * n) 8 [] t) s = .next u ∧
      u.reply = ⟨0, 0, slotWords l (wd n)⟩ ∧
      u.line (s.resultAt n) = (if bit (lineWord l 0) 24 then l else withWord l 0 (setBit (lineWord l 0) 24 true)) ∧
      (∀ a, a ≠ s.resultAt n → u.line a = s.line a) ∧
      u = { s.at t with hbm := u.hbm, reply := u.reply }) ∧
  (∀ (s : State) (e : Fin 18) (t : Nat) (k : Takeover),
    SMap.get (fun _ => none) s.red.takeovers e = some k →
    ∃ u, exec (.takeoverDone e t) s = .next u ∧
      u.reg (0x6010 + e) 0 = 0 ∧
      u.reg (0x6010 + e) 4 = wd (((s.at t).clock - k.at0) / 4096) ∧
      SMap.get (fun _ => none) u.red.takeovers e = none ∧
      u = { s.at t with regs := u.regs, agenda := u.agenda, log := u.log, red := { s.red with takeovers := u.red.takeovers } })

/-- O23 (derived, 10, R307, R308, R311, R314, R317, R318, R326). An item enters an enabled queue whole at its end; a disabled or full
queue counts it dropped; packets open; cells move to the pool. -/
def Obligations.QueueItemsEnter : Prop :=
  (∀ (s : State) (q : Fin 65536) (prod : Producer) (ls : List LineData) (t : Nat),
    s.qState q = 1 →
    (s.queue q).reserve = true →
    s.qFull q ls.length = 0 →
    ∃ u, exec (.qAppend q prod (.item ls) false t) s = .next u ∧
      (u.queue q).cells = (s.queue q).cells ++ (ls.zipIdx.map (fun e => (⟨s.regN 0x7018 0 q + e.2, decide (e.2 = 0), decide (e.2 + 1 = ls.length), none, prod.burst, true, s.cellLine q e.1, 0⟩ : QCell))) ∧
      u.reg 0x7018 0 q = s.reg 0x7018 0 q + BitVec.ofNat 40 ls.length ∧
      (u.queue q).opens = (s.queue q).opens ∧
      (u.queue q).reserve = true ∧
      (∀ k < 65536, k ≠ q.val → u.queue k = s.queue k) ∧
      u = { s.at t with regs := u.regs, agenda := u.agenda, queues := u.queues } ∧
      SameRegs s u [odKey 0x7018 0 q, odKey 0x7000 4 (q / 40)]) ∧
  (∀ (s : State) (q : Fin 65536) (prod : Producer) (ls : List LineData) (t : Nat),
    s.qState q ≠ 1 →
    exec (.qAppend q prod (.item ls) false t) s = .next ((s.at t).addReg 0x7019 0 1 q)) ∧
  (∀ (s : State) (q : Fin 65536) (prod : Producer) (ls : List LineData) (t : Nat),
    s.qState q = 1 →
    (s.queue q).reserve = true →
    s.regN 0x7011 0 q < (s.queue q).cells.length + ls.length →
    (∀ c ∈ (s.queue q).cells, lineFormat (s.cellRaw c) ≠ 0xD) →
    ∃ u, exec (.qAppend q prod (.item ls) false t) s = .next u ∧
      (u.queue q).cells = (s.queue q).cells ++ [⟨s.regN 0x7018 0 q, true, true, none, prod.burst, true, s.cellLine q (gapLine 1 1 ls.length (s.at t).now (s.at t).now), 0⟩] ∧
      (u.queue q).reserve = false ∧
      u.reg 0x7019 0 q = s.reg 0x7019 0 q + 1 ∧
      (∀ k < 65536, k ≠ q.val → u.queue k = s.queue k) ∧
      u = { s.at t with regs := u.regs, agenda := u.agenda, log := u.log, queues := u.queues }) ∧
  (∀ (s : State) (q : Fin 65536) (prod : Producer) (cls unit t : Nat),
    s.qState q = 1 →
    (s.queue q).reserve = true →
    s.qFull q 1 = 0 →
    ∃ u, exec (.qAppend q prod (.head cls unit) false t) s = .next u ∧
      (u.queue q).cells.length = (s.queue q).cells.length + 1 ∧
      (s.queue q).cells <+: (u.queue q).cells ∧
      ⟨prod, s.regN 0x7018 0 q, 0, 0, .live⟩ ∈ (u.queue q).opens ∧
      u.reg 0x7018 0 q = s.reg 0x7018 0 q + 1 ∧
      (∀ k < 65536, k ≠ q.val → u.queue k = s.queue k) ∧
      u = { s.at t with regs := u.regs, agenda := u.agenda, queues := u.queues }) ∧
  (∀ (s : State) (q : Fin 65536) (num loc : Nat) (c : QCell),
    (s.queue q).cells.find? (fun c => c.num = num && c.onChip) = some c →
    s.poolLineFree loc = true →
    loc < 0x60000000 →
    ∃ u, exec (.burstWriteback q num loc) s = .next u ∧
      u.line loc = c.line ∧
      (∀ a, a ≠ loc → u.line a = s.line a) ∧
      (u.queue q).cells = (s.queue q).cells.map (fun d => if d.num = num ∧ d.onChip = true then { d with onChip := false, line := 0, loc := loc } else d) ∧
      (∀ k < 65536, k ≠ q.val → u.queue k = s.queue k) ∧
      u = { s.at 0 with hbm := u.hbm, queues := u.queues }) ∧
  (∀ (s : State) (q : Fin 65536) (num loc : Nat),
    ((s.queue q).cells.find? (fun c => c.num = num && c.onChip) = none ∨ s.poolLineFree loc = false) →
    exec (.burstWriteback q num loc) s = .next (s.at 0)) ∧
  (∀ (s : State) (q : Fin 65536) (prod : Producer) (l : LineData) (t : Nat) (p : OpenPkt),
    (s.queue q).opens = [p] →
    p.prod = prod →
    p.st = .live →
    (s.queue q).reserve = true →
    s.qFull q 1 = 0 →
    ∃ u, exec (.qAppend q prod (.line l) false t) s = .next u ∧
      (u.queue q).cells.length = (s.queue q).cells.length + 1 ∧
      ⟨s.regN 0x7018 0 q, false, false, some p.id, prod.burst, true, s.cellLine q l, 0⟩ ∈ (u.queue q).cells ∧
      (u.queue q).opens = [{ p with lines := p.lines + 1 }] ∧
      u.reg 0x7018 0 q = s.reg 0x7018 0 q + 1 ∧
      (∀ k < 65536, k ≠ q.val → u.queue k = s.queue k) ∧
      u = { s.at t with regs := u.regs, agenda := u.agenda, queues := u.queues }) ∧
  (∀ (s : State) (q : Fin 65536) (prod : Producer) (t : Nat) (p : OpenPkt) (c : QCell),
    (s.queue q).opens = [p] →
    p.prod = prod →
    p.st = .live →
    (s.queue q).cells = [c] →
    c.num = p.id →
    c.pkt = some p.id →
    c.onChip = true →
    ∃ u, exec (.qAppend q prod .done false t) s = .next u ∧
      (u.queue q).opens = [] ∧
      (u.queue q).cells = [{ c with line := headEnd 1 p.lines c.line, last := decide (p.lines = 0) }] ∧
      (∀ k < 65536, k ≠ q.val → u.queue k = s.queue k) ∧
      u = { s.at t with queues := u.queues }) ∧
  (∀ (s : State) (q : Fin 65536) (prod : Producer) (part : QPart) (t : Nat),
    (s.queue q).cells ≠ [] →
    (s.queue q).opens = [] →
    part = .done →
    ∃ u, exec (.qAppend q prod part true t) s = .next u ∧
      (u.queue q).broken = true ∧
      (u.queue q).cells = (s.queue q).cells.dropLast ∧
      u.reg 0x7000 3 = s.reg 0x7000 3 + 1 ∧
      (∀ k < 65536, k ≠ q.val → u.queue k = s.queue k) ∧
      u = { s.at t with regs := u.regs, agenda := u.agenda, log := u.log, queues := u.queues, mem := u.mem }) ∧
  (∀ (s : State) (rq : Req) (q : Fin 65536) (vals : List Word) (t : Nat),
    s.takes rq 0x7001 1 (1024 * q) vals Env.calm t = true →
    vals.length = 6 →
    s.qState q = 1 →
    (s.queue q).reserve = true →
    s.qFull q 1 = 0 →
    ∃ u, exec (.push rq (1024 * q) vals t) s = .next u ∧
      (u.queue q).cells = (s.queue q).cells ++ [⟨s.regN 0x7018 0 q, true, true, none, 48, true, s.cellLine q (mkLine 0xF 0 false (vals.getD 0 0) (vals.getD 1 0) (vals.getD 2 0) (vals.getD 3 0) (vals.getD 4 0) (vals.getD 5 0)), 0⟩] ∧
      u.reg 0x7018 0 q = s.reg 0x7018 0 q + 1 ∧
      u.reply = ⟨0, 0, []⟩ ∧
      u.reg 0x0400 1 = s.reg 0x0400 1 + 1 ∧
      (∀ k < 65536, k ≠ q.val → u.queue k = s.queue k) ∧
      u = { s.at t with regs := u.regs, alm := u.alm, reply := u.reply, agenda := u.agenda, queues := u.queues })

/-- O24 (derived, 10, R307, R315, R319, R324, R325, R327). POP takes cells from the head, FLUSH empties a queue, CLEAR_HIT clears its
level bit, CONFIG takes or returns the reserve, ROLE counts. -/
def Obligations.QueuesAreReadAndRuled : Prop :=
  (∀ (s : State) (rq : Req) (q : Fin 65536) (t : Nat) (c : QCell) (cs : List QCell),
    s.carries = true →
    s.alm.held = [] →
    ((s.at t).firstChecks (mkTx rq .read 0x7001 0 (1024 * q) 8 [] .here) []).1 = 0 →
    (s.queue q).opens = [] →
    (s.queue q).cells = c :: cs →
    c.onChip = true →
    (parityBad c.line = false ∨ linePoison c.line = true) →
    ∃ u, exec (.pop rq (1024 * q) 8 [] none t) s = .next u ∧
      u.reply = ⟨0, 0, slotWords c.line (wd (2 ^ 39 + b2n c.first * 2 ^ 38 + b2n c.last * 2 ^ 37 + c.num % 2 ^ 32))⟩ ∧
      u.queue q = { s.queue q with cells := cs } ∧
      (∀ k < 65536, k ≠ q.val → u.queue k = s.queue k) ∧
      u = { s.at t with reply := u.reply, queues := u.queues }) ∧
  (∀ (s : State) (rq : Req) (q : Fin 65536) (t : Nat) (c : QCell) (cs : List QCell),
    s.carries = true →
    s.alm.held = [] →
    ((s.at t).firstChecks (mkTx rq .read 0x7001 0 (1024 * q) 8 [] .here) []).1 = 0 →
    (s.queue q).opens = [] →
    (s.queue q).cells = c :: cs →
    c.onChip = false →
    c.loc < 0x60000000 →
    parityBad (s.line c.loc) = false →
    ∃ u, exec (.pop rq (1024 * q) 8 [] none t) s = .next u ∧
      u.reply = ⟨0, 0, slotWords (s.line c.loc) (wd (2 ^ 39 + b2n c.first * 2 ^ 38 + b2n c.last * 2 ^ 37 + c.num % 2 ^ 32))⟩ ∧
      u.queue q = { s.queue q with cells := cs } ∧
      (∀ k < 65536, k ≠ q.val → u.queue k = s.queue k) ∧
      u = { s.at t with reply := u.reply, queues := u.queues }) ∧
  (∀ (s : State) (rq : Req) (q : Fin 65536) (t : Nat) (c : QCell) (cs : List QCell) (p : OpenPkt),
    s.carries = true →
    s.alm.held = [] →
    ((s.at t).firstChecks (mkTx rq .read 0x7001 0 (1024 * q) 8 [] .here) []).1 = 0 →
    (s.queue q).opens = [p] →
    p.st = .live →
    (s.queue q).cells = c :: cs →
    c.pkt = some p.id →
    s.qCut q = false →
    exec (.pop rq (1024 * q) 8 [] none t) s = .next { s.at t with reply := ⟨0, 0, List.replicate 7 0 ++ [wd (2 ^ 35)]⟩ }) ∧
  (∀ (s : State) (rq : Req) (q : Fin 65536) (t : Nat),
    s.carries = true →
    s.alm.held = [] →
    ((s.at t).firstChecks (mkTx rq .read 0x7001 0 (1024 * q) 8 [] .here) []).1 = 0 →
    (s.queue q).opens = [] →
    (s.queue q).cells = [] →
    exec (.pop rq (1024 * q) 8 [] none t) s = .next { s.at t with reply := ⟨0, 0, List.replicate 8 0⟩ }) ∧
  (∀ (s : State) (rq : Req) (q : Fin 65536) (v : Word) (t : Nat),
    s.takes rq 0x7016 0 q [v] Env.calm t = true →
    v = 1 →
    ∃ u, exec (.flush rq q v none t) s = .next u ∧
      (u.queue q).cells = [] ∧
      (u.queue q).broken = false ∧
      (u.queue q).reserve = (s.queue q).reserve ∧
      u.reg 0x701A 0 q = s.reg 0x701A 0 q + 1 ∧
      (∀ k < 65536, k ≠ q.val → u.queue k = s.queue k) ∧
      s.answered u 4 0x7016 0 rq.src (wd (q * 2 ^ 14)) t ∧
      u = { (s.at t).endCmd rq.src (0x7016) 0 0 0 with regs := u.regs, alm := u.alm, reply := u.reply, queues := u.queues } ∧
      SameRegs s u (odKey 0x701A 0 q :: journalKeys)) ∧
  (∀ (s : State) (rq : Req) (q : Fin 65536) (v : Word) (n t : Nat),
    s.takes rq 0x7016 0 q [v] { Env.calm with broken := some n } t = true →
    ∃ u, exec (.flush rq q v (some n) t) s = .next u ∧
      (u.queue q).cells = [] ∧
      (u.queue q).broken = false ∧
      u.reg 0x701A 0 q = s.reg 0x701A 0 q + 1 ∧
      u.reg 0x7000 3 = s.reg 0x7000 3 + BitVec.ofNat 40 ((s.queue q).cells.length - n) ∧
      (∀ k < 65536, k ≠ q.val → u.queue k = s.queue k) ∧
      u.reply = ⟨0, 0, []⟩) ∧
  (∀ (s : State) (rq : Req) (q : Fin 65536) (v : Word) (t : Nat),
    s.takes rq 0x701B 0 q [v] Env.calm t = true →
    ∃ u, exec (.clearHit rq q v t) s = .next u ∧
      u.levelHit q = false ∧
      (∀ k < 65536, k ≠ q.val → u.levelHit k = s.levelHit k) ∧
      s.answered u 4 0x701B 0 rq.src (wd (q * 2 ^ 14)) t ∧
      u = { (s.at t).endCmd rq.src 0x701B 0 0 0 with regs := u.regs, alm := u.alm, reply := u.reply } ∧
      SameRegs s u (odKey 0x7000 4 (q / 40) :: journalKeys)) ∧
  (∀ (s : State) (rq : Req) (q : Fin 65536) (v : Word) (t : Nat),
    s.takes rq 0x7010 0 q [setBit v 39 true] Env.calm t = true →
    ∃ u, exec (.queueEnable rq q v t) s = .next u ∧
      u.reg 0x7010 0 q = setBit v 39 true ∧
      (u.queue q).cells = (s.queue q).cells ∧
      (s.qEnabled q = false → (u.queue q).reserve = true) ∧
      (s.qEnabled q = true → (u.queue q).reserve = (s.queue q).reserve) ∧
      (∀ k < 65536, k ≠ q.val → u.queue k = s.queue k) ∧
      s.answered u 2 0x7010 0 rq.src (wd (q * 2 ^ 14)) t ∧
      u = { s.at t with regs := u.regs, alm := u.alm, reply := u.reply, queues := u.queues } ∧
      SameRegs s u (odKey 0x7010 0 q :: journalKeys)) ∧
  (∀ (s : State) (rq : Req) (q : Fin 65536) (v : Word) (t : Nat),
    s.takes rq 0x7010 0 q [setBit v 39 false] Env.calm t = true →
    ∃ u, exec (.queueDisable rq q v t) s = .next u ∧
      u.reg 0x7010 0 q = setBit v 39 false ∧
      (u.queue q).cells = (s.queue q).cells ∧
      (u.queue q).reserve = false ∧
      (∀ k < 65536, k ≠ q.val → u.queue k = s.queue k) ∧
      s.answered u 2 0x7010 0 rq.src (wd (q * 2 ^ 14)) t ∧
      u = { s.at t with regs := u.regs, alm := u.alm, reply := u.reply, queues := u.queues } ∧
      SameRegs s u (odKey 0x7010 0 q :: journalKeys)) ∧
  (∀ (s : State) (rq : Req) (q : Fin 65536) (v : Word) (t : Nat),
    s.takes rq 0x7014 0 q [v] Env.calm t = true →
    ∃ u, exec (.roleWrite rq q v t) s = .next u ∧
      u.reg 0x7014 0 q = v ∧
      u.reg 0x7015 0 q = wd ((s.regN 0x7015 0 q + 1) % 256) ∧
      s.answered u 2 0x7014 0 rq.src (wd (q * 2 ^ 14)) t ∧
      u = { s.at t with regs := u.regs, alm := u.alm, reply := u.reply } ∧
      SameRegs s u (odKey 0x7014 0 q :: odKey 0x7015 0 q :: journalKeys))

/-- O25 (derived, 11, R331, R333, R334, R335, R341). A LOAD strobe makes an output's pending values active, a new range starts a range
change that ends; AS_LOAD_NOW strobes the named outputs. -/
def Obligations.OutputsTakeTheirTargets : Prop :=
  (∀ (s : State) (n : Fin 32) (t : Nat),
    s.asHeld = false →
    (s.out n).change = none →
    ∃ u, exec (.asLoadStrobe n t) s = .next u ∧
      (∀ e ∈ s.regs, asLoadKey n e.1 = true → SMap.get romDefault u.act e.1 = SMap.get romDefault s.regs e.1) ∧
      (u.actN (asIdx n) 1 ≠ (s.out n).range → (u.out n).change = some (s.at t).clock ∧ (u.out n).mode = (s.out n).mode ∧ bit (u.reg (asIdx n) 0x13) 3 = true) ∧
      (u.actN (asIdx n) 1 = (s.out n).range → (u.out n).change = none ∧ (u.out n).mode = u.asMode n ∧ (u.out n).clr = (u.act? (asIdx n) 3).toInt ∧ (u.out n).cleared = false) ∧
      (∀ k < 32, k ≠ n.val → u.out k = s.out k) ∧
      u = { s.at t with regs := u.regs, act := u.act, stim := u.stim } ∧
      SameRegs s u [odKey (asIdx n) 0x13 0]) ∧
  (∀ (s : State) (n : Fin 32) (t : Nat),
    (s.asHeld = true ∨ (s.out n).change ≠ none) →
    ∃ u, exec (.asLoadStrobe n t) s = .next u ∧
      (∀ e ∈ s.regs, asLoadKey n e.1 = true → SMap.get romDefault u.act e.1 = SMap.get romDefault s.regs e.1) ∧
      u.out n = { s.out n with rephase := (u.out n).rephase } ∧
      (∀ k < 32, k ≠ n.val → u.out k = s.out k) ∧
      u = { s.at t with act := u.act, stim := u.stim }) ∧
  (∀ (s : State) (n : Fin 32) (t : Nat) (k : Nat),
    (s.out n).change = some k →
    ∃ u, exec (.asRangeSwitch n t) s = .next u ∧
      u.out n = { s.out n with range := s.actN (asIdx n) 1 } ∧
      (∀ k < 32, k ≠ n.val → u.out k = s.out k) ∧
      u = { s.at t with regs := u.regs, stim := u.stim } ∧
      SameRegs s u [odKey (asIdx n) 0x13 0]) ∧
  (∀ (s : State) (n : Fin 32) (t : Nat),
    (s.out n).change = none →
    exec (.asRangeSwitch n t) s = .next (s.at t)) ∧
  (∀ (s : State) (n : Fin 32) (t : Nat) (k : Nat),
    (s.out n).change = some k →
    s.asHeld = false →
    ∃ u, exec (.asRangeDone n t) s = .next u ∧
      u.out n = { s.out n with range := s.actN (asIdx n) 1, change := none, mode := s.asMode n, clr := (s.act? (asIdx n) 3).toInt, cleared := false, clrPlay := (u.out n).clrPlay } ∧
      bit (u.reg (asIdx n) 0x13) 3 = false ∧
      (∀ k < 32, k ≠ n.val → u.out k = s.out k) ∧
      u = { s.at t with regs := u.regs, stim := u.stim } ∧
      SameRegs s u [odKey (asIdx n) 0x13 0]) ∧
  (∀ (s : State) (n : Fin 32) (t : Nat) (k : Nat),
    (s.out n).change = some k →
    s.asHeld = true →
    ∃ u, exec (.asRangeDone n t) s = .next u ∧
      u.out n = { s.out n with range := s.actN (asIdx n) 1, change := none } ∧
      bit (u.reg (asIdx n) 0x13) 3 = false ∧
      (∀ k < 32, k ≠ n.val → u.out k = s.out k) ∧
      u = { s.at t with regs := u.regs, stim := u.stim } ∧
      SameRegs s u [odKey (asIdx n) 0x13 0]) ∧
  (∀ (s : State) (n : Fin 32) (t : Nat),
    (s.out n).change = none →
    exec (.asRangeDone n t) s = .next (s.at t)) ∧
  (∀ (s : State) (rq : Req) (v : Word) (t : Nat),
    s.takes rq 0x8020 0 0 [v] Env.calm t = true →
    ∃ u, exec (.asLoadNow rq v t) s = .next u ∧
      (∀ n < 32, bit v n = true → ∀ e ∈ s.regs, asLoadKey n e.1 = true → SMap.get romDefault u.act e.1 = SMap.get romDefault s.regs e.1) ∧
      (∀ n < 32, bit v n = false → u.out n = s.out n) ∧
      s.answered u 3 0x8020 0 rq.src v t ∧
      u = { (s.at t).endCmd rq.src 0x8020 0 0 0 with regs := u.regs, act := u.act, alm := u.alm, reply := u.reply, stim := u.stim } ∧
      SameRegs s u ((List.range 32).map (fun n => odKey (asIdx n) 0x13 0) ++ journalKeys)) ∧
  (∀ (s : State) (rq : Req) (n : Fin 32) (v : Word) (t : Nat),
    s.takes rq (asIdx n) 0x0E 0 [v] Env.calm t = true →
    ∃ u, exec (.asArm rq n v t) s = .next u ∧
      u.asState n = 1 ∧
      u.reg (asIdx n) 0x12 = 0 ∧
      u.reg (asIdx n) 0x14 = 0 ∧
      u.reg (asIdx n) 0x15 = s.reg (asIdx n) 8 ∧
      (u.out n).ahead = [] ∧
      (u.out n).fetch = (s.regN (asIdx n) 8, 0, 0) ∧
      (u.out n).stop = 0 ∧
      (∀ k < 32, k ≠ n.val → u.out k = s.out k) ∧
      s.answered u 3 (asIdx n) 0x0E rq.src v t ∧
      u = { (s.at t).endCmd rq.src (asIdx n) 0x0E 0 0 with regs := u.regs, alm := u.alm, reply := u.reply, stim := u.stim } ∧
      SameRegs s u ([0x11, 0x12, 0x13, 0x14, 0x15].map (fun k => odKey (asIdx n) k 0) ++ journalKeys)) ∧
  (∀ (s : State) (rq : Req) (n : Fin 32) (t : Nat),
    s.takes rq (asIdx n) 0x0F 0 [1] Env.calm t = true →
    s.asState n = 3 →
    ∃ u, exec (.asStopAfterRepeat rq n t) s = .next u ∧
      u.out n = { s.out n with stop := 1 } ∧
      (∀ k < 32, k ≠ n.val → u.out k = s.out k) ∧
      s.answered u 3 (asIdx n) 0x0F rq.src 1 t ∧
      u = { (s.at t).endCmd rq.src (asIdx n) 0x0F 0 0 with regs := u.regs, alm := u.alm, reply := u.reply, stim := u.stim } ∧
      SameRegs s u journalKeys) ∧
  (∀ (s : State) (rq : Req) (n : Fin 32) (t : Nat),
    s.takes rq (asIdx n) 0x0F 0 [2] Env.calm t = true →
    s.asState n = 3 →
    ∃ u, exec (.asStopNow rq n t) s = .next u ∧
      u.out n = { s.out n with stop := 2 } ∧
      (∀ k < 32, k ≠ n.val → u.out k = s.out k) ∧
      s.answered u 3 (asIdx n) 0x0F rq.src 2 t ∧
      u = { (s.at t).endCmd rq.src (asIdx n) 0x0F 0 0 with regs := u.regs, alm := u.alm, reply := u.reply, stim := u.stim } ∧
      SameRegs s u journalKeys) ∧
  (∀ (s : State) (rq : Req) (n : Fin 32) (t : Nat),
    s.takes rq (asIdx n) 0x0F 0 [2] Env.calm t = true →
    (s.asState n = 1 ∨ s.asState n = 2 ∨ s.asState n = 4) →
    ∃ u, exec (.asStopNow rq n t) s = .next u ∧
      u.asState n = 6 ∧
      u.reg (asIdx n) 0x12 = 2 ∧
      (u.out n).ahead = [] ∧
      (∀ k < 32, k ≠ n.val → u.out k = s.out k) ∧
      s.answered u 3 (asIdx n) 0x0F rq.src 2 t ∧
      u = { (s.at t).endCmd rq.src (asIdx n) 0x0F 0 0 with regs := u.regs, alm := u.alm, reply := u.reply, stim := u.stim } ∧
      SameRegs s u (odKey (asIdx n) 0x11 0 :: odKey (asIdx n) 0x12 0 :: journalKeys))

/-- O26 (derived, 11, R339, R340, R341, R342, R343, R344). A loaded output is ARMED and starts at its instant; each sample instant
plays one prefetched sample, counts an underrun or steps the NCO. -/
def Obligations.OutputsPlay : Prop :=
  (∀ (s : State) (n : Fin 32) (t : Nat) (v : Int) (r : List (Int × Option Nat)),
    s.asState n = 1 →
    s.asMode n = 2 →
    (s.out n).ahead = (v, none) :: r →
    exec (.asArmed n [] t) s = .next ((s.at t).setRegN (asIdx n) 0x11 2)) ∧
  (∀ (s : State) (n : Fin 32) (t : Nat) (v : Int) (a : Nat) (r : List (Int × Option Nat)),
    s.asState n = 1 →
    s.asMode n = 2 →
    (s.out n).ahead = (v, some a) :: r →
    ∃ u, exec (.asArmed n [] t) s = .next u ∧
      u.asState n = 6 ∧
      u.reg (asIdx n) 0x12 = 5 ∧
      (∀ k < 32, k ≠ n.val → u.out k = s.out k) ∧
      u = { s.at t with regs := u.regs, stim := u.stim }) ∧
  (∀ (s : State) (n : Fin 32) (t : Nat) (tb : List Int),
    s.asState n = 1 →
    s.asMode n = 3 →
    (s.at t).ncoTable n = (some tb, s.at t) →
    exec (.asArmed n [] t) s = .next (((s.at t).onOut n (fun x => { x with table := tb })).setRegN (asIdx n) 0x11 2)) ∧
  (∀ (s : State) (n : Fin 32) (t : Nat),
    s.asState n ≠ 1 →
    exec (.asArmed n [] t) s = .next (s.at t)) ∧
  (∀ (s : State) (n : Fin 32) (stamp : U80) (timed : Bool) (t : Nat),
    ((s.asState n ≠ 2 ∧ s.asState n ≠ 4) ∨ (s.asState n = 4 ∧ s.localOf stamp * 32 < (s.out n).lastEnd)) →
    exec (.asStartLine n stamp timed t) s = .next (s.at t)) ∧
  (∀ (s : State) (n : Fin 32) (stamp : U80) (timed : Bool) (t : Nat),
    s.asState n = 2 →
    ∃ u, exec (.asStartLine n stamp timed t) s = .next u ∧
      u.asState n = 3 ∧
      (u.out n).next = tickUp (s.localOf stamp * 32 + (if timed then 0 else nsEt 64)) ∧
      u.reg80 (asIdx n) 0x16 = s.meridianOf ((u.out n).next / 32) ∧
      (∀ k < 32, k ≠ n.val → u.out k = s.out k) ∧
      u = { s.at t with regs := u.regs, stim := u.stim } ∧
      SameRegs s u [odKey (asIdx n) 0x11 0, odKey (asIdx n) 0x16 0, odKey (asIdx n) 0x16 1]) ∧
  (∀ (s : State) (n : Fin 32) (stamp : U80) (timed : Bool) (t : Nat),
    s.asState n = 4 →
    (s.out n).lastEnd ≤ s.localOf stamp * 32 →
    ∃ u, exec (.asStartLine n stamp timed t) s = .next u ∧
      u.asState n = 3 ∧
      (u.out n).next = tickUp (s.localOf stamp * 32 + (if timed then 0 else nsEt 64)) ∧
      (∀ k < 32, k ≠ n.val → u.out k = s.out k) ∧
      u = { s.at t with regs := u.regs, stim := u.stim } ∧
      SameRegs s u [odKey (asIdx n) 0x11 0]) ∧
  (∀ (s : State) (n : Fin 32) (t : Nat) (v : Int) (r : List (Int × Option Nat)),
    s.asState n = 3 →
    s.asMode n = 2 →
    (s.out n).stop = 0 →
    (s.out n).ahead = (v, none) :: r →
    ∃ u, exec (.asSample n t) s = .next u ∧
      (u.out n).sample = some (v * 65536) ∧
      (u.out n).ahead = r ∧
      (u.out n).next = (s.out n).next + s.regN (asIdx n) 6 * 5120 ∧
      ((s.out n).pos + 1 < s.asLength n (s.regN (asIdx n) 0x15) → u.asState n = 3 ∧ (u.out n).pos = (s.out n).pos + 1) ∧
      (s.asLength n (s.regN (asIdx n) 0x15) ≤ (s.out n).pos + 1 → fld (s.asEntry n (s.regN (asIdx n) 0x15) 1) 0 16 ≤ (s.out n).rep + 1 → bit (s.asEntry n (s.regN (asIdx n) 0x15) 2) 31 = true → u.asState n = 5 ∧ u.reg (asIdx n) 0x12 = 1) ∧
      (s.asLength n (s.regN (asIdx n) 0x15) ≤ (s.out n).pos + 1 → (s.out n).rep + 1 < fld (s.asEntry n (s.regN (asIdx n) 0x15) 1) 0 16 → u.asState n = 3 ∧ (u.out n).pos = 0 ∧ (u.out n).rep = (s.out n).rep + 1) ∧
      (s.asLength n (s.regN (asIdx n) 0x15) ≤ (s.out n).pos + 1 → fld (s.asEntry n (s.regN (asIdx n) 0x15) 1) 0 16 ≤ (s.out n).rep + 1 → bit (s.asEntry n (s.regN (asIdx n) 0x15) 2) 31 = false → u.regN (asIdx n) 0x15 = fld (s.asEntry n (s.regN (asIdx n) 0x15) 2) 32 8 ∧ (u.out n).pos = 0 ∧ (u.out n).rep = 0) ∧
      (∀ k < 32, k ≠ n.val → u.out k = s.out k) ∧
      u = { s.at (max t (s.out n).next) with regs := u.regs, stim := u.stim }) ∧
  (∀ (s : State) (n : Fin 32) (t : Nat) (v : Int) (a : Nat) (r : List (Int × Option Nat)),
    s.asState n = 3 →
    s.asMode n = 2 →
    (s.out n).stop = 0 →
    (s.out n).ahead = (v, some a) :: r →
    ∃ u, exec (.asSample n t) s = .next u ∧
      (u.out n).sample = (s.out n).sample ∧
      (u.out n).ahead = r ∧
      bit (u.reg (asIdx n) 0x13) 0 = true ∧
      (u.out n).next = (s.out n).next + s.regN (asIdx n) 6 * 5120 ∧
      (∀ k < 32, k ≠ n.val → u.out k = s.out k) ∧
      u = { s.at (max t (s.out n).next) with regs := u.regs, log := u.log, stim := u.stim }) ∧
  (∀ (s : State) (n : Fin 32) (t : Nat),
    s.asState n ≠ 3 →
    exec (.asSample n t) s = .next (s.at t)) ∧
  (∀ (s : State) (n : Fin 32) (t : Nat),
    s.asState n = 3 →
    s.asMode n = 2 →
    (s.out n).stop = 0 →
    (s.out n).ahead = [] →
    ∃ u, exec (.asSample n t) s = .next u ∧
      (u.out n).sample = (s.out n).sample ∧
      u.reg (asIdx n) 0x14 = s.reg (asIdx n) 0x14 + 1 ∧
      bit (u.reg (asIdx n) 0x13) 1 = true ∧
      u.reg 0x8020 2 = s.reg 0x8020 2 + (if (s.out n).under then 0 else 1) ∧
      (u.out n).next = (s.out n).next + s.regN (asIdx n) 6 * 5120 ∧
      (∀ k < 32, k ≠ n.val → u.out k = s.out k) ∧
      u = { s.at (max t (s.out n).next) with regs := u.regs, log := u.log, stim := u.stim }) ∧
  (∀ (s : State) (n : Fin 32) (t : Nat),
    s.asState n = 3 →
    s.asMode n = 3 →
    (s.out n).stop = 0 →
    (s.out n).rephase = false →
    ∃ u, exec (.asSample n t) s = .next u ∧
      (u.out n).phase = ((s.out n).phase + s.actN (asIdx n) 9) % 1099511627776 ∧
      (u.out n).sample = some ((s.out n).table.getD ((s.out n).phase >>> 28) 0 * 65536 + ((s.out n).table.getD (((s.out n).phase >>> 28 + 1) % 4096) 0 - (s.out n).table.getD ((s.out n).phase >>> 28) 0) * ((((s.out n).phase >>> 12) % 65536 : Nat) : Int)) ∧
      (∀ k < 32, k ≠ n.val → u.out k = s.out k) ∧
      u = { s.at (max t (s.out n).next) with regs := u.regs, stim := u.stim }) ∧
  (∀ (s : State) (n : Fin 32) (t : Nat),
    s.asState n = 3 →
    ((s.out n).stop = 2 ∨ ((s.out n).stop = 1 ∧ s.asMode n = 3)) →
    ∃ u, exec (.asSample n t) s = .next u ∧
      u.asState n = 6 ∧
      u.reg (asIdx n) 0x12 = 2 ∧
      (u.out n).sample = (s.out n).sample ∧
      (∀ k < 32, k ≠ n.val → u.out k = s.out k) ∧
      u = { s.at (max t (s.out n).next) with regs := u.regs, stim := u.stim } ∧
      SameRegs s u [odKey (asIdx n) 0x11 0, odKey (asIdx n) 0x12 0]) ∧
  (∀ (s : State) (n : Fin 32) (t : Nat),
    s.asBusy n = true →
    s.asMode n = 2 →
    (s.out n).ended = false →
    (s.out n).ahead.length ≤ 4084 →
    (s.out n).skip = 0 →
    (s.out n).fetch.2.2 < s.asLength n (s.out n).fetch.1 →
    ∃ u, exec (.asPrefetch n [] t) s = .next u ∧
      (s.out n).ahead <+: (u.out n).ahead ∧
      (s.out n).ahead.length < (u.out n).ahead.length ∧
      (u.out n).ahead.length ≤ (s.out n).ahead.length + 12 ∧
      (∀ k < 32, k ≠ n.val → u.out k = s.out k) ∧
      u = { s.at t with hbm := u.hbm, regs := u.regs, agenda := u.agenda, log := u.log, mem := u.mem, stim := u.stim }) ∧
  (∀ (s : State) (n : Fin 32) (t : Nat),
    (4084 < (s.out n).ahead.length ∨ s.asBusy n = false ∨ s.asMode n ≠ 2 ∨ (s.out n).ended = true) →
    exec (.asPrefetch n [] t) s = .next (s.at t))

/-- O27 (derived, 12, R348, R354, R357, R374). A Halo port moves between DISABLED, DOWN, TRAINING, UP and ISOLATED as the table of
port states says. -/
def Obligations.HaloPortsTrain : Prop :=
  (∀ (s : State) (rq : Req) (p : Fin 4) (v : Word) (t : Nat),
    s.takes rq (0x1110 + p) 0x00 0 [setBit v 0 true] Env.calm t = true →
    ∃ u, exec (.portEnable rq p v t) s = .next u ∧
      u.portState p = (if s.portState p = 0 ∧ s.regN 0x0100 0x04 ≠ 3 then 1 else s.portState p) ∧
      s.answered u 1 (0x1110 + p) 0x00 rq.src (setBit v 0 true) t ∧
      u.reg (0x1110 + p) 0x00 = setBit v 0 true ∧
      u = { s.at t with regs := u.regs, alm := u.alm, reply := u.reply } ∧
      SameRegs s u (odKey (0x1110 + p) 0x00 0 :: odKey (0x1110 + p) 0x07 0 :: journalKeys)) ∧
  (∀ (s : State) (rq : Req) (p : Fin 4) (v : Word) (t : Nat),
    s.takes rq (0x1110 + p) 0x00 0 [setBit v 0 false] Env.calm t = true →
    ∃ u, exec (.portDisable rq p v t) s = .next u ∧
      u.portState p = 0 ∧
      (∀ q < 4, q ≠ p.val → u.portState q = s.portState q) ∧
      (s.portState p ≠ 0 → u.reg (0x1110 + p) 0x10 = s.reg (0x1110 + p) 0x10 + BitVec.ofNat 40 (s.port p).txq.length ∧ ((∀ e ∈ (s.port p).txq, e.inp = none) → u.port p = { PortSt.idle with since := (s.at t).clock }) ∧ ((∀ e ∈ (s.port p).txq, e.inp = none) → (∀ q < 4, ∀ e ∈ (s.port q).txq, e.inp ≠ some p.val) → ∀ q, q ≠ p.val → u.port q = s.port q)) ∧
      s.answered u 1 (0x1110 + p) 0x00 rq.src (setBit v 0 false) t ∧
      u = { s.at t with regs := u.regs, alm := u.alm, reply := u.reply, halo := u.halo } ∧
      SameRegs s u ([0, 7, 8, 9, 0x10].map (fun k => odKey (0x1110 + p) k 0) ++ odKey (0x0904 + p) 0x05 0 :: journalKeys)) ∧
  (∀ (s : State) (p : Fin 4) (lanes : BitVec 4) (t : Nat),
    s.portState p = 1 →
    ∃ u, exec (.signalDetect p lanes t) s = .next u ∧
      (lanesOf lanes.toNat < s.regN (0x1110 + p) 0x03 → u = s.at t) ∧
      (s.regN (0x1110 + p) 0x03 ≤ lanesOf lanes.toNat → u.portState p = 2 ∧ u.port p = { s.port p with cwHeld := [], stream := [], badCw := [], peer := [], trained := false, restoring := false, since := (s.at t).clock, txq := (s.port p).txq ++ [⟨1, mkFrame 0xA 0xFFFFFE s.ownDevice (s.linkInfo p), none, none⟩] } ∧ (∀ q, q ≠ p.val → u.port q = s.port q)) ∧
      u = { s.at t with regs := u.regs, halo := u.halo } ∧
      SameRegs s u [odKey (0x1110 + p) 0x07 0]) ∧
  (∀ (s : State) (p : Fin 4) (lanes : BitVec 4) (t : Nat),
    s.portState p ≠ 1 →
    exec (.signalDetect p lanes t) s = .next (s.at t)) ∧
  (∀ (s : State) (p : Fin 4) (rate : Nat) (lanes : BitVec 4) (t : Nat),
    s.portState p = 2 →
    s.trainsAt p rate = true →
    s.regN (0x1110 + p) 0x03 ≤ lanesOf lanes.toNat →
    (s.port p).peer = [] →
    ∃ u, exec (.portTrained p rate lanes t) s = .next u ∧
      u.portState p = 2 ∧
      u.reg (0x1110 + p) 0x08 = wd rate ∧
      u.reg (0x1110 + p) 0x09 = wd lanes.toNat ∧
      u.reg (0x1110 + p) 0x11 = 0 ∧
      u.port p = { s.port p with trained := true } ∧
      (∀ q, q ≠ p.val → u.port q = s.port q) ∧
      u = { s.at t with regs := u.regs, halo := u.halo } ∧
      SameRegs s u ([8, 9, 0x11].map (fun k => odKey (0x1110 + p) k 0))) ∧
  (∀ (s : State) (p : Fin 4) (rate : Nat) (lanes : BitVec 4) (t : Nat),
    s.portState p = 2 →
    s.trainsAt p rate = true →
    s.regN (0x1110 + p) 0x03 ≤ lanesOf lanes.toNat →
    (s.port p).peer ≠ [] →
    ∃ u, exec (.portTrained p rate lanes t) s = .next u ∧
      u.portState p = (if s.portChecks p = true then 3 else 4) ∧
      u.reg (0x1110 + p) 0x08 = wd rate ∧
      u.reg (0x1110 + p) 0x09 = wd lanes.toNat ∧
      u.reg (0x1110 + p) 0x11 = 0 ∧
      (u.port p).trained = true ∧
      (∀ q, q ≠ p.val → u.port q = s.port q) ∧
      u = { s.at t with regs := u.regs, log := u.log, halo := u.halo } ∧
      SameRegs s u ([7, 8, 9, 0x11].map (fun k => odKey (0x1110 + p) k 0) ++ [odKey (0x0904 + p) 0x05 0, odKey 0x0500 0x06 0, odKey 0x0500 0x07 0])) ∧
  (∀ (s : State) (p : Fin 4) (rate : Nat) (lanes : BitVec 4) (t : Nat),
    (s.portState p ≠ 2 ∨ s.trainsAt p rate = false ∨ lanesOf lanes.toNat < s.regN (0x1110 + p) 0x03) →
    exec (.portTrained p rate lanes t) s = .next (s.at t)) ∧
  (∀ (s : State) (p : Fin 4) (t : Nat),
    s.portState p = 2 →
    (s.port p).since + msEt 50 ≤ (s.at t).clock →
    ∃ u, exec (.trainingTimeout p t) s = .next u ∧
      u.portState p = 1 ∧
      u.reg (0x1110 + p) 0x10 = s.reg (0x1110 + p) 0x10 + BitVec.ofNat 40 (s.port p).txq.length ∧
      ((∀ e ∈ (s.port p).txq, e.inp = none) → u.port p = { PortSt.idle with since := (s.at t).clock }) ∧
      ((∀ e ∈ (s.port p).txq, e.inp = none) → (∀ q < 4, ∀ e ∈ (s.port q).txq, e.inp ≠ some p.val) → ∀ q, q ≠ p.val → u.port q = s.port q) ∧
      u = { s.at t with regs := u.regs, halo := u.halo } ∧
      SameRegs s u ([7, 8, 9, 0x10].map (fun k => odKey (0x1110 + p) k 0) ++ [odKey (0x0904 + p) 0x05 0])) ∧
  (∀ (s : State) (p : Fin 4) (t : Nat),
    (s.portState p ≠ 2 ∨ (s.at t).clock < (s.port p).since + msEt 50) →
    exec (.trainingTimeout p t) s = .next (s.at t)) ∧
  (∀ (s : State) (p : Fin 4) (t : Nat),
    (s.portState p = 3 ∨ s.portState p = 4) →
    ∃ u, exec (.retrainWordRx p t) s = .next u ∧
      u.portState p = 2 ∧
      u.port p = { s.port p with cwHeld := [], stream := [], badCw := [], peer := [], trained := false, restoring := false, since := (s.at t).clock, txq := (s.port p).txq ++ [⟨1, mkFrame 0xA 0xFFFFFE s.ownDevice (s.linkInfo p), none, none⟩] } ∧
      (∀ q, q ≠ p.val → u.port q = s.port q) ∧
      u = { s.at t with regs := u.regs, halo := u.halo } ∧
      SameRegs s u [odKey (0x1110 + p) 0x07 0]) ∧
  (∀ (s : State) (rq : Req) (p : Fin 4) (v : Word) (t : Nat),
    s.takes rq (0x1110 + p) 0x06 0 [v] Env.calm t = true →
    (s.portState p = 3 ∨ s.portState p = 4) →
    ∃ u, exec (.retrain rq p v t) s = .next u ∧
      u.portState p = 2 ∧
      u.port p = { s.port p with cwHeld := [], stream := [], badCw := [], peer := [], trained := false, restoring := false, since := (s.at t).clock, txq := (s.port p).txq ++ [⟨1, mkFrame 0xA 0xFFFFFE s.ownDevice (s.linkInfo p), none, none⟩], ctl := (s.port p).ctl ++ [wd (2 ^ 36 + 6 * 2 ^ 32)] } ∧
      (∀ q, q ≠ p.val → u.port q = s.port q) ∧
      s.answered u 3 (0x1110 + p) 0x06 rq.src v t ∧
      u = { (s.at t).endCmd rq.src (0x1110 + p) 0x06 0 0 with regs := u.regs, alm := u.alm, reply := u.reply, halo := u.halo } ∧
      SameRegs s u (odKey (0x1110 + p) 0x07 0 :: journalKeys))

/-- O28 (derived, 12, R351, R352, R353, R362, R372). Credits, ACK, NAK, replay, the choice at an egress and credit stalls follow the
link protocol of Halo. -/
def Obligations.HaloLinkProtocol : Prop :=
  (∀ (s : State) (p : Fin 4) (vc : Bool) (n : Nat),
    ∃ u, exec (.creditRx p vc n) s = .next u ∧
      u.port p = (s.port p).setCredit vc ((s.port p).credit vc + n) s.clock ∧
      (∀ q, q ≠ p.val → u.port q = s.port q) ∧
      u = { s with posted := [], halo := u.halo }) ∧
  (∀ (s : State) (p : Fin 4) (lseq : BitVec 8),
    ∃ u, exec (.ackRx p lseq) s = .next u ∧
      u.port p = { s.port p with replay := (s.port p).replay.drop (ackCount (s.port p).replay lseq), naks := 0 } ∧
      (∀ q, q ≠ p.val → u.port q = s.port q) ∧
      u = { s with posted := [], halo := u.halo }) ∧
  (∀ (s : State) (p : Fin 4) (lseq : BitVec 8) (t : Nat),
    2 ≤ s.portState p →
    (if (s.port p).nakSeq = lseq then (s.port p).naks + 1 else 1) < 8 →
    ∃ u, exec (.nakRx p lseq t) s = .next u ∧
      u.port p = { s.port p with naks := (if (s.port p).nakSeq = lseq then (s.port p).naks + 1 else 1), nakSeq := lseq, replay := (s.port p).replay.take (((s.port p).replay.findIdx? (fun h => h.lseq = lseq)).getD (s.port p).replay.length) ++ (((s.port p).replay.drop (((s.port p).replay.findIdx? (fun h => h.lseq = lseq)).getD (s.port p).replay.length)).map (fun (h : Held) => { h with frame := frameStamped h.frame (s.at t).now })), lastTx := ((((s.port p).replay.drop (((s.port p).replay.findIdx? (fun h => h.lseq = lseq)).getD (s.port p).replay.length)).map (fun (h : Held) => { h with frame := frameStamped h.frame (s.at t).now })).map (fun h => frameWire h.frame h.lseq)).flatten } ∧
      (∀ q, q ≠ p.val → u.port q = s.port q) ∧
      u.reg (0x1110 + p) 0x0F = s.reg (0x1110 + p) 0x0F + 1 ∧
      u = { s.at t with regs := u.regs, halo := u.halo, sync := { s.sync with asked := u.sync.asked } } ∧
      SameRegs s u [odKey (0x1110 + p) 0x0F 0]) ∧
  (∀ (s : State) (p : Fin 4) (lseq : BitVec 8) (t : Nat),
    2 ≤ s.portState p →
    (s.port p).nakSeq = lseq →
    7 ≤ (s.port p).naks →
    ∃ u, exec (.nakRx p lseq t) s = .next u ∧
      u.portState p = 1) ∧
  (∀ (s : State) (p : Fin 4),
    (s.port p).unacked ≠ 0 →
    ∃ u, exec (.ackTimer p) s = .next u ∧
      u.port p = { s.port p with unacked := 0, ctl := (s.port p).ctl ++ [wd (2 ^ 36 + 2 * 2 ^ 32 + ((s.port p).rxSeq - 1).toNat)] } ∧
      (∀ q, q ≠ p.val → u.port q = s.port q) ∧
      u = { s with posted := [], halo := u.halo }) ∧
  (∀ (s : State) (p : Fin 4),
    (s.port p).nakWait = true →
    ∃ u, exec (.nakRepeat p) s = .next u ∧
      u.port p = { s.port p with ctl := (s.port p).ctl ++ [wd (2 ^ 36 + 3 * 2 ^ 32 + (s.port p).rxSeq.toNat)] } ∧
      (∀ q, q ≠ p.val → u.port q = s.port q) ∧
      u = { s with posted := [], halo := u.halo }) ∧
  (∀ (s : State) (p : Fin 4) (vc : Bool) (t d : Nat),
    (s.port p).credit vc = 0 →
    (s.port p).dry vc = some d →
    d + msEt 10 ≤ (s.at t).clock →
    (s.port p).txq.any (fun e => e.cls ≠ 1 && e.frame.vc = vc) = true →
    ∃ u, exec (.creditStallTimeout p vc t) s = .next u ∧
      u.reg (0x1110 + p) 0x14 = s.reg (0x1110 + p) 0x14 + 1 ∧
      u.agenda = s.agenda ++ [.faultRaise (Fin.ofNat 512 (0x42 + p)) 0x12 1 (wd (b2n vc)) false ((s.at t).clock)] ∧
      u.port p = (if vc then { s.port p with dry1 := none } else { s.port p with dry0 := none }) ∧
      (∀ q, q ≠ p.val → u.port q = s.port q) ∧
      u = { s.at t with regs := u.regs, log := u.log, agenda := u.agenda, halo := u.halo } ∧
      SameRegs s u [odKey (0x1110 + p) 0x14 0, odKey 0x0500 0x06 0, odKey 0x0500 0x07 0]) ∧
  (∀ (s : State) (p : Fin 4) (vc : Bool) (t : Nat),
    ((s.port p).credit vc ≠ 0 ∨ (∀ d ∈ ((s.port p).dry vc).toList, (s.at t).clock < d + msEt 10) ∨ (s.port p).txq.any (fun e => e.cls ≠ 1 && e.frame.vc = vc) = false) →
    exec (.creditStallTimeout p vc t) s = .next (s.at t)) ∧
  (∀ (s : State) (p : Fin 4) (w : Word) (ws : List Word) (t : Nat),
    2 ≤ s.portState p →
    (s.port p).ctl = w :: ws →
    ∃ u, exec (.frameSend p t) s = .next u ∧
      u.port p = { s.port p with ctl := ws, lastTx := [w] } ∧
      (∀ q, q ≠ p.val → u.port q = s.port q) ∧
      u = { s.at t with halo := u.halo }) ∧
  (∀ (s : State) (p : Fin 4) (e : TxFrame) (t : Nat),
    2 ≤ s.portState p →
    (s.port p).ctl = [] →
    ((s.at t).pickFrame p).1 = some e →
    (s.port p).replay.length < 128 →
    ∃ u, exec (.frameSend p t) s = .next u ∧
      (u.port p).txq = (s.port p).txq.erase e ∧
      (u.port p).replay = (s.port p).replay ++ [⟨(s.port p).txSeq, frameStamped e.frame (s.at t).now⟩] ∧
      (u.port p).txSeq = (s.port p).txSeq + 1 ∧
      (u.port p).lastTx = frameWire (frameStamped e.frame (s.at t).now) (s.port p).txSeq ∧
      (u.port p).credit e.frame.vc = (s.port p).credit e.frame.vc - (if e.cls = 1 then 0 else 1) ∧
      (e.owes = none → ∀ q, q ≠ p.val → u.port q = s.port q) ∧
      u.reg80 (0x1110 + p) 0x12 = s.reg80 (0x1110 + p) 0x12 + 1 ∧
      u = { s.at t with regs := u.regs, halo := u.halo, mem := { s.mem with arbs := u.mem.arbs }, sync := { s.sync with asked := u.sync.asked } } ∧
      SameRegs s u [odKey (0x1110 + p) 0x12 0, odKey (0x1110 + p) 0x12 1]) ∧
  (∀ (s : State) (p : Fin 4) (d e : TxFrame) (t : Nat),
    s.portState p = 3 →
    (s.port p).ctl = [] →
    (s.port p).txq = [d, e] →
    (s.port p).credit d.frame.vc ≠ 0 →
    (s.port p).credit e.frame.vc ≠ 0 →
    1 ≤ e.cls →
    e.cls < d.cls →
    d.cls ≤ 5 →
    d.inp = none →
    e.inp = none →
    (s.port p).replay.length < 128 →
    ∃ u, exec (.frameSend p t) s = .next u ∧
      (u.port p).txq = [d] ∧
      (u.port p).replay = (s.port p).replay ++ [⟨(s.port p).txSeq, frameStamped e.frame (s.at t).now⟩]) ∧
  (∀ (s : State) (p : Fin 4) (t : Nat),
    (s.portState p < 2 ∨ ((s.port p).ctl = [] ∧ (s.sendable p = [] ∨ 128 ≤ (s.port p).replay.length))) →
    exec (.frameSend p t) s = .next (s.at t)) ∧
  (∀ (s : State) (p : Fin 4) (words : List Word) (t : Nat),
    2 ≤ s.portState p →
    (∀ x ∈ (parseFrame words).toList, x.2 ≠ (s.port p).rxSeq) →
    ∃ u, exec (.reservedFrameRx p words t) s = .next u ∧
      u.reg (0x1110 + p) 0x10 = s.reg (0x1110 + p) 0x10 + 1 ∧
      (u.port p).nakWait = true ∧
      (u.port p).ctl = (s.port p).ctl ++ (if (s.port p).nakWait = true then [] else [wd (2 ^ 36 + 3 * 2 ^ 32 + (s.port p).rxSeq.toNat)]) ∧
      (∀ q, q ≠ p.val → u.port q = s.port q) ∧
      u = { s.at t with regs := u.regs, halo := u.halo } ∧
      SameRegs s u [odKey (0x1110 + p) 0x10 0]) ∧
  (∀ (s : State) (p : Fin 4) (words : List Word) (t : Nat),
    s.portState p < 2 →
    exec (.reservedFrameRx p words t) s = .next (s.at t)) ∧
  (∀ (s : State) (p : Fin 4) (words : List Word) (f : Frame) (t : Nat),
    2 ≤ s.portState p →
    parseFrame words = some (f, (s.port p).rxSeq) →
    0xB ≤ f.ty.toNat →
    ∃ u, exec (.reservedFrameRx p words t) s = .next u ∧
      (u.port p).rxSeq = (s.port p).rxSeq + 1 ∧
      u.reg80 (0x1110 + p) 0x13 = s.reg80 (0x1110 + p) 0x13 + 1 ∧
      u.reg (0x1110 + p) 0x10 = s.reg (0x1110 + p) 0x10 + 1 ∧
      u = { s.at t with regs := u.regs, halo := u.halo } ∧
      SameRegs s u [odKey (0x1110 + p) 0x10 0, odKey (0x1110 + p) 0x13 0, odKey (0x1110 + p) 0x13 1])

/-- O29 (derived, 12, R349, R354, R355, R375). A bad lane is dropped at both ends, an uncorrectable codeword is counted, and a lost
link takes the port DOWN and wraps the ring. -/
def Obligations.HaloLanesAndLoss : Prop :=
  (∀ (s : State) (p lane : Fin 4) (cw : Codeword) (t : Nat),
    2 ≤ s.portState p →
    (s.portState p = 2 ∨ (s.regN (0x1110 + p) 0x09).testBit lane.val = true) →
    (cw.bad = true ∨ 2 ≤ cw.kind.toNat) →
    ((s.port p).badCw.filter (fun e => e.1 = lane.val)).length < 15 →
    ∃ u, exec (.codewordRx p lane cw t) s = .next u ∧
      u.reg (0x1110 + p) 0x0E = s.reg (0x1110 + p) 0x0E + 1 ∧
      u.reg80 (0x1110 + p) 0x0D = s.reg80 (0x1110 + p) 0x0D + BitVec.ofNat 80 cw.corrected ∧
      u.port p = { s.port p with badCw := (s.port p).badCw.filter (fun e => (s.at t).clock < e.2 + msEt 1) ++ [(lane.val, (s.at t).clock)] } ∧
      (∀ q, q ≠ p.val → u.port q = s.port q) ∧
      u = { s.at t with regs := u.regs, halo := u.halo } ∧
      SameRegs s u [odKey (0x1110 + p) 0x0D 0, odKey (0x1110 + p) 0x0D 1, odKey (0x1110 + p) 0x0E 0]) ∧
  (∀ (s : State) (p lane : Fin 4) (cw : Codeword) (t : Nat),
    2 ≤ s.portState p →
    (s.portState p = 2 ∨ (s.regN (0x1110 + p) 0x09).testBit lane.val = true) →
    (cw.bad = true ∨ 2 ≤ cw.kind.toNat) →
    15 ≤ ((s.port p).badCw.filter (fun e => e.1 = lane.val ∧ (s.at t).clock < e.2 + msEt 1)).length →
    (s.regN (0x1110 + p) 0x09).testBit lane.val = true →
    s.wideWithout p (2 ^ lane.val) = true →
    ∃ u, exec (.codewordRx p lane cw t) s = .next u ∧
      (u.port p).ctl = (s.port p).ctl ++ [wd (2 ^ 36 + 4 * 2 ^ 32 + 2 ^ lane.val)] ∧
      u.reg (0x1110 + p) 0x09 = wd (s.regN (0x1110 + p) 0x09 &&& (15 ^^^ 2 ^ lane.val)) ∧
      (∀ q, q ≠ p.val → u.port q = s.port q) ∧
      u = { s.at t with regs := u.regs, halo := u.halo, log := u.log, agenda := u.agenda }) ∧
  (∀ (s : State) (p lane : Fin 4) (cw : Codeword) (t : Nat),
    2 ≤ s.portState p →
    (s.portState p = 2 ∨ (s.regN (0x1110 + p) 0x09).testBit lane.val = true) →
    cw.bad = false →
    cw.kind = 1 →
    ∃ u, exec (.codewordRx p lane cw t) s = .next u ∧
      u.reg80 (0x1110 + p) 0x0D = s.reg80 (0x1110 + p) 0x0D + BitVec.ofNat 80 cw.corrected ∧
      u = { s.at t with regs := u.regs } ∧
      SameRegs s u [odKey (0x1110 + p) 0x0D 0, odKey (0x1110 + p) 0x0D 1]) ∧
  (∀ (s : State) (p lane : Fin 4) (cw : Codeword) (t : Nat),
    2 ≤ s.portState p →
    (s.portState p = 2 ∨ (s.regN (0x1110 + p) 0x09).testBit lane.val = true) →
    cw.bad = false →
    cw.kind = 0 →
    (s.port p).cwHeld = [] →
    cw.seq = (s.port p).cwNext →
    (s.port p).stream = [] →
    cw.words.all (· = 0) = true →
    ∃ u, exec (.codewordRx p lane cw t) s = .next u ∧
      u.port p = { s.port p with cwNext := (s.port p).cwNext + 1 } ∧
      u.reg80 (0x1110 + p) 0x0D = s.reg80 (0x1110 + p) 0x0D + BitVec.ofNat 80 cw.corrected ∧
      u = { s.at t with regs := u.regs, halo := u.halo } ∧
      SameRegs s u [odKey (0x1110 + p) 0x0D 0, odKey (0x1110 + p) 0x0D 1]) ∧
  (∀ (s : State) (p lane : Fin 4) (cw : Codeword) (t : Nat),
    2 ≤ s.portState p →
    (s.portState p = 2 ∨ (s.regN (0x1110 + p) 0x09).testBit lane.val = true) →
    cw.bad = false →
    cw.kind = 0 →
    (s.port p).cwHeld = [] →
    cw.seq ≠ (s.port p).cwNext →
    ∃ u, exec (.codewordRx p lane cw t) s = .next u ∧
      u.port p = { s.port p with cwHeld := [(cw.seq, cw.words)] } ∧
      u = { s.at t with regs := u.regs, halo := u.halo } ∧
      SameRegs s u [odKey (0x1110 + p) 0x0D 0, odKey (0x1110 + p) 0x0D 1]) ∧
  (∀ (s : State) (p lane : Fin 4) (cw : Codeword) (t : Nat),
    (s.portState p < 2 ∨ (2 < s.portState p ∧ (s.regN (0x1110 + p) 0x09).testBit lane.val = false)) →
    exec (.codewordRx p lane cw t) s = .next (s.at t)) ∧
  (∀ (s : State) (p lane : Fin 4) (t : Nat),
    (s.portState p = 3 ∨ s.portState p = 4) →
    (s.regN (0x1110 + p) 0x09).testBit lane.val = true →
    s.regN (0x1110 + p) 0x03 ≤ lanesOf (s.regN (0x1110 + p) 0x09 &&& (15 ^^^ 2 ^ lane.val)) →
    ∃ u, exec (.codewordLockLoss p lane t) s = .next u ∧
      (u.port p).ctl = (s.port p).ctl ++ [wd (2 ^ 36 + 4 * 2 ^ 32 + 2 ^ lane.val)] ∧
      u.reg (0x1110 + p) 0x09 = wd (s.regN (0x1110 + p) 0x09 &&& (15 ^^^ 2 ^ lane.val)) ∧
      u.reg (0x1110 + p) 0x11 = wd (s.regN (0x1110 + p) 0x11 ||| 2 ^ lane.val) ∧
      u.agenda = s.agenda ++ [.faultRaise (Fin.ofNat 512 (0x42 + p)) 0x10 2 (wd lane.val) false ((s.at t).clock)] ∧
      (∀ q, q ≠ p.val → u.port q = s.port q) ∧
      u = { s.at t with regs := u.regs, halo := u.halo, log := u.log, agenda := u.agenda } ∧
      SameRegs s u [odKey (0x1110 + p) 0x09 0, odKey (0x1110 + p) 0x11 0, odKey 0x0500 0x06 0, odKey 0x0500 0x07 0]) ∧
  (∀ (s : State) (p : Fin 4) (lanes : BitVec 4) (t : Nat),
    (s.portState p = 3 ∨ s.portState p = 4) →
    s.regN (0x1110 + p) 0x03 ≤ lanesOf (s.regN (0x1110 + p) 0x09 &&& (15 ^^^ lanes.toNat)) →
    ∃ u, exec (.laneDropRx p lanes t) s = .next u ∧
      (u.port p).ctl = (s.port p).ctl ++ [wd (2 ^ 36 + 5 * 2 ^ 32 + lanes.toNat)] ∧
      u.reg (0x1110 + p) 0x09 = wd (s.regN (0x1110 + p) 0x09 &&& (15 ^^^ lanes.toNat)) ∧
      u.reg (0x1110 + p) 0x11 = wd (s.regN (0x1110 + p) 0x11 ||| lanes.toNat) ∧
      (∀ q, q ≠ p.val → u.port q = s.port q) ∧
      u = { s.at t with regs := u.regs, halo := u.halo, log := u.log, agenda := u.agenda } ∧
      SameRegs s u [odKey (0x1110 + p) 0x09 0, odKey (0x1110 + p) 0x11 0, odKey 0x0500 0x06 0, odKey 0x0500 0x07 0]) ∧
  (∀ (s : State) (p : Fin 4) (lanes : BitVec 4) (t : Nat),
    (s.portState p = 3 ∨ s.portState p = 4) →
    s.regN (0x1110 + p) 0x09 &&& lanes.toNat ≠ 0 →
    s.regN (0x1110 + p) 0x03 ≤ lanesOf (s.regN (0x1110 + p) 0x09 &&& (15 ^^^ lanes.toNat)) →
    ∃ u, exec (.laneDropAckRx p lanes t) s = .next u ∧
      u.reg (0x1110 + p) 0x09 = wd (s.regN (0x1110 + p) 0x09 &&& (15 ^^^ lanes.toNat)) ∧
      u.reg (0x1110 + p) 0x11 = wd (s.regN (0x1110 + p) 0x11 ||| lanes.toNat) ∧
      u = { s.at t with regs := u.regs } ∧
      SameRegs s u [odKey (0x1110 + p) 0x09 0, odKey (0x1110 + p) 0x11 0]) ∧
  (∀ (s : State) (p : Fin 4) (t : Nat),
    (s.portState p = 3 ∨ s.portState p = 4) →
    s.portRole p ≠ 1 →
    ∃ u, exec (.linkLossTimeout p t) s = .next u ∧
      u.portState p = 1 ∧
      u.reg (0x1110 + p) 0x10 = s.reg (0x1110 + p) 0x10 + BitVec.ofNat 40 (s.port p).txq.length ∧
      ((∀ e ∈ (s.port p).txq, e.inp = none) → u.port p = { PortSt.idle with since := (s.at t).clock }) ∧
      ((∀ e ∈ (s.port p).txq, e.inp = none) → (∀ q < 4, ∀ e ∈ (s.port q).txq, e.inp ≠ some p.val) → ∀ q, q ≠ p.val → u.port q = s.port q) ∧
      u.agenda = s.agenda ++ [.faultRaise (Fin.ofNat 512 (0x42 + p)) 0x11 2 0 false ((s.at t).clock)] ∧
      u = { s.at t with regs := u.regs, halo := u.halo, log := u.log, agenda := u.agenda } ∧
      SameRegs s u ([7, 8, 9, 0x10].map (fun k => odKey (0x1110 + p) k 0) ++ [odKey (0x0904 + p) 0x05 0, odKey 0x0500 0x06 0, odKey 0x0500 0x07 0])) ∧
  (∀ (s : State) (p : Fin 4) (t : Nat),
    (s.portState p = 3 ∨ s.portState p = 4) →
    s.portRole p = 1 →
    p.val < 2 →
    s.ringSize ≠ 0 →
    ∃ u, exec (.linkLossTimeout p t) s = .next u ∧
      u.portState p = 1 ∧
      u.reg 0x1102 0x04 = s.reg 0x1102 0x04 + 1 ∧
      u.reg80 0x1102 0x05 = (s.at t).now ∧
      u = { s.at t with regs := u.regs, halo := u.halo, log := u.log, agenda := u.agenda } ∧
      SameOutside s u (fun i => (0x1110 ≤ i && i < 0x1114) || (0x0904 ≤ i && i < 0x0908) || i == 0x0500 || i == 0x1102)) ∧
  (∀ (s : State) (p lane : Fin 4) (lanes : BitVec 4) (i : Fin 4) (t : Nat),
    s.portState p ≠ 3 ∧ s.portState p ≠ 4 →
    exec (if i = 0 then .linkLossTimeout p t else if i = 1 then .codewordLockLoss p lane t else if i = 2 then .laneDropRx p lanes t else .laneDropAckRx p lanes t) s = .next (s.at t))

/-- O30 (derived, 12, R357, R360, R363, R374, R375, R376). RING_STATE frames keep BROKEN, LINK_INFO tells the partner and judges the
port, and a frame for another device is routed on. -/
def Obligations.HaloRingAndRoutes : Prop :=
  (∀ (s : State) (p : Fin 4) (f : Frame) (t : Nat),
    f.ty = 9 →
    fld (fpay f 0) 36 4 = 1 →
    ((s.at t).acceptBroadcast p f).1 = true →
    s.linkBroken (fld (fpay f 1) 0 24) = false →
    (∃ i < 8, bit (s.reg 0x1102 0x02 i) 24 = false) →
    ∃ u, exec (.ringBrokenRx p f t) s = .next u ∧
      u.linkBroken (fld (fpay f 1) 0 24) = true ∧
      (∀ b < 64, s.linkBroken b = true → u.linkBroken b = true) ∧
      u = { s.at t with regs := u.regs, halo := u.halo, log := u.log } ∧
      SameOutside s u (fun i => (0x1110 ≤ i && i < 0x1114) || (0x0904 ≤ i && i < 0x0908) || i == 0x0500 || i == 0x1102)) ∧
  (∀ (s : State) (p : Fin 4) (f : Frame) (t : Nat),
    f.ty = 9 →
    fld (fpay f 0) 36 4 = 2 →
    ((s.at t).acceptBroadcast p f).1 = true →
    ∃ u, exec (.ringRestoredRx p f t) s = .next u ∧
      u.linkBroken (fld (fpay f 1) 0 24) = false ∧
      u = { s.at t with regs := u.regs, halo := u.halo, log := u.log } ∧
      SameOutside s u (fun i => (0x1110 ≤ i && i < 0x1114) || (0x0904 ≤ i && i < 0x0908) || i == 0x0500 || i == 0x1102)) ∧
  (∀ (s : State) (p : Fin 4) (f : Frame) (t : Nat),
    f.ty = 9 →
    ((s.at t).acceptBroadcast p f).1 = false →
    (fld (fpay f 0) 36 4 = 1 ∨ fld (fpay f 0) 36 4 = 2) →
    ∃ u, exec (if fld (fpay f 0) 36 4 = 1 then .ringBrokenRx p f t else .ringRestoredRx p f t) s = .next u ∧
      u.reg (0x1110 + p) 0x10 = s.reg (0x1110 + p) 0x10 + 1 ∧
      (∀ q, q ≠ p.val → u.port q = s.port q) ∧
      u = { s.at t with regs := u.regs, halo := { s.halo with seen := u.halo.seen, ports := u.halo.ports } } ∧
      SameRegs s u [odKey (0x1110 + p) 0x10 0]) ∧
  (∀ (s : State) (p : Fin 4) (t : Nat),
    s.portRole p = 1 →
    p.val < 2 →
    s.ringSize ≠ 0 →
    s.linkBroken (s.ringLink p) = true →
    s.portState p ≠ 3 →
    ∃ u, exec (.ringStateResend p t) s = .next u ∧
      u.halo.bseq = s.halo.bseq + 1 ∧
      (∀ q < 4, s.portOpen q = true → (u.port q).txq = (s.port q).txq ++ [⟨3, { mkFrame 9 0xFFFFFF s.ownDevice [wd (1 * 2 ^ 36) ||| wd (s.halo.bseq + 1).toNat, wd (s.ringLink p)] with vc := s.regB (0x1110 + q) 0x04 }, none, none⟩]) ∧
      (∀ q < 4, s.portOpen q = false → u.port q = s.port q) ∧
      u = { s.at t with halo := u.halo }) ∧
  (∀ (s : State) (p : Fin 4) (t : Nat),
    s.portRole p = 1 →
    p.val < 2 →
    s.ringSize ≠ 0 →
    s.linkBroken (s.ringLink p) = true →
    s.portState p = 3 →
    (s.port p).restoring = true →
    (s.port p).since + usEt (s.regN 0x1102 3) ≤ (s.at t).clock →
    ∃ u, exec (.restoreHoldExpiry p t) s = .next u ∧
      (u.port p).restoring = false ∧
      u.linkBroken (s.ringLink p) = false ∧
      u.halo.bseq = s.halo.bseq + 1 ∧
      (s.port p).txq ++ [⟨3, { mkFrame 9 0xFFFFFF s.ownDevice [wd (2 * 2 ^ 36) ||| wd (s.halo.bseq + 1).toNat, wd (s.ringLink p)] with vc := s.regB (0x1110 + p) 0x04 }, none, none⟩] <+: (u.port p).txq ∧
      u = { s.at t with regs := u.regs, halo := u.halo, log := u.log } ∧
      SameOutside s u (fun i => (0x1110 ≤ i && i < 0x1114) || (0x0904 ≤ i && i < 0x0908) || i == 0x0500 || i == 0x1102)) ∧
  (∀ (s : State) (p : Fin 4) (t : Nat),
    ((s.port p).restoring = false ∨ s.portState p ≠ 3 ∨ (s.at t).clock < (s.port p).since + usEt (s.regN 0x1102 3)) →
    exec (.restoreHoldExpiry p t) s = .next (s.at t)) ∧
  (∀ (s : State) (p : Fin 4) (t : Nat),
    (s.portRole p ≠ 1 ∨ 2 ≤ p.val ∨ s.ringSize = 0 ∨ s.linkBroken (s.ringLink p) = false ∨ s.portState p = 3) →
    exec (.ringStateResend p t) s = .next (s.at t)) ∧
  (∀ (s : State) (p : Fin 4) (f : Frame) (t : Nat),
    (f.ty ≠ 9 ∨ fld (fpay f 0) 36 4 ≠ 1) →
    exec (.ringBrokenRx p f t) s = .next ((s.at t).dropFrame p f)) ∧
  (∀ (s : State) (p : Fin 4) (f : Frame) (t : Nat),
    (f.ty ≠ 9 ∨ fld (fpay f 0) 36 4 ≠ 2) →
    exec (.ringRestoredRx p f t) s = .next ((s.at t).dropFrame p f)) ∧
  (∀ (s : State) (p : Fin 4) (f : Frame) (t : Nat),
    f.ty = 0xA →
    2 ≤ s.portState p →
    ∃ u, exec (.linkInfoRx p f t) s = .next u ∧
      (u.port p).peer = f.payload ∧
      u.reg (0x1110 + p) 0x0A = wd (fld (fpay f 0) 0 24) ∧
      u.reg (0x1110 + p) 0x0C = wd (fld (fpay f 0) 24 8) ∧
      ((s.port p).granted = false → (u.port p).credit0 = fld (fpay f 1) 8 8 ∧ (u.port p).credit1 = fld (fpay f 1) 0 8) ∧
      ((s.port p).granted = true → (u.port p).credit0 = (s.port p).credit0 ∧ (u.port p).credit1 = (s.port p).credit1) ∧
      (u.port p).granted = true ∧
      (s.portState p = 2 → (s.port p).trained = false → u.portState p = 2) ∧
      (s.portState p ≠ 2 ∨ (s.port p).trained = true → u.portState p = (if (s.onPort p (fun x => { x with peer := f.payload })).portChecks p = true then 3 else 4)) ∧
      (∀ q, q ≠ p.val → u.port q = s.port q) ∧
      u = { s.at t with regs := u.regs, halo := u.halo, log := u.log } ∧
      SameRegs s u ([7, 0xA, 0xB, 0xC].map (fun k => odKey (0x1110 + p) k 0) ++ [odKey (0x0904 + p) 0x05 0, odKey 0x0500 0x06 0, odKey 0x0500 0x07 0])) ∧
  (∀ (s : State) (p : Fin 4) (f : Frame) (t : Nat),
    (f.ty ≠ 0xA ∨ s.portState p < 2) →
    exec (.linkInfoRx p f t) s = .next (s.at t)) ∧
  (∀ (s : State) (p : Fin 4) (f : Frame) (t out : Nat),
    f.dest.toNat ≠ s.ownDevice →
    f.dest ≠ 0xFFFFFE →
    f.dest ≠ 0xFFFFFF →
    s.route (some p.val) f.dest.toNat = some out →
    ∃ u, exec (.forwardedFrameRx p f t) s = .next u ∧
      (u.port out).txq = (s.port out).txq ++ [⟨frameClass f.ty.toNat, { frameHop f with vc := s.vcFor (some p.val) out (frameHop f) }, some p.val, some f.vc⟩] ∧
      (∀ q, q ≠ out → u.port q = s.port q) ∧
      u = { s.at t with halo := u.halo }) ∧
  (∀ (s : State) (p : Fin 4) (f : Frame) (t : Nat),
    f.dest.toNat ≠ s.ownDevice →
    f.dest ≠ 0xFFFFFE →
    f.dest ≠ 0xFFFFFF →
    s.route (some p.val) f.dest.toNat = none →
    f.ty ≠ 2 →
    ∃ u, exec (.forwardedFrameRx p f t) s = .next u ∧
      u.reg 0x1100 0x05 = s.reg 0x1100 0x05 + 1 ∧
      (u.port p).ctl = (s.port p).ctl ++ [wd (2 ^ 36 + 2 ^ 32 + (b2n f.vc * 2 ^ 31 + 2 ^ 24))] ∧
      (∀ q, q ≠ p.val → u.port q = s.port q) ∧
      u = { s.at t with regs := u.regs, halo := u.halo } ∧
      SameRegs s u [odKey 0x1100 0x05 0]) ∧
  (∀ (s : State) (p : Fin 4) (f : Frame) (t out : Nat),
    f.dest.toNat ≠ s.ownDevice →
    f.dest ≠ 0xFFFFFE →
    f.dest ≠ 0xFFFFFF →
    s.route (some p.val) f.dest.toNat = none →
    f.ty = 2 →
    bit (fpay f 2) 23 = true →
    s.route none f.src.toNat = some out →
    ∃ u, exec (.forwardedFrameRx p f t) s = .next u ∧
      ((u.port out).txq.map (fun x => (x.frame.ty, x.frame.dest, fld (fpay x.frame 0) 24 16, fld (fpay x.frame 0) 8 16))).getLast? = some (3, f.src, fld (fpay f 2) 24 16, 0x63) ∧
      u = { s.at t with halo := u.halo }) ∧
  (∀ (s : State) (p : Fin 4) (f : Frame) (t : Nat),
    (f.dest.toNat = s.ownDevice ∨ f.dest = 0xFFFFFE ∨ f.dest = 0xFFFFFF) →
    exec (.forwardedFrameRx p f t) s = .next (s.at t))

/-- O31 (derived, 12, R364, R366, R367, R369). Remote OD requests are performed once and in SEQ order, replies end the request they
answer, and unanswered requests end with 0x0060. -/
def Obligations.RemoteTransactions : Prop :=
  (∀ (s : State) (p : Fin 4) (f : Frame) (e : Env) (t : Nat),
    s.carries = true →
    trainWhole false [f] = true →
    bit (fpay f 2) 22 = false →
    bit (fpay f 0) 24 = false →
    s.requester f.src.toNat = none →
    ∃ u, exec (.odRequestRx p [f] e t) s = .next u ∧
      u.reg 0x1100 0x08 = s.reg 0x1100 0x08 + 1 ∧
      u.halo.requesters = s.halo.requesters ∧
      u.alm = s.alm ∧
      u.locks = s.locks ∧
      u.hbm = s.hbm ∧
      SameRegs s u [odKey 0x1100 0x08 0, odKey 0x1100 0x05 0]) ∧
  (∀ (s : State) (p : Fin 4) (f : Frame) (e : Env) (t out : Nat) (r : Obj),
    s.carries = true →
    trainWhole false [f] = true →
    bit (fpay f 2) 22 = false →
    bit (fpay f 0) 24 = true →
    fld (fpay f 0) 36 4 = 3 →
    f.dest.toNat = s.ownDevice →
    f.src.toNat ≠ s.ownDevice →
    s.alm.held = [] →
    s.serviceClosed (mkTx ⟨sourceOf 4 0 f.src.toNat, none⟩ .describe (fld (fpay f 0) 8 16) (fld (fpay f 0) 0 8) 0 1 [] .here) = false →
    bit (fpay f 0) 35 = false →
    s.existCode (fld (fpay f 0) 8 16) (fld (fpay f 0) 0 8) = 0 →
    odFind (fld (fpay f 0) 8 16) (fld (fpay f 0) 0 8) = some r →
    s.route none f.src.toNat = some out →
    f.dest ≠ 0xFFFFFE →
    f.src ≠ 0xFFFFFE →
    ∃ u, exec (.odRequestRx p [f] e t) s = .next u ∧
      ((u.port out).txq.map (fun x => (x.frame.ty, x.frame.dest, fld (fpay x.frame 0) 24 16, fld (fpay x.frame 0) 8 16))).getLast? = some (3, f.src, fld (fpay f 2) 24 16, 0) ∧
      (∃ q, u.requester f.src.toNat = some q ∧ q.expected = BitVec.ofNat 16 (fld (fpay f 2) 24 16) + 1 ∧ q.stored.length = 1) ∧
      u = { s.at t with halo := u.halo }) ∧
  (∀ (s : State) (p : Fin 4) (f : Frame) (r : RemReq) (t : Nat),
    trainWhole true [f] = true →
    fld (fpay f 1) 16 24 = s.ownDevice →
    fld (fpay f 0) 8 16 ≠ 0x63 →
    fld (fpay f 0) 8 16 ≠ 0x66 →
    (s.target (targetKey f.src.toNat none)).out = [r] →
    (s.target (targetKey f.src.toNat none)).waiting = [] →
    r.seq = BitVec.ofNat 16 (fld (fpay f 0) 24 16) →
    r.tx.dst = .here →
    ∃ u, exec (.odReplyRx p [f] t) s = .next u ∧
      u.reply = ⟨fld (fpay f 0) 8 16, fld (fpay f 1) 0 8, f.payload.drop 2⟩ ∧
      (u.target (targetKey f.src.toNat none)).out = [] ∧
      u = { s.at t with regs := u.regs, halo := { s.halo with targets := u.halo.targets }, reply := u.reply } ∧
      SameRegs s u [odKey 0x1100 0x04 0]) ∧
  (∀ (s : State) (p : Fin 4) (f : Frame) (t : Nat),
    trainWhole true [f] = true →
    fld (fpay f 1) 16 24 = s.ownDevice →
    fld (fpay f 0) 8 16 ≠ 0x63 →
    (s.target (targetKey f.src.toNat none)).out.find? (fun r => r.seq = BitVec.ofNat 16 (fld (fpay f 0) 24 16)) = none →
    ∃ u, exec (.odReplyRx p [f] t) s = .next u ∧
      u.reg (0x1110 + p) 0x10 = s.reg (0x1110 + p) 0x10 + 1 ∧
      u = { s.at t with regs := u.regs } ∧
      SameRegs s u [odKey (0x1110 + p) 0x10 0]) ∧
  (∀ (s : State) (dev : BitVec 24) (r : RemReq) (t : Nat),
    (s.target (targetKey dev.toNat none)).out = [r] →
    (s.target (targetKey dev.toNat none)).waiting = [] →
    r.sentAt + usEt (s.regN 0x1100 0x01) ≤ (s.at t).clock →
    s.regN 0x1100 0x02 ≤ r.retries →
    r.tx.dst = .here →
    ∃ u, exec (.replyTimeout dev t) s = .next u ∧
      u.reply = ⟨0x60, 0, []⟩ ∧
      (u.target (targetKey dev.toNat none)).out = [] ∧
      (u.target (targetKey dev.toNat none)).reset = true ∧
      u = { s.at t with regs := u.regs, halo := { s.halo with targets := u.halo.targets }, reply := u.reply } ∧
      SameRegs s u [odKey 0x1100 0x04 0]) ∧
  (∀ (s : State) (dev : BitVec 24) (r : RemReq) (t : Nat),
    (s.target (targetKey dev.toNat none)).out = [r] →
    r.sentAt + usEt (s.regN 0x1100 0x01) ≤ (s.at t).clock →
    r.retries < s.regN 0x1100 0x02 →
    ∃ u, exec (.replyTimeout dev t) s = .next u ∧
      (u.target (targetKey dev.toNat none)).out = [{ r with retries := r.retries + 1, sentAt := (s.at t).clock }] ∧
      u.reply = s.reply) ∧
  (∀ (s : State) (dev : BitVec 24) (t : Nat),
    (∀ r ∈ (s.target (targetKey dev.toNat none)).out, (s.at t).clock < r.sentAt + usEt (s.regN 0x1100 0x01)) →
    exec (.replyTimeout dev t) s = .next (s.at t)) ∧
  (∀ (s : State) (p : Fin 4) (f : Frame) (e : Env) (t rp : Nat),
    s.carries = true →
    trainWhole false [f] = true →
    bit (fpay f 2) 22 = true →
    rp = fld (fpay f 2) 20 2 →
    (s.portState rp = 3 ∨ s.portState rp = 4) →
    ∃ u, exec (.odRequestRx p [f] e t) s = .next u ∧
      ((u.port rp).txq.map (fun x => (x.frame.ty, x.frame.dest, x.frame.payload.drop 3))).getLast? = some (f.ty, 0xFFFFFE, f.payload.drop 3) ∧
      (u.port rp).txq.length = (s.port rp).txq.length + 1 ∧
      (∀ q, q ≠ rp → u.port q = s.port q) ∧
      u = { s.at t with halo := u.halo }) ∧
  (∀ (s : State) (p : Fin 4) (l : List Frame) (e : Env) (t : Nat),
    s.carries = true →
    trainWhole false l = false →
    exec (.odRequestRx p l e t) s = .next ((s.at t).discard p l.length)) ∧
  (∀ (s : State) (p : Fin 4) (l : List Frame) (e : Env) (t : Nat),
    s.carries = false →
    exec (.odRequestRx p l e t) s = .next (s.at t)) ∧
  (∀ (s : State) (p : Fin 4) (l : List Frame) (t : Nat),
    trainWhole true l = false →
    exec (.odReplyRx p l t) s = .next ((s.at t).discard p l.length)) ∧
  (∀ (s : State) (src : BitVec 24) (reply : Bool) (t : Nat),
    ∃ u, exec (.trainTimeout src reply t) s = .next u ∧
      (∀ x ∈ s.halo.trains, x ∈ u.halo.trains ∨ (x.dev = src.toNat ∧ x.reply = reply ∧ x.since + usEt (s.regN 0x1100 0x01) ≤ (s.at t).clock)) ∧
      (∀ x ∈ u.halo.trains, x ∈ s.halo.trains ∧ ¬ (x.dev = src.toNat ∧ x.reply = reply ∧ x.since + usEt (s.regN 0x1100 0x01) ≤ (s.at t).clock)) ∧
      u = { s.at t with halo := { s.halo with trains := u.halo.trains } })

/-- O32 (derived, 13, R382, R387, R388, R389, R391). G1 register 0 reads an object and latches it, its other registers read the latch;
high writes are latched, register 0 writes the object. -/
def Obligations.G1RegistersReachObjects : Prop :=
  (∀ (s : State) (a : BitVec 24) (e : Env) (t i sub n : Nat) (r : Obj),
    0x10000 ≤ a.toNat →
    g1Object a.toNat = some (i, sub, 0) →
    odFind i sub = some r →
    r.isDomain = false →
    r.words = n →
    s.gives s.g1Req i sub 0 n t = true →
    exec (.g1Reg0Read a e t) s = .next { s.at t with host := { s.host with latch := some (i, sub, s.wordsOf s.g1Req.src i sub 0 n), read := fld ((s.wordsOf s.g1Req.src i sub 0 n).getD 0 0) 0 32, dma := [] } }) ∧
  (∀ (s : State) (a : BitVec 24) (e : Env) (t i sub k : Nat) (ws : List Word) (r : Obj),
    s.carries = true →
    0x10000 ≤ a.toNat →
    g1Object a.toNat = some (i, sub, k) →
    a.toNat / 4 % 4 = k →
    k ≠ 0 →
    odFind i sub = some r →
    r.isDomain = false →
    s.host.latch = some (i, sub, ws) →
    exec (.g1RegnRead a e t) s = .next { s.at t with host := { s.host with read := g1Part ws k, dma := [] } }) ∧
  (∀ (s : State) (a : BitVec 24) (v : BitVec 32) (t i sub k : Nat),
    s.carries = true →
    0x10000 ≤ a.toNat →
    g1Object a.toNat = some (i, sub, k) →
    a.toNat / 4 % 4 = k →
    k ≠ 0 →
    s.host.wlatch = none →
    exec (.g1HighWrite a v t) s = .next { s.at t with host := { s.host with wlatch := some (i, sub, [0, 0, 0].set (k - 1) v.toNat), dma := [], read := 0 } }) ∧
  (∀ (s : State) (a : BitVec 24) (v : BitVec 32) (t i sub hi : Nat) (r : Obj),
    0x10000 ≤ a.toNat →
    g1Object a.toNat = some (i, sub, 0) →
    odFind i sub = some r →
    r.words = 1 →
    r.ty ≠ .str →
    r.isDomain = false →
    r.hook = .none →
    r.acc ≠ .cmd →
    (r.eff = .imm ∨ r.eff = .shadow) →
    s.host.wlatch = some (i, sub, [hi, 0, 0]) →
    s.takes s.g1Req i sub 0 [wd (hi % 256 * 2 ^ 32 + v.toNat)] Env.calm t = true →
    ∃ u, exec (.g1Reg0Write a v Env.calm t) s = .next u ∧
      u.reg i sub = wd (hi % 256 * 2 ^ 32 + v.toNat) ∧
      u.reg 0x0400 1 = s.reg 0x0400 1 + 1 ∧
      u.alm.head.length = s.alm.head.length + 1 ∧
      u = { s.at t with regs := u.regs, alm := { s.alm with head := u.alm.head }, host := { s.host with wlatch := none, read := 0, dma := [] } } ∧
      SameRegs s u (odKey i sub 0 :: journalKeys)) ∧
  (∀ (s : State) (a : BitVec 24) (e : Env) (t i sub c ep : Nat) (r : Obj),
    s.carries = true →
    s.alm.held = [] →
    0x10000 ≤ a.toNat →
    g1Object a.toNat = some (i, sub, 0) →
    odFind i sub = some r →
    r.isDomain = false →
    (s.at t).firstChecks (mkTx s.g1Req .read i sub 0 r.words [] .here) [] = (c, ep) →
    c ≠ 0 →
    c ≠ 8 →
    exec (.g1Reg0Read a e t) s = .next { s.at t with host := { s.host with aborts := (min 0xFFFF (s.host.aborts.1 + 1), c), abortAddr := a.toNat, read := 0, dma := [] } }) ∧
  (∀ (s : State) (t : Nat),
    s.carries = true →
    exec (.g1AbortClear t) s = .next { s.at t with host := { s.host with aborts := (0, 0), read := 0, dma := [] } }) ∧
  (∀ (s : State) (a : BitVec 24) (e : Env) (t i sub k n : Nat) (r : Obj),
    0x10000 ≤ a.toNat →
    g1Object a.toNat = some (i, sub, k) →
    a.toNat / 4 % 4 = k →
    k ≠ 0 →
    odFind i sub = some r →
    r.isDomain = false →
    r.words = n →
    s.host.latch.all (fun l => l.1 != i || l.2.1 != sub) = true →
    s.gives s.g1Req i sub 0 n t = true →
    exec (.g1RegnRead a e t) s = .next { s.at t with host := { s.host with latch := some (i, sub, s.wordsOf s.g1Req.src i sub 0 n), read := g1Part (s.wordsOf s.g1Req.src i sub 0 n) k, dma := [] } }) ∧
  (∀ (s : State) (a : BitVec 24) (v : BitVec 32) (t i sub k li ls : Nat) (ps : List Nat),
    s.carries = true →
    0x10000 ≤ a.toNat →
    g1Object a.toNat = some (i, sub, k) →
    a.toNat / 4 % 4 = k →
    k ≠ 0 →
    s.host.wlatch = some (li, ls, ps) →
    exec (.g1HighWrite a v t) s = .next { s.at t with host := { s.host with wlatch := some (i, sub, (if li = i ∧ ls = sub then ps else [0, 0, 0]).set (k - 1) v.toNat), dma := [], read := 0 } }) ∧
  (∀ (s : State) (a : BitVec 24) (v : BitVec 32) (t i sub p0 p1 p2 : Nat) (r : Obj),
    0x10000 ≤ a.toNat →
    g1Object a.toNat = some (i, sub, 0) →
    odFind i sub = some r →
    r.words = 2 →
    r.ty ≠ .str →
    r.isDomain = false →
    r.hook = .none →
    r.acc ≠ .cmd →
    (r.eff = .imm ∨ r.eff = .shadow) →
    s.host.wlatch = some (i, sub, [p0, p1, p2]) →
    s.takes s.g1Req i sub 0 [wd (p0 % 256 * 2 ^ 32 + v.toNat), wd (p2 % 256 * 2 ^ 32 + p1)] Env.calm t = true →
    ∃ u, exec (.g1Reg0Write a v Env.calm t) s = .next u ∧
      u.reg i sub = wd (p0 % 256 * 2 ^ 32 + v.toNat) ∧
      u.reg i sub 1 = wd (p2 % 256 * 2 ^ 32 + p1) ∧
      u = { s.at t with regs := u.regs, alm := { s.alm with head := u.alm.head }, host := { s.host with wlatch := none, read := 0, dma := [] } } ∧
      SameRegs s u (odKey i sub 0 :: odKey i sub 1 :: journalKeys)) ∧
  (∀ (s : State) (a : BitVec 24) (v : BitVec 32) (e : Env) (t i sub : Nat) (r : Obj),
    s.carries = true →
    0x10000 ≤ a.toNat →
    a.toNat / 4 % 4 = 0 →
    g1Object a.toNat = some (i, sub, 0) →
    odFind i sub = some r →
    (r.isDomain = true ∨ r.ty = .str) →
    exec (.g1Reg0Write a v e t) s = .next { s.at t with host := { s.host with wlatch := none, aborts := (min 0xFFFF (s.host.aborts.1 + 1), 4), abortAddr := a.toNat, read := 0, dma := [] } }) ∧
  (∀ (s : State) (a : BitVec 24) (e : Env) (t i sub k : Nat) (r : Obj) (c : Instr),
    0x10000 ≤ a.toNat →
    g1Object a.toNat = some (i, sub, k) →
    odFind i sub = some r →
    r.isDomain = true →
    (c = .g1Reg0Read a e t ∨ c = .g1RegnRead a e t) →
    exec c s = .next { s.at t with host := { s.host with read := 0, dma := [] } }) ∧
  (∀ (s : State) (a : BitVec 24) (e : Env) (t : Nat),
    s.carries = true →
    a.toNat ∈ [0x000, 0x004, 0x100, 0x200, 0x300, 0x304] →
    exec (.g1Reg0Read a e t) s = .next { s.at t with host := { s.host with dma := [], read := match a.toNat with | 0x000 => s.host.aborts.1 * 65536 + s.host.aborts.2 | 0x004 => s.host.abortAddr | 0x100 => s.host.resCtx | 0x200 => s.host.popQueue | 0x300 => s.host.domTarget | _ => s.host.domOffset } }) ∧
  (∀ (s : State) (a : BitVec 24) (v : BitVec 32) (e : Env) (t : Nat) (c : Instr),
    (s.carries = false ∨ (0x10000 ≤ a.toNat ∧ g1Object a.toNat = none)) →
    c ∈ [.g1Reg0Read a e t, .g1RegnRead a e t, .g1HighWrite a v t, .g1Reg0Write a v e t] →
    exec c s = .next { s.at t with host := { s.host with read := 0, dma := [] } }) ∧
  (∀ (s : State) (a : BitVec 24) (v : BitVec 32) (e : Env) (t : Nat) (c : Instr),
    (a.toNat < 0x10000 ∨ a.toNat / 4 % 4 = 0) →
    (c = .g1RegnRead a e t ∨ c = .g1HighWrite a v t) →
    exec c s = .next { s.at t with host := { s.host with read := 0, dma := [] } }) ∧
  (∀ (s : State) (a : BitVec 24) (v : BitVec 32) (e : Env) (t : Nat),
    (a.toNat < 0x10000 ∨ a.toNat / 4 % 4 ≠ 0) →
    exec (.g1Reg0Write a v e t) s = .next { s.at t with host := { s.host with read := 0, dma := [] } })

/-- O33 (derived, 13, R390, R392, R297, R319). The DOM port reads and writes one word of a DOMAIN at DOM_OFFSET and steps it; RES_DATA
and POP_DATA read a slot, then its latch. -/
def Obligations.G1WindowsReachDomains : Prop :=
  (∀ (s : State) (e : Env) (t : Nat),
    s.gives s.g1Req (s.host.domTarget / 256) (s.host.domTarget % 256) s.host.domOffset 1 t = true →
    exec (.domDataLoRead e t) s = .next { s.at t with host := { s.host with domRead := (s.wordsOf s.g1Req.src (s.host.domTarget / 256) (s.host.domTarget % 256) s.host.domOffset 1).getD 0 0, read := fld ((s.wordsOf s.g1Req.src (s.host.domTarget / 256) (s.host.domTarget % 256) s.host.domOffset 1).getD 0 0) 0 32, dma := [] } }) ∧
  (∀ (s : State) (t : Nat),
    s.carries = true →
    exec (.domDataHiRead t) s = .next { s.at t with host := { s.host with read := fld s.host.domRead 32 8, domOffset := (s.host.domOffset + 1) % 2 ^ 26, dma := [] } }) ∧
  (∀ (s : State) (v : BitVec 32) (t : Nat),
    s.carries = true →
    exec (.domDataHiWrite v t) s = .next { s.at t with host := { s.host with domWrite := v.toNat % 256, read := 0, dma := [] } }) ∧
  (∀ (s : State) (v : BitVec 32) (t i sub : Nat) (r : Obj),
    s.host.domTarget = i * 256 + sub →
    sub < 256 →
    odFind i sub = some r →
    r.isDomain = true →
    r.hook = .none →
    r.acc ≠ .cmd →
    (r.eff = .imm ∨ r.eff = .shadow) →
    s.takes s.g1Req i sub s.host.domOffset [wd (s.host.domWrite * 2 ^ 32 + v.toNat)] Env.calm t = true →
    ∃ u, exec (.domDataLoWrite v Env.calm t) s = .next u ∧
      u.reg i sub s.host.domOffset = wd (s.host.domWrite * 2 ^ 32 + v.toNat) ∧
      u.reg 0x0400 1 = s.reg 0x0400 1 + 1 ∧
      u = { s.at t with regs := u.regs, alm := { s.alm with head := u.alm.head }, host := { s.host with domWrite := 0, domOffset := (s.host.domOffset + 1) % 2 ^ 26, read := 0, dma := [] } } ∧
      SameRegs s u (odKey i sub s.host.domOffset :: journalKeys)) ∧
  (∀ (s : State) (e : Env) (t : Nat) (a : BitVec 24),
    s.carries = true →
    0x110 < a.toNat →
    a.toNat < 0x150 →
    a.toNat % 4 = 0 →
    exec (.resDataRead a e t) s = .next { s.at t with host := { s.host with read := g1Part s.host.resData ((a.toNat - 0x110) / 4), dma := [] } }) ∧
  (∀ (s : State) (t : Nat) (l : LineData),
    s.carries = true →
    s.alm.held = [] →
    ((s.at t).firstChecks (mkTx s.g1Req .read 0x6001 0 (8 * s.host.resCtx) 8 [] .here) []).1 = 0 →
    s.host.resCtx < 1048576 →
    s.resultAt s.host.resCtx < 0x60000000 →
    s.line (s.resultAt s.host.resCtx) = l →
    parityBad l = false →
    ∃ u, exec (.resDataRead 0x110 Env.calm t) s = .next u ∧
      u.host = { s.host with resData := slotWords l (wd s.host.resCtx), read := fld (lineWord l 0) 0 32, dma := [] } ∧
      bit (lineWord (u.line (s.resultAt s.host.resCtx)) 0) 24 = true ∧
      (∀ a, a ≠ s.resultAt s.host.resCtx → u.line a = s.line a) ∧
      u = { s.at t with hbm := u.hbm, host := u.host }) ∧
  (∀ (s : State) (e : Env) (t : Nat) (a : BitVec 24),
    s.carries = true →
    0x210 < a.toNat →
    a.toNat < 0x250 →
    4 ≤ a.toNat - 0x210 →
    exec (.popDataRead a e t) s = .next { s.at t with host := { s.host with read := g1Part s.host.popData ((a.toNat - 0x210) / 4), dma := [] } }) ∧
  (∀ (s : State) (t : Nat) (q : Fin 65536) (c : QCell) (cs : List QCell),
    s.carries = true →
    s.host.popQueue = q.val →
    s.alm.held = [] →
    ((s.at t).firstChecks (mkTx s.g1Req .read 0x7001 0 (1024 * q) 8 [] .here) []).1 = 0 →
    (s.queue q).opens = [] →
    (s.queue q).cells = c :: cs →
    c.onChip = true →
    (parityBad c.line = false ∨ linePoison c.line = true) →
    ∃ u, exec (.popDataRead 0x210 Env.calm t) s = .next u ∧
      u.host = { s.host with popData := slotWords c.line (wd (2 ^ 39 + b2n c.first * 2 ^ 38 + b2n c.last * 2 ^ 37 + c.num % 2 ^ 32)), read := fld (lineWord c.line 0) 0 32, dma := [] } ∧
      u.queue q = { s.queue q with cells := cs } ∧
      (∀ k < 65536, k ≠ q.val → u.queue k = s.queue k) ∧
      u = { s.at t with queues := u.queues, host := u.host }) ∧
  (∀ (s : State) (t : Nat) (q : Fin 65536),
    s.carries = true →
    s.host.popQueue = q.val →
    s.alm.held = [] →
    ((s.at t).firstChecks (mkTx s.g1Req .read 0x7001 0 (1024 * q) 8 [] .here) []).1 = 0 →
    (s.queue q).opens = [] →
    (s.queue q).cells = [] →
    ∃ u, exec (.popDataRead 0x210 Env.calm t) s = .next u ∧
      bit (u.host.popData.getD 7 0) 39 = false ∧
      u = { s.at t with host := { s.host with popData := u.host.popData, read := u.host.read, dma := [] } }) ∧
  (∀ (s : State) (a : BitVec 24) (v : BitVec 32) (e : Env) (t : Nat) (c : Instr),
    s.carries = false →
    c ∈ [.domDataLoRead e t, .domDataHiRead t, .domDataHiWrite v t, .domDataLoWrite v e t, .resDataRead a e t, .popDataRead a e t, .g1AbortClear t] →
    exec c s = .next { s.at t with host := { s.host with read := 0, dma := [] } }) ∧
  (∀ (s : State) (a : BitVec 24) (e : Env) (t : Nat),
    (a.toNat < 0x110 ∨ 0x150 ≤ a.toNat) →
    exec (.resDataRead a e t) s = .next { s.at t with host := { s.host with read := 0, dma := [] } }) ∧
  (∀ (s : State) (a : BitVec 24) (e : Env) (t : Nat),
    (a.toNat < 0x210 ∨ 0x250 ≤ a.toNat) →
    exec (.popDataRead a e t) s = .next { s.at t with host := { s.host with read := 0, dma := [] } }) ∧
  (∀ (s : State) (e : Env) (t : Nat),
    s.carries = true →
    s.alm.held = [] →
    odFind (s.host.domTarget / 256) (s.host.domTarget % 256) = none →
    ∃ u, exec (.domDataLoRead e t) s = .next u ∧
      u.host = { s.host with aborts := (min 0xFFFF (s.host.aborts.1 + 1), u.host.aborts.2), abortAddr := 0x308, domRead := 0, read := 0, dma := [] } ∧
      u.host.aborts.2 ≠ 0)

/-- O34 (derived, 13, R380, R382, R393, R394, R403, R404, R405, R66). MB_GO submits a mailbox's transaction, MB_DONE delivers it; open
vectors send, closed ones pend; link loss and FLR reset the interface. -/
def Obligations.MailboxesVectorsAndTheLink : Prop :=
  (∀ (s : State) (m : Fin 8) (t i sub off cnt : Nat),
    (s.mbx m).state ≠ 1 →
    (s.mbx m).cmd = wd (2 ^ 36 + i * 256 + sub) →
    (s.mbx m).range = wd (off * 2 ^ 14 + cnt * 16) →
    (s.mbx m).target = 0 →
    i < 65536 →
    sub < 256 →
    off < 2 ^ 26 →
    cnt < 1024 →
    s.gives ⟨sourceOf 2 0 s.ownDevice, none⟩ i sub off (cnt + 1) t = true →
    exec (.mbGo m 1 Env.calm t) s = .next (({ s.at t with host := { s.host with read := 0, dma := [] }, agenda := s.agenda ++ [.mbDone m ((s.at t).clock)] } : State).onMbx m (fun x => { x with state := 1, answer := some ⟨0, 0, s.wordsOf (sourceOf 2 0 s.ownDevice) i sub off (cnt + 1)⟩ }))) ∧
  (∀ (s : State) (m : Fin 8) (v : BitVec 64) (e : Env) (t : Nat),
    s.carries = true →
    (s.mbx m).state = 1 →
    exec (.mbGo m v e t) s = .next ({ s.at t with host := { s.host with read := 0, dma := [] } }.addReg 0x1000 5 1)) ∧
  (∀ (s : State) (m : Fin 8) (t : Nat) (a : OdReply),
    (s.mbx m).answer = some a →
    bit (s.mbx m).irq 6 = false →
    ∃ u, exec (.mbDone m t) s = .next u ∧
      (u.mbx m).state = 2 ∧
      (u.mbx m).count = a.data.length ∧
      (u.mbx m).abort = a.code ∧
      (u.mbx m).answer = none ∧
      (∀ k < a.data.length, SMap.get (fun _ => 0) (u.mbx m).data k = a.data.getD k 0) ∧
      (∀ k < 8, k ≠ m.val → u.mbx k = s.mbx k) ∧
      u = { s.at t with host := { s.host with mailboxes := u.host.mailboxes, read := 0, dma := [] } }) ∧
  (∀ (s : State) (v : Fin 64) (t : Nat),
    s.vectorOpen v = true →
    ∃ u, exec (.msixSend v t) s = .next u ∧
      u.host.dma = [(s.msixDword (4 * v) + s.msixDword (4 * v + 1) * 2 ^ 32, s.msixDword (4 * v + 2))] ∧
      u.reg 0x1010 1 = s.reg 0x1010 1 + 1 ∧
      v.val ∉ u.host.pendingBits ∧
      u = { s.at t with regs := u.regs, agenda := u.agenda, host := { s.host with read := 0, dma := u.host.dma, pendingBits := u.host.pendingBits } } ∧
      SameRegs s u [odKey 0x1010 1 0]) ∧
  (∀ (s : State) (v : Fin 64) (t : Nat),
    s.vectorOpen v = false →
    ∃ u, exec (.msixSend v t) s = .next u ∧
      u.host.dma = [] ∧
      v.val ∈ u.host.pendingBits ∧
      u = { s.at t with agenda := u.agenda, host := { s.host with read := 0, dma := [], pendingBits := u.host.pendingBits } }) ∧
  (∀ (s : State) (m : Fin 8) (v : Nat) (t : Nat),
    s.carries = true →
    (s.mbx m).state ≠ 1 →
    v < 2 ^ 40 →
    ∃ u, exec (.registerWrite (.bar0 (0x1000000 + 0x4000 * m) 8 v) t) s = .next u ∧
      u.mbx m = { s.mbx m with cmd := wd v } ∧
      (∀ k < 8, k ≠ m.val → u.mbx k = s.mbx k) ∧
      u = { s.at t with host := { s.host with mailboxes := u.host.mailboxes, read := 0, dma := [] } }) ∧
  (∀ (s : State) (o size v : Nat) (t : Nat),
    s.carries = true →
    size ≠ 4 →
    size ≠ 8 →
    exec (.registerWrite (.bar0 o size v) t) s = .next ({ s.at t with host := { s.host with read := 0, dma := [] } }.addReg 0x1000 5 1)) ∧
  (∀ (s : State) (gen width : Nat) (flit : Bool) (t : Nat),
    s.devState ≠ 0 →
    1 ≤ gen →
    1 ≤ width →
    1 ≤ s.regN 0x1000 3 →
    ∃ u, exec (.hostLinkTrained gen width flit t) s = .next u ∧
      u.reg 0x1000 0 = wd (min (min gen (s.regN 0x1000 3)) (if flit then 6 else 5)) ∧
      u.reg 0x1000 1 = wd (if 8 ≤ width then 8 else if 4 ≤ width then 4 else if 2 ≤ width then 2 else 1) ∧
      u.reg 0x1000 2 = wd (b2n flit) ∧
      u = { s.at t with regs := u.regs } ∧
      SameRegs s u [odKey 0x1000 0 0, odKey 0x1000 1 0, odKey 0x1000 2 0]) ∧
  (∀ (s : State) (gen width : Nat) (flit : Bool) (t : Nat) (c : Instr),
    s.devState = 0 →
    c ∈ [.hostLinkTrained gen width flit t, .flr t, .linkDown t] →
    exec c s = .next (s.at t)) ∧
  (∀ (s : State) (t : Nat),
    s.devState ≠ 0 →
    ∃ u, exec (.flr t) s = .next u ∧
      u.host = HostSt.idle (s.host.gen + 1) ∧
      u.reg 0x1000 7 = s.reg 0x1000 7 + 1 ∧
      (∀ n < 64, n ∈ s.lockSlots → 1 ≤ srcPath (s.lockOwner n) → srcPath (s.lockOwner n) ≤ 3 → u.reg (0x0210 + n) 0 = 0) ∧
      u = { s.at t with regs := u.regs, agenda := u.agenda, cmdStat := u.cmdStat, log := u.log, alm := { s.alm with head := u.alm.head }, locks := u.locks, host := u.host }) ∧
  (∀ (s : State) (t : Nat),
    s.devState ≠ 0 →
    ∃ u, exec (.linkDown t) s = .next u ∧
      u.reg 0x1000 0 = 0 ∧
      u.reg 0x1000 1 = 0 ∧
      u.reg 0x1000 2 = 0 ∧
      u.reg 0x1000 8 = s.reg 0x1000 8 + 1 ∧
      (2 ≤ s.devState → u.host = HostSt.idle (s.host.gen + 1) ∧ u.reg 0x0600 7 0 = s.reg 0x0600 7 0 + 1) ∧
      (s.devState = 1 → u.host = s.host) ∧
      u = { s.at t with regs := u.regs, agenda := u.agenda, cmdStat := u.cmdStat, log := u.log, faults := u.faults, alm := { s.alm with head := u.alm.head }, locks := u.locks, host := u.host }) ∧
  (∀ (s : State) (m : Fin 8) (v : BitVec 64) (e : Env) (t : Nat),
    (s.carries = false ∨ ((s.mbx m).state ≠ 1 ∧ v.toNat % 2 ^ 40 ≠ 1)) →
    exec (.mbGo m v e t) s = .next { s.at t with host := { s.host with read := 0, dma := [] } }) ∧
  (∀ (s : State) (m : Fin 8) (t : Nat),
    (s.mbx m).answer = none →
    exec (.mbDone m t) s = .next { s.at t with host := { s.host with read := 0, dma := [] } }) ∧
  (∀ (s : State) (m : Fin 8) (e : Env) (t : Nat),
    s.carries = true →
    (s.mbx m).state ≠ 1 →
    (fld (s.mbx m).cmd 36 4 = 0 ∨ 3 < fld (s.mbx m).cmd 36 4 ∨ fld (s.mbx m).cmd 24 3 ≠ 0 ∨ fld (s.mbx m).range 0 4 ≠ 0 ∨ fld (s.mbx m).target 25 15 ≠ 0) →
    exec (.mbGo m 1 e t) s = .next (({ s.at t with host := { s.host with read := 0, dma := [] }, agenda := s.agenda ++ [.mbDone m ((s.at t).clock)] } : State).onMbx m (fun x => { x with state := 1, answer := some ⟨4, 0, []⟩ }))) ∧
  (∀ (s : State) (m : Fin 8) (t : Nat) (a : OdReply),
    (s.mbx m).answer = some a →
    bit (s.mbx m).irq 6 = true →
    ∃ u, exec (.mbDone m t) s = .next u ∧
      (u.mbx m).state = 2 ∧
      (u.mbx m).answer = none ∧
      (∀ k < 8, k ≠ m.val → u.mbx k = s.mbx k) ∧
      u = { s.at t with agenda := s.agenda ++ [.msixSend (Fin.ofNat 64 (fld (s.mbx m).irq 0 6)) ((s.at t).clock)], host := { s.host with mailboxes := u.host.mailboxes, read := 0, dma := [] } }) ∧
  (∀ (s : State) (m : Fin 8) (o half v : Nat) (t : Nat),
    s.carries = true →
    (s.mbx m).state ≠ 1 →
    o ∈ [0, 8, 16, 0x30] →
    half < 2 →
    ∃ u, exec (.registerWrite (.bar0 (0x1000000 + 0x4000 * m + o + 4 * half) 4 v) t) s = .next u ∧
      (if o = 0 then (u.mbx m).cmd else if o = 8 then (u.mbx m).range else if o = 16 then (u.mbx m).target else (u.mbx m).irq) = (fun old : Word => if half = 0 then wd (old.toNat / 2 ^ 32 * 2 ^ 32 + v % 2 ^ 32) else wd (old.toNat % 2 ^ 32 + v % 2 ^ 32 * 2 ^ 32)) (if o = 0 then (s.mbx m).cmd else if o = 8 then (s.mbx m).range else if o = 16 then (s.mbx m).target else (s.mbx m).irq) ∧
      u.mbx m = { s.mbx m with cmd := (u.mbx m).cmd, range := (u.mbx m).range, target := (u.mbx m).target, irq := (u.mbx m).irq } ∧
      (∀ k < 8, k ≠ m.val → u.mbx k = s.mbx k) ∧
      u = { s.at t with host := { s.host with mailboxes := u.host.mailboxes, read := 0, dma := [] } }) ∧
  (∀ (s : State) (m : Fin 8) (o v : Nat) (t : Nat),
    s.carries = true →
    (s.mbx m).state ≠ 1 →
    o ∈ [8, 16, 0x30] →
    v < 2 ^ 40 →
    ∃ u, exec (.registerWrite (.bar0 (0x1000000 + 0x4000 * m + o) 8 v) t) s = .next u ∧
      u.mbx m = (if o = 8 then { s.mbx m with range := wd v } else if o = 16 then { s.mbx m with target := wd v } else { s.mbx m with irq := wd v }) ∧
      (∀ k < 8, k ≠ m.val → u.mbx k = s.mbx k) ∧
      u = { s.at t with host := { s.host with mailboxes := u.host.mailboxes, read := 0, dma := [] } }) ∧
  (∀ (s : State) (m : Fin 8) (k v : Nat) (t : Nat),
    s.carries = true →
    (s.mbx m).state ≠ 1 →
    k < 1024 →
    ∃ u, exec (.registerWrite (.bar0 (0x1000000 + 0x4000 * m + 0x40 + 8 * k) 8 v) t) s = .next u ∧
      (∀ j < 1024, SMap.get (fun _ => 0) (u.mbx m).data j = if j = k then wd v else SMap.get (fun _ => 0) (s.mbx m).data j) ∧
      u.mbx m = { s.mbx m with data := (u.mbx m).data } ∧
      (∀ k < 8, k ≠ m.val → u.mbx k = s.mbx k) ∧
      u = { s.at t with host := { s.host with mailboxes := u.host.mailboxes, read := 0, dma := [] } }) ∧
  (∀ (s : State) (m : Fin 8) (o v : Nat) (t : Nat),
    s.carries = true →
    (s.mbx m).state ≠ 1 →
    (o = 0x20 ∨ o = 0x28) →
    exec (.registerWrite (.bar0 (0x1000000 + 0x4000 * m + o) 8 v) t) s = .next { s.at t with host := { s.host with read := 0, dma := [] } }) ∧
  (∀ (s : State) (m : Fin 8) (o v : Nat) (t : Nat),
    s.carries = true →
    (s.mbx m).state = 1 →
    (o < 0x38 ∨ (0x40 ≤ o ∧ o < 0x2040)) →
    o % 4 = 0 →
    exec (.registerWrite (.bar0 (0x1000000 + 0x4000 * m + o) 4 v) t) s = .next ({ s.at t with host := { s.host with read := 0, dma := [] } }.addReg 0x1000 5 1)) ∧
  (∀ (s : State) (r : Fin 64) (half v : Nat) (t : Nat),
    s.carries = true →
    (s.ring r).state = 0 →
    half < 2 →
    ∃ u, exec (.registerWrite (.bar0 (0x1020000 + 0x100 * r + 8 * half) 8 v) t) s = .next u ∧
      u.ring r = (if half = 0 then { s.ring r with desc := v, half := none } else { s.ring r with cpl := v, half := none }) ∧
      (∀ k < 64, k ≠ r.val → u.ring k = s.ring k) ∧
      u = { s.at t with host := { s.host with rings := u.host.rings, read := 0, dma := [] } }) ∧
  (∀ (s : State) (r : Fin 64) (v : Nat) (t : Nat),
    s.carries = true →
    v < (s.ring r).entries →
    ∃ u, exec (.registerWrite (.bar0 (0x1020018 + 0x100 * r) 4 v) t) s = .next u ∧
      u.ring r = { s.ring r with head := v } ∧
      (∀ k < 64, k ≠ r.val → u.ring k = s.ring k) ∧
      u = { s.at t with host := { s.host with rings := u.host.rings, read := 0, dma := [] } }) ∧
  (∀ (s : State) (k v : Nat) (t : Nat),
    s.carries = true →
    k < 256 →
    s.host.pendingBits = [] →
    ∃ u, exec (.registerWrite (.bar0 (0x1040000 + 4 * k) 4 v) t) s = .next u ∧
      (∀ j < 256, u.msixDword j = if j = k then v % 2 ^ 32 else s.msixDword j) ∧
      u = { s.at t with host := { s.host with msix := u.host.msix, read := 0, dma := [] } }) ∧
  (∀ (s : State) (v : Nat) (t : Nat),
    s.carries = true →
    exec (.registerWrite (.bar0 0x100 4 v) t) s = .next { s.at t with host := { s.host with resCtx := v % 2 ^ 20, read := 0, dma := [] } }) ∧
  (∀ (s : State) (t : Nat),
    s.carries = true →
    exec (.registerWrite .poisoned t) s = .next ({ s.at t with host := { s.host with read := 0, dma := [] } }.addReg 0x1000 6 1)) ∧
  (∀ (s : State) (b i f : Bool) (t : Nat),
    s.carries = true →
    ∃ u, exec (.registerWrite (.function b i f) t) s = .next u ∧
      u = { s.at t with agenda := u.agenda, host := { s.host with busMaster := b, msixEnable := i, functionMask := f, read := 0, dma := [] } } ∧
      s.agenda <+: u.agenda ∧
      (∀ v ∈ s.host.pendingBits, u.vectorOpen v = true → Instr.msixSend (Fin.ofNat 64 v) ((s.at t).clock) ∈ u.agenda)) ∧
  (∀ (s : State) (reg : Fin 64) (v : BitVec 8) (t : Nat),
    s.carries = true →
    (reg = 0x0A ∨ reg = 0x1D) →
    exec (.registerWrite (.service reg v) t) s = .next { s.at t with svc := if reg = 0x0A then { s.svc with mask := v.toNat % 16 } else { s.svc with flags := v.toNat % 2 } }) ∧
  (∀ (s : State) (k : Fin 5) (v : BitVec 8) (t : Nat),
    s.carries = true →
    ∃ u, exec (.registerWrite (.service (Fin.ofNat 64 (0x10 + k)) v) t) s = .next u ∧
      (∀ j < 5, fld u.svc.cmd (8 * (4 - j)) 8 = if j = k.val then v.toNat else fld s.svc.cmd (8 * (4 - j)) 8) ∧
      u = { s.at t with svc := { s.svc with cmd := u.svc.cmd } }) ∧
  (∀ (s : State) (o size v : Nat) (b i f : Bool) (w : RegWrite) (t : Nat),
    s.carries = false →
    (w = .poisoned ∨ w = .bar0 o size v ∨ w = .function b i f) →
    exec (.registerWrite w t) s = .next { s.at t with host := { s.host with read := 0, dma := [] } }) ∧
  (∀ (s : State) (reg : Fin 64) (v : BitVec 8) (t : Nat),
    (s.carries = false ∨ 0x2C ≤ reg.val) →
    exec (.registerWrite (.service reg v) t) s = .next (s.at t))

/-- O35 (derived, 13, R396, R397, R398, R400, R401, R402). A ring is enabled, fetches what HEAD offers, completes in order with its
phase bit, ends in ERROR on a failed access, and is disabled. -/
def Obligations.RingsRun : Prop :=
  (∀ (s : State) (r : Fin 64) (v : BitVec 32) (t : Nat),
    s.carries = true →
    (s.ring r).state = 0 →
    4 ≤ v.toNat >>> 16 % 32 →
    v.toNat >>> 16 % 32 ≤ 16 →
    ∃ u, exec (.ringEnable r v t) s = .next u ∧
      (u.ring r).state = 1 ∧
      (u.ring r).size = v.toNat >>> 16 % 32 ∧
      (u.ring r).head = 0 ∧
      (u.ring r).tail = 0 ∧
      (u.ring r).phase = true ∧
      (u.ring r).prog = [] ∧
      (u.ring r).done = [] ∧
      (u.ring r).desc = (s.ring r).desc ∧
      (u.ring r).cpl = (s.ring r).cpl ∧
      (∀ k < 64, k ≠ r.val → u.ring k = s.ring k) ∧
      u = { s.at t with host := { s.host with rings := u.host.rings, read := 0, dma := [] } }) ∧
  (∀ (s : State) (r : Fin 64) (v : BitVec 32) (t : Nat),
    s.carries = true →
    ((s.ring r).state ≠ 0 ∨ v.toNat >>> 16 % 32 < 4 ∨ 16 < v.toNat >>> 16 % 32) →
    exec (.ringEnable r v t) s = .next ({ s.at t with host := { s.host with read := 0, dma := [] } }.addReg 0x1000 5 1)) ∧
  (∀ (s : State) (r : Fin 64) (t : Nat),
    s.carries = true →
    ((s.ring r).state ≠ 1 ∨ ((s.ring r).prog.takeWhile (fun d => d.begun) = [] ∧ (s.ring r).done = [])) →
    ∃ u, exec (.ringDisable r t) s = .next u ∧
      u.ring r = { s.ring r with state := 0, abort := 0, stopping := false, prog := [], done := [] } ∧
      (∀ k < 64, k ≠ r.val → u.ring k = s.ring k) ∧
      u = { s.at t with host := { s.host with rings := u.host.rings, read := 0, dma := [] } }) ∧
  (∀ (s : State) (r : Fin 64) (t : Nat),
    s.carries = true →
    (s.ring r).state = 1 →
    ((s.ring r).prog.takeWhile (fun d => d.begun) ≠ [] ∨ (s.ring r).done ≠ []) →
    ∃ u, exec (.ringDisable r t) s = .next u ∧
      u.ring r = { s.ring r with stopping := true, prog := (s.ring r).prog.takeWhile (fun d => d.begun) } ∧
      (∀ k < 64, k ≠ r.val → u.ring k = s.ring k) ∧
      u = { s.at t with host := { s.host with rings := u.host.rings, read := 0, dma := [] } }) ∧
  (∀ (s : State) (r : Fin 64) (v : BitVec 32) (t : Nat),
    s.carries = true →
    v.toNat < (s.ring r).entries →
    ∃ u, exec (.headDoorbell r v t) s = .next u ∧
      u.ring r = { s.ring r with head := v.toNat } ∧
      (∀ k < 64, k ≠ r.val → u.ring k = s.ring k) ∧
      u = { s.at t with host := { s.host with rings := u.host.rings, read := 0, dma := [] } }) ∧
  (∀ (s : State) (r : Fin 64) (v : BitVec 32) (t : Nat),
    s.carries = true →
    (s.ring r).entries ≤ v.toNat →
    exec (.headDoorbell r v t) s = .next ({ s.at t with host := { s.host with read := 0, dma := [] } }.addReg 0x1000 5 1)) ∧
  (∀ (s : State) (r : Fin 64) (ds : List (List (BitVec 64))) (t : Nat),
    (s.ring r).state = 1 →
    (s.ring r).stopping = false →
    (s.ring r).prog = [] →
    ds.length ≤ 16 →
    ds.length = ((s.ring r).head + (s.ring r).entries - (s.ring r).fetched) % (s.ring r).entries →
    (∀ d ∈ ds, (⟨0, d.map BitVec.toNat, 0, 0, false, false, false⟩ : Desc).invalid = false) →
    ∃ u, exec (.descriptorFetch r ds t) s = .next u ∧
      (u.ring r).prog.map (fun d => d.d) = ds.map (fun d => d.map BitVec.toNat) ∧
      (u.ring r).fetched = ((s.ring r).fetched + ds.length) % (s.ring r).entries ∧
      (∀ k < 64, k ≠ r.val → u.ring k = s.ring k) ∧
      u = { s.at t with host := { s.host with rings := u.host.rings, read := 0, dma := [] } }) ∧
  (∀ (s : State) (r : Fin 64) (t : Nat) (d : Desc) (ds : List Desc),
    (s.ring r).state = 1 →
    (s.ring r).prog = d :: ds →
    d.op = 5 →
    d.out = false →
    d.bad = false →
    (d.bits 0 45 1 = 0 ∨ (s.ring r).done = []) →
    (∀ e ∈ ds, e.invalid = false ∧ e.bad = false) →
    ∃ u, exec (.g3Nop r t) s = .next u ∧
      (u.ring r).prog.map (fun e => e.d) = ds.map (fun e => e.d) ∧
      (u.ring r).done = (s.ring r).done ++ [⟨d.idx, d.bits 0 0 16, 0, false, 0, 0, d.bits 0 46 1 == 1⟩] ∧
      (∀ k < 64, k ≠ r.val → u.ring k = s.ring k) ∧
      u = { s.at t with agenda := s.agenda ++ [.g3Completion r ((s.at t).clock)], host := { s.host with rings := u.host.rings, read := 0, dma := [] } }) ∧
  (∀ (s : State) (r : Fin 64) (t : Nat) (c : Cpl) (cs : List Cpl),
    (s.ring r).done = c :: cs →
    (s.ring r).stopping = false →
    c.irq = false →
    ∃ u, exec (.g3Completion r t) s = .next u ∧
      u.host.dma = [((s.ring r).cpl / 16 * 16 + 16 * c.idx, b2n (s.ring r).phase * 2 ^ 63 + b2n c.blocked * 2 ^ 62 + c.abort * 2 ^ 32 + c.tag * 2 ^ 16 + c.idx), ((s.ring r).cpl / 16 * 16 + 16 * c.idx + 8, c.epoch * 2 ^ 32 + c.count)] ∧
      u.ring r = { s.ring r with done := cs, tail := (c.idx + 1) % (s.ring r).entries, phase := (s.ring r).phase != decide ((s.ring r).entries ≤ c.idx + 1) } ∧
      (∀ k < 64, k ≠ r.val → u.ring k = s.ring k) ∧
      u = { s.at t with host := { s.host with rings := u.host.rings, read := 0, dma := u.host.dma } }) ∧
  (∀ (s : State) (r : Fin 64) (t : Nat) (c : Cpl),
    (s.ring r).done = [c] →
    (s.ring r).stopping = true →
    (s.ring r).prog = [] →
    c.irq = true →
    (s.ring r).vecOn = true →
    ∃ u, exec (.g3Completion r t) s = .next u ∧
      (u.ring r).state = 0 ∧
      (u.ring r).stopping = false ∧
      (u.ring r).done = [] ∧
      (u.ring r).tail = (c.idx + 1) % (s.ring r).entries ∧
      (∀ k < 64, k ≠ r.val → u.ring k = s.ring k) ∧
      u = { s.at t with agenda := s.agenda ++ [.msixSend (Fin.ofNat 64 (s.ring r).vec) ((s.at t).clock)], host := { s.host with rings := u.host.rings, read := 0, dma := u.host.dma } }) ∧
  (∀ (s : State) (r : Fin 64) (v : BitVec 32) (t : Nat) (c : Instr),
    s.carries = false →
    (c = .ringEnable r v t ∨ c = .ringDisable r t ∨ c = .headDoorbell r v t) →
    exec c s = .next { s.at t with host := { s.host with read := 0, dma := [] } }) ∧
  (∀ (s : State) (r : Fin 64) (ds : List (List (BitVec 64))) (t : Nat),
    ((s.ring r).state ≠ 1 ∨ (s.ring r).stopping = true) →
    exec (.descriptorFetch r ds t) s = .next { s.at t with host := { s.host with read := 0, dma := [] } }) ∧
  (∀ (s : State) (r : Fin 64) (t : Nat),
    (s.ring r).done = [] →
    exec (.g3Completion r t) s = .next { s.at t with host := { s.host with read := 0, dma := [] } }) ∧
  (∀ (s : State) (r : Fin 64) (t : Nat),
    ((s.ring r).state = 0 ∨ (s.ring r).prog = []) →
    exec (.g3Nop r t) s = .next { s.at t with host := { s.host with read := 0, dma := [] } }) ∧
  (∀ (s : State) (r : Fin 64) (d : List (BitVec 64)) (t : Nat),
    (s.ring r).state = 1 →
    (s.ring r).stopping = false →
    (s.ring r).prog = [] →
    0 < ((s.ring r).head + (s.ring r).entries - (s.ring r).fetched) % (s.ring r).entries →
    (⟨0, d.map BitVec.toNat, 0, 0, false, false, false⟩ : Desc).invalid = true →
    ∃ u, exec (.descriptorFetch r [d] t) s = .next u ∧
      (u.ring r).prog = [] ∧
      (u.ring r).done.length = (s.ring r).done.length + 1 ∧
      (u.ring r).done.getLast?.map (fun c => (c.idx, c.abort, c.count)) = some ((s.ring r).fetched % (s.ring r).entries, 0x68, 0) ∧
      (u.ring r).fetched = ((s.ring r).fetched + 1) % (s.ring r).entries ∧
      (∀ k < 64, k ≠ r.val → u.ring k = s.ring k) ∧
      u = { s.at t with agenda := s.agenda ++ [.g3Completion r ((s.at t).clock)], host := { s.host with rings := u.host.rings, read := 0, dma := [] } }) ∧
  (∀ (s : State) (r : Fin 64) (a : BitVec 64) (t : Nat),
    (s.ring r).state = 1 →
    (s.ring r).readyAt a.toNat = none →
    ∃ u, exec (.dmaError r a t) s = .next u ∧
      (u.ring r).state = 2 ∧
      (u.ring r).abort = 0x69 ∧
      (u.ring r).prog = [] ∧
      (u.ring r).done = (s.ring r).done ++ (match (s.ring r).prog with | [] => [] | d :: _ => [⟨d.idx, d.bits 0 0 16, 0x69, false, 0, 0, d.bits 0 46 1 == 1⟩]) ∧
      (∀ k < 64, k ≠ r.val → u.ring k = s.ring k) ∧
      u = { s.at t with regs := u.regs, agenda := u.agenda, log := u.log, host := { s.host with rings := u.host.rings, read := 0, dma := [] } } ∧
      SameRegs s u [odKey 0x0500 6 0, odKey 0x0500 7 0]) ∧
  (∀ (s : State) (r : Fin 64) (a : BitVec 64) (t i : Nat),
    (s.ring r).state = 1 →
    (s.ring r).prog = [] →
    (s.ring r).readyAt a.toNat = some i →
    ∃ u, exec (.dmaError r a t) s = .next u ∧
      (u.ring r).state = 2 ∧
      (u.ring r).abort = 0x69 ∧
      (u.ring r).prog = [] ∧
      (u.ring r).done = (s.ring r).done ++ [⟨i, 0, 0x69, false, 0, 0, false⟩] ∧
      (∀ k < 64, k ≠ r.val → u.ring k = s.ring k) ∧
      u = { s.at t with regs := u.regs, agenda := u.agenda, log := u.log, host := { s.host with rings := u.host.rings, read := 0, dma := [] } } ∧
      SameRegs s u [odKey 0x0500 6 0, odKey 0x0500 7 0]) ∧
  (∀ (s : State) (r : Fin 64) (a : BitVec 64) (t : Nat),
    (s.ring r).state ≠ 1 →
    exec (.dmaError r a t) s = .next { s.at t with host := { s.host with read := 0, dma := [] } }) ∧
  (∀ (s : State) (r : Fin 64) (a : BitVec 64) (t : Nat),
    (s.ring r).state = 1 →
    (s.ring r).readyAt a.toNat = none →
    ∃ u, exec (.dmaTimeout r a t) s = .next u ∧
      (u.ring r).state = 2 ∧
      (u.ring r).abort = 0x69 ∧
      (u.ring r).prog = [] ∧
      (u.ring r).done = (s.ring r).done ++ (match (s.ring r).prog with | [] => [] | d :: _ => [⟨d.idx, d.bits 0 0 16, 0x69, false, 0, 0, d.bits 0 46 1 == 1⟩]) ∧
      (∀ k < 64, k ≠ r.val → u.ring k = s.ring k) ∧
      u = { s.at t with regs := u.regs, agenda := u.agenda, log := u.log, host := { s.host with rings := u.host.rings, read := 0, dma := [] } } ∧
      SameRegs s u [odKey 0x0500 6 0, odKey 0x0500 7 0]) ∧
  (∀ (s : State) (r : Fin 64) (a : BitVec 64) (t i : Nat),
    (s.ring r).state = 1 →
    (s.ring r).prog = [] →
    (s.ring r).readyAt a.toNat = some i →
    ∃ u, exec (.dmaTimeout r a t) s = .next u ∧
      (u.ring r).state = 2 ∧
      (u.ring r).abort = 0x69 ∧
      (u.ring r).prog = [] ∧
      (u.ring r).done = (s.ring r).done ++ [⟨i, 0, 0x69, false, 0, 0, false⟩] ∧
      (∀ k < 64, k ≠ r.val → u.ring k = s.ring k) ∧
      u = { s.at t with regs := u.regs, agenda := u.agenda, log := u.log, host := { s.host with rings := u.host.rings, read := 0, dma := [] } } ∧
      SameRegs s u [odKey 0x0500 6 0, odKey 0x0500 7 0]) ∧
  (∀ (s : State) (r : Fin 64) (a : BitVec 64) (t : Nat),
    (s.ring r).state ≠ 1 →
    exec (.dmaTimeout r a t) s = .next { s.at t with host := { s.host with read := 0, dma := [] } })

/-- O36 (derived, 13, R383, R397, R398, R399, R400, R319). READ and DESCRIBE of a ring put the words in the buffer, WRITE writes them
to the object, STREAM pops cells; each completes with its count. -/
def Obligations.RingDescriptorsAct : Prop :=
  (∀ (s : State) (r : Fin 64) (v : Env) (t i sub : Nat) (d : Desc) (ds : List Desc),
    (s.ring r).state = 1 →
    (s.ring r).prog = d :: ds →
    d.op = 1 ∧ d.out = false ∧ d.bad = false →
    (d.bits 0 45 1 = 0 ∨ (s.ring r).done = []) →
    d.remote = false →
    d.bits 0 55 1 = 0 →
    (∀ e ∈ ds, e.invalid = false ∧ e.bad = false) →
    d.bits 1 48 16 = i →
    d.bits 1 40 8 = sub →
    8 * d.count ≤ d.len →
    s.gives ⟨sourceOf 3 r s.ownDevice, none⟩ i sub (d.bits 1 12 26) d.count t = true →
    ∃ u, exec (.g3Read r v t) s = .next u ∧
      u.host.dma = bufferWords (d.f 3) (s.wordsOf (sourceOf 3 r s.ownDevice) i sub (d.bits 1 12 26) d.count) ∧
      (u.ring r).prog.map (fun e => e.d) = ds.map (fun e => e.d) ∧
      (u.ring r).done = (s.ring r).done ++ [⟨d.idx, d.bits 0 0 16, 0, false, 0, d.count, d.bits 0 46 1 == 1⟩] ∧
      (∀ k < 64, k ≠ r.val → u.ring k = s.ring k) ∧
      u = { s.at t with agenda := s.agenda ++ [.g3Completion r ((s.at t).clock)], host := { s.host with rings := u.host.rings, read := 0, dma := u.host.dma } }) ∧
  (∀ (s : State) (r : Fin 64) (v : Env) (t : Nat) (d : Desc) (ds : List Desc),
    (s.ring r).state = 1 →
    (s.ring r).prog = d :: ds →
    d.op = 1 ∧ d.out = false ∧ d.bad = false →
    (d.bits 0 45 1 = 0 ∨ (s.ring r).done = []) →
    d.len < 8 * d.count →
    (∀ e ∈ ds, e.invalid = false ∧ e.bad = false) →
    ∃ u, exec (.g3Read r v t) s = .next u ∧
      (u.ring r).done = (s.ring r).done ++ [⟨d.idx, d.bits 0 0 16, 0x6A, false, 0, 0, d.bits 0 46 1 == 1⟩] ∧
      u.host.dma = [] ∧
      (∀ k < 64, k ≠ r.val → u.ring k = s.ring k) ∧
      u = { s.at t with agenda := s.agenda ++ [.g3Completion r ((s.at t).clock)], host := { s.host with rings := u.host.rings, read := 0, dma := [] } }) ∧
  (∀ (s : State) (r : Fin 64) (t i sub : Nat) (d : Desc) (ds : List Desc) (x : Obj),
    (s.ring r).state = 1 →
    (s.ring r).prog = d :: ds →
    d.op = 3 ∧ d.out = false ∧ d.bad = false →
    (d.bits 0 45 1 = 0 ∨ (s.ring r).done = []) →
    d.remote = false →
    d.bits 0 55 1 = 0 →
    (∀ e ∈ ds, e.invalid = false ∧ e.bad = false) →
    d.bits 1 48 16 = i →
    d.bits 1 40 8 = sub →
    s.carries = true →
    odFind i sub = some x →
    (s.at t).firstChecks (mkTx ⟨sourceOf 3 r s.ownDevice, none⟩ .describe i sub 0 0 [] .here) [] = (0, 0) →
    8 * (s.describeWords x i sub).length ≤ d.len →
    ∃ u, exec (.g3Describe r t) s = .next u ∧
      u.host.dma = bufferWords (d.f 3) (s.describeWords x i sub) ∧
      (u.ring r).prog.map (fun e => e.d) = ds.map (fun e => e.d) ∧
      (u.ring r).done = (s.ring r).done ++ [⟨d.idx, d.bits 0 0 16, 0, false, 0, (s.describeWords x i sub).length, d.bits 0 46 1 == 1⟩] ∧
      (∀ k < 64, k ≠ r.val → u.ring k = s.ring k) ∧
      u = { s.at t with agenda := s.agenda ++ [.g3Completion r ((s.at t).clock)], host := { s.host with rings := u.host.rings, read := 0, dma := u.host.dma } }) ∧
  (∀ (s : State) (r : Fin 64) (t i sub : Nat) (w : BitVec 64) (d : Desc) (ds : List Desc) (x : Obj),
    (s.ring r).state = 1 →
    (s.ring r).prog = d :: ds →
    d.op = 2 ∧ d.out = false ∧ d.bad = false →
    (d.bits 0 45 1 = 0 ∨ (s.ring r).done = []) →
    d.remote = false →
    d.bits 0 55 1 = 0 →
    (∀ e ∈ ds, e.invalid = false ∧ e.bad = false) →
    d.bits 1 48 16 = i →
    d.bits 1 40 8 = sub →
    odFind i sub = some x →
    x.words = 1 →
    x.hook = .none →
    x.acc ≠ .cmd →
    (x.eff = .imm ∨ x.eff = .shadow) →
    d.count = 1 →
    8 ≤ d.len →
    d.bits 1 12 26 = 0 →
    s.takes ⟨sourceOf 3 r s.ownDevice, none⟩ i sub 0 [wd w.toNat] Env.calm t = true →
    ∃ u, exec (.g3Write r [w] Env.calm t) s = .next u ∧
      u.reg i sub = wd w.toNat ∧
      u.reg 0x0400 1 = s.reg 0x0400 1 + 1 ∧
      u.alm.head.length = s.alm.head.length + 1 ∧
      (u.ring r).prog.map (fun e => e.d) = ds.map (fun e => e.d) ∧
      (u.ring r).done = (s.ring r).done ++ [⟨d.idx, d.bits 0 0 16, 0, false, 0, 1, d.bits 0 46 1 == 1⟩] ∧
      (∀ k < 64, k ≠ r.val → u.ring k = s.ring k) ∧
      u = { s.at t with regs := u.regs, alm := { s.alm with head := u.alm.head }, agenda := s.agenda ++ [.g3Completion r ((s.at t).clock)], host := { s.host with rings := u.host.rings, read := 0, dma := [] } } ∧
      SameRegs s u (odKey i sub 0 :: journalKeys)) ∧
  (∀ (s : State) (r : Fin 64) (t : Nat) (q : Fin 65536) (c : QCell) (cs : List QCell) (d : Desc) (ds : List Desc),
    (s.ring r).state = 1 →
    (s.ring r).prog = d :: ds →
    d.op = 4 ∧ d.out = false ∧ d.bad = false →
    (d.bits 0 45 1 = 0 ∨ (s.ring r).done = []) →
    d.remote = false →
    d.bits 0 55 1 = 0 →
    (∀ e ∈ ds, e.invalid = false ∧ e.bad = false) →
    s.carries = true →
    d.invalid = false →
    d.bits 1 12 26 = 1024 * q →
    d.count = 1 →
    64 ≤ d.len →
    d.cells = 0 →
    s.alm.held = [] →
    ((s.at t).firstChecks (mkTx ⟨sourceOf 3 r s.ownDevice, none⟩ .read 0x7001 0 (1024 * q) 8 [] .here) []).1 = 0 →
    (s.queue q).opens = [] →
    (s.queue q).cells = c :: cs →
    c.onChip = true →
    (parityBad c.line = false ∨ linePoison c.line = true) →
    ∃ u, exec (.g3Stream r Env.calm t) s = .next u ∧
      u.host.dma = bufferWords (d.f 3) (slotWords c.line (wd (2 ^ 39 + b2n c.first * 2 ^ 38 + b2n c.last * 2 ^ 37 + c.num % 2 ^ 32))) ∧
      (u.ring r).prog.map (fun e => e.d) = ds.map (fun e => e.d) ∧
      (u.ring r).done = (s.ring r).done ++ [⟨d.idx, d.bits 0 0 16, 0, false, 0, 1, d.bits 0 46 1 == 1⟩] ∧
      u.queue q = { s.queue q with cells := cs } ∧
      (∀ k < 65536, k ≠ q.val → u.queue k = s.queue k) ∧
      (∀ k < 64, k ≠ r.val → u.ring k = s.ring k) ∧
      u = { s.at t with queues := u.queues, agenda := s.agenda ++ [.g3Completion r ((s.at t).clock)], host := { s.host with rings := u.host.rings, read := 0, dma := u.host.dma } }) ∧
  (∀ (s : State) (r : Fin 64) (t : Nat) (q : Fin 65536) (d : Desc) (ds : List Desc),
    (s.ring r).state = 1 →
    (s.ring r).prog = d :: ds →
    d.op = 4 ∧ d.out = false ∧ d.bad = false →
    (d.bits 0 45 1 = 0 ∨ (s.ring r).done = []) →
    d.remote = false →
    d.bits 0 55 1 = 0 →
    (∀ e ∈ ds, e.invalid = false ∧ e.bad = false) →
    s.carries = true →
    d.invalid = false →
    d.bits 1 12 26 = 1024 * q →
    d.cells < d.count →
    64 * (d.cells + 1) ≤ d.len →
    s.alm.held = [] →
    ((s.at t).firstChecks (mkTx ⟨sourceOf 3 r s.ownDevice, none⟩ .read 0x7001 0 (1024 * q) (8 * min 128 (min (d.count - d.cells) (d.len / 64 - d.cells))) [] .here) []).1 = 0 →
    (s.queue q).opens = [] →
    (s.queue q).cells = [] →
    d.since + usEt (d.bits 4 32 32) ≤ (s.at t).clock →
    ∃ u, exec (.streamWaitTimeout r t) s = .next u ∧
      u.host.dma = [] ∧
      (u.ring r).prog.map (fun e => e.d) = ds.map (fun e => e.d) ∧
      (u.ring r).done = (s.ring r).done ++ [⟨d.idx, d.bits 0 0 16, 0, false, 0, d.cells, d.bits 0 46 1 == 1⟩] ∧
      (∀ k < 64, k ≠ r.val → u.ring k = s.ring k) ∧
      u = { s.at t with agenda := s.agenda ++ [.g3Completion r ((s.at t).clock)], host := { s.host with rings := u.host.rings, read := 0, dma := [] } }) ∧
  (∀ (s : State) (r : Fin 64) (e : Env) (b : List (BitVec 64)) (t : Nat) (c : Instr),
    c ∈ [.g3Read r e t, .g3Write r b e t, .g3Describe r t, .g3Stream r e t, .streamWaitTimeout r t] →
    ((s.ring r).state = 0 ∨ (s.ring r).prog = []) →
    exec c s = .next { s.at t with host := { s.host with read := 0, dma := [] } }) ∧
  (∀ (s : State) (r : Fin 64) (b : List (BitVec 64)) (e : Env) (t : Nat) (d : Desc) (ds : List Desc),
    (s.ring r).state = 1 →
    (s.ring r).prog = d :: ds →
    d.op = 2 ∧ d.out = false ∧ d.bad = false →
    (d.bits 0 45 1 = 0 ∨ (s.ring r).done = []) →
    d.len < 8 * d.count →
    (∀ e ∈ ds, e.invalid = false ∧ e.bad = false) →
    ∃ u, exec (.g3Write r b e t) s = .next u ∧
      (u.ring r).done = (s.ring r).done ++ [⟨d.idx, d.bits 0 0 16, 0x6A, false, 0, 0, d.bits 0 46 1 == 1⟩] ∧
      (∀ k < 64, k ≠ r.val → u.ring k = s.ring k) ∧
      u = { s.at t with agenda := s.agenda ++ [.g3Completion r ((s.at t).clock)], host := { s.host with rings := u.host.rings, read := 0, dma := [] } }) ∧
  (∀ (s : State) (r : Fin 64) (t : Nat) (b : List (BitVec 64)) (e : Env) (d : Desc) (ds : List Desc) (c : Instr),
    (s.ring r).state = 1 →
    (s.ring r).prog = d :: ds →
    (d.op, c) ∈ [(1, .g3Read r e t), (2, .g3Write r b e t), (3, .g3Describe r t), (4, .g3Stream r e t)] →
    d.out = false ∧ d.bad = false ∧ d.remote = true →
    (d.bits 0 45 1 = 0 ∨ (s.ring r).done = []) →
    (d.op = 3 ∨ 8 * d.count ≤ d.len) →
    64 ≤ d.len →
    (s.bootEarly = true ∨ s.ownDevice = 0xFFFFFD) →
    (∀ e ∈ ds, e.invalid = false ∧ e.bad = false) →
    ∃ u, exec c s = .next u ∧
      (u.ring r).prog.map (fun e => e.d) = ds.map (fun e => e.d) ∧
      (u.ring r).done = (s.ring r).done ++ [⟨d.idx, d.bits 0 0 16, if s.bootEarly = true then 7 else 0x65, false, 0, if d.op = 4 then d.cells else 0, d.bits 0 46 1 == 1⟩] ∧
      (∀ k < 64, k ≠ r.val → u.ring k = s.ring k) ∧
      u = { s.at t with agenda := s.agenda ++ [.g3Completion r ((s.at t).clock)], host := { s.host with rings := u.host.rings, read := 0, dma := [] } }) ∧
  (∀ (s : State) (r : Fin 64) (t : Nat) (e : Env) (d : Desc) (ds : List Desc),
    (s.ring r).state = 1 →
    (s.ring r).prog = d :: ds →
    d.op = 1 ∧ d.out = false ∧ d.bad = false ∧ d.remote = true →
    d.bits 0 55 1 = 0 →
    (d.bits 0 45 1 = 0 ∨ (s.ring r).done = []) →
    8 * d.count ≤ d.len →
    s.bootEarly = false →
    s.ownDevice ≠ 0xFFFFFD →
    (s.target (targetKey (d.bits 0 16 24) none)).out.length = 16 →
    ∃ u, exec (.g3Read r e t) s = .next u ∧
      (u.ring r).prog.map (fun e => (e.d, e.out)) = (d.d, true) :: ds.map (fun e => (e.d, e.out)) ∧
      (u.target (targetKey (d.bits 0 16 24) none)).waiting.length = (s.target (targetKey (d.bits 0 16 24) none)).waiting.length + 1 ∧
      (u.target (targetKey (d.bits 0 16 24) none)).out = (s.target (targetKey (d.bits 0 16 24) none)).out ∧
      (∀ k < 64, k ≠ r.val → u.ring k = s.ring k) ∧
      u = { s.at t with regs := u.regs, halo := { s.halo with targets := u.halo.targets }, host := { s.host with rings := u.host.rings, read := 0, dma := [] } } ∧
      SameRegs s u [odKey 0x1100 4 0])

/-- O37 (derived, 13, R384, R385, R386, R26, R23). BAR2 reads and writes the lines of its window: slots of user lines; poisoned writes
and writes to the device's own regions are discarded. -/
def Obligations.Bar2ReachesHbm : Prop :=
  (∀ (s : State) (o len t : Nat) (l : LineData),
    s.carries = true →
    1 ≤ len →
    o % 64 + len ≤ 64 →
    s.lineUse (s.regN 0x1000 4 + o / 64) = LineUse.user →
    s.line (s.regN 0x1000 4 + o / 64) = l →
    parityBad l = false →
    exec (.bar2Read o len [] t) s = .next { s.at t with host := { s.host with read := slotNumber l / 2 ^ (8 * (o % 64)) % 2 ^ (8 * len), dma := [] } }) ∧
  (∀ (s : State) (o : Nat) (bytes : List Byte) (t : Nat),
    s.carries = true →
    o % 64 = 0 →
    50 ≤ bytes.length →
    bytes.length ≤ 64 →
    s.lineUse (s.regN 0x1000 4 + o / 64) = LineUse.user →
    ∃ u, exec (.bar2Write o bytes false t) s = .next u ∧
      u.line (s.regN 0x1000 4 + o / 64) = lineOfSlot (spliceSlot 0 0 bytes) false ∧
      (∀ a, a ≠ s.regN 0x1000 4 + o / 64 → u.line a = s.line a) ∧
      u = { s.at t with hbm := u.hbm, host := { s.host with read := 0, dma := [] } }) ∧
  (∀ (s : State) (o : Nat) (bytes : List Byte) (t : Nat),
    s.carries = true →
    exec (.bar2Write o bytes true t) s = .next ({ s.at t with host := { s.host with read := 0, dma := [] } }.addReg 0x1000 6 1)) ∧
  (∀ (s : State) (o n : Nat) (bytes : List Byte) (t : Nat),
    s.carries = true →
    1 ≤ bytes.length →
    o % 64 + bytes.length ≤ 64 →
    (s.lineUse (s.regN 0x1000 4 + o / 64) = LineUse.live n ∨ s.lineUse (s.regN 0x1000 4 + o / 64) = LineUse.result n ∨ s.lineUse (s.regN 0x1000 4 + o / 64) = LineUse.pool ∨ s.lineUse (s.regN 0x1000 4 + o / 64) = LineUse.links) →
    exec (.bar2Write o bytes false t) s = .next ({ s.at t with host := { s.host with read := 0, dma := [] } }.logPut (if s.lineUse (s.regN 0x1000 4 + o / 64) = LineUse.live n ∨ s.lineUse (s.regN 0x1000 4 + o / 64) = LineUse.result n then 0x0603 else 0x0608) (wd (s.regN 0x1000 4 + o / 64)) s.bar2Source)) ∧
  (∀ (s : State) (o : Nat) (bytes : List Byte) (t : Nat),
    s.carries = true →
    1 ≤ bytes.length →
    o % 64 + bytes.length ≤ 64 →
    (s.lineUse (s.regN 0x1000 4 + o / 64) = LineUse.replies ∨ s.lineUse (s.regN 0x1000 4 + o / 64) = LineUse.journal) →
    exec (.bar2Write o bytes false t) s = .next ({ s.at t with host := { s.host with read := 0, dma := [] } }.logPut 0x0807 (wd (s.regN 0x1000 4 + o / 64)) 0)) ∧
  (∀ (s : State) (o : Nat) (bytes : List Byte) (t : Nat),
    s.carries = true →
    1 ≤ bytes.length →
    o % 64 + bytes.length ≤ 64 →
    s.lineUse (s.regN 0x1000 4 + o / 64) = LineUse.absent →
    exec (.bar2Write o bytes false t) s = .next ({ s.at t with host := { s.host with read := 0, dma := [] } }.logPut 0x0203 (wd (s.regN 0x1000 4 + o / 64)) s.bar2Source)) ∧
  (∀ (s : State) (o : Nat) (bytes : List Byte) (t : Nat) (l : LineData),
    s.carries = true →
    1 ≤ bytes.length →
    o % 64 + bytes.length ≤ 64 →
    o % 64 < 50 →
    (0 < o % 64 ∨ bytes.length < 50) →
    s.lineUse (s.regN 0x1000 4 + o / 64) = LineUse.user →
    s.line (s.regN 0x1000 4 + o / 64) = l →
    parityBad l = false →
    ∃ u, exec (.bar2Write o bytes false t) s = .next u ∧
      u.line (s.regN 0x1000 4 + o / 64) = lineOfSlot (spliceSlot (slotNumber l) (o % 64) bytes) (linePoison l) ∧
      (∀ a, a ≠ s.regN 0x1000 4 + o / 64 → u.line a = s.line a) ∧
      u = { s.at t with hbm := u.hbm, host := { s.host with read := 0, dma := [] } }) ∧
  (∀ (s : State) (o : Nat) (bytes : List Byte) (t : Nat),
    s.carries = true →
    50 ≤ o % 64 →
    o % 64 + bytes.length ≤ 64 →
    s.lineUse (s.regN 0x1000 4 + o / 64) = LineUse.user →
    exec (.bar2Write o bytes false t) s = .next { s.at t with host := { s.host with read := 0, dma := [] } }) ∧
  (∀ (s : State) (o len t : Nat) (bytes : List Byte) (p : Bool) (c : Instr),
    s.carries = false →
    (c = .bar2Read o len [] t ∨ c = .bar2Write o bytes p t) →
    exec c s = .next { s.at t with host := { s.host with read := 0, dma := [] } }) ∧
  (∀ (s : State) (o len t : Nat),
    s.carries = true →
    1 ≤ len →
    o % 64 + len ≤ 64 →
    s.lineUse (s.regN 0x1000 4 + o / 64) ∈ [LineUse.links, LineUse.replies, LineUse.absent] →
    exec (.bar2Read o len [] t) s = .next { s.at t with host := { s.host with read := slotNumber (mkLine 0 0 true 0 0 0 0 0 0) / 2 ^ (8 * (o % 64)) % 2 ^ (8 * len), dma := [] } }) ∧
  (∀ (s : State) (o len t : Nat) (l : LineData),
    s.carries = true →
    1 ≤ len →
    o % 64 + len ≤ 64 →
    s.lineUse (s.regN 0x1000 4 + o / 64) = LineUse.user →
    s.line (s.regN 0x1000 4 + o / 64) = l →
    parityBad l = true →
    linePoison l = false →
    ∃ u, exec (.bar2Read o len [] t) s = .next u ∧
      linePoison (u.line (s.regN 0x1000 4 + o / 64)) = true ∧
      (∀ a, a ≠ s.regN 0x1000 4 + o / 64 → u.line a = s.line a) ∧
      u.host = { s.host with read := slotNumber (poisoned l) / 2 ^ (8 * (o % 64)) % 2 ^ (8 * len), dma := [] })

/-- O38 (derived, 14, R409, R410, R411, R413, R417, R418, R419, R420, R422). APPLY of a checked image makes it active and has every
live engine switch; each engine switches once; routines load engine by engine. -/
def Obligations.PatchesAndRoutinesLoad : Prop :=
  (∀ (s : State) (rq : Req) (engine : Bool) (t : Nat),
    s.carries = true →
    s.alm.held = [] →
    s.alm.head.length + 1 ≤ 3584 →
    (s.at t).firstChecks (mkTx rq .write (0x0E00 + (if engine then 2 else 1)) 1 0 1 [1] .here) [(0, 1)] = (0, 0) →
    s.lockOf (0x0E00 + (if engine then 2 else 1)) = none →
    s.cmdBusy rq.src (0x0E00 + (if engine then 2 else 1)) 1 = false →
    imageFormBad (if engine then 2 else 1) (s.imageObj (if engine then 2 else 1)) = false →
    fld (s.imageObj (if engine then 2 else 1) 6) 38 2 = 0 →
    (s.reg 0 5) >>> 8 = (s.imageObj (if engine then 2 else 1) 1) >>> 8 →
    imageAddrBad (if engine then 2 else 1) (s.imageObj (if engine then 2 else 1)) = false →
    SMap.get (fun _ => none) s.micro.runs 1 = none →
    SMap.get (fun _ => none) s.micro.runs 2 = none →
    ((List.range 66).filter (fun k => unitClass k = (if engine then 2 else 1))).filter s.unitLive ≠ [] →
    ∃ u, exec (.patchApply rq engine t) s = .next u ∧
      (if Config.signatureValid 0 [] (imageWords (s.imageObj (if engine then 2 else 1))) = true then u.reg 0x0E00 ((if engine then 2 else 1) - 1) = s.imageObj (if engine then 2 else 1) 2 ∧ SMap.get (fun _ => []) u.micro.patches (if engine then 2 else 1) = imageWords (s.imageObj (if engine then 2 else 1)) ∧ (∀ k < 66, k ∈ ((List.range 66).filter (fun k => unitClass k = (if engine then 2 else 1))).filter s.unitLive → u.reg 0x0E10 0 k = setFld (s.reg 0x0E10 0 k) 0 1 1) ∧ SMap.get (fun _ => none) u.micro.runs (if engine then 2 else 1) = some ⟨rq.src, s.imageObj (if engine then 2 else 1) 2, ((List.range 66).filter (fun k => unitClass k = (if engine then 2 else 1))).filter s.unitLive, 0⟩ ∧ s.answered u 3 (0x0E00 + (if engine then 2 else 1)) 1 rq.src 1 t ∧ u = { (s.at t).setCmd rq.src (0x0E00 + (if engine then 2 else 1)) 1 cmdRunning with regs := u.regs, alm := u.alm, reply := u.reply, micro := { s.micro with patches := u.micro.patches, runs := u.micro.runs } } ∧ SameRegs s u (odKey 0x0E00 ((if engine then 2 else 1) - 1) 0 :: (((List.range 66).filter (fun k => unitClass k = (if engine then 2 else 1))).filter s.unitLive).map (odKey 0x0E10 0) ++ journalKeys) else u = { (s.at t).endCmd rq.src (0x0E00 + (if engine then 2 else 1)) 1 0 0xB9 with reply := ⟨0xB9, 0, []⟩ })) ∧
  (∀ (s : State) (rq : Req) (engine : Bool) (t : Nat),
    s.takes rq (0x0E00 + (if engine then 2 else 1)) 1 0 [2] Env.calm t = true →
    ((List.range 66).filter (fun k => unitClass k = (if engine then 2 else 1))).filter s.unitLive ≠ [] →
    ∃ u, exec (.patchRemove rq engine t) s = .next u ∧
      u.reg 0x0E00 ((if engine then 2 else 1) - 1) = 0 ∧
      SMap.get (fun _ => []) u.micro.patches (if engine then 2 else 1) = [] ∧
      (∀ k < 66, k ∈ ((List.range 66).filter (fun k => unitClass k = (if engine then 2 else 1))).filter s.unitLive → u.reg 0x0E10 0 k = setFld (s.reg 0x0E10 0 k) 0 1 1) ∧
      SMap.get (fun _ => none) u.micro.runs (if engine then 2 else 1) = some ⟨rq.src, 0, ((List.range 66).filter (fun k => unitClass k = (if engine then 2 else 1))).filter s.unitLive, 0⟩ ∧
      s.answered u 3 (0x0E00 + (if engine then 2 else 1)) 1 rq.src 2 t ∧
      u = { (s.at t).setCmd rq.src (0x0E00 + (if engine then 2 else 1)) 1 cmdRunning with regs := u.regs, alm := u.alm, reply := u.reply, micro := { s.micro with patches := u.micro.patches, runs := u.micro.runs } } ∧
      SameRegs s u (odKey 0x0E00 ((if engine then 2 else 1) - 1) 0 :: (((List.range 66).filter (fun k => unitClass k = (if engine then 2 else 1))).filter s.unitLive).map (odKey 0x0E10 0) ++ journalKeys)) ∧
  (∀ (s : State) (n : Fin 66) (t : Nat) (r : PatchRun),
    SMap.get (fun _ => none) s.micro.runs (unitClass n) = some r →
    n.val ∈ r.left →
    ∃ u, exec (.patchSwitch n t) s = .next u ∧
      u.reg 0x0E10 0 n = setFld (setFld (s.reg 0x0E10 0 n) 24 16 ((s.patchVersion (unitClass n)).toNat % 65536)) 0 1 0 ∧
      SMap.get (fun _ => none) u.micro.runs (unitClass n) = (if (r.left.erase n.val).isEmpty then none else some { r with left := r.left.erase n.val, done := r.done + 1 }) ∧
      u = { (if (r.left.erase n.val).isEmpty then (s.at t).endCmd r.src (0x0E00 + unitClass n) 1 (r.done + 1) 0 else s.at t) with regs := u.regs, micro := { s.micro with runs := u.micro.runs, banks := u.micro.banks } } ∧
      SameRegs s u [odKey 0x0E10 0 n] ∧
      SMap.get (fun _ => []) u.micro.banks n = SMap.get (fun _ => []) s.micro.patches (unitClass n) ∧
      (∀ k < 66, k ≠ n.val → SMap.get (fun _ => []) u.micro.banks k = SMap.get (fun _ => []) s.micro.banks k)) ∧
  (∀ (s : State) (rq : Req) (v : Word) (t : Nat),
    v = 1 →
    s.carries = true →
    s.alm.held = [] →
    s.alm.head.length + 1 ≤ 3584 →
    (s.at t).firstChecks (mkTx rq .write (0x0E03) 1 0 1 [1] .here) [(0, 1)] = (0, 0) →
    s.lockOf (0x0E03) = none →
    s.cmdBusy rq.src (0x0E03) 1 = false →
    imageFormBad 3 (s.imageObj 3) = false →
    fld (s.imageObj 3 6) 38 2 = 0 →
    (s.reg 0 5) >>> 8 = (s.imageObj 3 1) >>> 8 →
    imageAddrBad 3 (s.imageObj 3) = false →
    s.setsBad (imageWords (s.imageObj 3)) = false →
    s.micro.load = none →
    s.loadOrder ≠ [] →
    ∃ u, exec (.routineLoad rq v t) s = .next u ∧
      (if Config.signatureValid 0 [] (imageWords (s.imageObj 3)) = true then u.reg 0x0E00 2 = s.imageObj 3 2 ∧ u.micro.image = imageWords (s.imageObj 3) ∧ u.micro.load = some ⟨some rq.src, imageWords (s.imageObj 3), s.loadOrder, 0⟩ ∧ s.answered u 3 0x0E03 1 rq.src 1 t ∧ u = { (s.at t).setCmd rq.src 0x0E03 1 cmdRunning with regs := u.regs, alm := u.alm, reply := u.reply, micro := { s.micro with image := u.micro.image, load := u.micro.load } } ∧ SameRegs s u (odKey 0x0E00 2 0 :: journalKeys) else u = { (s.at t).endCmd rq.src 0x0E03 1 0 0xB9 with reply := ⟨0xB9, 0, []⟩ })) ∧
  (∀ (s : State) (t e d : Nat) (es : List Nat) (w : Word) (i : List Word),
    s.micro.load = some ⟨some w, i, e :: es, d⟩ →
    s.regN (0x6010 + e) 0 ≠ 3 →
    exec (.routineEngineLoad t) s = .next { (if es = [] then (s.at t).endCmd w 0x0E03 1 0 0 else s.at t) with micro := { s.micro with routines := SMap.set (fun _ => []) s.micro.routines e i, load := if es = [] then none else some ⟨some w, i, es, d + 1⟩ } }) ∧
  (∀ (s : State) (c : Fin 48) (t : Nat) (r : Restart),
    SMap.get (fun _ => none) s.micro.restarts c = some r →
    SMap.get (fun _ => none) s.micro.runs 1 = none →
    s.start.waiting = [] →
    ∃ u, exec (.seqMcheckDone c t) s = .next u ∧
      s.restarting c = true ∧
      u.restarting c = false ∧
      SMap.get (fun _ => none) u.micro.last c = some (r.store, r.addr, (s.at t).clock) ∧
      u.reg 0x0E10 0 c = setFld (setFld (s.reg 0x0E10 0 c) 24 16 ((s.patchVersion 1).toNat % 65536)) 0 1 0 ∧
      u = { s.at t with regs := u.regs, log := u.log, micro := { s.micro with restarts := u.micro.restarts, last := u.micro.last, banks := u.micro.banks } } ∧
      SameRegs s u [odKey 0x0E10 0 c, odKey 0x0500 6 0, odKey 0x0500 7 0] ∧
      SMap.get (fun _ => []) u.micro.banks c = SMap.get (fun _ => []) s.micro.patches 1 ∧
      (∀ k < 66, k ≠ c.val → SMap.get (fun _ => []) u.micro.banks k = SMap.get (fun _ => []) s.micro.banks k)) ∧
  (∀ (s : State) (n : Fin 66) (t : Nat),
    (SMap.get (fun _ => none) s.micro.runs (unitClass n)).all (fun r => !r.left.contains n.val) = true →
    exec (.patchSwitch n t) s = .next (s.at t)) ∧
  (∀ (s : State) (t : Nat),
    s.micro.load = none →
    exec (.routineEngineLoad t) s = .next (s.at t)) ∧
  (∀ (s : State) (c : Fin 48) (t : Nat),
    SMap.get (fun _ => none) s.micro.restarts c = none →
    s.start.waiting = [] →
    exec (.seqMcheckDone c t) s = .next (s.at t)) ∧
  (∀ (s : State) (t e d : Nat) (es : List Nat) (w : Word) (i : List Word),
    s.micro.load = some ⟨some w, i, e :: es, d⟩ →
    s.regN (0x6010 + e) 0 = 3 →
    exec (.routineEngineLoad t) s = .next { (if es = [] then (s.at t).endCmd w 0x0E03 1 0 0 else s.at t) with micro := { s.micro with load := if es = [] then none else some ⟨some w, i, es, d + 1⟩ } }) ∧
  (∀ (s : State) (rq : Req) (engine : Bool) (t : Nat),
    s.takes rq (0x0E00 + (if engine then 2 else 1)) 1 0 [2] Env.calm t = true →
    ((List.range 66).filter (fun k => unitClass k = (if engine then 2 else 1))).filter s.unitLive = [] →
    ∃ u, exec (.patchRemove rq engine t) s = .next u ∧
      u.reg 0x0E00 ((if engine then 2 else 1) - 1) = 0 ∧
      s.answered u 3 (0x0E00 + (if engine then 2 else 1)) 1 rq.src 2 t ∧
      u = { (s.at t).endCmd rq.src (0x0E00 + (if engine then 2 else 1)) 1 0 0 with regs := u.regs, alm := u.alm, reply := u.reply, micro := { s.micro with patches := u.micro.patches } } ∧
      SameRegs s u (odKey 0x0E00 ((if engine then 2 else 1) - 1) 0 :: journalKeys)) ∧
  (∀ (x : UStores) (u : Ucode),
    (x.region (x.fetchAt u.pc) = none ∨ fld (x.microword (x.fetchAt u.pc)) 22 2 = 3 ∨ (fld (x.nanoword (fld (x.microword (x.fetchAt u.pc)) 0 14) 3) 38 2 = 2 ∧ 4 ≤ u.stack.length) ∨ (fld (x.nanoword (fld (x.microword (x.fetchAt u.pc)) 0 14) 3) 38 2 = 3 ∧ u.stack = [])) →
    x.step u = .codeError) ∧
  (∀ (x : UStores) (u : Ucode),
    x.region (x.fetchAt u.pc) ≠ none →
    fld (x.microword (x.fetchAt u.pc)) 22 2 < 2 →
    fld (x.nanoword (fld (x.microword (x.fetchAt u.pc)) 0 14) 3) 38 2 = 0 →
    x.step u = .goesOn ⟨(x.fetchAt u.pc + 1) % 262144, u.stack, Config.datapath [x.nanoword (fld (x.microword (x.fetchAt u.pc)) 0 14) 0, x.nanoword (fld (x.microword (x.fetchAt u.pc)) 0 14) 1, x.nanoword (fld (x.microword (x.fetchAt u.pc)) 0 14) 2] u.dp⟩ (fld (x.microword (x.fetchAt u.pc)) 22 2 == 1)) ∧
  (∀ (x : UStores) (u : Ucode),
    x.region (x.fetchAt u.pc) ≠ none →
    fld (x.microword (x.fetchAt u.pc)) 22 2 < 2 →
    fld (x.nanoword (fld (x.microword (x.fetchAt u.pc)) 0 14) 3) 38 2 = 1 →
    x.step u = .goesOn ⟨if (Config.condition (fld (x.nanoword (fld (x.microword (x.fetchAt u.pc)) 0 14) 3) 32 6) u.dp (Config.datapath [x.nanoword (fld (x.microword (x.fetchAt u.pc)) 0 14) 0, x.nanoword (fld (x.microword (x.fetchAt u.pc)) 0 14) 1, x.nanoword (fld (x.microword (x.fetchAt u.pc)) 0 14) 2] u.dp) != bit (x.nanoword (fld (x.microword (x.fetchAt u.pc)) 0 14) 3) 31) = true then fld (x.nanoword (fld (x.microword (x.fetchAt u.pc)) 0 14) 3) 0 18 else (x.fetchAt u.pc + 1) % 262144, u.stack, Config.datapath [x.nanoword (fld (x.microword (x.fetchAt u.pc)) 0 14) 0, x.nanoword (fld (x.microword (x.fetchAt u.pc)) 0 14) 1, x.nanoword (fld (x.microword (x.fetchAt u.pc)) 0 14) 2] u.dp⟩ (fld (x.microword (x.fetchAt u.pc)) 22 2 == 1)) ∧
  (∀ (x : UStores) (u : Ucode),
    x.region (x.fetchAt u.pc) ≠ none →
    fld (x.microword (x.fetchAt u.pc)) 22 2 < 2 →
    fld (x.nanoword (fld (x.microword (x.fetchAt u.pc)) 0 14) 3) 38 2 = 2 →
    u.stack.length < 4 →
    x.step u = .goesOn ⟨fld (x.nanoword (fld (x.microword (x.fetchAt u.pc)) 0 14) 3) 0 18, (x.fetchAt u.pc + 1) % 262144 :: u.stack, Config.datapath [x.nanoword (fld (x.microword (x.fetchAt u.pc)) 0 14) 0, x.nanoword (fld (x.microword (x.fetchAt u.pc)) 0 14) 1, x.nanoword (fld (x.microword (x.fetchAt u.pc)) 0 14) 2] u.dp⟩ (fld (x.microword (x.fetchAt u.pc)) 22 2 == 1)) ∧
  (∀ (x : UStores) (u : Ucode) (a : Nat) (as : List Nat),
    x.region (x.fetchAt u.pc) ≠ none →
    fld (x.microword (x.fetchAt u.pc)) 22 2 < 2 →
    fld (x.nanoword (fld (x.microword (x.fetchAt u.pc)) 0 14) 3) 38 2 = 3 →
    u.stack = a :: as →
    x.step u = .goesOn ⟨a, as, Config.datapath [x.nanoword (fld (x.microword (x.fetchAt u.pc)) 0 14) 0, x.nanoword (fld (x.microword (x.fetchAt u.pc)) 0 14) 1, x.nanoword (fld (x.microword (x.fetchAt u.pc)) 0 14) 2] u.dp⟩ (fld (x.microword (x.fetchAt u.pc)) 22 2 == 1)) ∧
  (∀ (x : UStores) (u : Ucode),
    x.region (x.fetchAt u.pc) ≠ none →
    fld (x.microword (x.fetchAt u.pc)) 22 2 = 2 →
    fld (x.nanoword (fld (x.microword (x.fetchAt u.pc)) 0 14) 3) 38 2 < 2 →
    x.step u = .ends (Config.datapath [x.nanoword (fld (x.microword (x.fetchAt u.pc)) 0 14) 0, x.nanoword (fld (x.microword (x.fetchAt u.pc)) 0 14) 1, x.nanoword (fld (x.microword (x.fetchAt u.pc)) 0 14) 2] u.dp)) ∧
  (∀ (x : UStores) (a b : Nat),
    a < x.romSize →
    (a, b) ∈ x.matches →
    (x.matches.map (fun e => e.1)).Nodup →
    x.fetchAt a = b) ∧
  (∀ (x : UStores) (a : Nat),
    (x.romSize ≤ a ∨ ∀ e ∈ x.matches, e.1 ≠ a) →
    x.fetchAt a = a)

/-- O39 (stated, R442). DATA writes words of a scratch bank, SET sets and CLEAR clears the bits given; a collision refuses the whole
transaction with 0x00B5. -/
def Obligations.ScratchBanksAreWritten : Prop :=
  (∀ (s : State) (rq : Req) (c : Fin 48) (off : Nat) (vals : List Word) (clash : List (Nat × Word)) (t : Nat),
    s.takes rq (0x0D40 + c) 0 off vals { Env.calm with clash := clash } t = true →
    ∃ u, exec (.scratchDataWrite rq c off vals clash t) s = .next u ∧
      (∀ k < vals.length, u.reg (0x0D40 + c) 0 (off + k) = vals.getD k 0) ∧
      u.reply = ⟨0, 0, []⟩ ∧
      u.reg 0x0400 1 = s.reg 0x0400 1 + 1 ∧
      u.alm.head.length = s.alm.head.length + 1 ∧
      u = { s.at t with regs := u.regs, alm := { s.alm with head := u.alm.head }, reply := u.reply } ∧
      SameRegs s u ((List.range vals.length).map (fun k => odKey (0x0D40 + c) 0 (off + k)) ++ journalKeys)) ∧
  (∀ (s : State) (rq : Req) (c : Fin 48) (off : Nat) (vals : List Word) (clash : List (Nat × Word)) (t : Nat),
    s.takes rq (0x0D40 + c) 1 off vals { Env.calm with clash := clash } t = true →
    ∃ u, exec (.scratchSet rq c off vals clash t) s = .next u ∧
      (∀ k < vals.length, u.reg (0x0D40 + c) 0 (off + k) = s.reg (0x0D40 + c) 0 (off + k) ||| vals.getD k 0) ∧
      u.reply = ⟨0, 0, []⟩ ∧
      u.reg 0x0400 1 = s.reg 0x0400 1 + 1 ∧
      u.alm.head.length = s.alm.head.length + 1 ∧
      u = { s.at t with regs := u.regs, alm := { s.alm with head := u.alm.head }, reply := u.reply } ∧
      SameRegs s u ((List.range vals.length).map (fun k => odKey (0x0D40 + c) 0 (off + k)) ++ journalKeys)) ∧
  (∀ (s : State) (rq : Req) (c : Fin 48) (off : Nat) (vals : List Word) (clash : List (Nat × Word)) (t : Nat),
    s.takes rq (0x0D40 + c) 2 off vals { Env.calm with clash := clash } t = true →
    ∃ u, exec (.scratchClear rq c off vals clash t) s = .next u ∧
      (∀ k < vals.length, u.reg (0x0D40 + c) 0 (off + k) = s.reg (0x0D40 + c) 0 (off + k) &&& ~~~ (vals.getD k 0)) ∧
      u.reply = ⟨0, 0, []⟩ ∧
      u.reg 0x0400 1 = s.reg 0x0400 1 + 1 ∧
      u.alm.head.length = s.alm.head.length + 1 ∧
      u = { s.at t with regs := u.regs, alm := { s.alm with head := u.alm.head }, reply := u.reply } ∧
      SameRegs s u ((List.range vals.length).map (fun k => odKey (0x0D40 + c) 0 (off + k)) ++ journalKeys)) ∧
  (∀ (s : State) (rq : Req) (c : Fin 48) (off w : Nat) (v : Word) (vals : List Word) (t : Nat),
    s.takes rq (0x0D40 + c) 0 off vals Env.calm t = true →
    off ≤ w →
    w < off + vals.length →
    ∃ u, exec (.scratchDataWrite rq c off vals [(w, v)] t) s = .next u ∧
      u.reply = ⟨0xB5, 0, []⟩ ∧
      u.reg (0x0D40 + c) 0 w = v ∧
      u.reg (0x0D40 + c) 3 = s.reg (0x0D40 + c) 3 + 1 ∧
      u.agenda = s.agenda ++ [.faultRaise (Fin.ofNat 512 c) 0x0B 1 (wd (w % 2 ^ 14)) false ((s.at t).clock)] ∧
      u = { s.at t with regs := u.regs, agenda := u.agenda, log := u.log, reply := u.reply } ∧
      SameRegs s u [odKey (0x0D40 + c) 0 w, odKey (0x0D40 + c) 3 0, odKey 0x0500 6 0, odKey 0x0500 7 0]) ∧
  (∀ (s : State) (rq : Req) (c : Fin 48) (off w : Nat) (v : Word) (vals : List Word) (t : Nat),
    s.takes rq (0x0D40 + c) 1 off vals Env.calm t = true →
    off ≤ w →
    w < off + vals.length →
    ∃ u, exec (.scratchSet rq c off vals [(w, v)] t) s = .next u ∧
      u.reply = ⟨0xB5, 0, []⟩ ∧
      u.reg (0x0D40 + c) 0 w = v ∧
      u.reg (0x0D40 + c) 3 = s.reg (0x0D40 + c) 3 + 1 ∧
      u.agenda = s.agenda ++ [.faultRaise (Fin.ofNat 512 c) 0x0B 1 (wd (w % 2 ^ 14)) false ((s.at t).clock)] ∧
      u = { s.at t with regs := u.regs, agenda := u.agenda, log := u.log, reply := u.reply } ∧
      SameRegs s u [odKey (0x0D40 + c) 0 w, odKey (0x0D40 + c) 3 0, odKey 0x0500 6 0, odKey 0x0500 7 0]) ∧
  (∀ (s : State) (rq : Req) (c : Fin 48) (off w : Nat) (v : Word) (vals : List Word) (t : Nat),
    s.takes rq (0x0D40 + c) 2 off vals Env.calm t = true →
    off ≤ w →
    w < off + vals.length →
    ∃ u, exec (.scratchClear rq c off vals [(w, v)] t) s = .next u ∧
      u.reply = ⟨0xB5, 0, []⟩ ∧
      u.reg (0x0D40 + c) 0 w = v ∧
      u.reg (0x0D40 + c) 3 = s.reg (0x0D40 + c) 3 + 1 ∧
      u.agenda = s.agenda ++ [.faultRaise (Fin.ofNat 512 c) 0x0B 1 (wd (w % 2 ^ 14)) false ((s.at t).clock)] ∧
      u = { s.at t with regs := u.regs, agenda := u.agenda, log := u.log, reply := u.reply } ∧
      SameRegs s u [odKey (0x0D40 + c) 0 w, odKey (0x0D40 + c) 3 0, odKey 0x0500 6 0, odKey 0x0500 7 0])

/-- O40 (derived, 15, R437, R438, R413). Power-off takes a cluster to GATED and its cells to HBM; wake clears its banks and runs until
WAKE_DONE takes it to IDLE. -/
def Obligations.ClustersAreGatedAndWake : Prop :=
  (∀ (s : State) (rq : Req) (c : Fin 64) (t : Nat),
    c.val < 48 →
    s.takes rq 0x0D00 8 0 [wd (256 + c)] Env.calm t = true →
    s.seqState c ≠ 7 →
    ∃ u, exec (.gateOff rq c t) s = .next u ∧
      u.seqState c = 7 ∧
      bit (u.reg 0x0D00 9 (c / 40)) (c % 40) = true ∧
      (∀ n < 25, (u.slice c n).drive = 0 ∧ (u.slice c n).data = false) ∧
      u.sq c = SeqSt.idle ∧
      u.regN (adcIdx c 0) 0 = 0 ∧
      u.regN (adcIdx c 1) 0 = 0 ∧
      u.regN (capIdx c) 0 = 0 ∧
      (∀ n < 4, u.regN (ruIdx c n) 0 = 0) ∧
      (∀ q < 65536, (∀ x ∈ (u.queue q).cells, x.onChip = true → x.burst ≠ c.val) ∧ ((s.queue q).opens.all (fun p => p.prod.burst != c.val || p.st != .live) = true → (u.queue q).cells.length = (s.queue q).cells.length)) ∧
      (∀ d < 48, d ≠ c.val → u.sq d = s.sq d ∧ u.seqState d = s.seqState d) ∧
      u.reply = ⟨0, 0, []⟩ ∧
      u.reg 0x0400 1 = s.reg 0x0400 1 + 1 ∧
      u.cmdStatus rq.src 0x0D00 8 = 0 ∧
      u = { s.at t with hbm := u.hbm, regs := u.regs, agenda := u.agenda, log := u.log, cmdStat := u.cmdStat, alm := u.alm, reply := u.reply, queues := u.queues, pins := { s.pins with slices := u.pins.slices }, seqs := u.seqs, mea := u.mea, mem := { s.mem with repairs := u.mem.repairs }, micro := { s.micro with runs := u.micro.runs } } ∧
      SameOutside s u (fun i => i == seqIdx 0 c || (0x5000 + 0x40 * c ≤ i && i < 0x5040 + 0x40 * c) || i == 0x0D00 || i == 0x0D01 || i == 0x0E10 || i == 0x7018 || i == 0x0500 || i == 0x0400)) ∧
  (∀ (s : State) (rq : Req) (c : Fin 64) (t : Nat),
    s.takes rq 0x0D00 8 0 [wd (256 + c)] Env.calm t = true →
    s.seqState c = 7 →
    SMap.get (fun _ => none) s.mem.waking c = none →
    ∃ u, exec (.gateOff rq c t) s = .next u ∧
      s.answered u 3 0x0D00 8 rq.src (wd (256 + c)) t ∧
      u = { (s.at t).endCmd rq.src 0x0D00 8 0 0 with regs := u.regs, alm := u.alm, reply := u.reply } ∧
      SameRegs s u journalKeys) ∧
  (∀ (s : State) (rq : Req) (c : Fin 64) (t : Nat),
    s.takes rq 0x0D00 8 0 [wd c] Env.calm t = true →
    s.seqState c = 7 →
    SMap.get (fun _ => none) s.mem.waking c = none →
    ∃ u, exec (.gateWake rq c t) s = .next u ∧
      SMap.get (fun _ => none) u.mem.waking c = some rq.src ∧
      u.cmdStatus rq.src 0x0D00 8 = cmdRunning ∧
      (∀ k < 16384, u.reg (0x0D40 + c) 0 k = 0) ∧
      (∀ k, k ≠ 0 → u.reg (0x0D40 + c) k = s.reg (0x0D40 + c) k) ∧
      u.sq c = { SeqSt.idle with segFrom := (s.sq c).segFrom, tb := (s.sq c).tb, due := (s.sq c).due } ∧
      (∀ d < 48, d ≠ c.val → u.sq d = s.sq d) ∧
      s.answered u 3 0x0D00 8 rq.src (wd c) t ∧
      u = { (s.at t).setCmd rq.src 0x0D00 8 cmdRunning with regs := u.regs, alm := u.alm, reply := u.reply, seqs := u.seqs, mem := { s.mem with waking := u.mem.waking } } ∧
      SameOutside s u (fun i => i == 0x0D40 + c || i == 0x0400)) ∧
  (∀ (s : State) (rq : Req) (c : Fin 64) (t : Nat),
    s.takes rq 0x0D00 8 0 [wd c] Env.calm t = true →
    (s.seqState c ≠ 7 ∨ (SMap.get (fun _ => none) s.mem.waking c).isSome = true) →
    ∃ u, exec (.gateWake rq c t) s = .next u ∧
      s.answered u 3 0x0D00 8 rq.src (wd c) t ∧
      u = { (s.at t).endCmd rq.src 0x0D00 8 0 0 with regs := u.regs, alm := u.alm, reply := u.reply } ∧
      SameRegs s u journalKeys) ∧
  (∀ (s : State) (c : Fin 48) (t : Nat) (w : Word),
    SMap.get (fun _ => none) s.mem.waking c = some w →
    ∃ u, exec (.wakeDone c t) s = .next u ∧
      u.seqState c = 0 ∧
      bit (u.reg 0x0D00 9 (c / 40)) (c % 40) = false ∧
      SMap.get (fun _ => none) u.mem.waking c = none ∧
      fld (u.reg 0x0E10 0 c) 24 16 = (s.patchVersion 1).toNat % 65536 ∧
      SMap.get (fun _ => []) u.micro.banks c = SMap.get (fun _ => []) s.micro.patches 1 ∧
      u.lvlclr c = (if s.pins.lvlclrLow then 1 else if s.devState = 7 then 3 else 2) ∧
      u.cmdStatus w 0x0D00 8 = 0 ∧
      (∀ d < 48, d ≠ c.val → u.seqState d = s.seqState d) ∧
      u = { s.at t with regs := u.regs, cmdStat := u.cmdStat, mem := { s.mem with waking := u.mem.waking }, micro := { s.micro with banks := u.micro.banks, runs := u.micro.runs } } ∧
      SameRegs s u [odKey (seqIdx 0 c) 0 0, odKey 0x0D00 9 (c / 40), odKey 0x0E10 0 c, odKey (peIdx 0x1F c) 0xF6 0]) ∧
  (∀ (s : State) (c : Fin 48) (t : Nat),
    SMap.get (fun _ => none) s.mem.waking c = none →
    exec (.wakeDone c t) s = .next (s.at t))

/-- O41 (derived, 15, R444, R445, R447, R448, R449). An arbiter grants a waiting requester of the highest class and priority, the
others of its class age; long grants are cut. -/
def Obligations.ArbitersGrantAndCut : Prop :=
  (∀ (s : State) (a : Fin 101) (asks : List (Fin 16 × Nat)) (t : Nat),
    ((s.arb a).waiting ++ ((((asks.map (fun e => (e.1.val, e.2))).filter (fun e => reqAt e.1 a)).filter (fun e => !(s.arb a).waiting.any (fun w => w.1 = e.1 && w.2.1 = e.2))).eraseDups.map (fun e => (e.1, e.2, s.reqBase e.1)))) ≠ [] →
    ∃ u, exec (.arbGrant a asks t) s = .next u ∧
      (∃ g ∈ ((s.arb a).waiting ++ ((((asks.map (fun e => (e.1.val, e.2))).filter (fun e => reqAt e.1 a)).filter (fun e => !(s.arb a).waiting.any (fun w => w.1 = e.1 && w.2.1 = e.2))).eraseDups.map (fun e => (e.1, e.2, s.reqBase e.1)))), (u.arb a).grant = some (g.1, g.2.1, (s.at t).clock, s.actN 0x0C00 2) ∧ (∀ w ∈ ((s.arb a).waiting ++ ((((asks.map (fun e => (e.1.val, e.2))).filter (fun e => reqAt e.1 a)).filter (fun e => !(s.arb a).waiting.any (fun w => w.1 = e.1 && w.2.1 = e.2))).eraseDups.map (fun e => (e.1, e.2, s.reqBase e.1)))), reqClass w.1 ≤ reqClass g.1 ∧ (reqClass w.1 = reqClass g.1 → w.2.2 ≤ g.2.2)) ∧ (u.arb a).last = reqKey g ∧ (u.arb a).waiting = (((s.arb a).waiting ++ ((((asks.map (fun e => (e.1.val, e.2))).filter (fun e => reqAt e.1 a)).filter (fun e => !(s.arb a).waiting.any (fun w => w.1 = e.1 && w.2.1 = e.2))).eraseDups.map (fun e => (e.1, e.2, s.reqBase e.1)))).filter (fun e => e ≠ g)).map (fun e => if reqClass e.1 = reqClass g.1 then (e.1, e.2.1, min 15 (e.2.2 + 1)) else e)) ∧
      (u.arb a).cuts = (s.arb a).cuts ∧
      (∀ b, b ≠ a.val → u.arb b = s.arb b) ∧
      u = { s.at t with mem := { s.mem with arbs := u.mem.arbs } }) ∧
  (∀ (s : State) (a : Fin 101) (asks : List (Fin 16 × Nat)) (t : Nat),
    ((s.arb a).waiting ++ ((((asks.map (fun e => (e.1.val, e.2))).filter (fun e => reqAt e.1 a)).filter (fun e => !(s.arb a).waiting.any (fun w => w.1 = e.1 && w.2.1 = e.2))).eraseDups.map (fun e => (e.1, e.2, s.reqBase e.1)))) = [] →
    ∃ u, exec (.arbGrant a asks t) s = .next u ∧
      u.arb a = s.arb a ∧
      (∀ b, b ≠ a.val → u.arb b = s.arb b) ∧
      u = { s.at t with mem := { s.mem with arbs := u.mem.arbs } }) ∧
  (∀ (s : State) (a : Fin 101) (beats t : Nat),
    (s.arb a).grant = none →
    exec (.holdCut a beats t) s = .next (s.at t)) ∧
  (∀ (s : State) (a : Fin 101) (beats t r i at0 lim : Nat),
    (s.arb a).grant = some (r, i, at0, lim) →
    r < 16 →
    (lim ≤ beats ∨ at0 + usEt 10 ≤ (s.at t).clock) →
    ((((s.arb a).cuts.filter (fun e => (s.at t).clock ≤ e.2.2 + msEt 1)) ++ [(r, i, (s.at t).clock)]).filter (fun e => e.1 = r && e.2.1 = i)).length < 8 →
    ∃ u, exec (.holdCut a beats t) s = .next u ∧
      u.arb a = { s.arb a with grant := none, waiting := (s.arb a).waiting ++ [(r, i, s.reqBase r)], cuts := (((s.arb a).cuts.filter (fun e => (s.at t).clock ≤ e.2.2 + msEt 1)) ++ [(r, i, (s.at t).clock)]) } ∧
      u.reg 0x0C01 1 r = s.reg 0x0C01 1 r + 1 ∧
      u.reg 0x0C00 3 = s.reg 0x0C00 3 + 1 ∧
      (∀ b, b ≠ a.val → u.arb b = s.arb b) ∧
      u = { s.at t with regs := u.regs, log := u.log, mem := { s.mem with arbs := u.mem.arbs } } ∧
      SameRegs s u [odKey 0x0C01 1 r, odKey 0x0C00 3 0, odKey 0x0500 6 0, odKey 0x0500 7 0]) ∧
  (∀ (s : State) (a : Fin 101) (beats t r i at0 lim : Nat),
    (s.arb a).grant = some (r, i, at0, lim) →
    r < 16 →
    (lim ≤ beats ∨ at0 + usEt 10 ≤ (s.at t).clock) →
    8 ≤ ((((s.arb a).cuts.filter (fun e => (s.at t).clock ≤ e.2.2 + msEt 1)) ++ [(r, i, (s.at t).clock)]).filter (fun e => e.1 = r && e.2.1 = i)).length →
    ∃ u, exec (.holdCut a beats t) s = .next u ∧
      u.arb a = { s.arb a with grant := none, waiting := (s.arb a).waiting ++ [(r, i, s.reqBase r)], cuts := (((s.arb a).cuts.filter (fun e => (s.at t).clock ≤ e.2.2 + msEt 1)) ++ [(r, i, (s.at t).clock)]).filter (fun e => !(e.1 = r && e.2.1 = i)) } ∧
      u.reg 0x0C01 1 r = s.reg 0x0C01 1 r + 1 ∧
      u.reg 0x0C00 3 = s.reg 0x0C00 3 + 1 ∧
      u.agenda = s.agenda ++ [.faultRaise (Fin.ofNat 512 (cutOwner a r i).1) 0x0A (Fin.ofNat 4 (cutOwner a r i).2) (wd r) false ((s.at t).clock)] ∧
      (∀ b, b ≠ a.val → u.arb b = s.arb b) ∧
      u = { s.at t with regs := u.regs, agenda := u.agenda, log := u.log, mem := { s.mem with arbs := u.mem.arbs } } ∧
      SameRegs s u [odKey 0x0C01 1 r, odKey 0x0C00 3 0, odKey 0x0500 6 0, odKey 0x0500 7 0]) ∧
  (∀ (s : State) (a : Fin 101) (beats t r i at0 lim : Nat),
    (s.arb a).grant = some (r, i, at0, lim) →
    beats < lim →
    (s.at t).clock < at0 + usEt 10 →
    exec (.holdCut a beats t) s = .next (s.at t)) ∧
  (∀ (s : State) (rq : Req) (v : Word) (t : Nat),
    s.takes rq 0x0C00 0 0 [v] Env.calm t = true →
    ∃ u, exec (.arbCommit rq v t) s = .next u ∧
      (∀ k < 16, u.actN 0x0C01 0 k = s.regN 0x0C01 0 k) ∧
      u.actN 0x0C00 2 = s.regN 0x0C00 2 ∧
      (∀ k, shadowKey k = false → SMap.get romDefault u.act k = SMap.get romDefault s.act k) ∧
      s.answered u 3 0x0C00 0 rq.src v t ∧
      u = { (s.at t).endCmd rq.src 0x0C00 0 0 0 with regs := u.regs, act := u.act, alm := u.alm, reply := u.reply } ∧
      SameRegs s u journalKeys)

/-- O42 (derived, 15, R429, R433, R435, R440, R441). Refresh follows the stack's band; a listed row is repaired with a spare or given
up; the background test counts passes and spares words. -/
def Obligations.HbmAndBanksAreRepaired : Prop :=
  (∀ (s : State) (k : Fin 2) (n t : Nat),
    exec (.hbmRefresh ⟨k, n⟩ t) s = .next ((if n = 0 then s.at t else (s.at t).addReg80 0x0D00 3 n).setRegW 0x0D00 7 k (wd (if fld (s.reg 0x0701 2 (58 + k)) 0 2 = 3 then 4 else if fld (s.reg 0x0701 2 (58 + k)) 0 2 = 2 then 2 else 1)))) ∧
  (∀ (s : State) (p : Fin 64) (row t : Nat),
    s.idleWindow = true →
    s.mem.repairs.find? (fun e => e.1 = p.val) = some (p.val, row) →
    row < 0x60000000 / 2048 →
    ∃ u, exec (.rowRepair p [] t) s = .next u ∧
      u.mem = { s.mem with repairs := s.mem.repairs.erase (p.val, row) } ∧
      fld (u.reg 0x0D01 0 p) 36 4 = fld (s.reg 0x0D01 0 p) 36 4 - 1 ∧
      (u.reg 0x0D00 6 = if fld (s.reg 0x0D01 0 p) 36 4 = 0 then s.reg 0x0D00 6 else s.reg 0x0D00 6 + 1) ∧
      (0 < fld (s.reg 0x0D01 0 p) 36 4 → fld (u.reg 0x0D01 0 p) 28 8 = min 255 (fld (s.reg 0x0D01 0 p) 28 8 + 1) ∧ fld (u.reg 0x0D01 0 p) 0 20 = row % 2 ^ 20) ∧
      (fld (s.reg 0x0D01 0 p) 36 4 = 0 → Instr.faultRaise (Fin.ofNat 512 (0x46 + p)) 0x14 1 (wd row) false ((s.at t).clock) ∈ u.agenda) ∧
      (∀ k < 32, parityBad (s.line (row * 2048 + k * 64 + p)) = false → u.line (row * 2048 + k * 64 + p) = s.line (row * 2048 + k * 64 + p)) ∧
      (0 < fld (s.reg 0x0D01 0 p) 36 4 → ∀ k < 32, parityBad (u.line (row * 2048 + k * 64 + p)) = false) ∧
      (∀ a, a ≠ row * 2048 + a % 2048 / 64 * 64 + p → u.line a = s.line a) ∧
      u = { s.at t with hbm := u.hbm, regs := u.regs, agenda := u.agenda, log := u.log, mem := u.mem } ∧
      SameRegs s u [odKey 0x0D01 0 p, odKey 0x0D00 4 0, odKey 0x0D00 5 0, odKey 0x0D00 6 0, odKey 0x0500 6 0, odKey 0x0500 7 0]) ∧
  (∀ (s : State) (p : Fin 64) (t : Nat),
    s.mem.repairs.find? (fun e => e.1 = p.val) = none →
    exec (.rowRepair p [] t) s = .next (s.at t)) ∧
  (∀ (s : State) (b : BankWord) (t : Nat),
    s.regN 0x0D00 0 ≠ 0 →
    b.source.val < 48 →
    s.seqState b.source = 7 →
    ∃ u, exec (.bankTest [b] t) s = .next u ∧
      u = { s.at t with regs := u.regs, mem := { s.mem with rounds := s.mem.rounds + 1 } } ∧
      SameRegs s u [odKey 0x0D00 1 0]) ∧
  (∀ (s : State) (b : BankWord) (t : Nat),
    s.regN 0x0D00 0 ≠ 0 →
    (48 ≤ b.source.val ∨ s.seqState b.source ≠ 7) →
    b.march = false →
    b.parity = true →
    b.item = .other →
    ∃ u, exec (.bankTest [b] t) s = .next u ∧
      u.agenda = s.agenda ++ [.faultRaise b.source 0x0C 1 (wd (b.bank.toNat * 2 ^ 32 + b.word.toNat)) false ((s.at t).clock)] ∧
      u = { s.at t with regs := u.regs, agenda := u.agenda, mem := { s.mem with rounds := s.mem.rounds + 1 } } ∧
      SameRegs s u [odKey 0x0D00 1 0]) ∧
  (∀ (s : State) (b : BankWord) (t : Nat),
    s.regN 0x0D00 0 ≠ 0 →
    b.source.val < 48 →
    s.seqState b.source ≠ 7 →
    b.march = true →
    b.parity = false →
    8 ≤ SMap.get (fun _ => 0) s.mem.spares (b.source * 256 + b.bank.toNat) →
    ∃ u, exec (.bankTest [b] t) s = .next u ∧
      u.agenda = s.agenda ++ [.faultRaise b.source 0x09 2 (wd (b.bank.toNat * 2 ^ 32 + b.word.toNat)) false ((s.at t).clock)] ∧
      u = { s.at t with regs := u.regs, agenda := u.agenda, mem := { s.mem with rounds := s.mem.rounds + 1 } } ∧
      SameRegs s u [odKey 0x0D00 1 0]) ∧
  (∀ (s : State) (p : Fin 64) (t : Nat),
    s.idleWindow = false →
    exec (.rowRepair p [] t) s = .next (s.at t)) ∧
  (∀ (s : State) (found : List BankWord) (t : Nat),
    s.regN 0x0D00 0 = 0 →
    exec (.bankTest found t) s = .next (s.at t)) ∧
  (∀ (s : State) (t : Nat),
    s.regN 0x0D00 0 ≠ 0 →
    ∃ u, exec (.bankTest [] t) s = .next u ∧
      u.mem = { s.mem with rounds := s.mem.rounds + 1 } ∧
      (u.reg 0x0D00 1 = if (s.mem.rounds + 1) % max 1 Config.testRegions = 0 then s.reg 0x0D00 1 + 1 else s.reg 0x0D00 1) ∧
      u = { s.at t with regs := u.regs, mem := u.mem } ∧
      SameRegs s u [odKey 0x0D00 1 0]) ∧
  (∀ (s : State) (b : BankWord) (t : Nat),
    s.regN 0x0D00 0 ≠ 0 →
    (48 ≤ b.source.val ∨ s.seqState b.source ≠ 7) →
    b.march = true →
    b.parity = false →
    SMap.get (fun _ => 0) s.mem.spares (b.source * 256 + b.bank.toNat) < 8 →
    ∃ u, exec (.bankTest [b] t) s = .next u ∧
      SMap.get (fun _ => 0) u.mem.spares (b.source * 256 + b.bank.toNat) = SMap.get (fun _ => 0) s.mem.spares (b.source * 256 + b.bank.toNat) + 1 ∧
      u.reg 0x0D00 2 = s.reg 0x0D00 2 + 1 ∧
      u.agenda = s.agenda ++ [.faultRaise b.source 0x0D 0 (wd (b.bank.toNat * 2 ^ 32 + b.word.toNat)) false ((s.at t).clock)] ∧
      u = { s.at t with regs := u.regs, agenda := u.agenda, log := u.log, mem := { s.mem with rounds := s.mem.rounds + 1, spares := u.mem.spares } } ∧
      SameRegs s u [odKey 0x0D00 1 0, odKey 0x0D00 2 0, odKey 0x0500 6 0, odKey 0x0500 7 0])

/-- O43 (derived, 16, R455, R457, R458, R460, R464, R466, R467, R469). A housekeeping round advances every node from its power, sets
TMAX, the throttle level and bands, and puts one sample to each monitor. -/
def Obligations.HousekeepingRounds : Prop :=
  (∀ (s : State) (power : List (Option Nat)) (ack : Option (BitVec 8)) (coll : Bool) (t : Nat),
    2 ≤ s.devState →
    ∃ u, exec (.hkRound power [] ack coll t) s = .next u ∧
      (∀ n < 64, u.reg 0x0701 1 n = (match power.getD n none with | some p => if 4 * p ≤ 5 * Config.nodeMax n then wd p else wd (Config.nodeMax n) | none => wd (Config.nodeMax n))) ∧
      (∀ n < 64, u.reg 0x0701 0 n = wdI (Config.thermalStep ((List.range 64).map s.nodeTemp) ((List.range 64).map (fun n => u.regN 0x0701 1 n)) (s.reg 0x0700 0).toInt n)) ∧
      (∀ n < 64, u.nodeTemp n ≤ (u.reg 0x0700 1).toInt) ∧
      u.nodeTemp (u.regN 0x0700 2) = (u.reg 0x0700 1).toInt ∧
      u.regN 0x0700 4 = min 1000 (((u.reg 0x0700 1).toInt - 100000) / 10).toNat ∧
      (∀ n < 64, u.reg 0x0701 2 n = wd (bandNext (fld (s.reg 0x0701 2 n) 0 2) (u.nodeTemp n))) ∧
      u.reg80 0x0700 0x0A = s.reg80 0x0700 0x0A + 1 ∧
      u = { s.at t with regs := u.regs, agenda := u.agenda, log := u.log, faults := u.faults, therm := u.therm, mea := u.mea }) ∧
  (∀ (s : State) (power : List (Option Nat)) (samples : List (Fin 256 × Int)) (ack : Option (BitVec 8)) (coll : Bool) (t : Nat),
    s.devState < 2 →
    exec (.hkRound power samples ack coll t) s = .next (s.at t)) ∧
  (∀ (s : State) (power : List (Option Nat)) (m : Fin 256) (v : Int) (ack : Option (BitVec 8)) (t : Nat),
    2 ≤ s.devState →
    monitorLive m = true →
    s.regN 0x0710 4 m = 0 →
    fld (s.reg 0x0710 3 m) 0 8 = 0x11 →
    (s.mon m).decided = true →
    (s.mon m).band = 0 →
    s.regN 0x0710 5 m = 0 →
    (s.reg 0x0710 0 m).toInt ≤ (s.reg 0x0710 1 m).toInt →
    s.reg 0x0710 2 m = 0 →
    ∃ u, exec (.hkRound power [(m, v)] ack false t) s = .next u ∧
      u.regN 0x0710 5 m = (if (s.reg 0x0710 1 m).toInt < v then 2 else if v < (s.reg 0x0710 0 m).toInt then 1 else 0) ∧
      u.reg 0x0710 6 m = wdI v ∧
      u.reg 0x0710 7 m = s.reg 0x0710 7 m + (if (s.reg 0x0710 1 m).toInt < v ∨ v < (s.reg 0x0710 0 m).toInt then 1 else 0) ∧
      (∀ k < 256, k ≠ m.val → u.mon k = s.mon k ∧ u.reg 0x0710 5 k = s.reg 0x0710 5 k) ∧
      u = { s.at t with regs := u.regs, agenda := u.agenda, log := u.log, faults := u.faults, therm := u.therm, mea := u.mea }) ∧
  (∀ (s : State) (power : List (Option Nat)) (m : Fin 256) (v : Int) (ack : Option (BitVec 8)) (t : Nat),
    2 ≤ s.devState →
    (monitorLive m = false ∨ s.regN 0x0710 4 m = 3) →
    ∃ u, exec (.hkRound power [(m, v)] ack false t) s = .next u ∧
      u.therm.mons = s.therm.mons ∧
      (∀ k < 256, u.reg 0x0710 5 k = s.reg 0x0710 5 k ∧ u.reg 0x0710 6 k = s.reg 0x0710 6 k) ∧
      u = { s.at t with regs := u.regs, agenda := u.agenda, log := u.log, faults := u.faults, therm := u.therm, mea := u.mea }) ∧
  (∀ (s : State) (power : List (Option Nat)) (samples : List (Fin 256 × Int)) (m : BitVec 8) (coll : Bool) (t : Nat),
    2 ≤ s.devState →
    (s.regN 0x0100 8 = 0 ∨ 2 < s.regN 0x0100 8) →
    s.therm.vout = none →
    ∃ u, exec (.hkRound power samples (some m) coll t) s = .next u ∧
      u.therm.vout = some m ∧
      u.therm.naks = 0 ∧
      u.reg 0x0702 1 = s.reg 0x0702 1 ∧
      (voutLinear m = false → Instr.faultRaise 0xAA 0x19 1 0 false ((s.at t).clock) ∈ u.agenda) ∧
      u = { s.at t with regs := u.regs, agenda := u.agenda, log := u.log, faults := u.faults, therm := u.therm, mea := u.mea }) ∧
  (∀ (s : State) (power : List (Option Nat)) (samples : List (Fin 256 × Int)) (m : BitVec 8) (coll : Bool) (t : Nat),
    2 ≤ s.devState →
    (s.regN 0x0100 8 = 0 ∨ 2 < s.regN 0x0100 8) →
    s.therm.vout = some m →
    ∃ u, exec (.hkRound power samples none coll t) s = .next u ∧
      u.therm.vout = some m ∧
      u.reg 0x0702 1 = s.reg 0x0702 1 ∧
      u.therm.mantissa = s.therm.mantissa ∧
      u = { s.at t with regs := u.regs, agenda := u.agenda, log := u.log, faults := u.faults, therm := u.therm, mea := u.mea }) ∧
  (∀ (s : State) (power : List (Option Nat)) (samples : List (Fin 256 × Int)) (m a : BitVec 8) (coll : Bool) (t : Nat),
    2 ≤ s.devState →
    (s.regN 0x0100 8 = 0 ∨ 2 < s.regN 0x0100 8) →
    s.therm.vout = some m →
    voutLinear m = true →
    (s.reg 0x0702 1).toInt ≠ 0 →
    ∃ u, exec (.hkRound power samples (some a) coll t) s = .next u ∧
      u.reg 0x0702 1 = wdI (if (s.reg 0x0702 1).toInt < (max 700000 (min 850000 (s.reg 0x0702 0).toInt) - min 10000 (max 0 ((u.reg 0x0700 1).toInt - 100000)) * (max 700000 (min 850000 (s.reg 0x0702 0).toInt) - 700000) / 10000) then min (max 700000 (min 850000 (s.reg 0x0702 0).toInt) - min 10000 (max 0 ((u.reg 0x0700 1).toInt - 100000)) * (max 700000 (min 850000 (s.reg 0x0702 0).toInt) - 700000) / 10000) ((s.reg 0x0702 1).toInt + 5000) else max (max 700000 (min 850000 (s.reg 0x0702 0).toInt) - min 10000 (max 0 ((u.reg 0x0700 1).toInt - 100000)) * (max 700000 (min 850000 (s.reg 0x0702 0).toInt) - 700000) / 10000) ((s.reg 0x0702 1).toInt - 5000)) ∧
      (u.reg 0x0702 1 ≠ s.reg 0x0702 1 → u.therm.mantissa = some (voutMantissa m (u.reg 0x0702 1).toInt)) ∧
      u = { s.at t with regs := u.regs, agenda := u.agenda, log := u.log, faults := u.faults, therm := u.therm, mea := u.mea }) ∧
  (∀ (s : State) (power : List (Option Nat)) (samples : List (Fin 256 × Int)) (ack : Option (BitVec 8)) (t : Nat),
    2 ≤ s.devState →
    ∃ u, exec (.hkRound power samples ack true t) s = .next u ∧
      u.faults.selfBad = true ∧
      Instr.faultRaise 0x1FF 0x21 3 0 false ((s.at t).clock) ∈ u.agenda ∧
      u = { s.at t with regs := u.regs, agenda := u.agenda, log := u.log, faults := u.faults, therm := u.therm, mea := u.mea }) ∧
  (∀ (s : State) (w : BitVec 16) (t : Nat),
    ∃ u, exec (.vrAlert w t) s = .next u ∧
      u.regN 0x0702 4 = w.toNat ∧
      u = { s.at t with regs := u.regs, log := u.log } ∧
      SameRegs s u [odKey 0x0702 4 0, odKey 0x0500 6 0, odKey 0x0500 7 0])

/-- O44 (derived, 16, R473, R474, R475, R477, R478, R479, R480). Requests, runs, quick passes and restores of calibration: what
STARFIX_RUN asks for, STARFIX_DONE leaves, CAL_OVERDUE logs, VALUES holds. -/
def Obligations.StarfixCalibrates : Prop :=
  (∀ (s : State) (rq : Req) (off : Nat) (vals : List Word) (t : Nat),
    s.takes rq 0x0800 0 off vals Env.calm t = true →
    ∃ u, exec (.starfixRun rq off vals t) s = .next u ∧
      (∀ c < 48, u.regN (calIdx c) 0 = (if s.regN (calIdx c) 0 = 0 ∧ off ≤ c / 40 ∧ bit (vals.getD (c / 40 - off) 0) (c % 40) = true then 1 else s.regN (calIdx c) 0)) ∧
      (∀ c < 48, s.regN (calIdx c) 0 = 0 → u.regN (calIdx c) 0 = 1 → (u.cal c).asked = (s.at t).clock ∧ (u.cal c).logged = false ∧ u.regN (calIdx c) 2 = 1) ∧
      u.reply = ⟨0, 0, []⟩ ∧
      u.reg 0x0400 1 = s.reg 0x0400 1 + 1 ∧
      u = { (s.at t).endCmd rq.src 0x0800 0 0 0 with regs := u.regs, alm := u.alm, reply := u.reply, therm := { s.therm with cals := u.therm.cals } } ∧
      SameOutside s u (fun i => i == 0x0400 || (0x0810 ≤ i && i < 0x0840))) ∧
  (∀ (s : State) (c : Fin 48) (t : Nat),
    s.regN (calIdx c) 0 = 2 →
    ∃ u, exec (.starfixDone c t) s = .next u ∧
      u.regN (calIdx c) 0 = 0 ∧
      u.regN (calIdx c) 1 = 2 ∧
      u.regN (calIdx c) 2 = 0 ∧
      u.reg (calIdx c) 4 = (s.cal c).temp ∧
      u.reg80 (calIdx c) 5 = (s.at t).now ∧
      u.reg 0x0800 4 = s.reg 0x0800 4 + 1 ∧
      (u.cal c).values = s.therm.sets + 1 ∧
      u.regN (calIdx c) 6 = b2n (!s.adcsFree c) ∧
      (∀ d, d ≠ c.val → u.cal d = s.cal d) ∧
      u = { s.at t with regs := u.regs, therm := { s.therm with cals := u.therm.cals, sets := u.therm.sets } } ∧
      SameRegs s u [odKey (calIdx c) 0 0, odKey (calIdx c) 1 0, odKey (calIdx c) 2 0, odKey (calIdx c) 4 0, odKey (calIdx c) 5 0, odKey (calIdx c) 5 1, odKey (calIdx c) 6 0, odKey 0x0800 4 0]) ∧
  (∀ (s : State) (c : Fin 48) (t : Nat),
    s.regN (calIdx c) 0 ≠ 2 →
    exec (.starfixDone c t) s = .next (s.at t)) ∧
  (∀ (s : State) (c : Fin 48) (t : Nat),
    (s.cal c).quick = none →
    exec (.quickPassDone c t) s = .next (s.at t)) ∧
  (∀ (s : State) (c : Fin 48) (t : Nat),
    (s.cal c).quick = some false →
    ∃ u, exec (.quickPassDone c t) s = .next u ∧
      (u.cal c) = { s.cal c with quick := none, values := s.therm.sets + 1 } ∧
      u.regN (calIdx c) 1 = 1 ∧
      u.regN (calIdx c) 2 = 1 ∧
      (∀ d, d ≠ c.val → u.cal d = s.cal d) ∧
      u = { s.at t with regs := u.regs, therm := { s.therm with cals := u.therm.cals, sets := u.therm.sets } } ∧
      SameRegs s u [odKey (calIdx c) 1 0, odKey (calIdx c) 2 0, odKey (calIdx c) 3 0, odKey (calIdx c) 3 1]) ∧
  (∀ (s : State) (c : Fin 48) (t : Nat),
    (s.cal c).quick = some true →
    ∃ u, exec (.quickPassDone c t) s = .next u ∧
      (u.cal c) = { s.cal c with quick := none } ∧
      (∀ d, d ≠ c.val → u.cal d = s.cal d) ∧
      u = { s.at t with therm := { s.therm with cals := u.therm.cals, sets := u.therm.sets } }) ∧
  (∀ (s : State) (c : Fin 48) (t : Nat),
    s.regN (calIdx c) 0 = 1 →
    (s.cal c).logged = false →
    s.regN 0x0800 3 ≠ 0 →
    (s.cal c).asked + msEt (s.regN 0x0800 3) ≤ (s.at t).clock →
    ∃ u, exec (.calOverdue c t) s = .next u ∧
      (u.cal c) = { s.cal c with logged := true } ∧
      (∀ d, d ≠ c.val → u.cal d = s.cal d) ∧
      u = { s.at t with regs := u.regs, log := u.log, therm := { s.therm with cals := u.therm.cals, sets := u.therm.sets } } ∧
      SameRegs s u [odKey 0x0500 6 0, odKey 0x0500 7 0]) ∧
  (∀ (s : State) (c : Fin 48) (t : Nat),
    (s.regN (calIdx c) 0 ≠ 1 ∨ (s.cal c).logged = true ∨ s.regN 0x0800 3 = 0 ∨ (s.at t).clock < (s.cal c).asked + msEt (s.regN 0x0800 3)) →
    exec (.calOverdue c t) s = .next (s.at t)) ∧
  (∀ (s : State) (rq : Req) (c : Fin 48) (vals : List Word) (t : Nat),
    s.carries = true →
    s.alm.held = [] →
    s.alm.head.length + 1 ≤ 3584 →
    (s.at t).firstChecks (mkTx rq .write (calIdx c) 7 0 4096 vals .here) (wordsAt 0 vals) = (0, 0) →
    s.lockOf (calIdx c) = none →
    s.valuesBad c vals = 0 →
    vals.length = 4096 →
    s.seqState c = 3 →
    ∃ u, exec (.valuesWrite rq c 0 vals t) s = .next u ∧
      (u.cal c) = { s.cal c with restore := some (vals, (s.at t).clock) } ∧
      (∀ d, d ≠ c.val → u.cal d = s.cal d) ∧
      u.reply = ⟨0, 0, []⟩ ∧
      u.reg 0x0400 1 = s.reg 0x0400 1 + 1 ∧
      u = { s.at t with regs := u.regs, alm := { s.alm with head := u.alm.head }, reply := u.reply, therm := { s.therm with cals := u.therm.cals, sets := u.therm.sets } } ∧
      SameRegs s u journalKeys) ∧
  (∀ (s : State) (rq : Req) (c : Fin 48) (vals : List Word) (t : Nat),
    s.carries = true →
    s.alm.held = [] →
    s.alm.head.length + 1 ≤ 3584 →
    (s.at t).firstChecks (mkTx rq .write (calIdx c) 7 0 4096 vals .here) (wordsAt 0 vals) = (0, 0) →
    s.lockOf (calIdx c) = none →
    s.valuesBad c vals = 0 →
    vals.length = 4096 →
    s.seqState c ≠ 3 →
    ∃ u, exec (.valuesWrite rq c 0 vals t) s = .next u ∧
      (∀ k < 4096, u.reg (calIdx c) 7 k = vals.getD k 0) ∧
      u.regN (calIdx c) 1 = 3 ∧
      u.regN (calIdx c) 0 = (if s.regN (calIdx c) 0 = 1 then 0 else s.regN (calIdx c) 0) ∧
      u.reg (calIdx c) 4 = vals.getD 3 0 ∧
      u.reg80 (calIdx c) 5 = u80 (vals.getD 4 0) (vals.getD 5 0) ∧
      (u.cal c).values = 0 ∧
      (∀ d, d ≠ c.val → u.cal d = s.cal d) ∧
      u.reply = ⟨0, 0, []⟩ ∧
      u.reg 0x0400 1 = s.reg 0x0400 1 + 1 ∧
      u = { s.at t with regs := u.regs, alm := { s.alm with head := u.alm.head }, reply := u.reply, therm := { s.therm with cals := u.therm.cals, sets := u.therm.sets } } ∧
      SameOutside s u (fun i => i == calIdx c || i == 0x0400))

/-- O45 (derived, 17, R482, R483, R484, R485, R487, R488, R500, R501, R502). A fault sets its source's status, counts and LAST_FAULT;
an S3 fault enters ECLIPSE; ACK clears the status; an injected fault is marked. -/
def Obligations.FaultsAreCollected : Prop :=
  (∀ (s : State) (source : Fin 512) (cause : Fin 128) (sev : Fin 4) (detail : Word) (t : Nat),
    2 ≤ s.devState →
    s.faultValid source cause sev = true →
    (cause.val = 0x0B ∨ cause.val = 0x0C ∨ cause.val = 0x0D ∨ cause.val = 0x12 ∨ cause.val = 0x14 ∨ cause.val = 0x16 ∨ cause.val = 0x19 ∨ cause.val = 0x1A ∨ cause.val = 0x1C ∨ cause.val = 0x22) →
    ∃ u, exec (.faultRaise source cause sev detail false t) s = .next u ∧
      u.reg 0x0601 0 source = statusWord (s.reg 0x0601 0 source) cause sev false ∧
      u.reg 0x0601 2 source = detail ∧
      u.reg 0x0600 9 0 = wd (sev * 2 ^ 17 + 0 * 2 ^ 16 + faultCode cause source) ∧
      u.reg 0x0600 9 1 = detail ∧
      u.reg 0x0600 9 2 = loWord (s.at t).now ∧
      u.reg 0x0600 9 3 = hiWord (s.at t).now ∧
      u.reg 0x0600 7 sev = s.reg 0x0600 7 sev + 1 ∧
      u = { s.at t with regs := u.regs, agenda := u.agenda, log := u.log, faults := { s.faults with reaction := u.faults.reaction } } ∧
      SameRegs s u [odKey 0x0601 0 source, odKey 0x0601 2 source, odKey 0x0600 7 sev, odKey 0x0600 9 0, odKey 0x0600 9 1, odKey 0x0600 9 2, odKey 0x0600 9 3, odKey 0x0500 6 0, odKey 0x0500 7 0]) ∧
  (∀ (s : State) (source : Fin 512) (cause : Fin 128) (sev : Fin 4) (detail : Word) (inj : Bool) (t : Nat),
    (s.devState < 2 ∨ s.faultValid source cause sev = false) →
    exec (.faultRaise source cause sev detail inj t) s = .next (s.at t)) ∧
  (∀ (s : State) (source : Fin 512) (cause : Fin 128) (detail : Word) (t : Nat),
    2 ≤ s.devState →
    s.devState ≤ 6 →
    s.faultValid source cause 3 = true →
    ∃ u, exec (.faultRaise source cause 3 detail false t) s = .next u ∧
      u.regN 0x0600 1 = faultCode cause source ∧
      u.devState = 7 ∧
      u.reg80 0x0600 2 = (s.at t).now ∧
      u.reg 0x0600 6 = s.reg 0x0600 6 + 1 ∧
      u.faults.before = (if s.devState = 4 then 3 else s.devState) ∧
      u.faultN = true ∧
      (∀ c < 48, u.seqState c = if c ∈ s.seqsIn 3 then 5 else s.seqState c) ∧
      (∀ c ∈ s.seqsIn 3, u.reg (seqIdx 0 c) 7 = 4) ∧
      (∀ c < 48, u.regN (peIdx 0x1F c) 0xF6 = if s.pins.lvlclrLow then 1 else 3) ∧
      (∀ n < 32, u.regN (asIdx n) 0x10 = 0) ∧
      (∀ c < 48, (u.cal c).quick ≠ some false)) ∧
  (∀ (s : State) (rq : Req) (source : Fin 512) (v : Word) (t : Nat),
    s.takes rq 0x0601 1 source [v] Env.calm t = true →
    v = 1 →
    ∃ u, exec (.ack rq source v t) s = .next u ∧
      u.reg 0x0601 0 source = setBit (setBit (s.reg 0x0601 0 source) 38 false) 37 false ∧
      s.answered u 4 0x0601 1 rq.src (wd (source * 2 ^ 14)) t ∧
      u = { (s.at t).endCmd rq.src 0x0601 1 0 0 with regs := u.regs, alm := u.alm, reply := u.reply } ∧
      SameRegs s u (odKey 0x0601 0 source :: journalKeys)) ∧
  (∀ (s : State) (rq : Req) (source : Fin 512) (cause : Fin 128) (sev : Nat) (detail : Word) (t : Nat),
    s.takes rq 0xF010 1 0 [wd (cause * 512 + source), detail] Env.calm t = true →
    (cause.val = 0x0B ∨ cause.val = 0x0C ∨ cause.val = 0x0D ∨ cause.val = 0x12 ∨ cause.val = 0x14 ∨ cause.val = 0x16 ∨ cause.val = 0x19 ∨ cause.val = 0x1A ∨ cause.val = 0x1C ∨ cause.val = 0x22) →
    sev = s.severityOf source cause →
    s.reacting source = false →
    ∃ u, exec (.inject rq 0 [wd (cause * 512 + source), detail] t) s = .next u ∧
      u.reg 0x0601 0 source = statusWord (s.reg 0x0601 0 source) cause sev true ∧
      u.reg 0x0601 2 source = detail ∧
      u.reg 0x0600 9 0 = wd (sev * 2 ^ 17 + 1 * 2 ^ 16 + faultCode cause source) ∧
      u.reg 0x0600 9 1 = detail ∧
      u.reg 0x0600 9 2 = loWord (s.at t).now ∧
      u.reg 0x0600 9 3 = hiWord (s.at t).now ∧
      u.reg 0xF010 2 = s.reg 0xF010 2 + 1 ∧
      u.reply = ⟨0, 0, []⟩ ∧
      u.reg 0x0400 1 = s.reg 0x0400 1 + 1 ∧
      u = { (s.at t).endCmd rq.src 0xF010 1 0 0 with regs := u.regs, alm := u.alm, reply := u.reply, agenda := u.agenda, log := u.log, faults := { s.faults with reaction := u.faults.reaction } } ∧
      SameRegs s u ([odKey 0x0601 0 source, odKey 0x0601 2 source, odKey 0xF010 2 0, odKey 0x0600 9 0, odKey 0x0600 9 1, odKey 0x0600 9 2, odKey 0x0600 9 3, odKey 0x0500 6 0, odKey 0x0500 7 0] ++ journalKeys)) ∧
  (∀ (s : State) (c : Fin 48) (cause : Fin 128) (detail : Word) (n t : Nat),
    2 ≤ s.devState →
    (cause = 1 ∨ cause = 2 ∨ cause = 3) →
    fld detail 0 5 = n →
    n < 24 →
    s.sliceState c n = 0 →
    s.sliceState c 24 = 1 →
    (s.pe c).swap = none ∧ (s.pe c).rehome = none ∧ (s.pe c).moving = none →
    ∃ u, exec (.faultRaise (Fin.ofNat 512 c) cause 2 detail false t) s = .next u ∧
      ((u.pe c).swap.map (fun r => (r.lane, r.unit, r.code, r.t0, r.at0))) = some (n, n, faultCode cause c, (s.at t).now, (s.at t).clock) ∧
      (u.pe c).swapFlag = true ∧
      (u.pe c).epoch = ((s.pe c).epoch + 1) % 256 ∧
      u.regN (peIdx 0x1F c) 0xF2 = n ∧
      u.sliceState c n = 4 ∧
      (∀ d < 48, d ≠ c.val → u.pe d = s.pe d) ∧
      u.reg 0x0600 7 2 = s.reg 0x0600 7 2 + 1) ∧
  (∀ (s : State) (c : Fin 48) (cause : Fin 128) (detail : Word) (d t : Nat),
    2 ≤ s.devState →
    (cause = 4 ∨ cause = 5 ∨ cause = 6) →
    fld detail 0 3 = d →
    d < 6 →
    s.regN (peIdx 0x29 c) 0xF0 = 0 →
    (s.pe c).swap = none ∧ (s.pe c).rehome = none ∧ (s.pe c).moving = none →
    ∃ u, exec (.faultRaise (Fin.ofNat 512 c) cause 2 detail false t) s = .next u ∧
      ((u.pe c).rehome.map (fun r => (r.unit, r.code, r.t0, r.at0))) = some (d, faultCode cause c, (s.at t).now, (s.at t).clock) ∧
      (u.pe c).rehomeFlag = true ∧
      u.regN (peIdx 0x29 c) 0xF0 = 2 ^ d ∧
      (∀ k < 48, k ≠ c.val → u.pe k = s.pe k) ∧
      u.reg 0x0600 7 2 = s.reg 0x0600 7 2 + 1) ∧
  (∀ (s : State) (c : Fin 48) (cause : Fin 128) (detail : Word) (t : Nat),
    2 ≤ s.devState →
    1 ≤ cause.val ∧ cause.val ≤ 6 →
    ((s.pe c).swap.isSome = true ∨ (s.pe c).rehome.isSome = true ∨ (s.pe c).moving.isSome = true) →
    SMap.get (fun _ => 0) s.faults.reaction c ≠ 2 →
    s.looped c = false →
    ∃ u, exec (.faultRaise (Fin.ofNat 512 c) cause 2 detail false t) s = .next u ∧
      (u.pe c).waiting.length = (s.pe c).waiting.length + 1 ∧
      (u.pe c).swap = (s.pe c).swap ∧
      (u.pe c).rehome = (s.pe c).rehome ∧
      (∀ k < 48, k ≠ c.val → u.pe k = s.pe k) ∧
      u.reg 0x0600 7 2 = s.reg 0x0600 7 2 + 1) ∧
  (∀ (s : State) (e : Fin 18) (detail : Word) (t : Nat),
    2 ≤ s.devState →
    s.regN (0x6010 + e) 0 = 1 →
    ∃ u, exec (.faultRaise (Fin.ofNat 512 (0x30 + e)) 0x0F 2 detail false t) s = .next u ∧
      u.regN (0x6010 + e) 0 = 3 ∧
      SMap.get (fun _ => none) u.red.takeovers e = none ∧
      (∀ r < 16, u.engineOf r = s.engineOf r) ∧
      u.reg 0x0600 7 2 = s.reg 0x0600 7 2 + 1 ∧
      u = { s.at t with regs := u.regs, agenda := u.agenda, log := u.log, red := { s.red with takeovers := u.red.takeovers }, faults := u.faults }) ∧
  (∀ (s : State) (p : Fin 4) (detail : Word) (t : Nat),
    2 ≤ s.devState →
    1 < s.portState p →
    ∃ u, exec (.faultRaise (Fin.ofNat 512 (0x42 + p)) 0x11 2 detail false t) s = .next u ∧
      u.portState p = 1 ∧
      (u.port p).txq = [] ∧
      (u.port p).since = (s.at t).clock ∧
      u.regN (0x1110 + p) 8 = 0 ∧
      u.regN (0x1110 + p) 9 = 0 ∧
      u.reg 0x0600 7 2 = s.reg 0x0600 7 2 + 1) ∧
  (∀ (s : State) (detail : Word) (t q : Nat),
    2 ≤ s.devState →
    fld detail 0 16 = q →
    (s.queue q).broken = false →
    ∃ u, exec (.faultRaise 0xAB 0x15 1 detail false t) s = .next u ∧
      u.queue q = { s.queue q with broken := true, opens := (s.queue q).opens.map (fun p => { p with st := .discarded }) } ∧
      (∀ k < 65536, k ≠ q → u.queue k = s.queue k) ∧
      u.reg 0x0600 7 1 = s.reg 0x0600 7 1 + 1 ∧
      u = { s.at t with regs := u.regs, agenda := u.agenda, log := u.log, queues := u.queues, faults := u.faults }) ∧
  (∀ (s : State) (source : Fin 512) (detail : Word) (t : Nat),
    2 ≤ s.devState →
    s.faultValid source 0x13 1 = true →
    fld detail 0 31 < 0x60000000 →
    ∃ u, exec (.faultRaise source 0x13 1 detail false t) s = .next u ∧
      u.line (fld detail 0 31) = (if parityBad (s.line (fld detail 0 31)) = true then poisoned (s.line (fld detail 0 31)) else s.line (fld detail 0 31)) ∧
      (∀ a, a ≠ fld detail 0 31 → u.line a = s.line a) ∧
      u.reg 0x0600 7 1 = s.reg 0x0600 7 1 + 1 ∧
      u = { s.at t with regs := u.regs, agenda := u.agenda, log := u.log, hbm := u.hbm, mem := { s.mem with repairs := u.mem.repairs }, faults := u.faults }) ∧
  (∀ (s : State) (c : Fin 48) (detail : Word) (t : Nat),
    2 ≤ s.devState →
    s.restarting c = false →
    SMap.get (fun _ => none) s.micro.last c = none →
    s.seqState c ≠ 7 →
    ∃ u, exec (.faultRaise (Fin.ofNat 512 c) 7 2 detail false t) s = .next u ∧
      SMap.get (fun _ => none) u.micro.restarts c = some ⟨(s.at t).clock, fld detail 30 2, fld detail 0 18⟩ ∧
      u.reg 0x0E00 6 0 = wd (c * 2 ^ 32 + fld detail 30 2 * 2 ^ 30 + fld detail 0 18) ∧
      u.reg 0x0E00 5 = s.reg 0x0E00 5 + 1 ∧
      fld (u.reg 0x0E10 0 c) 16 8 = min 255 (fld (s.reg 0x0E10 0 c) 16 8 + 1) ∧
      u.reg 0x0600 7 2 = s.reg 0x0600 7 2 + 1) ∧
  (∀ (s : State) (c : Fin 48) (detail : Word) (t n : Nat),
    2 ≤ s.devState →
    fld detail 0 1 = n →
    (s.regN (adcIdx c n) 0 = 1 ∨ s.regN (adcIdx c n) 0 = 2) →
    ∃ u, exec (.faultRaise (Fin.ofNat 512 c) 8 2 detail false t) s = .next u ∧
      c * 2 + n ∈ u.faults.adcGone ∧
      u.regN (adcIdx c n) 0 = 4 ∧
      u.regN (adcIdx c n) 0x0A = 2 ∧
      u.reg 0x0600 7 2 = s.reg 0x0600 7 2 + 1)

/-- O46 (derived, 17, R487, R491, R492, R496). ENTER takes the device to ECLIPSE with the requester as detail; CLEAR leaves it, with
every driver, PMU and output off and faults cleared. -/
def Obligations.EclipseIsEnteredAndLeft : Prop :=
  (∀ (s : State) (rq : Req) (v : Word) (t : Nat),
    s.takes rq 0x0600 4 0 [v] Env.calm t = true →
    s.devState = 7 →
    ∃ u, exec (.enter rq v t) s = .next u ∧
      s.answered u 3 0x0600 4 rq.src v t ∧
      u = { (s.at t).endCmd rq.src 0x0600 4 0 0 with regs := u.regs, alm := u.alm, reply := u.reply } ∧
      SameRegs s u journalKeys) ∧
  (∀ (s : State) (rq : Req) (v : Word) (t : Nat),
    s.takes rq 0x0600 4 0 [v] Env.calm t = true →
    2 ≤ s.devState →
    s.devState ≤ 6 →
    ∃ u, exec (.enter rq v t) s = .next u ∧
      u.regN 0x0600 1 = faultCode 0x20 0x1FE ∧
      u.reg 0x0601 2 0x1FE = rq.src ∧
      u.cmdStatus rq.src 0x0600 4 = 0 ∧
      u.reply = ⟨0, 0, []⟩ ∧
      u.devState = 7 ∧
      u.reg80 0x0600 2 = (s.at t).now ∧
      u.reg 0x0600 6 = s.reg 0x0600 6 + 1 ∧
      u.faults.before = (if s.devState = 4 then 3 else s.devState) ∧
      u.faultN = true ∧
      (∀ c < 48, u.seqState c = if c ∈ s.seqsIn 3 then 5 else s.seqState c) ∧
      (∀ c ∈ s.seqsIn 3, u.reg (seqIdx 0 c) 7 = 4) ∧
      (∀ c < 48, u.regN (peIdx 0x1F c) 0xF6 = if s.pins.lvlclrLow then 1 else 3) ∧
      (∀ n < 32, u.regN (asIdx n) 0x10 = 0) ∧
      (∀ c < 48, (u.cal c).quick ≠ some false)) ∧
  (∀ (s : State) (rq : Req) (v : Word) (a b : Bool) (t : Nat),
    s.takes rq 0x0600 5 0 [v] { Env.calm with relocked := a, rebuilt := b } t = true →
    ∃ u, exec (.clear rq v a b t) s = .next u ∧
      u.devState = (if s.faults.before = 2 ∨ s.faults.before = 6 then 6 else if s.anyRun then 4 else 3) ∧
      u.faults.persisting = [] ∧
      u.regN 0x0600 3 = 0 ∧
      (∀ c < 48, ∀ n < 25, u.reg (peIdx 0 c) n = 0 ∧ u.reg (peIdx 0x03 c) n = 0) ∧
      (∀ n < 32, u.reg (asIdx n) 0 = 0) ∧
      (∀ n < 512, ¬(bit (u.reg 0x0601 0 n) 38 = true ∧ fld (u.reg 0x0601 0 n) 35 2 = 3)) ∧
      (∀ c < 48, u.regN (peIdx 0x1F c) 0xF6 = if s.pins.lvlclrLow then 1 else 2) ∧
      u.reply = ⟨0, 0, []⟩ ∧
      u.cmdStatus rq.src 0x0600 5 = 0 ∧
      u.reg 0x0400 1 = s.reg 0x0400 1 + 2433 ∧
      u = { (s.at t).endCmd rq.src 0x0600 5 0 0 with regs := u.regs, agenda := u.agenda, log := u.log, alm := { s.alm with head := u.alm.head }, reply := u.reply, faults := u.faults, svc := u.svc })

/-- O47 (derived, 18, R504, R506, R507, R508, R510, R513, R515). COMMIT writes the bank not in use while its command runs; success
makes it VALID and active, failure INVALID; FACTORY_WRITE is checked. -/
def Obligations.AlmanacIsCommitted : Prop :=
  (∀ (s : State) (rq : Req) (t : Nat),
    s.takes rq 0x0300 0 0 [1] Env.calm t = true →
    s.regN 0x0300 1 ≤ 2 →
    ∃ u, exec (.almanacCommit rq t) s = .next u ∧
      u.alm.run.map (fun k => (k.src, k.bank, k.gen)) = some (rq.src, s.commitBank, max s.alm.bankA.gen s.alm.bankB.gen + 1) ∧
      (u.bank s.commitBank).st = 3 ∧
      (u.bank s.commitBank).entries = [] ∧
      u.bank (3 - s.commitBank) = s.bank (3 - s.commitBank) ∧
      u.regN 0x0300 1 = s.regN 0x0300 1 ∧
      u.cmdStatus rq.src 0x0300 0 = cmdRunning ∧
      u.reply = ⟨0, 0, []⟩ ∧
      u.reg 0x0400 1 = s.reg 0x0400 1 + 1 ∧
      u = { (s.at t).setCmd rq.src 0x0300 0 cmdRunning with regs := u.regs, alm := { s.alm with run := u.alm.run, bankA := u.alm.bankA, bankB := u.alm.bankB, head := u.alm.head }, reply := u.reply }) ∧
  (∀ (s : State) (rq : Req) (t : Nat),
    s.takes rq 0x0300 0 0 [2] Env.calm t = true →
    s.regN 0x0300 1 ≤ 2 →
    ∃ u, exec (.almanacCommitEmpty rq t) s = .next u ∧
      u.alm.run = some ⟨rq.src, s.commitBank, max s.alm.bankA.gen s.alm.bankB.gen + 1, [], 4096⟩ ∧
      (u.bank s.commitBank).st = 3 ∧
      (u.bank s.commitBank).entries = [] ∧
      u.bank (3 - s.commitBank) = s.bank (3 - s.commitBank) ∧
      u.regN 0x0300 1 = s.regN 0x0300 1 ∧
      u.cmdStatus rq.src 0x0300 0 = cmdRunning ∧
      u.reply = ⟨0, 0, []⟩ ∧
      u.reg 0x0400 1 = s.reg 0x0400 1 + 1 ∧
      u = { (s.at t).setCmd rq.src 0x0300 0 cmdRunning with regs := u.regs, alm := { s.alm with run := u.alm.run, bankA := u.alm.bankA, bankB := u.alm.bankB, head := u.alm.head }, reply := u.reply }) ∧
  (∀ (s : State) (t : Nat) (k : CommitRun),
    s.alm.run = some k →
    s.bootEarly = false →
    (k.bank = 1 ∨ k.bank = 2) →
    ∃ u, exec (.almanacCommitted .good t) s = .next u ∧
      u.bank k.bank = ⟨1, k.gen, k.entries, k.bytes⟩ ∧
      u.bank (3 - k.bank) = s.bank (3 - k.bank) ∧
      u.regN 0x0300 1 = k.bank ∧
      u.reg 0x0300 (5 + k.bank) = s.reg 0x0300 (5 + k.bank) + 1 ∧
      u.cmdStatus k.src 0x0300 0 = cmdStatusWord false k.bank 0 ∧
      u.reg 0x0400 1 = s.reg 0x0400 1 + 1 ∧
      u.agenda = s.agenda ∧
      u = { s.at t with regs := u.regs, cmdStat := u.cmdStat, agenda := u.agenda, log := u.log, alm := { s.alm with run := none, bankA := u.alm.bankA, bankB := u.alm.bankB, head := u.alm.head } }) ∧
  (∀ (s : State) (a : BitVec 26) (t : Nat) (k : CommitRun),
    s.alm.run = some k →
    s.bootEarly = false →
    (k.bank = 1 ∨ k.bank = 2) →
    s.regN 0x0300 1 ≤ 2 →
    ∃ u, exec (.almanacCommitted (.failed a) t) s = .next u ∧
      (u.bank k.bank).st = 2 ∧
      u.bank (3 - k.bank) = s.bank (3 - k.bank) ∧
      u.regN 0x0300 1 = s.regN 0x0300 1 ∧
      u.cmdStatus k.src 0x0300 0 = cmdStatusWord false 0 0x33 ∧
      u.reg 0x0400 1 = s.reg 0x0400 1 + 1 ∧
      u.agenda = s.agenda ++ [.faultRaise 0xAE 0x1C 1 (wd a.toNat) false ((s.at t).clock)] ∧
      u = { s.at t with regs := u.regs, cmdStat := u.cmdStat, agenda := u.agenda, log := u.log, alm := { s.alm with run := none, bankA := u.alm.bankA, bankB := u.alm.bankB, head := u.alm.head } }) ∧
  (∀ (s : State) (r : FlashResult) (t : Nat),
    (s.alm.run = none ∨ s.bootEarly = true) →
    exec (.almanacCommitted r t) s = .next (s.at t)) ∧
  (∀ (s : State) (rq : Req) (v : Word) (t : Nat),
    v = 1 →
    s.carries = true →
    s.alm.held = [] →
    s.alm.head.length + 1 ≤ 3584 →
    (s.at t).firstChecks (mkTx rq .write 0xF020 1 0 1 [1] .here) [(0, 1)] = (0, 0) →
    s.lockOf 0xF020 = none →
    s.cmdBusy rq.src 0xF020 1 = false →
    s.regB 0 7 = false →
    ∃ u, exec (.factoryWrite rq v t) s = .next u ∧
      (if Config.factoryValid (s.listedWords 0xF020 0) = true then u.regN 0x0300 0x0A = 1 ∧ (∀ k, SMap.get (fun _ => none) u.alm.factory k = SMap.get (fun _ => none) ((Config.factoryEntries (s.listedWords 0xF020 0)).foldl (fun m e => SMap.set (fun _ => none) m e.1 (some e.2)) []) k) ∧ s.reg 0x0400 1 + 1 = u.reg 0x0400 1 ∧ u = { (s.at t).endCmd rq.src 0xF020 1 0 0 with regs := u.regs, alm := { s.alm with factory := u.alm.factory, head := u.alm.head }, reply := ⟨0, 0, []⟩ } ∧ SameRegs s u (odKey 0x0300 0x0A 0 :: journalKeys) else u = { (s.at t).endCmd rq.src 0xF020 1 0 0x35 with reply := ⟨0x35, 0, []⟩ }))

/-- O48 (derived, 18, R504, R506, R509). The running commit holds the RWS values as they stood when COMMIT was accepted, and the size
of the bank they make. -/
def Obligations.CommitCaptures : Prop :=
  (∀ (s : State) (rq : Req) (t : Nat),
    s.takes rq 0x0300 0 0 [1] Env.calm t = true →
    ∃ u, exec (.almanacCommit rq t) s = .next u ∧
      u.alm.run.map (fun k => (k.entries, k.bytes)) = some s.captureRws)

/-- O49 (derived, 18, R521, R522, R523, R524). An occurrence enters the log input or is lost; the input is stored or merged; under
RATE a window stores its first records and counts the rest. -/
def Obligations.LogRecordsOccurrences : Prop :=
  (∀ (s : State) (code : BitVec 16) (a b : Word) (inj : Bool) (t : Nat),
    (s.regN 0x0500 0 ≠ 1 ∨ rateLimited code.toNat = false) →
    s.log.input.length < 256 →
    exec (.logRecord code a b inj t) s = .next { s.at t with log := { s.log with input := s.log.input ++ [⟨code.toNat, inj, s.log.lossPending, 0, 0, (s.at t).now, a, b, 0⟩], lossPending := false } }) ∧
  (∀ (s : State) (code : BitVec 16) (a b : Word) (inj : Bool) (t : Nat),
    (s.regN 0x0500 0 ≠ 1 ∨ rateLimited code.toNat = false) →
    256 ≤ s.log.input.length →
    ∃ u, exec (.logRecord code a b inj t) s = .next u ∧
      u.reg 0x0500 7 = s.reg 0x0500 7 + 1 ∧
      u = { s.at t with regs := u.regs, log := { s.log with lossPending := true } } ∧
      SameRegs s u [odKey 0x0500 7 0]) ∧
  (∀ (s : State) (code : BitVec 16) (a b : Word) (inj : Bool) (t : Nat),
    s.regN 0x0500 0 = 1 →
    rateLimited code.toNat = true →
    s.rateWin code.toNat = none →
    s.log.input.length < 256 →
    ∃ u, exec (.logRecord code a b inj t) s = .next u ∧
      u.rateWin code.toNat = some ⟨(s.at t).clock, 1, 0⟩ ∧
      (∀ k, k ≠ code.toNat → u.rateWin k = s.rateWin k) ∧
      u.log.input = s.log.input ++ [⟨code.toNat, inj, s.log.lossPending, 0, 0, (s.at t).now, a, b, 0⟩] ∧
      u.log.slots = s.log.slots ∧
      u = { s.at t with log := u.log }) ∧
  (∀ (s : State) (code : BitVec 16) (a b : Word) (inj : Bool) (t : Nat) (w : RateWin),
    s.regN 0x0500 0 = 1 →
    rateLimited code.toNat = true →
    s.rateWin code.toNat = some w →
    (s.at t).clock < w.opened + msEt (s.regN 0x0500 2) →
    s.regN 0x0500 1 ≤ w.stored →
    ∃ u, exec (.logRecord code a b inj t) s = .next u ∧
      u.rateWin code.toNat = some { w with held := w.held + 1 } ∧
      (∀ k, k ≠ code.toNat → u.rateWin k = s.rateWin k) ∧
      u.log.input = s.log.input ∧
      u.reg 0x0500 6 = s.reg 0x0500 6 + 1 ∧
      u = { s.at t with regs := u.regs, log := u.log } ∧
      SameRegs s u [odKey 0x0500 6 0]) ∧
  (∀ (s : State) (code : BitVec 16) (a b : Word) (inj : Bool) (t : Nat) (w : RateWin),
    s.regN 0x0500 0 = 1 →
    rateLimited code.toNat = true →
    s.rateWin code.toNat = some w →
    (s.at t).clock < w.opened + msEt (s.regN 0x0500 2) →
    w.stored < s.regN 0x0500 1 →
    s.log.input.length < 256 →
    ∃ u, exec (.logRecord code a b inj t) s = .next u ∧
      u.rateWin code.toNat = some { w with stored := w.stored + 1 } ∧
      (∀ k, k ≠ code.toNat → u.rateWin k = s.rateWin k) ∧
      u.log.input = s.log.input ++ [⟨code.toNat, inj, s.log.lossPending, 0, 0, (s.at t).now, a, b, 0⟩] ∧
      u.log.slots = s.log.slots ∧
      u = { s.at t with log := u.log }) ∧
  (∀ (s : State) (code : BitVec 16) (a b : Word) (inj : Bool) (t : Nat) (w : RateWin),
    s.regN 0x0500 0 = 1 →
    rateLimited code.toNat = true →
    s.rateWin code.toNat = some w →
    w.opened + msEt (s.regN 0x0500 2) ≤ (s.at t).clock →
    w.held = 0 →
    s.log.input.length < 256 →
    ∃ u, exec (.logRecord code a b inj t) s = .next u ∧
      u.rateWin code.toNat = some ⟨(s.at t).clock, 1, 0⟩ ∧
      u.log.input = s.log.input ++ [⟨code.toNat, inj, s.log.lossPending, 0, 0, (s.at t).now, a, b, 0⟩] ∧
      u = { s.at t with log := u.log }) ∧
  (∀ (s : State),
    s.log.input = [] →
    exec .logStore s = .next (s.at 0)) ∧
  (∀ (s : State) (r x : LogRec) (l : List LogRec),
    s.log.input = r :: l →
    s.regN 0x0500 0 = 0 →
    s.newestRecord = some x →
    r.mergesWith x = true →
    r.afterLoss = false →
    mergesAlone r.code = true →
    ∃ u, exec .logStore s = .next u ∧
      u.log.input = l ∧
      SMap.get (fun _ => none) u.log.slots (logSlotOf x.num) = some { x with rep := min 0xFFFFF (x.rep + 1), arg1 := r.arg1, crc := ({ x with rep := min 0xFFFFF (x.rep + 1), arg1 := r.arg1 } : LogRec).crcOf } ∧
      u = { s.at 0 with log := u.log }) ∧
  (∀ (s : State) (r x y : LogRec) (l : List LogRec),
    s.log.input = r :: y :: l →
    s.regN 0x0500 0 = 0 →
    s.newestRecord = some x →
    r.mergesWith x = true →
    r.afterLoss = true →
    ∃ u, exec .logStore s = .next u ∧
      u.log.input = { y with afterLoss := true } :: l ∧
      u = { s.at 0 with log := u.log }) ∧
  (∀ (s : State) (r : LogRec) (l : List LogRec),
    s.log.input = r :: l →
    (∀ x ∈ s.newestRecord, s.regN 0x0500 0 ≠ 0 ∨ r.mergesWith x = false) →
    4096 ≤ s.regN 0x0500 3 →
    ∃ u, exec .logStore s = .next u ∧
      SMap.get (fun _ => none) u.log.slots (logSlotOf (s.regN 0x0500 3)) = some { r with num := s.regN 0x0500 3, crc := ({ r with num := s.regN 0x0500 3 } : LogRec).crcOf } ∧
      u.reg 0x0500 3 = s.reg 0x0500 3 + 1 ∧
      u.reg 0x0500 5 = s.reg 0x0500 5 + 1 ∧
      u.log.input = l ∧
      u = { s.at 0 with regs := u.regs, log := u.log } ∧
      SameRegs s u [odKey 0x0500 3 0, odKey 0x0500 5 0]) ∧
  (∀ (s : State) (code : BitVec 16) (t : Nat),
    s.rateWin code.toNat = none →
    exec (.rateWindowClose code t) s = .next (s.at t)) ∧
  (∀ (s : State) (r : LogRec) (l : List LogRec),
    s.log.input = r :: l →
    (∀ x ∈ s.newestRecord, s.regN 0x0500 0 ≠ 0 ∨ r.mergesWith x = false) →
    s.regN 0x0500 3 < 4096 →
    ∃ u, exec .logStore s = .next u ∧
      SMap.get (fun _ => none) u.log.slots (logSlotOf (s.regN 0x0500 3)) = some { r with num := s.regN 0x0500 3, crc := ({ r with num := s.regN 0x0500 3 } : LogRec).crcOf } ∧
      (∀ k, k ≠ logSlotOf (s.regN 0x0500 3) → SMap.get (fun _ => none) u.log.slots k = SMap.get (fun _ => none) s.log.slots k) ∧
      u.reg 0x0500 3 = s.reg 0x0500 3 + 1 ∧
      u.log.input = l ∧
      u = { s.at 0 with regs := u.regs, log := u.log } ∧
      SameRegs s u [odKey 0x0500 3 0]) ∧
  (∀ (s : State) (r x : LogRec) (l : List LogRec),
    s.log.input = r :: l →
    s.regN 0x0500 0 = 0 →
    s.newestRecord = some x →
    r.mergesWith x = true →
    r.afterLoss = false →
    mergesAlone r.code = false →
    ∃ u, exec .logStore s = .next u ∧
      u.log.input = l ∧
      u.log.lossPending = s.log.lossPending ∧
      SMap.get (fun _ => none) u.log.slots (logSlotOf x.num) = some { x with rep := min 0xFFFFF (x.rep + 1), crc := ({ x with rep := min 0xFFFFF (x.rep + 1) } : LogRec).crcOf } ∧
      (∀ k, k ≠ logSlotOf x.num → SMap.get (fun _ => none) u.log.slots k = SMap.get (fun _ => none) s.log.slots k) ∧
      u = { s.at 0 with log := u.log }) ∧
  (∀ (s : State) (code : BitVec 16) (t : Nat) (w : RateWin),
    s.rateWin code.toNat = some w →
    w.opened + msEt (s.regN 0x0500 2) ≤ (s.at t).clock →
    s.log.input.length < 256 →
    ∃ u, exec (.rateWindowClose code t) s = .next u ∧
      u.rateWin code.toNat = none ∧
      (∀ k, k ≠ code.toNat → u.rateWin k = s.rateWin k) ∧
      u.log.input = s.log.input ++ (if w.held = 0 then [] else [⟨0x0107, false, s.log.lossPending, 0, 0, (s.at t).meridianOf ((w.opened + msEt (s.regN 0x0500 2)) / 32), wd code.toNat, wd w.held, 0⟩]) ∧
      u = { s.at t with log := u.log }) ∧
  (∀ (s : State) (code : BitVec 16) (t : Nat) (w : RateWin),
    s.rateWin code.toNat = some w →
    (s.at t).clock < w.opened + msEt (s.regN 0x0500 2) →
    exec (.rateWindowClose code t) s = .next (s.at t))

/-- O50 (derived, 18, R517, R518, R519). Entries leave the journal's head oldest first, each to the line of its SEQ; a held write is
performed when there is room. -/
def Obligations.JournalDrains : Prop :=
  (∀ (s : State) (n : Nat),
    ((s.alm.head.take n).map (fun l => 0x5FD00000 + (lineWord l 0).toNat % 1048576)).Nodup →
    ∃ u, exec (.journalDrain n) s = .next u ∧
      u.alm = { s.alm with head := s.alm.head.drop n } ∧
      (s.alm.head.take n).map (fun l => u.line (0x5FD00000 + (lineWord l 0).toNat % 1048576)) = s.alm.head.take n ∧
      (∀ a < 1610612736, a ∉ (s.alm.head.take n).map (fun l => 0x5FD00000 + (lineWord l 0).toNat % 1048576) → u.line a = s.line a) ∧
      u.regN 0x0400 4 = (s.alm.head.length - n) % 2 ^ 40 ∧
      u = { s.at 0 with hbm := u.hbm, regs := u.regs, alm := u.alm } ∧
      SameRegs s u [odKey 0x0400 4 0]) ∧
  (∀ (s : State) (rq : Req) (i sub : Nat) (v : Word) (t : Nat) (r : Obj),
    s.alm.held = [mkTx rq .write i sub 0 1 [v] .here] →
    ({ s with alm := { s.alm with held := [] } } : State).takes rq i sub 0 [v] Env.calm t = true →
    odFind i sub = some r →
    r.hook = .none →
    r.acc ≠ .cmd →
    (r.eff = .imm ∨ r.eff = .shadow) →
    ∃ u, exec (.journalHoldRelease Env.calm t) s = .next u ∧
      u.reg i sub = v ∧
      u.alm.held = [] ∧
      u.alm.head.length = s.alm.head.length + 1 ∧
      u.reg 0x0400 1 = s.reg 0x0400 1 + 1 ∧
      u.reply = ⟨0, 0, []⟩ ∧
      u = { s.at t with regs := u.regs, alm := { s.alm with head := u.alm.head, held := [] }, reply := u.reply } ∧
      SameRegs s u (odKey i sub 0 :: journalKeys)) ∧
  (∀ (s : State) (e : Env) (x : Tx) (l : List Tx) (t : Nat),
    s.alm.held = x :: l →
    (({ s.at t with alm := { s.alm with held := l } } : State).odPerform x e).isNone = true →
    exec (.journalHoldRelease e t) s = .next (s.at t)) ∧
  (∀ (s : State) (e : Env) (t : Nat),
    s.alm.held = [] →
    exec (.journalHoldRelease e t) s = .next (s.at t))

/-- O51 (derived, 19, R528, R530, R531, R539, R78, R520). Power-on, power-off and cold reset leave POWERUP (or OFF) with everything at
reset but what is kept; release of the resets starts BRINGUP. -/
def Obligations.PowerAndColdResets : Prop :=
  (∀ (s : State) (t : Nat),
    s.devState = 0 →
    ∃ u, exec (.powerOn t) s = .next u ∧
      u.devState = 1 ∧
      u.reg 0x0400 2 = s.reg 0x0400 2 + 1 ∧
      u.regN 0x0100 6 = 1 ∧
      u.clock = 0 ∧
      u.hbm = [] ∧
      u.agenda = [] ∧
      u.reg 0x0300 6 = s.reg 0x0300 6 ∧
      u.reg 0x0300 7 = s.reg 0x0300 7 ∧
      u.reg 0x0300 0x0A = s.reg 0x0300 0x0A ∧
      (∀ p < 64, fld (u.reg 0x0D01 0 p) 36 4 = fld (s.reg 0x0D01 0 p) 36 4) ∧
      u.alm = { s.alm with head := [], held := [] } ∧
      u.tap = s.tap ∧
      u.pins.lvlclrLow = s.pins.lvlclrLow ∧
      (∀ c < 48, u.lvlclr c = b2n s.pins.lvlclrLow) ∧
      u = { State.reset with pending := s.pending, regs := u.regs, alm := u.alm, pins := { State.reset.pins with lvlclrLow := u.pins.lvlclrLow }, therm := { State.reset.therm with sets := s.therm.sets }, host := HostSt.idle (s.host.gen + 1), tap := u.tap, svc := u.svc } ∧
      SameRegs State.reset u ([odKey 0x0300 6 0, odKey 0x0300 7 0, odKey 0x0300 0x0A 0, odKey 0x0400 2 0, odKey 0x0100 6 0] ++ (List.range 64).map (odKey 0x0D01 0) ++ (List.range 48).map (fun c => odKey (peIdx 0x1F c) 0xF6 0))) ∧
  (∀ (s : State) (p : Bool) (t : Nat),
    s.devState ≠ 0 →
    ∃ u, exec (.coldReset p t) s = .next u ∧
      u.devState = 1 ∧
      u.reg 0x0400 2 = s.reg 0x0400 2 + 1 ∧
      u.regN 0x0100 6 = (if p then 4 else 2) ∧
      u.start = { State.reset.start with resetLow := s.start.resetLow || !p, perstLow := s.start.perstLow || p } ∧
      u.clock = 0 ∧
      u.hbm = [] ∧
      u.agenda = [] ∧
      u.reg 0x0300 6 = s.reg 0x0300 6 ∧
      u.reg 0x0300 7 = s.reg 0x0300 7 ∧
      u.reg 0x0300 0x0A = s.reg 0x0300 0x0A ∧
      (∀ p < 64, fld (u.reg 0x0D01 0 p) 36 4 = fld (s.reg 0x0D01 0 p) 36 4) ∧
      u.alm = { s.alm with head := [], held := [] } ∧
      u.tap = s.tap ∧
      u.pins.lvlclrLow = s.pins.lvlclrLow ∧
      (∀ c < 48, u.lvlclr c = b2n s.pins.lvlclrLow) ∧
      u = { State.reset with pending := s.pending, regs := u.regs, alm := u.alm, pins := { State.reset.pins with lvlclrLow := u.pins.lvlclrLow }, therm := { State.reset.therm with sets := s.therm.sets }, host := HostSt.idle (s.host.gen + 1), tap := u.tap, svc := u.svc, start := u.start } ∧
      SameRegs State.reset u ([odKey 0x0300 6 0, odKey 0x0300 7 0, odKey 0x0300 0x0A 0, odKey 0x0400 2 0, odKey 0x0100 6 0] ++ (List.range 64).map (odKey 0x0D01 0) ++ (List.range 48).map (fun c => odKey (peIdx 0x1F c) 0xF6 0))) ∧
  (∀ (s : State) (t : Nat),
    ∃ u, exec (.powerOff t) s = .next u ∧
      u.devState = 0 ∧
      u.reg 0x0400 2 = s.reg 0x0400 2 ∧
      u.clock = 0 ∧
      u.hbm = [] ∧
      u.agenda = [] ∧
      u.reg 0x0300 6 = s.reg 0x0300 6 ∧
      u.reg 0x0300 7 = s.reg 0x0300 7 ∧
      u.reg 0x0300 0x0A = s.reg 0x0300 0x0A ∧
      (∀ p < 64, fld (u.reg 0x0D01 0 p) 36 4 = fld (s.reg 0x0D01 0 p) 36 4) ∧
      u.alm = { s.alm with head := [], held := [] } ∧
      u.tap = s.tap ∧
      u.pins.lvlclrLow = s.pins.lvlclrLow ∧
      (∀ c < 48, u.lvlclr c = b2n s.pins.lvlclrLow) ∧
      u = { State.reset with pending := s.pending, regs := u.regs, alm := u.alm, pins := { State.reset.pins with lvlclrLow := u.pins.lvlclrLow }, therm := { State.reset.therm with sets := s.therm.sets }, host := HostSt.idle (s.host.gen + 1), tap := u.tap, svc := u.svc } ∧
      SameRegs State.reset u ([odKey 0x0300 6 0, odKey 0x0300 7 0, odKey 0x0300 0x0A 0, odKey 0x0400 2 0, odKey 0x0100 6 0, odKey 0x0100 0 0] ++ (List.range 64).map (odKey 0x0D01 0) ++ (List.range 48).map (fun c => odKey (peIdx 0x1F c) 0xF6 0))) ∧
  (∀ (s : State) (b : Fin 4) (m : Bool) (t : Nat),
    s.devState = 1 →
    ∃ u, exec (.resetRelease b m t) s = .next u ∧
      u.devState = 2 ∧
      u.regN 0x0100 8 = 1 ∧
      u.regN 0x0100 4 = b.val ∧
      u.reg 0x0100 5 = wd (b2n m) ∧
      u.start = { (s.at t).start with resetLow := false, perstLow := false, began := (s.at t).start.timer } ∧
      u = { s.at t with regs := u.regs, start := u.start, svc := u.svc } ∧
      SameRegs s u [odKey 0x0100 0 0, odKey 0x0100 4 0, odKey 0x0100 5 0, odKey 0x0100 8 0]) ∧
  (∀ (s : State) (p : Bool) (t : Nat) (c : Instr),
    (s.devState = 0 ∧ c = .coldReset p t ∨ s.devState ≠ 0 ∧ c = .powerOn t) →
    exec c s = .next (s.at t)) ∧
  (∀ (s : State) (b : Fin 4) (m : Bool) (t : Nat),
    s.devState ≠ 1 →
    exec (.resetRelease b m t) s = .next (s.at t))

/-- O52 (derived, 19, R532, R533, R534, R535, R536). BRINGUP runs its five steps and ends in READY, SELFTEST, RECOVERY or ECLIPSE; the
built-in test starts, ends, and gives way to READY. -/
def Obligations.BringupAndTheBuiltInTest : Prop :=
  (∀ (s : State) (d : List (Fin 48 × Fin 7)) (l : List (Fin 512)) (f : BitVec 3) (o : Option (BitVec 8)) (t : Nat),
    s.regN 0x0100 8 = 1 →
    ∃ u, exec (.bringupStepDone d l ⟨f, o⟩ t) s = .next u ∧
      u.regN 0x0100 8 = 2 ∧
      u.log = State.reset.log ∧
      u = { s.at t with regs := u.regs, log := u.log } ∧
      SameRegs s u [odKey 0x0100 8 0]) ∧
  (∀ (s : State) (f : BitVec 3) (o : Option (BitVec 8)) (t : Nat),
    s.regN 0x0100 8 = 3 →
    ∃ u, exec (.bringupStepDone [] [] ⟨f, o⟩ t) s = .next u ∧
      u.regN 0x0100 8 = 4 ∧
      (∀ c < 48, u.reg 0x0900 0x13 c = 0x7F) ∧
      (∀ n < 64, u.reg 0x0701 0 n = s.reg 0x0700 0 ∧ u.reg 0x0701 2 n = wd (bandNext 0 (s.reg 0x0700 0).toInt)) ∧
      (∀ c < 48, u.reg 0x0701 4 c = s.reg 0x0700 0 ∧ u.reg 0x0701 5 c = wd (bandNext 0 (s.reg 0x0700 0).toInt)) ∧
      u.reg 0x0700 1 = s.reg 0x0700 0 ∧
      u.reg 0x0700 3 = wd (bandNext 0 (s.reg 0x0700 0).toInt) ∧
      u = { s.at t with regs := u.regs } ∧
      SameRegs s u ([odKey 0x0100 8 0, odKey 0x0700 1 0, odKey 0x0700 3 0] ++ (List.range 48).map (odKey 0x0900 0x13) ++ (List.range 64).map (odKey 0x0701 0) ++ (List.range 64).map (odKey 0x0701 2) ++ (List.range 48).map (odKey 0x0701 4) ++ (List.range 48).map (odKey 0x0701 5))) ∧
  (∀ (s : State) (x : Fin 512) (f : BitVec 3) (o : Option (BitVec 8)) (t : Nat),
    s.regN 0x0100 8 = 3 →
    2 ≤ s.devState →
    s.devState ≤ 6 →
    s.faultValid x 0x1E 3 = true →
    ∃ u, exec (.bringupStepDone [] [x] ⟨f, o⟩ t) s = .next u ∧
      u.regN 0x0100 8 = 4 ∧
      u.devState = 7 ∧
      (x.val, 0x1E) ∈ u.faults.persisting ∧
      u.regN 0x0600 1 = faultCode 0x1E x) ∧
  (∀ (s : State) (d : List (Fin 48 × Fin 7)) (l : List (Fin 512)) (f : BitVec 3) (m : BitVec 8) (t : Nat),
    s.regN 0x0100 8 = 2 →
    ∃ u, exec (.bringupStepDone d l ⟨f, some m⟩ t) s = .next u ∧
      u.regN 0x0100 8 = 3 ∧
      u.therm.vout = some m ∧
      bit (u.reg 0x0100 0x0F) 0 = decide (s.regN 0x0100 4 = 1 ∨ s.regN 0x0100 4 = 3) ∧
      bit (u.reg 0x0100 0x0F) 2 = decide (s.regN 0x0300 0x0A ≠ 1) ∧
      (voutLinear m = false → Instr.faultRaise 0xAA 0x19 1 0 false ((s.at t).clock) ∈ u.agenda)) ∧
  (∀ (s : State) (d : List (Fin 48 × Fin 7)) (l : List (Fin 512)) (f : BitVec 3) (o : Option (BitVec 8)) (t : Nat),
    (s.regN 0x0100 8 = 0 ∨ 5 < s.regN 0x0100 8) →
    exec (.bringupStepDone d l ⟨f, o⟩ t) s = .next (s.at t)) ∧
  (∀ (s : State) (d : List (Fin 48 × Fin 7)) (l : List (Fin 512)) (f : BitVec 3) (o : Option (BitVec 8)) (t : Nat),
    s.regN 0x0100 8 = 4 →
    ∃ u, exec (.bringupStepDone d l ⟨f, o⟩ t) s = .next u ∧
      u.regN 0x0100 8 = 5 ∧
      (∀ c < 48, u.regN (calIdx c) 1 = 1 ∧ (u.cal c).quick = none ∧ u.reg (peIdx 0x29 c) 0xF2 = s.reg 0x0701 5 c) ∧
      (∀ p < 4, u.portState p = if s.regN 0x0100 4 ≠ 3 ∧ s.regB (0x1110 + p) 0 = true then 1 else s.portState p) ∧
      u.reg 0x0800 6 = wd ((s.at t).clock / usEt 1) ∧
      u = { s.at t with regs := u.regs, therm := { s.therm with cals := u.therm.cals, sets := u.therm.sets } } ∧
      SameOutside s u (fun i => i == 0x0100 || i == 0x0800 || (0x0810 ≤ i && i < 0x0840) || (0x2000 ≤ i && i < 0x2C00) || (0x1110 ≤ i && i < 0x1114))) ∧
  (∀ (s : State) (d : List (Fin 48 × Fin 7)) (l : List (Fin 512)) (f : BitVec 3) (o : Option (BitVec 8)) (t : Nat),
    s.regN 0x0100 8 = 5 →
    ∃ u, exec (.bringupStepDone d l ⟨f, o⟩ t) s = .next u ∧
      u.regN 0x0100 8 = 0 ∧
      u.reg80 0x0100 0x0A = (s.at t).now ∧
      u.reg 0x0100 9 = wd (((s.at t).start.timer - s.start.began + (s.at t).clock) / usEt 1) ∧
      u.devState = (if s.devState = 7 then 7 else if s.regN 0x0100 0x0F ≠ 0 then 6 else if s.regN 0x0100 4 = 2 then 5 else 3) ∧
      (s.devState ≠ 7 → s.regN 0x0100 0x0F = 0 → s.regN 0x0100 4 = 2 → u.regN 0x0100 0x0B = 1) ∧
      u = { s.at t with regs := u.regs, svc := u.svc } ∧
      SameRegs s u [odKey 0x0100 8 0, odKey 0x0100 9 0, odKey 0x0100 0x0A 0, odKey 0x0100 0x0A 1, odKey 0x0100 0 0, odKey 0x0100 0x0B 0, odKey 0x0100 0x0F 0]) ∧
  (∀ (s : State) (rq : Req) (t : Nat),
    s.takes rq 0x0100 1 0 [1] Env.calm t = true →
    ∃ u, exec (.selftest rq t) s = .next u ∧
      u.devState = 5 ∧
      u.regN 0x0100 0x0B = 1 ∧
      s.answered u 3 0x0100 1 rq.src 1 t ∧
      u = { (s.at t).endCmd rq.src 0x0100 1 0 0 with regs := u.regs, alm := u.alm, reply := u.reply, svc := u.svc } ∧
      SameRegs s u (odKey 0x0100 0 0 :: odKey 0x0100 0x0B 0 :: journalKeys)) ∧
  (∀ (s : State) (failed : BitVec 5) (t : Nat),
    s.regN 0x0100 0x0B = 1 →
    ∃ u, exec (.bistDone failed t) s = .next u ∧
      u.regN 0x0100 0x0B = (if failed = 0 then 2 else 3) ∧
      u.regN 0x0100 0x0C = failed.toNat ∧
      u = { s.at t with regs := u.regs } ∧
      SameRegs s u [odKey 0x0100 0x0B 0, odKey 0x0100 0x0C 0]) ∧
  (∀ (s : State) (failed : BitVec 5) (t : Nat),
    s.regN 0x0100 0x0B ≠ 1 →
    exec (.bistDone failed t) s = .next (s.at t)) ∧
  (∀ (s : State) (rq : Req) (t : Nat),
    s.takes rq 0x0100 1 0 [2] Env.calm t = true →
    ∃ u, exec (.stateCmdReady rq t) s = .next u ∧
      u.devState = 3 ∧
      s.answered u 3 0x0100 1 rq.src 2 t ∧
      u = { (s.at t).endCmd rq.src 0x0100 1 0 0 with regs := u.regs, alm := u.alm, reply := u.reply, svc := u.svc } ∧
      SameRegs s u (odKey 0x0100 0 0 :: journalKeys)) ∧
  (∀ (s : State) (rq : Req) (v : Word) (t : Nat),
    s.takes rq 0xF000 0 0 [v] Env.calm t = true →
    ∃ u, exec (.factoryEnter rq v t) s = .next u ∧
      u.devState = 8 ∧
      s.answered u 3 0xF000 0 rq.src v t ∧
      u = { (s.at t).endCmd rq.src 0xF000 0 0 0 with regs := u.regs, alm := u.alm, reply := u.reply, svc := u.svc } ∧
      SameRegs s u (odKey 0x0100 0 0 :: journalKeys))

/-- O53 (derived, 19, R540, R542, R520, R478, R66). A warm reset stops all runs, breaks every lock, turns drivers off and ends in
READY, RECOVERY or ECLIPSE; a cluster reset does its cluster. -/
def Obligations.WarmAndClusterResets : Prop :=
  (∀ (s : State) (rq : Req) (v : Word) (t : Nat),
    s.takes rq 0x0100 2 0 [v] Env.calm t = true →
    ∃ u, exec (.warmReset rq v t) s = .next u ∧
      u.devState = 2 ∧
      u.reg 0x0100 7 = s.reg 0x0100 7 + 1 ∧
      u.regN 0x0100 6 = 3 ∧
      (∀ c < 48, u.seqState c ≠ 3) ∧
      u.host = HostSt.idle (s.host.gen + 1) ∧
      (∀ n < 64, u.regN (0x0210 + n) 0 = 0) ∧
      (∀ n < 64, u.teState n = 0) ∧
      (∀ c < 48, (∀ n < 25, u.reg (peIdx 0 c) n = romDefault (odKey (peIdx 0 c) n 0) ∧ u.reg (peIdx 1 c) n = romDefault (odKey (peIdx 1 c) n 0) ∧ u.reg (peIdx 3 c) n = romDefault (odKey (peIdx 3 c) n 0))) ∧
      (∀ n < 32, u.reg (asIdx n) 0 = romDefault (odKey (asIdx n) 0 0)) ∧
      u.cmdStatus rq.src 0x0100 2 = cmdRunning ∧
      u.start.warm.map (fun w => (w.src, w.before)) = some (rq.src, if s.devState = 7 then s.faults.before else s.devState)) ∧
  (∀ (s : State) (t : Nat) (w : WarmRun),
    s.start.warm = some w →
    ∃ u, exec (.warmResetDone [] t) s = .next u ∧
      u.devState = (if s.faults.persisting = [] then (if w.before = 6 then 6 else 3) else 7) ∧
      u.start = { (s.at t).start with warm := none } ∧
      u.reg80 0x0100 0x0A = (s.at t).now ∧
      u.reg 0x0100 9 = wd (((s.at t).clock - w.since) / usEt 1) ∧
      u.cmdStatus w.src 0x0100 2 = 0 ∧
      u.reg 0x0400 1 = s.reg 0x0400 1 + 1 + BitVec.ofNat 40 w.broken.length ∧
      (s.faults.persisting ≠ [] → ∀ c < 48, u.regN (peIdx 0x1F c) 0xF6 = if s.pins.lvlclrLow then 1 else 3) ∧
      u = { (s.at t).endCmd w.src 0x0100 2 0 0 with regs := u.regs, log := u.log, alm := { s.alm with head := u.alm.head }, faults := u.faults, start := u.start, svc := u.svc }) ∧
  (∀ (s : State) (l : List (Fin 512)) (t : Nat),
    s.start.warm = none →
    exec (.warmResetDone l t) s = .next (s.at t)) ∧
  (∀ (s : State) (x : Fin 512) (t : Nat) (w : WarmRun),
    s.start.warm = some w →
    s.faultValid x 0x1E 3 = true →
    ∃ u, exec (.warmResetDone [x] t) s = .next u ∧
      u.devState = 7 ∧
      u.start.warm = none ∧
      (x.val, 0x1E) ∈ u.faults.persisting) ∧
  (∀ (s : State) (rq : Req) (v : Word) (t c : Nat),
    s.takes rq 0x0100 3 0 [v] Env.calm t = true →
    v.toNat = c →
    c < 48 →
    s.recovering c = false →
    ∃ u, exec (.clusterReset rq v t) s = .next u ∧
      u.seqState c = (if 1 ≤ s.seqState c ∧ s.seqState c ≤ 3 then 5 else s.seqState c) ∧
      (∀ n < 25, u.reg (peIdx 0 c) n = romDefault (odKey (peIdx 0 c) n 0) ∧ u.reg (peIdx 1 c) n = romDefault (odKey (peIdx 1 c) n 0) ∧ u.reg (peIdx 3 c) n = romDefault (odKey (peIdx 3 c) n 0)) ∧
      (u.cal c).quick = some false ∧
      u.regN (adcIdx c 0) 0 = 0 ∧
      u.regN (adcIdx c 1) 0 = 0 ∧
      u.regN (capIdx c) 0 = 0 ∧
      (∀ n < 4, u.regN (ruIdx c n) 0 = 0) ∧
      (∀ k < 16384, u.reg (0x0D40 + c) 0 k = 0) ∧
      (∀ q < 65536, ∀ x ∈ (u.queue q).cells, x.onChip = true → x.burst ≠ c) ∧
      u.reg 0x0100 0x0D = s.reg 0x0100 0x0D + 1 ∧
      (∀ d < 48, d ≠ c → u.sq d = s.sq d ∧ u.seqState d = s.seqState d) ∧
      u.reply = ⟨0, 0, []⟩ ∧
      u.cmdStatus rq.src 0x0100 3 = 0) ∧
  (∀ (s : State) (rq : Req) (v : Word) (t c : Nat),
    s.takes rq 0x0100 3 0 [v] Env.calm t = true →
    v.toNat = c →
    c < 48 →
    s.recovering c = true →
    ∃ u, exec (.clusterReset rq v t) s = .next u ∧
      u.start = { s.start with waiting := s.start.waiting ++ [(c, rq.src)] } ∧
      s.answered u 3 0x0100 3 rq.src v t ∧
      u = { (s.at t).setCmd rq.src 0x0100 3 cmdRunning with regs := u.regs, alm := u.alm, reply := u.reply, start := u.start } ∧
      SameRegs s u journalKeys)

/-- O54 (derived, 20, R545, R546, R547, R548, R549, R550, R551, R552, R557). A frame with the right count of edges commits whole, any
other commits nothing; READ shifts registers out, WRITE and SETLEN and words go in. -/
def Obligations.ServiceFramesCommit : Prop :=
  (∀ (s : State) (t : Nat),
    s.devState ≠ 0 →
    ∃ u, exec (.svcStatus 8 t) s = .next u ∧
      u.svc.shifted = [s.statusByte] ∧
      u = { s.at t with regs := u.regs, svc := { s.svc with short := false, long := false, ovr := false, err := false, shifted := u.svc.shifted } } ∧
      u.reg 0x1200 6 = s.reg 0x1200 6 + 1 ∧
      SameRegs s u [odKey 0x1200 6 0]) ∧
  (∀ (s : State) (a : Fin 64) (n t : Nat),
    s.devState ≠ 0 →
    (s.devState = 1 → a.val + n ≤ 4) →
    s.svcLen = 8 + 8 * n →
    a.val + n ≤ 0x40 →
    ∃ u, exec (.svcRead a (8 + 8 * n) t) s = .next u ∧
      u.svc.shifted = s.statusByte :: (List.range n).map (fun k => s.svcReg (a + k)) ∧
      u.svc.ptr = (if a.val ≤ 0x2B ∧ 0x2B < a.val + n then (s.svc.ptr + 1) % 1024 else s.svc.ptr) ∧
      u = { s.at t with regs := u.regs, svc := { s.svc with short := false, long := false, ovr := false, err := false, shifted := u.svc.shifted, ptr := u.svc.ptr } } ∧
      u.reg 0x1200 6 = s.reg 0x1200 6 + 1 ∧
      SameRegs s u [odKey 0x1200 6 0]) ∧
  (∀ (s : State) (a : Fin 64) (n t : Nat),
    2 ≤ s.devState →
    s.svcLen = 8 + 8 * n →
    0x40 < a.val + n →
    ∃ u, exec (.svcRead a (8 + 8 * n) t) s = .next u ∧
      u.svc.shifted = s.statusByte :: (List.range n).map (fun k => if a.val + k < 0x40 then s.svcReg (a + k) else 0) ∧
      u.svc.ptr = (if a.val ≤ 0x2B then (s.svc.ptr + 1) % 1024 else s.svc.ptr) ∧
      u = { s.at t with regs := u.regs, svc := { s.svc with short := false, long := false, ovr := true, err := false, shifted := u.svc.shifted, ptr := u.svc.ptr } } ∧
      u.reg 0x1200 6 = s.reg 0x1200 6 + 1 ∧
      u.reg 0x1200 7 = s.reg 0x1200 7 + 1 ∧
      SameRegs s u [odKey 0x1200 6 0, odKey 0x1200 7 0]) ∧
  (∀ (s : State) (a : Fin 64) (c : Instr) (bytes : List (BitVec 8)) (ws : List Word) (code : BitVec 8) (edges t : Nat),
    s.devState ≠ 0 →
    8 ≤ edges →
    edges ≠ s.svcLen →
    a.val + s.bodyBytes ≤ 0x40 →
    0x83 ≤ code.toNat →
    code.toNat ≤ 0xFE →
    c ∈ [.svcRead a edges t, .svcWrite a bytes edges Env.calm t, .mbxWrite ws edges t, .mbxRead edges t, .svcReservedCommand code edges t] →
    ∃ u, exec c s = .next u ∧
      u = { s.at t with regs := u.regs, svc := { s.svc with short := decide (edges < s.svcLen), long := decide (s.svcLen < edges), ovr := false, err := false, shifted := u.svc.shifted } } ∧
      u.reg 0x1200 7 = s.reg 0x1200 7 + 1 ∧
      SameRegs s u [odKey 0x1200 7 0]) ∧
  (∀ (s : State) (n : BitVec 16) (edges t : Nat),
    s.devState ≠ 0 →
    8 ≤ edges →
    edges ≠ 24 →
    ∃ u, exec (.setlen n edges t) s = .next u ∧
      u = { s.at t with regs := u.regs, svc := { s.svc with short := decide (edges < 24), long := decide (24 < edges), ovr := false, err := false, shifted := u.svc.shifted } } ∧
      u.reg 0x1200 7 = s.reg 0x1200 7 + 1 ∧
      SameRegs s u [odKey 0x1200 7 0]) ∧
  (∀ (s : State) (edges t : Nat),
    s.devState ≠ 0 →
    8 < edges →
    ∃ u, exec (.svcStatus edges t) s = .next u ∧
      u = { s.at t with regs := u.regs, svc := { s.svc with short := false, long := true, ovr := false, err := false, shifted := u.svc.shifted } } ∧
      u.reg 0x1200 7 = s.reg 0x1200 7 + 1 ∧
      SameRegs s u [odKey 0x1200 7 0]) ∧
  (∀ (s : State) (a : Fin 64) (c : Instr) (bytes : List (BitVec 8)) (ws : List Word) (code : BitVec 8) (n : BitVec 16) (edges t : Nat),
    s.devState ≠ 0 →
    edges < 8 →
    0x83 ≤ code.toNat →
    code.toNat ≤ 0xFE →
    c ∈ [.svcStatus edges t, .svcRead a edges t, .svcWrite a bytes edges Env.calm t, .mbxWrite ws edges t, .mbxRead edges t, .setlen n edges t, .svcReservedCommand code edges t] →
    ∃ u, exec c s = .next u ∧
      u = { s.at t with regs := u.regs, svc := { s.svc with short := decide (edges < s.svcLen), long := decide (s.svcLen < edges), ovr := false, err := false, shifted := u.svc.shifted } } ∧
      u.reg 0x1200 6 = s.reg 0x1200 6 + (if edges = s.svcLen then 1 else 0) ∧
      u.reg 0x1200 7 = s.reg 0x1200 7 + (if edges = s.svcLen then 0 else 1) ∧
      SameRegs s u [odKey 0x1200 6 0, odKey 0x1200 7 0]) ∧
  (∀ (s : State) (a : Fin 64) (c : Instr) (bytes : List (BitVec 8)) (ws : List Word) (t : Nat),
    s.devState = 1 →
    8 ≤ s.svcLen →
    a.val + s.bodyBytes ≤ 0x40 →
    4 < a.val + s.bodyBytes →
    c ∈ [.svcRead a s.svcLen t, .svcWrite a bytes s.svcLen Env.calm t, .mbxWrite ws s.svcLen t, .mbxRead s.svcLen t] →
    ∃ u, exec c s = .next u ∧
      u = { s.at t with regs := u.regs, svc := { s.svc with short := false, long := false, ovr := false, err := true, shifted := u.svc.shifted } } ∧
      u.reg 0x1200 7 = s.reg 0x1200 7 + 1 ∧
      SameRegs s u [odKey 0x1200 7 0]) ∧
  (∀ (s : State) (a : Fin 64) (bytes : List (BitVec 8)) (e : Env) (t : Nat),
    2 ≤ s.devState →
    s.svc.busy = true →
    8 ≤ s.svcLen →
    a.val ≤ 0x2B →
    0x10 < a.val + s.bodyBytes →
    a.val + s.bodyBytes ≤ 0x40 →
    ∃ u, exec (.svcWrite a bytes s.svcLen e t) s = .next u ∧
      u = { s.at t with regs := u.regs, svc := { s.svc with short := false, long := false, ovr := false, err := true, shifted := u.svc.shifted } } ∧
      u.reg 0x1200 7 = s.reg 0x1200 7 + 1 ∧
      SameRegs s u [odKey 0x1200 7 0]) ∧
  (∀ (s : State) (a : Fin 64) (bytes : List (BitVec 8)) (edges t : Nat),
    2 ≤ s.devState →
    s.svc.busy = false →
    edges = s.svcLen →
    8 ≤ edges →
    bytes.length = s.bodyBytes →
    0x10 ≤ a.val →
    a.val + bytes.length ≤ 0x15 →
    ∃ u, exec (.svcWrite a bytes edges Env.calm t) s = .next u ∧
      (∀ k < 5, byteOf u.svc.cmd k = if a.val ≤ 0x10 + k ∧ 0x10 + k < a.val + bytes.length then (bytes.getD (0x10 + k - a.val) 0).toNat else byteOf s.svc.cmd k) ∧
      u = { s.at t with regs := u.regs, svc := { s.svc with short := false, long := false, ovr := false, err := false, shifted := u.svc.shifted, cmd := u.svc.cmd } } ∧
      u.reg 0x1200 6 = s.reg 0x1200 6 + 1 ∧
      SameRegs s u [odKey 0x1200 6 0]) ∧
  (∀ (s : State) (a : Fin 64) (bytes : List (BitVec 8)) (e : Env) (t : Nat),
    2 ≤ s.devState →
    8 ≤ s.svcLen →
    0x2B < a.val →
    0x40 < a.val + s.bodyBytes →
    ∃ u, exec (.svcWrite a bytes s.svcLen e t) s = .next u ∧
      u = { s.at t with regs := u.regs, svc := { s.svc with short := false, long := false, ovr := true, err := false, shifted := u.svc.shifted } } ∧
      u.reg 0x1200 6 = s.reg 0x1200 6 + 1 ∧
      u.reg 0x1200 7 = s.reg 0x1200 7 + 1 ∧
      SameRegs s u [odKey 0x1200 6 0, odKey 0x1200 7 0]) ∧
  (∀ (s : State) (a : Fin 64) (b : BitVec 8) (e : Env) (t : Nat),
    2 ≤ s.devState →
    s.svc.busy = false →
    s.svcLen = 16 →
    a.val ∈ [0x0A, 0x10, 0x11, 0x12, 0x13, 0x14, 0x15, 0x16, 0x17, 0x18, 0x19, 0x1A, 0x1B, 0x1C, 0x1D] →
    ∃ u, exec (.svcWrite a [b] 16 e t) s = .next u ∧
      u.svcReg a = b.toNat % (if a.val = 0x0A then 16 else if a.val = 0x1D then 2 else 256) ∧
      (∀ k < 64, k ≠ a.val → k ≠ 0 → u.svcReg k = s.svcReg k) ∧
      u = { s.at t with regs := u.regs, svc := { s.svc with short := false, long := false, ovr := false, err := false, shifted := u.svc.shifted, cmd := u.svc.cmd, range := u.svc.range, target := u.svc.target, mask := u.svc.mask, flags := u.svc.flags } } ∧
      u.reg 0x1200 6 = s.reg 0x1200 6 + 1 ∧
      SameRegs s u [odKey 0x1200 6 0]) ∧
  (∀ (s : State) (a : Fin 64) (b : BitVec 8) (e : Env) (t : Nat),
    2 ≤ s.devState →
    s.svc.busy = false →
    s.svcLen = 16 →
    (a.val = 0x25 ∨ a.val = 0x26) →
    ∃ u, exec (.svcWrite a [b] 16 e t) s = .next u ∧
      u.svc.ptr = (if a.val = 0x25 then b.toNat % 4 * 256 + s.svc.ptr % 256 else s.svc.ptr / 256 * 256 + b.toNat) ∧
      u = { s.at t with regs := u.regs, svc := { s.svc with short := false, long := false, ovr := false, err := false, shifted := u.svc.shifted, ptr := u.svc.ptr } } ∧
      u.reg 0x1200 6 = s.reg 0x1200 6 + 1 ∧
      SameRegs s u [odKey 0x1200 6 0]) ∧
  (∀ (s : State) (a : Fin 64) (b : BitVec 8) (e : Env) (t : Nat),
    2 ≤ s.devState →
    s.svc.busy = false →
    s.svcLen = 16 →
    0x27 ≤ a.val →
    a.val ≤ 0x2B →
    ∃ u, exec (.svcWrite a [b] 16 e t) s = .next u ∧
      (∀ k < 5, byteOf (u.svcData s.svc.ptr) k = if 0x27 + k = a.val then b.toNat else byteOf (s.svcData s.svc.ptr) k) ∧
      (∀ k, k ≠ s.svc.ptr → u.svcData k = s.svcData k) ∧
      u.svc.ptr = (if a.val = 0x2B then (s.svc.ptr + 1) % 1024 else s.svc.ptr) ∧
      u = { s.at t with regs := u.regs, svc := { s.svc with short := false, long := false, ovr := false, err := false, shifted := u.svc.shifted, data := u.svc.data, ptr := u.svc.ptr } } ∧
      u.reg 0x1200 6 = s.reg 0x1200 6 + 1 ∧
      SameRegs s u [odKey 0x1200 6 0]) ∧
  (∀ (s : State) (a : Fin 64) (b : BitVec 8) (e : Env) (t : Nat),
    2 ≤ s.devState →
    s.svc.busy = false →
    s.svcLen = 16 →
    a.val ∉ [0x0A, 0x1D, 0x1E, 0x25, 0x26] →
    (a.val < 0x10 ∨ 0x1C < a.val) →
    (a.val < 0x27 ∨ 0x2B < a.val) →
    ∃ u, exec (.svcWrite a [b] 16 e t) s = .next u ∧
      u = { s.at t with regs := u.regs, svc := { s.svc with short := false, long := false, ovr := false, err := false, shifted := u.svc.shifted, cause := if a.val = 0x0B then s.svc.cause &&& (0xF ^^^ (b.toNat &&& 0xA)) else s.svc.cause } } ∧
      u.reg 0x1200 6 = s.reg 0x1200 6 + 1 ∧
      SameRegs s u [odKey 0x1200 6 0]) ∧
  (∀ (s : State) (n : BitVec 16) (t : Nat),
    s.devState ≠ 0 →
    1 ≤ n.toNat →
    n.toNat ≤ 4096 →
    ∃ u, exec (.setlen n 24 t) s = .next u ∧
      u.svcLen = n.toNat ∧
      u = { s.at t with regs := u.regs, svc := { s.svc with short := false, long := false, ovr := false, err := false, shifted := u.svc.shifted } } ∧
      u.reg 0x1200 6 = s.reg 0x1200 6 + 1 ∧
      SameRegs s u [odKey 0x1200 6 0, odKey 0x1200 8 0]) ∧
  (∀ (s : State) (n : BitVec 16) (t : Nat),
    s.devState ≠ 0 →
    (n.toNat < 1 ∨ 4096 < n.toNat) →
    ∃ u, exec (.setlen n 24 t) s = .next u ∧
      u = { s.at t with regs := u.regs, svc := { s.svc with short := false, long := false, ovr := false, err := true, shifted := u.svc.shifted } } ∧
      u.reg 0x1200 7 = s.reg 0x1200 7 + 1 ∧
      SameRegs s u [odKey 0x1200 7 0]) ∧
  (∀ (s : State) (ws : List Word) (t : Nat),
    2 ≤ s.devState →
    ws ≠ [] →
    s.svcLen = 8 + 40 * ws.length →
    s.regN 0x1200 2 + ws.length ≤ 256 →
    ∃ u, exec (.mbxWrite ws s.svcLen t) s = .next u ∧
      u.regN 0x1200 2 = s.regN 0x1200 2 + ws.length ∧
      (∀ k < ws.length, u.reg 0x1200 0 ((s.regN 0x1200 1 + s.regN 0x1200 2 + k) % 256) = ws.getD k 0) ∧
      u = { s.at t with regs := u.regs, svc := { s.svc with short := false, long := false, ovr := false, err := false, shifted := u.svc.shifted } } ∧
      u.reg 0x1200 6 = s.reg 0x1200 6 + 1 ∧
      SameRegs s u ([odKey 0x1200 6 0, odKey 0x1200 2 0] ++ (List.range ws.length).map (fun k => odKey 0x1200 0 ((s.regN 0x1200 1 + s.regN 0x1200 2 + k) % 256)))) ∧
  (∀ (s : State) (ws : List Word) (t : Nat),
    2 ≤ s.devState →
    8 ≤ s.svcLen →
    256 < s.regN 0x1200 2 + s.bodyWords →
    ∃ u, exec (.mbxWrite ws s.svcLen t) s = .next u ∧
      u = { s.at t with regs := u.regs, svc := { s.svc with short := false, long := false, ovr := false, err := true, shifted := u.svc.shifted } } ∧
      u.reg 0x1200 7 = s.reg 0x1200 7 + 1 ∧
      SameRegs s u [odKey 0x1200 7 0]) ∧
  (∀ (s : State) (n t : Nat),
    2 ≤ s.devState →
    s.svcLen = 8 + 40 * n →
    n ≤ s.svc.outbox.length →
    s.svc.outbox.length < 2 ^ 40 →
    ∃ u, exec (.mbxRead s.svcLen t) s = .next u ∧
      u.svc.shifted = s.statusByte :: (s.svc.outbox.take n).flatMap (fun w => (List.range 5).map (byteOf w)) ∧
      u.regN 0x1200 5 = s.svc.outbox.length - n ∧
      u = { s.at t with regs := u.regs, svc := { s.svc with short := false, long := false, ovr := false, err := false, shifted := u.svc.shifted, outbox := s.svc.outbox.drop n } } ∧
      u.reg 0x1200 6 = s.reg 0x1200 6 + 1 ∧
      SameRegs s u [odKey 0x1200 6 0, odKey 0x1200 5 0]) ∧
  (∀ (s : State) (code : BitVec 8) (t : Nat),
    s.devState ≠ 0 →
    0x83 ≤ code.toNat →
    code.toNat ≤ 0xFE →
    8 ≤ s.svcLen →
    ∃ u, exec (.svcReservedCommand code s.svcLen t) s = .next u ∧
      u = { s.at t with regs := u.regs, svc := { s.svc with short := false, long := false, ovr := false, err := true, shifted := u.svc.shifted } } ∧
      u.reg 0x1200 7 = s.reg 0x1200 7 + 1 ∧
      SameRegs s u [odKey 0x1200 7 0]) ∧
  (∀ (s : State) (a : Fin 64) (c : Instr) (bytes : List (BitVec 8)) (ws : List Word) (code : BitVec 8) (n : BitVec 16) (edges t : Nat),
    s.devState = 0 →
    c ∈ [.svcStatus edges t, .svcRead a edges t, .svcWrite a bytes edges Env.calm t, .mbxWrite ws edges t, .mbxRead edges t, .setlen n edges t, .svcReservedCommand code edges t] →
    exec c s = .next (s.at t))

/-- O55 (derived, 20, R552, R553, R554, R555, R558, 21, R561, R582). GO submits the transaction the registers describe, its end fills
the buffer; causes clear, mailboxes move; the test port loads instructions. -/
def Obligations.ServicePortActs : Prop :=
  (∀ (s : State) (e : Env) (t i sub off cnt : Nat),
    s.svc.busy = false →
    s.svc.cmd = wd (2 ^ 36 + i * 256 + sub) →
    s.svc.range = wd (off * 2 ^ 14 + cnt * 16) →
    s.svc.flags % 2 = 0 →
    i < 65536 →
    sub < 256 →
    off < 2 ^ 26 →
    cnt < 1024 →
    s.gives ⟨sourceOf 5 0 s.ownDevice, none⟩ i sub off (cnt + 1) t = true →
    exec (.svcGo e t) s = .next { s.at t with svc := { s.svc with busy := true, done := false, answer := some ⟨0, 0, s.wordsOf (sourceOf 5 0 s.ownDevice) i sub off (cnt + 1)⟩ }, agenda := s.agenda ++ [.svcOdDone ((s.at t).clock)] }) ∧
  (∀ (s : State) (e : Env) (t i sub off cnt : Nat) (r : Obj),
    s.carries = true →
    s.svc.busy = false →
    s.svc.cmd = wd (3 * 2 ^ 36 + i * 256 + sub) →
    s.svc.range = wd (off * 2 ^ 14 + cnt * 16) →
    s.svc.flags % 2 = 0 →
    i < 65536 →
    sub < 256 →
    off < 2 ^ 26 →
    cnt < 1024 →
    odFind i sub = some r →
    (s.at t).firstChecks (mkTx ⟨sourceOf 5 0 s.ownDevice, none⟩ .describe i sub off (cnt + 1) [] .service) [] = (0, 0) →
    exec (.svcGo e t) s = .next { s.at t with svc := { s.svc with busy := true, done := false, answer := some ⟨0, 0, s.describeWords r i sub⟩ }, agenda := s.agenda ++ [.svcOdDone ((s.at t).clock)] }) ∧
  (∀ (s : State) (e : Env) (t i sub off cnt : Nat),
    s.carries = true →
    s.svc.busy = false →
    s.svc.cmd = wd (2 * 2 ^ 36 + i * 256 + sub) →
    s.svc.range = wd (off * 2 ^ 14 + cnt * 16) →
    s.svc.flags % 2 = 0 →
    i < 65536 →
    sub < 256 →
    off < 2 ^ 26 →
    cnt < 1024 →
    exec (.svcGo e t) s = .next ({ s.at t with svc := { s.svc with busy := true, done := false } }.odSubmit (mkTx ⟨sourceOf 5 0 s.ownDevice, none⟩ .write i sub off (cnt + 1) ((List.range (cnt + 1)).map s.svcData) .service) e)) ∧
  (∀ (s : State) (e : Env) (t i sub off cnt : Nat),
    s.carries = true →
    s.svc.busy = false →
    s.svc.cmd = wd (1 * 2 ^ 36 + i * 256 + sub) →
    s.svc.range = wd (off * 2 ^ 14 + cnt * 16) →
    s.svc.flags % 2 = 1 →
    s.bootEarly = false →
    s.ownDevice ≠ 0xFFFFFD →
    i < 65536 →
    sub < 256 →
    off < 2 ^ 26 →
    cnt < 1024 →
    exec (.svcGo e t) s = .next ({ s.at t with svc := { s.svc with busy := true, done := false } }.remoteRequest s.svc.target none (mkTx ⟨sourceOf 5 0 s.ownDevice, none⟩ .read i sub off (cnt + 1) [] .service))) ∧
  (∀ (s : State) (e : Env) (t : Nat),
    s.carries = true →
    s.svc.busy = false →
    (fld s.svc.cmd 36 4 ∉ [1, 2, 3] ∨ fld s.svc.cmd 24 3 ≠ 0 ∨ fld s.svc.range 0 4 ≠ 0) →
    exec (.svcGo e t) s = .next { s.at t with svc := { s.svc with busy := true, done := false, answer := some ⟨0x04, 0, []⟩ }, agenda := s.agenda ++ [.svcOdDone ((s.at t).clock)] }) ∧
  (∀ (s : State) (e : Env) (t : Nat),
    s.carries = false →
    exec (.svcGo e t) s = .next (s.at t)) ∧
  (∀ (s : State) (t : Nat),
    s.svc.answer = none →
    exec (.svcOdDone t) s = .next (s.at t)) ∧
  (∀ (s : State) (e : Env) (t : Nat),
    s.carries = true →
    s.svc.busy = true →
    exec (.svcGo e t) s = .next (s.at t)) ∧
  (∀ (s : State) (t : Nat) (a : OdReply),
    s.svc.answer = some a →
    ∃ u, exec (.svcOdDone t) s = .next u ∧
      (∀ k < a.data.length, u.svcData k = a.data.getD k 0) ∧
      u = { s.at t with svc := { s.svc with data := u.svc.data, count := a.data.length, epoch := if a.code = 8 then a.epoch else 0, result := a.code, done := true, busy := false, cause := s.svc.cause ||| 2, answer := none } }) ∧
  (∀ (s : State) (v : BitVec 8) (t : Nat),
    exec (.attnCauseClear v t) s = .next { s.at t with svc := { s.svc with cause := s.svc.cause &&& (0xF ^^^ (v.toNat &&& 0xA)) } }) ∧
  (∀ (s : State) (t : Nat),
    exec (.dataAccess t) s = .next { s.at t with svc := { s.svc with ptr := (s.svc.ptr + 1) % 1024 } }) ∧
  (∀ (s : State) (rq : Req) (v : Word) (t : Nat),
    s.takes rq 0x1200 3 0 [v] Env.calm t = true →
    s.regN 0x1200 2 ≤ 256 →
    ∃ u, exec (.mbxInAck rq v t) s = .next u ∧
      u.regN 0x1200 1 = (s.regN 0x1200 1 + v.toNat) % 256 ∧
      u.regN 0x1200 2 = s.regN 0x1200 2 - v.toNat ∧
      s.answered u 3 0x1200 3 rq.src v t ∧
      u = { (s.at t).endCmd rq.src 0x1200 3 0 0 with regs := u.regs, alm := u.alm, reply := u.reply } ∧
      SameRegs s u (odKey 0x1200 1 0 :: odKey 0x1200 2 0 :: journalKeys)) ∧
  (∀ (s : State) (rq : Req) (vals : List Word) (t : Nat),
    s.takes rq 0x1200 4 0 vals Env.calm t = true →
    vals ≠ [] →
    ∃ u, exec (.mbxOutAppend rq 0 vals t) s = .next u ∧
      u.svc = { s.svc with outbox := s.svc.outbox ++ vals } ∧
      u.regN 0x1200 5 = s.svc.outbox.length + vals.length ∧
      u.reply = ⟨0, 0, []⟩ ∧
      u.reg 0x0400 1 = s.reg 0x0400 1 + 1 ∧
      u = { s.at t with regs := u.regs, alm := { s.alm with head := u.alm.head }, reply := u.reply, svc := u.svc } ∧
      SameRegs s u (odKey 0x1200 5 0 :: journalKeys)) ∧
  (∀ (s : State) (i : TapInstr) (t : Nat),
    ∃ u, exec (.testAccessPortInstruction i t) s = .next u ∧
      u.tap.loaded = (if (i = .extest ∨ i = .extestPulse ∨ i = .extestTrain) ∧ s.start.resetLow = false then .bypass else i) ∧
      (i = .idcode → u.tap.captured = s.idCode) ∧
      u = { s.at t with tap := u.tap }) ∧
  (∀ (n : Nat),
    n < 1152 →
    ballAt (channelBall n).1 (channelBall n).2 = .channel n)

/-- O56 (stated, R43). A command still running refuses its source's new one with 0x0025 and goes on; a refused transaction changes
nothing but a command's status. -/
def Obligations.RefusalsChangeNothing : Prop :=
  (∀ (s : State) (c : Instr) (rq : Req) (i sub off : Nat) (vals : List Word) (e : Env) (t : Nat) (r : Obj),
    writeOf c = some (rq, i, sub, off, vals, e, t) →
    s.carries = true →
    s.alm.held = [] →
    odFind i sub = some r →
    r.acc = .cmd →
    r.commits = false →
    s.cmdBusy rq.src i sub = true →
    (s.at t).firstChecks (mkTx rq .write i sub off vals.length vals .here) (wordsAt off vals) = (0, 0) →
    (∀ n ∈ s.lockOf i, s.lockOwner n = rq.src) →
    r.writeCount off vals.length = 0 →
    r.valuesOk (wordsAt off vals) = true →
    exec c s = .next { s.at t with reply := ⟨0x25, 0, []⟩ }) ∧
  (∀ (s : State) (c : Instr) (rq : Req) (i sub off : Nat) (vals : List Word) (e : Env) (t : Nat) (r : Obj) (k ep : Nat),
    writeOf c = some (rq, i, sub, off, vals, e, t) →
    s.carries = true →
    s.alm.held = [] →
    odFind i sub = some r →
    (s.at t).firstChecks (mkTx rq .write i sub off vals.length vals .here) (wordsAt off vals) = (k, ep) →
    k ≠ 0 →
    k ≠ 8 →
    r.commits = false →
    ∃ u, exec c s = .next u ∧
      u.reply = ⟨k, ep, []⟩ ∧
      u = { s.at t with cmdStat := u.cmdStat, reply := u.reply } ∧
      (r.acc ≠ .cmd → u.cmdStat = s.cmdStat)) ∧
  (∀ (s : State) (c : Instr) (rq : Req) (i sub off : Nat) (vals : List Word) (e : Env) (t : Nat) (r : Obj) (k : Nat),
    writeOf c = some (rq, i, sub, off, vals, e, t) →
    s.carries = true →
    s.alm.held = [] →
    odFind i sub = some r →
    (s.at t).firstChecks (mkTx rq .write i sub off vals.length vals .here) (wordsAt off vals) = (0, 0) →
    (s.at t).writeCode (mkTx rq .write i sub off vals.length vals .here) r (wordsAt off vals) e = k →
    k ≠ 0 →
    k ≠ 8 →
    k ≠ 0x23 →
    k ≠ 0x25 →
    k ≠ 0xB5 →
    r.commits = false →
    ∃ u, exec c s = .next u ∧
      u.reply = ⟨k, 0, []⟩ ∧
      u = { s.at t with cmdStat := u.cmdStat, reply := u.reply } ∧
      (r.acc ≠ .cmd → u.cmdStat = s.cmdStat) ∧
      (r.acc = .cmd → s.cmdBusy rq.src i sub = false → u.cmdStatus rq.src i sub = cmdStatusWord false 0 k)) ∧
  (∀ (s : State) (c : Instr) (rq : Req) (i sub off : Nat) (vals : List Word) (e : Env) (t : Nat) (r : Obj) (k : Nat),
    writeOf c = some (rq, i, sub, off, vals, e, t) →
    s.carries = true →
    s.alm.held = [] →
    odFind i sub = some r →
    (s.at t).firstChecks (mkTx rq .write i sub off vals.length vals .here) (wordsAt off vals) = (0, 0) →
    (s.at t).writeCode (mkTx rq .write i sub off vals.length vals .here) r (wordsAt off vals) e = k →
    k ≠ 0 →
    k ≠ 8 →
    k ≠ 0x23 →
    k ≠ 0xB5 →
    r.commits = true →
    s.alm.head.length + 1 ≤ 3584 →
    ∃ u, exec c s = .next u ∧
      u.reply = ⟨k, 0, []⟩ ∧
      u.alm = { s.alm with head := s.alm.head ++ [journalLine 3 (s.reg 0x0400 0x01) 0x0200 sub k (s.at t).now rq.src false (word0 (wordsAt off vals))] } ∧
      (s.cmdBusy rq.src i sub = false → u.cmdStatus rq.src i sub = cmdStatusWord false 0 k) ∧
      u = { s.at t with regs := u.regs, alm := u.alm, cmdStat := u.cmdStat, reply := u.reply } ∧
      SameRegs s u journalKeys) ∧
  (∀ (s : State) (c : Instr) (rq : Req) (i sub off : Nat) (vals : List Word) (e : Env) (t : Nat),
    writeOf c = some (rq, i, sub, off, vals, e, t) →
    s.carries = false →
    exec c s = .next (s.at t)) ∧
  (∀ (s : State) (c : Instr) (rq : Req) (i sub off : Nat) (vals : List Word) (e : Env) (t : Nat) (r : Obj) (n : Nat),
    writeOf c = some (rq, i, sub, off, vals, e, t) →
    s.carries = true →
    s.alm.held = [] →
    odFind i sub = some r →
    (s.at t).firstChecks (mkTx rq .write i sub off vals.length vals .here) (wordsAt off vals) = (0, 0) →
    (s.at t).writeCode (mkTx rq .write i sub off vals.length vals .here) r (wordsAt off vals) e = 0 →
    s.lockOf i = some n →
    s.lockOwner n = rq.src →
    r.acc ≠ .cmd →
    ∃ u, exec c s = .next u ∧
      u.reply = ⟨0, 0, []⟩ ∧
      (∀ k < vals.length, u.stagedWord rq.src i sub (off + k) = some (vals.getD k 0)) ∧
      u = { s.at t with regs := u.regs, locks := { s.locks with staged := u.locks.staged, leaseFrom := u.locks.leaseFrom }, reply := u.reply } ∧
      SameRegs s u [odKey (0x0210 + n) 7 0, odKey 0x0200 7 0]) ∧
  (∀ (s : State) (rq : Req) (idx : BitVec 16) (sub : BitVec 8) (t : Nat) (r : Obj),
    s.carries = true →
    s.alm.held = [] →
    odFind idx.toNat sub.toNat = some r →
    (s.at t).firstChecks (mkTx rq .describe idx.toNat sub.toNat 0 0 [] .here) [] = (0, 0) →
    exec (.describe rq idx sub t) s = .next { s.at t with reply := ⟨0, 0, s.describeWords r idx.toNat sub.toNat⟩ })

/-- O57 (derived, INDEX, 00, 03, 19, R98). A step takes the command at the front of the queue and performs it with the rest; with none
it serves the device's own step longest due. -/
def Obligations.StepRunsTheFront : Prop :=
  (∀ (s : State) (c : Instr) (rest : List Instr), step { s with pending := c :: rest } = exec c { s with pending := rest }) ∧
  (∀ (s : State) (c : Instr) (later : List Instr), s.pending = [] → s.serve = some (c, later) → step s = exec c { s with agenda := later }) ∧
  (∀ (s : State) (c : Instr) (later : List Instr), s.pending = [] → s.agenda = c :: later → occurrenceOf c = none → step s = exec c { s with agenda := later }) ∧
  (∀ (s : State) (n l : Nat) (m : U80) (c : Instr), s.pending = [] → s.agenda[n]? = some c → occurrenceOf c = some (l, m) → (∀ k < n, ∀ d ∈ s.agenda[k]?, s.servable d = false) →
    (diff80 m s.now ≤ 0 ∨ 8192 < diff80 m s.now) → (∀ d ∈ s.agenda, ∀ x, occurrenceOf d = some (l, x) → 0 ≤ diff80 x m) → step s = exec c { s with agenda := s.agenda.eraseIdx n }) ∧
  (∀ s : State, s.pending = [] → (∀ d ∈ s.agenda, s.servable d = false) → step s = .next s)

/-- O58 (derived, 00, 02, 03, R78). Every command, in every state, answers a next state: never a fault or refusal; the queue stays as
it is and LOCAL runs back only at resets. -/
def Obligations.EveryCommandAnswers : Prop :=
  ∀ (c : Instr) (s : State), ∃ u, exec c s = .next u ∧ u.pending = s.pending ∧ u.posted = [] ∧ (startsAgain c = false → s.clock ≤ u.clock)

/-- O59 (derived, 01, R22, R25, 15). Every step keeps the state sound: HBM is in its one canonical form and no write to it is still on
its way. -/
def Obligations.StepKeepsSound : Prop :=
  ∀ s t : State, s.Sound → step s = .next t → t.Sound

/-- O60 (derived, 01, 02, 19, R528, R539). The reset state is sound, in POWERUP, with nothing waiting or due, every object at its ROM
default, LOCAL 0 and HBM unlisted. -/
def Obligations.ResetIsSound : Prop :=
  State.reset.Sound ∧ State.reset.devState = 1 ∧ State.reset.pending = [] ∧ State.reset.agenda = [] ∧ State.reset.clock = 0 ∧ State.reset.hbm = [] ∧
  (∀ i sub w : Nat, State.reset.reg i sub w = romDefault (odKey i sub w)) ∧ State.reset.carries = false ∧ State.reset.svc.mask = 3 ∧ State.reset.tap.loaded = .idcode
end

