-- ==== Sys2Proof/Laws/SMap.lean ====
section
/-! SUPPORT. Laws/SMap.lean: reading after writing a sparse map, and its canonical form kept by every write. -/

namespace Sys2Proof.Machine

variable {α : Type} [DecidableEq α] (d : Nat → α)

omit [DecidableEq α] in
theorem SMap.get_erase_same (m : SMap α) (k : Nat) : SMap.get d (SMap.erase m k) k = d k := by
  induction m with
  | nil => rfl
  | cons e m ih =>
    obtain ⟨j, w⟩ := e
    by_cases h : j = k <;> simp_all [SMap.erase, SMap.get]

omit [DecidableEq α] in
theorem SMap.get_erase_other (m : SMap α) {k j : Nat} (h : j ≠ k) : SMap.get d (SMap.erase m k) j = SMap.get d m j := by
  induction m with
  | nil => rfl
  | cons e m ih =>
    obtain ⟨i, w⟩ := e
    by_cases hi : i = k
    · simp_all [SMap.erase, SMap.get, Ne.symm h]
    · simp_all [SMap.erase, SMap.get]

omit [DecidableEq α] in
theorem SMap.get_place (m : SMap α) (k j : Nat) (x : Option α) (hm : ∀ e ∈ m, e.1 ≠ k) :
    SMap.get d (SMap.place m k x) j = if k = j then x.getD (d k) else SMap.get d m j := by
  induction m with
  | nil =>
    cases x <;> simp [SMap.place, SMap.get]
    intro h; rw [h]
  | cons e m ih =>
    obtain ⟨i, w⟩ := e
    have hi : i ≠ k := hm (i, w) (by simp)
    have hm' : ∀ e ∈ m, e.1 ≠ k := fun e he => hm e (by simp [he])
    have hn : ∀ m : SMap α, (∀ e ∈ m, e.1 ≠ k) → SMap.get d m k = d k := by
      intro m hm
      induction m with
      | nil => rfl
      | cons e m ih => simp [SMap.get, hm e (by simp), ih (fun e he => hm e (by simp [he]))]
    by_cases hk : k < i
    · cases x <;> simp [SMap.place, SMap.get, hk]
      rintro rfl; simp [hi, hn m hm']
    · by_cases hj : i = j
      · subst hj; simp [SMap.place, SMap.get, hk, Ne.symm hi]
      · simp [SMap.place, SMap.get, hk, hj, ih hm']

omit [DecidableEq α] in
theorem SMap.erase_fresh (m : SMap α) (k : Nat) : ∀ e ∈ SMap.erase m k, e.1 ≠ k := by
  intro e he; simpa [SMap.erase] using (List.mem_filter.mp he).2

/-- Reading a key after writing one. -/
theorem SMap.get_set (m : SMap α) (k j : Nat) (v : α) :
    SMap.get d (SMap.set d m k v) j = if k = j then v else SMap.get d m j := by
  unfold SMap.set
  rw [SMap.get_place d _ k j _ (SMap.erase_fresh m k)]
  split
  · by_cases h : v = d k <;> simp [h]
  · next hj => exact SMap.get_erase_other d m (Ne.symm hj)

@[simp] theorem SMap.get_set_same (m : SMap α) (k : Nat) (v : α) : SMap.get d (SMap.set d m k v) k = v := by
  simp [SMap.get_set]

theorem SMap.get_set_other (m : SMap α) {k j : Nat} (v : α) (h : k ≠ j) :
    SMap.get d (SMap.set d m k v) j = SMap.get d m j := by simp [SMap.get_set, h]

omit [DecidableEq α] in
theorem SMap.mem_place {m : SMap α} {k : Nat} {x : Option α} {e : Nat × α} (h : e ∈ SMap.place m k x) :
    (∃ v, x = some v ∧ e = (k, v)) ∨ e ∈ m := by
  induction m with
  | nil => cases x <;> simp_all [SMap.place]
  | cons y m ih =>
    obtain ⟨i, w⟩ := y
    by_cases hk : k < i
    · cases x <;> simp [SMap.place, hk] at h ⊢ <;> tauto
    · simp only [SMap.place, hk, if_false, List.mem_cons] at h
      rcases h with h | h
      · simp [h]
      · rcases ih h with h | h <;> simp [h]

omit [DecidableEq α] in
theorem SMap.sorted_place (m : SMap α) (k : Nat) (x : Option α) (hs : m.Pairwise (fun a b => a.1 < b.1))
    (hk : ∀ e ∈ m, e.1 ≠ k) : (SMap.place m k x).Pairwise (fun a b => a.1 < b.1) := by
  induction m with
  | nil => cases x <;> simp [SMap.place]
  | cons y m ih =>
    obtain ⟨i, w⟩ := y
    have hs' := List.pairwise_cons.mp hs
    by_cases h : k < i
    · cases x with
      | none => simpa [SMap.place, h] using hs
      | some v =>
        simp only [SMap.place, h, if_true]
        refine List.pairwise_cons.mpr ⟨fun e he => ?_, hs⟩
        rcases List.mem_cons.mp he with rfl | he
        · exact h
        · exact lt_trans h (hs'.1 e he)
    · simp only [SMap.place, h, if_false]
      have hi : i ≠ k := hk (i, w) (by simp)
      refine List.pairwise_cons.mpr ⟨fun e he => ?_, ih hs'.2 (fun e he => hk e (by simp [he]))⟩
      rcases SMap.mem_place he with ⟨v, -, rfl⟩ | he
      · show i < k; omega
      · exact hs'.1 e he

/-- A write keeps the canonical form. -/
theorem SMap.wf_set (m : SMap α) (k : Nat) (v : α) (h : SMap.wf d m) : SMap.wf d (SMap.set d m k v) := by
  have he : SMap.wf d (SMap.erase m k) :=
    ⟨h.1.filter _, fun e he => h.2 e (List.mem_filter.mp he).1⟩
  refine ⟨SMap.sorted_place _ k _ he.1 (SMap.erase_fresh m k), fun e hm => ?_⟩
  rcases SMap.mem_place hm with ⟨u, hu, rfl⟩ | hm
  · split at hu
    · cases hu
    · cases hu; assumption
  · exact he.2 e hm

end Sys2Proof.Machine
end

