-- ==== Sys2Proof/Laws/Memory.lean ====
section
/-! SUPPORT. Laws/Memory.lean: what the operations over HBM can do: each keeps the canonical form, and a line written is the one read. -/

namespace Sys2Proof.Machine

@[simp] theorem Memory.land_nil (m : Memory) : Memory.land m [] = m := rfl
@[simp] theorem Memory.land_cons (m : Memory) (e : Nat × LineData) (p : List (Nat × LineData)) :
    Memory.land m (e :: p) = Memory.putLine (Memory.land m p) e.1 e.2 := by
  simp only [Memory.land, List.foldr_cons]

/-- Writes to some bytes keep the canonical form. -/
theorem Memory.wf_foldl_set (m : Memory) (l : List Nat) (key : Nat → Nat) (v : Nat → Byte) (h : Memory.wf m) :
    Memory.wf (l.foldl (fun m j => SMap.set Memory.dflt m (key j) (v j)) m) := by
  induction l generalizing m with
  | nil => exact h
  | cons j l ih => exact ih _ (SMap.wf_set _ m _ _ h)

/-- A line written keeps the canonical form. -/
theorem Memory.wf_putLine (m : Memory) (a : Nat) (l : LineData) (h : Memory.wf m) : Memory.wf (Memory.putLine m a l) :=
  Memory.wf_foldl_set m _ _ _ h

/-- What a step posted lands in canonical form. -/
theorem Memory.wf_land (m : Memory) (p : List (Nat × LineData)) (h : Memory.wf m) : Memory.wf (Memory.land m p) := by
  induction p with
  | nil => rw [Memory.land_nil]; exact h
  | cons e p ih => rw [Memory.land_cons]; exact Memory.wf_putLine _ _ _ ih

/-- Memory at reset is in canonical form. -/
theorem Memory.wf_reset : Memory.wf State.reset.hbm := ⟨List.Pairwise.nil, fun _ h => nomatch h⟩

/-- The bytes written through `key` alone are changed. -/
theorem Memory.get_foldl_set_other (m : Memory) (l : List Nat) (key : Nat → Nat) (v : Nat → Byte) (k : Nat) (h : ∀ j ∈ l, key j ≠ k) :
    SMap.get Memory.dflt (l.foldl (fun m j => SMap.set Memory.dflt m (key j) (v j)) m) k = SMap.get Memory.dflt m k := by
  induction l generalizing m with
  | nil => rfl
  | cons j l ih =>
    rw [List.foldl_cons, ih _ (fun i hi => h i (List.mem_cons_of_mem _ hi)), SMap.get_set_other _ _ _ (h j (List.mem_cons_self ..))]

/-- A line written leaves the bytes of every other line. -/
theorem Memory.get_putLine_other (m : Memory) (a : Nat) (l : LineData) (k : Nat) (h : k / 32 ≠ a) :
    SMap.get Memory.dflt (Memory.putLine m a l) k = SMap.get Memory.dflt m k :=
  Memory.get_foldl_set_other m _ _ _ k (fun j hj => by have := List.mem_range.mp hj; omega)

/-- What a step posted leaves the bytes of the lines it did not post. -/
theorem Memory.get_land_other (m : Memory) (p : List (Nat × LineData)) (k : Nat) (h : ∀ e ∈ p, e.1 ≠ k / 32) :
    SMap.get Memory.dflt (Memory.land m p) k = SMap.get Memory.dflt m k := by
  induction p with
  | nil => rw [Memory.land_nil]
  | cons e p ih =>
    rw [Memory.land_cons]
    exact (Memory.get_putLine_other _ _ _ k (fun h2 => h e (List.mem_cons_self ..) h2.symm)).trans
      (ih (fun f hf => h f (List.mem_cons_of_mem _ hf)))

/-- A line posted is the line read. -/
@[simp] theorem State.hbmRaw_hbmPut_same (s : State) {a : Nat} (l : LineData) (h : a < 0x60000000) : (s.hbmPut a l).hbmRaw a = l := by
  simp [State.hbmPut, State.hbmRaw, h]
/-- A line posted leaves every other line as it reads. -/
theorem State.hbmRaw_hbmPut_other (s : State) {a b : Nat} (l : LineData) (h : a ≠ b) : (s.hbmPut a l).hbmRaw b = s.hbmRaw b := by
  by_cases ha : a < 0x60000000 <;> simp [State.hbmPut, State.hbmRaw, ha, h]
/-- A write to a line that is not implemented is discarded (01, R25). -/
theorem State.hbmPut_absent (s : State) {a : Nat} (l : LineData) (h : 0x60000000 ≤ a) : s.hbmPut a l = s := by
  simp [State.hbmPut, Nat.not_lt.mpr h]

end Sys2Proof.Machine
end

