-- ==== Sys2Proof/Laws/State.lean ====
section
/-! SUPPORT. Laws/State.lean: what each update of one field leaves of the others, and what a register reads after a write. -/

namespace Sys2Proof.Machine

@[simp] theorem State.tick_pending (s : State) (t : Nat) : (s.tick t).pending = s.pending := rfl
@[simp] theorem State.tick_agenda (s : State) (t : Nat) : (s.tick t).agenda = s.agenda := rfl
@[simp] theorem State.tick_hbm (s : State) (t : Nat) : (s.tick t).hbm = s.hbm := rfl
@[simp] theorem State.tick_posted (s : State) (t : Nat) : (s.tick t).posted = s.posted := rfl
@[simp] theorem State.tick_regs (s : State) (t : Nat) : (s.tick t).regs = s.regs := rfl
@[simp] theorem State.tick_act (s : State) (t : Nat) : (s.tick t).act = s.act := rfl
@[simp] theorem State.tick_cmdStat (s : State) (t : Nat) : (s.tick t).cmdStat = s.cmdStat := rfl
@[simp] theorem State.tick_reply (s : State) (t : Nat) : (s.tick t).reply = s.reply := rfl
@[simp] theorem State.tick_locks (s : State) (t : Nat) : (s.tick t).locks = s.locks := rfl
@[simp] theorem State.tick_log (s : State) (t : Nat) : (s.tick t).log = s.log := rfl
@[simp] theorem State.tick_alm (s : State) (t : Nat) : (s.tick t).alm = s.alm := rfl
@[simp] theorem State.tick_queues (s : State) (t : Nat) : (s.tick t).queues = s.queues := rfl
@[simp] theorem State.tick_faults (s : State) (t : Nat) : (s.tick t).faults = s.faults := rfl
@[simp] theorem State.tick_sync (s : State) (t : Nat) : (s.tick t).sync = s.sync := rfl
@[simp] theorem State.tick_pins (s : State) (t : Nat) : (s.tick t).pins = s.pins := rfl
@[simp] theorem State.tick_seqs (s : State) (t : Nat) : (s.tick t).seqs = s.seqs := rfl
@[simp] theorem State.tick_groups (s : State) (t : Nat) : (s.tick t).groups = s.groups := rfl
@[simp] theorem State.tick_mea (s : State) (t : Nat) : (s.tick t).mea = s.mea := rfl
@[simp] theorem State.tick_red (s : State) (t : Nat) : (s.tick t).red = s.red := rfl
@[simp] theorem State.tick_stim (s : State) (t : Nat) : (s.tick t).stim = s.stim := rfl
@[simp] theorem State.tick_halo (s : State) (t : Nat) : (s.tick t).halo = s.halo := rfl
@[simp] theorem State.tick_host (s : State) (t : Nat) : (s.tick t).host = s.host := rfl
@[simp] theorem State.tick_micro (s : State) (t : Nat) : (s.tick t).micro = s.micro := rfl
@[simp] theorem State.tick_mem (s : State) (t : Nat) : (s.tick t).mem = s.mem := rfl
@[simp] theorem State.tick_therm (s : State) (t : Nat) : (s.tick t).therm = s.therm := rfl
theorem State.tick_start (s : State) (t : Nat) :
    (s.tick t).start = { s.start with timer := if s.localOn then s.start.timer else max s.start.timer t } := rfl
@[simp] theorem State.tick_waiting (s : State) (t : Nat) : (s.tick t).start.waiting = s.start.waiting := rfl
@[simp] theorem State.tick_warm (s : State) (t : Nat) : (s.tick t).start.warm = s.start.warm := rfl
@[simp] theorem State.tick_svc (s : State) (t : Nat) : (s.tick t).svc = s.svc := rfl
@[simp] theorem State.tick_tap (s : State) (t : Nat) : (s.tick t).tap = s.tap := rfl

@[simp] theorem State.setRegW_pending (s : State) (i j w : Nat) (v : Word) : (s.setRegW i j w v).pending = s.pending := rfl
@[simp] theorem State.setRegW_agenda (s : State) (i j w : Nat) (v : Word) : (s.setRegW i j w v).agenda = s.agenda := rfl
@[simp] theorem State.setRegW_hbm (s : State) (i j w : Nat) (v : Word) : (s.setRegW i j w v).hbm = s.hbm := rfl
@[simp] theorem State.setRegW_posted (s : State) (i j w : Nat) (v : Word) : (s.setRegW i j w v).posted = s.posted := rfl
@[simp] theorem State.setRegW_clock (s : State) (i j w : Nat) (v : Word) : (s.setRegW i j w v).clock = s.clock := rfl
@[simp] theorem State.setRegW_act (s : State) (i j w : Nat) (v : Word) : (s.setRegW i j w v).act = s.act := rfl
@[simp] theorem State.setRegW_cmdStat (s : State) (i j w : Nat) (v : Word) : (s.setRegW i j w v).cmdStat = s.cmdStat := rfl
@[simp] theorem State.setRegW_reply (s : State) (i j w : Nat) (v : Word) : (s.setRegW i j w v).reply = s.reply := rfl
@[simp] theorem State.setRegW_locks (s : State) (i j w : Nat) (v : Word) : (s.setRegW i j w v).locks = s.locks := rfl
@[simp] theorem State.setRegW_log (s : State) (i j w : Nat) (v : Word) : (s.setRegW i j w v).log = s.log := rfl
@[simp] theorem State.setRegW_alm (s : State) (i j w : Nat) (v : Word) : (s.setRegW i j w v).alm = s.alm := rfl
@[simp] theorem State.setRegW_queues (s : State) (i j w : Nat) (v : Word) : (s.setRegW i j w v).queues = s.queues := rfl
@[simp] theorem State.setRegW_faults (s : State) (i j w : Nat) (v : Word) : (s.setRegW i j w v).faults = s.faults := rfl
@[simp] theorem State.setRegW_sync (s : State) (i j w : Nat) (v : Word) : (s.setRegW i j w v).sync = s.sync := rfl
@[simp] theorem State.setRegW_pins (s : State) (i j w : Nat) (v : Word) : (s.setRegW i j w v).pins = s.pins := rfl
@[simp] theorem State.setRegW_seqs (s : State) (i j w : Nat) (v : Word) : (s.setRegW i j w v).seqs = s.seqs := rfl
@[simp] theorem State.setRegW_groups (s : State) (i j w : Nat) (v : Word) : (s.setRegW i j w v).groups = s.groups := rfl
@[simp] theorem State.setRegW_mea (s : State) (i j w : Nat) (v : Word) : (s.setRegW i j w v).mea = s.mea := rfl
@[simp] theorem State.setRegW_red (s : State) (i j w : Nat) (v : Word) : (s.setRegW i j w v).red = s.red := rfl
@[simp] theorem State.setRegW_stim (s : State) (i j w : Nat) (v : Word) : (s.setRegW i j w v).stim = s.stim := rfl
@[simp] theorem State.setRegW_halo (s : State) (i j w : Nat) (v : Word) : (s.setRegW i j w v).halo = s.halo := rfl
@[simp] theorem State.setRegW_host (s : State) (i j w : Nat) (v : Word) : (s.setRegW i j w v).host = s.host := rfl
@[simp] theorem State.setRegW_micro (s : State) (i j w : Nat) (v : Word) : (s.setRegW i j w v).micro = s.micro := rfl
@[simp] theorem State.setRegW_mem (s : State) (i j w : Nat) (v : Word) : (s.setRegW i j w v).mem = s.mem := rfl
@[simp] theorem State.setRegW_therm (s : State) (i j w : Nat) (v : Word) : (s.setRegW i j w v).therm = s.therm := rfl
@[simp] theorem State.setRegW_start (s : State) (i j w : Nat) (v : Word) : (s.setRegW i j w v).start = s.start := rfl
@[simp] theorem State.setRegW_svc (s : State) (i j w : Nat) (v : Word) : (s.setRegW i j w v).svc = s.svc := rfl
@[simp] theorem State.setRegW_tap (s : State) (i j w : Nat) (v : Word) : (s.setRegW i j w v).tap = s.tap := rfl

@[simp] theorem State.setAct_pending (s : State) (i j w : Nat) (v : Word) : (s.setAct i j w v).pending = s.pending := rfl
@[simp] theorem State.setAct_agenda (s : State) (i j w : Nat) (v : Word) : (s.setAct i j w v).agenda = s.agenda := rfl
@[simp] theorem State.setAct_hbm (s : State) (i j w : Nat) (v : Word) : (s.setAct i j w v).hbm = s.hbm := rfl
@[simp] theorem State.setAct_posted (s : State) (i j w : Nat) (v : Word) : (s.setAct i j w v).posted = s.posted := rfl
@[simp] theorem State.setAct_clock (s : State) (i j w : Nat) (v : Word) : (s.setAct i j w v).clock = s.clock := rfl
@[simp] theorem State.setAct_regs (s : State) (i j w : Nat) (v : Word) : (s.setAct i j w v).regs = s.regs := rfl
@[simp] theorem State.setAct_cmdStat (s : State) (i j w : Nat) (v : Word) : (s.setAct i j w v).cmdStat = s.cmdStat := rfl
@[simp] theorem State.setAct_reply (s : State) (i j w : Nat) (v : Word) : (s.setAct i j w v).reply = s.reply := rfl
@[simp] theorem State.setAct_locks (s : State) (i j w : Nat) (v : Word) : (s.setAct i j w v).locks = s.locks := rfl
@[simp] theorem State.setAct_log (s : State) (i j w : Nat) (v : Word) : (s.setAct i j w v).log = s.log := rfl
@[simp] theorem State.setAct_alm (s : State) (i j w : Nat) (v : Word) : (s.setAct i j w v).alm = s.alm := rfl
@[simp] theorem State.setAct_queues (s : State) (i j w : Nat) (v : Word) : (s.setAct i j w v).queues = s.queues := rfl
@[simp] theorem State.setAct_faults (s : State) (i j w : Nat) (v : Word) : (s.setAct i j w v).faults = s.faults := rfl
@[simp] theorem State.setAct_sync (s : State) (i j w : Nat) (v : Word) : (s.setAct i j w v).sync = s.sync := rfl
@[simp] theorem State.setAct_pins (s : State) (i j w : Nat) (v : Word) : (s.setAct i j w v).pins = s.pins := rfl
@[simp] theorem State.setAct_seqs (s : State) (i j w : Nat) (v : Word) : (s.setAct i j w v).seqs = s.seqs := rfl
@[simp] theorem State.setAct_groups (s : State) (i j w : Nat) (v : Word) : (s.setAct i j w v).groups = s.groups := rfl
@[simp] theorem State.setAct_mea (s : State) (i j w : Nat) (v : Word) : (s.setAct i j w v).mea = s.mea := rfl
@[simp] theorem State.setAct_red (s : State) (i j w : Nat) (v : Word) : (s.setAct i j w v).red = s.red := rfl
@[simp] theorem State.setAct_stim (s : State) (i j w : Nat) (v : Word) : (s.setAct i j w v).stim = s.stim := rfl
@[simp] theorem State.setAct_halo (s : State) (i j w : Nat) (v : Word) : (s.setAct i j w v).halo = s.halo := rfl
@[simp] theorem State.setAct_host (s : State) (i j w : Nat) (v : Word) : (s.setAct i j w v).host = s.host := rfl
@[simp] theorem State.setAct_micro (s : State) (i j w : Nat) (v : Word) : (s.setAct i j w v).micro = s.micro := rfl
@[simp] theorem State.setAct_mem (s : State) (i j w : Nat) (v : Word) : (s.setAct i j w v).mem = s.mem := rfl
@[simp] theorem State.setAct_therm (s : State) (i j w : Nat) (v : Word) : (s.setAct i j w v).therm = s.therm := rfl
@[simp] theorem State.setAct_start (s : State) (i j w : Nat) (v : Word) : (s.setAct i j w v).start = s.start := rfl
@[simp] theorem State.setAct_svc (s : State) (i j w : Nat) (v : Word) : (s.setAct i j w v).svc = s.svc := rfl
@[simp] theorem State.setAct_tap (s : State) (i j w : Nat) (v : Word) : (s.setAct i j w v).tap = s.tap := rfl

@[simp] theorem State.setReg_pending (s : State) (i j : Nat) (v : Word) : (s.setReg i j v).pending = s.pending := rfl
@[simp] theorem State.setReg_agenda (s : State) (i j : Nat) (v : Word) : (s.setReg i j v).agenda = s.agenda := rfl
@[simp] theorem State.setReg_hbm (s : State) (i j : Nat) (v : Word) : (s.setReg i j v).hbm = s.hbm := rfl
@[simp] theorem State.setReg_posted (s : State) (i j : Nat) (v : Word) : (s.setReg i j v).posted = s.posted := rfl
@[simp] theorem State.setReg_clock (s : State) (i j : Nat) (v : Word) : (s.setReg i j v).clock = s.clock := rfl
@[simp] theorem State.setReg_act (s : State) (i j : Nat) (v : Word) : (s.setReg i j v).act = s.act := rfl
@[simp] theorem State.setReg_cmdStat (s : State) (i j : Nat) (v : Word) : (s.setReg i j v).cmdStat = s.cmdStat := rfl
@[simp] theorem State.setReg_reply (s : State) (i j : Nat) (v : Word) : (s.setReg i j v).reply = s.reply := rfl
@[simp] theorem State.setReg_locks (s : State) (i j : Nat) (v : Word) : (s.setReg i j v).locks = s.locks := rfl
@[simp] theorem State.setReg_log (s : State) (i j : Nat) (v : Word) : (s.setReg i j v).log = s.log := rfl
@[simp] theorem State.setReg_alm (s : State) (i j : Nat) (v : Word) : (s.setReg i j v).alm = s.alm := rfl
@[simp] theorem State.setReg_queues (s : State) (i j : Nat) (v : Word) : (s.setReg i j v).queues = s.queues := rfl
@[simp] theorem State.setReg_faults (s : State) (i j : Nat) (v : Word) : (s.setReg i j v).faults = s.faults := rfl
@[simp] theorem State.setReg_sync (s : State) (i j : Nat) (v : Word) : (s.setReg i j v).sync = s.sync := rfl
@[simp] theorem State.setReg_pins (s : State) (i j : Nat) (v : Word) : (s.setReg i j v).pins = s.pins := rfl
@[simp] theorem State.setReg_seqs (s : State) (i j : Nat) (v : Word) : (s.setReg i j v).seqs = s.seqs := rfl
@[simp] theorem State.setReg_groups (s : State) (i j : Nat) (v : Word) : (s.setReg i j v).groups = s.groups := rfl
@[simp] theorem State.setReg_mea (s : State) (i j : Nat) (v : Word) : (s.setReg i j v).mea = s.mea := rfl
@[simp] theorem State.setReg_red (s : State) (i j : Nat) (v : Word) : (s.setReg i j v).red = s.red := rfl
@[simp] theorem State.setReg_stim (s : State) (i j : Nat) (v : Word) : (s.setReg i j v).stim = s.stim := rfl
@[simp] theorem State.setReg_halo (s : State) (i j : Nat) (v : Word) : (s.setReg i j v).halo = s.halo := rfl
@[simp] theorem State.setReg_host (s : State) (i j : Nat) (v : Word) : (s.setReg i j v).host = s.host := rfl
@[simp] theorem State.setReg_micro (s : State) (i j : Nat) (v : Word) : (s.setReg i j v).micro = s.micro := rfl
@[simp] theorem State.setReg_mem (s : State) (i j : Nat) (v : Word) : (s.setReg i j v).mem = s.mem := rfl
@[simp] theorem State.setReg_therm (s : State) (i j : Nat) (v : Word) : (s.setReg i j v).therm = s.therm := rfl
@[simp] theorem State.setReg_start (s : State) (i j : Nat) (v : Word) : (s.setReg i j v).start = s.start := rfl
@[simp] theorem State.setReg_svc (s : State) (i j : Nat) (v : Word) : (s.setReg i j v).svc = s.svc := rfl
@[simp] theorem State.setReg_tap (s : State) (i j : Nat) (v : Word) : (s.setReg i j v).tap = s.tap := rfl

@[simp] theorem State.setRegN_pending (s : State) (i j n : Nat) : (s.setRegN i j n).pending = s.pending := rfl
@[simp] theorem State.setRegN_agenda (s : State) (i j n : Nat) : (s.setRegN i j n).agenda = s.agenda := rfl
@[simp] theorem State.setRegN_hbm (s : State) (i j n : Nat) : (s.setRegN i j n).hbm = s.hbm := rfl
@[simp] theorem State.setRegN_posted (s : State) (i j n : Nat) : (s.setRegN i j n).posted = s.posted := rfl
@[simp] theorem State.setRegN_clock (s : State) (i j n : Nat) : (s.setRegN i j n).clock = s.clock := rfl
@[simp] theorem State.setRegN_act (s : State) (i j n : Nat) : (s.setRegN i j n).act = s.act := rfl
@[simp] theorem State.setRegN_cmdStat (s : State) (i j n : Nat) : (s.setRegN i j n).cmdStat = s.cmdStat := rfl
@[simp] theorem State.setRegN_reply (s : State) (i j n : Nat) : (s.setRegN i j n).reply = s.reply := rfl
@[simp] theorem State.setRegN_locks (s : State) (i j n : Nat) : (s.setRegN i j n).locks = s.locks := rfl
@[simp] theorem State.setRegN_log (s : State) (i j n : Nat) : (s.setRegN i j n).log = s.log := rfl
@[simp] theorem State.setRegN_alm (s : State) (i j n : Nat) : (s.setRegN i j n).alm = s.alm := rfl
@[simp] theorem State.setRegN_queues (s : State) (i j n : Nat) : (s.setRegN i j n).queues = s.queues := rfl
@[simp] theorem State.setRegN_faults (s : State) (i j n : Nat) : (s.setRegN i j n).faults = s.faults := rfl
@[simp] theorem State.setRegN_sync (s : State) (i j n : Nat) : (s.setRegN i j n).sync = s.sync := rfl
@[simp] theorem State.setRegN_pins (s : State) (i j n : Nat) : (s.setRegN i j n).pins = s.pins := rfl
@[simp] theorem State.setRegN_seqs (s : State) (i j n : Nat) : (s.setRegN i j n).seqs = s.seqs := rfl
@[simp] theorem State.setRegN_groups (s : State) (i j n : Nat) : (s.setRegN i j n).groups = s.groups := rfl
@[simp] theorem State.setRegN_mea (s : State) (i j n : Nat) : (s.setRegN i j n).mea = s.mea := rfl
@[simp] theorem State.setRegN_red (s : State) (i j n : Nat) : (s.setRegN i j n).red = s.red := rfl
@[simp] theorem State.setRegN_stim (s : State) (i j n : Nat) : (s.setRegN i j n).stim = s.stim := rfl
@[simp] theorem State.setRegN_halo (s : State) (i j n : Nat) : (s.setRegN i j n).halo = s.halo := rfl
@[simp] theorem State.setRegN_host (s : State) (i j n : Nat) : (s.setRegN i j n).host = s.host := rfl
@[simp] theorem State.setRegN_micro (s : State) (i j n : Nat) : (s.setRegN i j n).micro = s.micro := rfl
@[simp] theorem State.setRegN_mem (s : State) (i j n : Nat) : (s.setRegN i j n).mem = s.mem := rfl
@[simp] theorem State.setRegN_therm (s : State) (i j n : Nat) : (s.setRegN i j n).therm = s.therm := rfl
@[simp] theorem State.setRegN_start (s : State) (i j n : Nat) : (s.setRegN i j n).start = s.start := rfl
@[simp] theorem State.setRegN_svc (s : State) (i j n : Nat) : (s.setRegN i j n).svc = s.svc := rfl
@[simp] theorem State.setRegN_tap (s : State) (i j n : Nat) : (s.setRegN i j n).tap = s.tap := rfl

@[simp] theorem State.setReg80_pending (s : State) (i j : Nat) (v : U80) : (s.setReg80 i j v).pending = s.pending := rfl
@[simp] theorem State.setReg80_agenda (s : State) (i j : Nat) (v : U80) : (s.setReg80 i j v).agenda = s.agenda := rfl
@[simp] theorem State.setReg80_hbm (s : State) (i j : Nat) (v : U80) : (s.setReg80 i j v).hbm = s.hbm := rfl
@[simp] theorem State.setReg80_posted (s : State) (i j : Nat) (v : U80) : (s.setReg80 i j v).posted = s.posted := rfl
@[simp] theorem State.setReg80_clock (s : State) (i j : Nat) (v : U80) : (s.setReg80 i j v).clock = s.clock := rfl
@[simp] theorem State.setReg80_act (s : State) (i j : Nat) (v : U80) : (s.setReg80 i j v).act = s.act := rfl
@[simp] theorem State.setReg80_cmdStat (s : State) (i j : Nat) (v : U80) : (s.setReg80 i j v).cmdStat = s.cmdStat := rfl
@[simp] theorem State.setReg80_reply (s : State) (i j : Nat) (v : U80) : (s.setReg80 i j v).reply = s.reply := rfl
@[simp] theorem State.setReg80_locks (s : State) (i j : Nat) (v : U80) : (s.setReg80 i j v).locks = s.locks := rfl
@[simp] theorem State.setReg80_log (s : State) (i j : Nat) (v : U80) : (s.setReg80 i j v).log = s.log := rfl
@[simp] theorem State.setReg80_alm (s : State) (i j : Nat) (v : U80) : (s.setReg80 i j v).alm = s.alm := rfl
@[simp] theorem State.setReg80_queues (s : State) (i j : Nat) (v : U80) : (s.setReg80 i j v).queues = s.queues := rfl
@[simp] theorem State.setReg80_faults (s : State) (i j : Nat) (v : U80) : (s.setReg80 i j v).faults = s.faults := rfl
@[simp] theorem State.setReg80_sync (s : State) (i j : Nat) (v : U80) : (s.setReg80 i j v).sync = s.sync := rfl
@[simp] theorem State.setReg80_pins (s : State) (i j : Nat) (v : U80) : (s.setReg80 i j v).pins = s.pins := rfl
@[simp] theorem State.setReg80_seqs (s : State) (i j : Nat) (v : U80) : (s.setReg80 i j v).seqs = s.seqs := rfl
@[simp] theorem State.setReg80_groups (s : State) (i j : Nat) (v : U80) : (s.setReg80 i j v).groups = s.groups := rfl
@[simp] theorem State.setReg80_mea (s : State) (i j : Nat) (v : U80) : (s.setReg80 i j v).mea = s.mea := rfl
@[simp] theorem State.setReg80_red (s : State) (i j : Nat) (v : U80) : (s.setReg80 i j v).red = s.red := rfl
@[simp] theorem State.setReg80_stim (s : State) (i j : Nat) (v : U80) : (s.setReg80 i j v).stim = s.stim := rfl
@[simp] theorem State.setReg80_halo (s : State) (i j : Nat) (v : U80) : (s.setReg80 i j v).halo = s.halo := rfl
@[simp] theorem State.setReg80_host (s : State) (i j : Nat) (v : U80) : (s.setReg80 i j v).host = s.host := rfl
@[simp] theorem State.setReg80_micro (s : State) (i j : Nat) (v : U80) : (s.setReg80 i j v).micro = s.micro := rfl
@[simp] theorem State.setReg80_mem (s : State) (i j : Nat) (v : U80) : (s.setReg80 i j v).mem = s.mem := rfl
@[simp] theorem State.setReg80_therm (s : State) (i j : Nat) (v : U80) : (s.setReg80 i j v).therm = s.therm := rfl
@[simp] theorem State.setReg80_start (s : State) (i j : Nat) (v : U80) : (s.setReg80 i j v).start = s.start := rfl
@[simp] theorem State.setReg80_svc (s : State) (i j : Nat) (v : U80) : (s.setReg80 i j v).svc = s.svc := rfl
@[simp] theorem State.setReg80_tap (s : State) (i j : Nat) (v : U80) : (s.setReg80 i j v).tap = s.tap := rfl

@[simp] theorem State.addReg_pending (s : State) (i j n w : Nat) : (s.addReg i j n w).pending = s.pending := rfl
@[simp] theorem State.addReg_agenda (s : State) (i j n w : Nat) : (s.addReg i j n w).agenda = s.agenda := rfl
@[simp] theorem State.addReg_hbm (s : State) (i j n w : Nat) : (s.addReg i j n w).hbm = s.hbm := rfl
@[simp] theorem State.addReg_posted (s : State) (i j n w : Nat) : (s.addReg i j n w).posted = s.posted := rfl
@[simp] theorem State.addReg_clock (s : State) (i j n w : Nat) : (s.addReg i j n w).clock = s.clock := rfl
@[simp] theorem State.addReg_act (s : State) (i j n w : Nat) : (s.addReg i j n w).act = s.act := rfl
@[simp] theorem State.addReg_cmdStat (s : State) (i j n w : Nat) : (s.addReg i j n w).cmdStat = s.cmdStat := rfl
@[simp] theorem State.addReg_reply (s : State) (i j n w : Nat) : (s.addReg i j n w).reply = s.reply := rfl
@[simp] theorem State.addReg_locks (s : State) (i j n w : Nat) : (s.addReg i j n w).locks = s.locks := rfl
@[simp] theorem State.addReg_log (s : State) (i j n w : Nat) : (s.addReg i j n w).log = s.log := rfl
@[simp] theorem State.addReg_alm (s : State) (i j n w : Nat) : (s.addReg i j n w).alm = s.alm := rfl
@[simp] theorem State.addReg_queues (s : State) (i j n w : Nat) : (s.addReg i j n w).queues = s.queues := rfl
@[simp] theorem State.addReg_faults (s : State) (i j n w : Nat) : (s.addReg i j n w).faults = s.faults := rfl
@[simp] theorem State.addReg_sync (s : State) (i j n w : Nat) : (s.addReg i j n w).sync = s.sync := rfl
@[simp] theorem State.addReg_pins (s : State) (i j n w : Nat) : (s.addReg i j n w).pins = s.pins := rfl
@[simp] theorem State.addReg_seqs (s : State) (i j n w : Nat) : (s.addReg i j n w).seqs = s.seqs := rfl
@[simp] theorem State.addReg_groups (s : State) (i j n w : Nat) : (s.addReg i j n w).groups = s.groups := rfl
@[simp] theorem State.addReg_mea (s : State) (i j n w : Nat) : (s.addReg i j n w).mea = s.mea := rfl
@[simp] theorem State.addReg_red (s : State) (i j n w : Nat) : (s.addReg i j n w).red = s.red := rfl
@[simp] theorem State.addReg_stim (s : State) (i j n w : Nat) : (s.addReg i j n w).stim = s.stim := rfl
@[simp] theorem State.addReg_halo (s : State) (i j n w : Nat) : (s.addReg i j n w).halo = s.halo := rfl
@[simp] theorem State.addReg_host (s : State) (i j n w : Nat) : (s.addReg i j n w).host = s.host := rfl
@[simp] theorem State.addReg_micro (s : State) (i j n w : Nat) : (s.addReg i j n w).micro = s.micro := rfl
@[simp] theorem State.addReg_mem (s : State) (i j n w : Nat) : (s.addReg i j n w).mem = s.mem := rfl
@[simp] theorem State.addReg_therm (s : State) (i j n w : Nat) : (s.addReg i j n w).therm = s.therm := rfl
@[simp] theorem State.addReg_start (s : State) (i j n w : Nat) : (s.addReg i j n w).start = s.start := rfl
@[simp] theorem State.addReg_svc (s : State) (i j n w : Nat) : (s.addReg i j n w).svc = s.svc := rfl
@[simp] theorem State.addReg_tap (s : State) (i j n w : Nat) : (s.addReg i j n w).tap = s.tap := rfl

@[simp] theorem State.addReg80_pending (s : State) (i j n : Nat) : (s.addReg80 i j n).pending = s.pending := rfl
@[simp] theorem State.addReg80_agenda (s : State) (i j n : Nat) : (s.addReg80 i j n).agenda = s.agenda := rfl
@[simp] theorem State.addReg80_hbm (s : State) (i j n : Nat) : (s.addReg80 i j n).hbm = s.hbm := rfl
@[simp] theorem State.addReg80_posted (s : State) (i j n : Nat) : (s.addReg80 i j n).posted = s.posted := rfl
@[simp] theorem State.addReg80_clock (s : State) (i j n : Nat) : (s.addReg80 i j n).clock = s.clock := rfl
@[simp] theorem State.addReg80_act (s : State) (i j n : Nat) : (s.addReg80 i j n).act = s.act := rfl
@[simp] theorem State.addReg80_cmdStat (s : State) (i j n : Nat) : (s.addReg80 i j n).cmdStat = s.cmdStat := rfl
@[simp] theorem State.addReg80_reply (s : State) (i j n : Nat) : (s.addReg80 i j n).reply = s.reply := rfl
@[simp] theorem State.addReg80_locks (s : State) (i j n : Nat) : (s.addReg80 i j n).locks = s.locks := rfl
@[simp] theorem State.addReg80_log (s : State) (i j n : Nat) : (s.addReg80 i j n).log = s.log := rfl
@[simp] theorem State.addReg80_alm (s : State) (i j n : Nat) : (s.addReg80 i j n).alm = s.alm := rfl
@[simp] theorem State.addReg80_queues (s : State) (i j n : Nat) : (s.addReg80 i j n).queues = s.queues := rfl
@[simp] theorem State.addReg80_faults (s : State) (i j n : Nat) : (s.addReg80 i j n).faults = s.faults := rfl
@[simp] theorem State.addReg80_sync (s : State) (i j n : Nat) : (s.addReg80 i j n).sync = s.sync := rfl
@[simp] theorem State.addReg80_pins (s : State) (i j n : Nat) : (s.addReg80 i j n).pins = s.pins := rfl
@[simp] theorem State.addReg80_seqs (s : State) (i j n : Nat) : (s.addReg80 i j n).seqs = s.seqs := rfl
@[simp] theorem State.addReg80_groups (s : State) (i j n : Nat) : (s.addReg80 i j n).groups = s.groups := rfl
@[simp] theorem State.addReg80_mea (s : State) (i j n : Nat) : (s.addReg80 i j n).mea = s.mea := rfl
@[simp] theorem State.addReg80_red (s : State) (i j n : Nat) : (s.addReg80 i j n).red = s.red := rfl
@[simp] theorem State.addReg80_stim (s : State) (i j n : Nat) : (s.addReg80 i j n).stim = s.stim := rfl
@[simp] theorem State.addReg80_halo (s : State) (i j n : Nat) : (s.addReg80 i j n).halo = s.halo := rfl
@[simp] theorem State.addReg80_host (s : State) (i j n : Nat) : (s.addReg80 i j n).host = s.host := rfl
@[simp] theorem State.addReg80_micro (s : State) (i j n : Nat) : (s.addReg80 i j n).micro = s.micro := rfl
@[simp] theorem State.addReg80_mem (s : State) (i j n : Nat) : (s.addReg80 i j n).mem = s.mem := rfl
@[simp] theorem State.addReg80_therm (s : State) (i j n : Nat) : (s.addReg80 i j n).therm = s.therm := rfl
@[simp] theorem State.addReg80_start (s : State) (i j n : Nat) : (s.addReg80 i j n).start = s.start := rfl
@[simp] theorem State.addReg80_svc (s : State) (i j n : Nat) : (s.addReg80 i j n).svc = s.svc := rfl
@[simp] theorem State.addReg80_tap (s : State) (i j n : Nat) : (s.addReg80 i j n).tap = s.tap := rfl

@[simp] theorem State.clearReg_pending (s : State) (i j w : Nat) : (s.clearReg i j w).pending = s.pending := rfl
@[simp] theorem State.clearReg_agenda (s : State) (i j w : Nat) : (s.clearReg i j w).agenda = s.agenda := rfl
@[simp] theorem State.clearReg_hbm (s : State) (i j w : Nat) : (s.clearReg i j w).hbm = s.hbm := rfl
@[simp] theorem State.clearReg_posted (s : State) (i j w : Nat) : (s.clearReg i j w).posted = s.posted := rfl
@[simp] theorem State.clearReg_clock (s : State) (i j w : Nat) : (s.clearReg i j w).clock = s.clock := rfl
@[simp] theorem State.clearReg_act (s : State) (i j w : Nat) : (s.clearReg i j w).act = s.act := rfl
@[simp] theorem State.clearReg_cmdStat (s : State) (i j w : Nat) : (s.clearReg i j w).cmdStat = s.cmdStat := rfl
@[simp] theorem State.clearReg_reply (s : State) (i j w : Nat) : (s.clearReg i j w).reply = s.reply := rfl
@[simp] theorem State.clearReg_locks (s : State) (i j w : Nat) : (s.clearReg i j w).locks = s.locks := rfl
@[simp] theorem State.clearReg_log (s : State) (i j w : Nat) : (s.clearReg i j w).log = s.log := rfl
@[simp] theorem State.clearReg_alm (s : State) (i j w : Nat) : (s.clearReg i j w).alm = s.alm := rfl
@[simp] theorem State.clearReg_queues (s : State) (i j w : Nat) : (s.clearReg i j w).queues = s.queues := rfl
@[simp] theorem State.clearReg_faults (s : State) (i j w : Nat) : (s.clearReg i j w).faults = s.faults := rfl
@[simp] theorem State.clearReg_sync (s : State) (i j w : Nat) : (s.clearReg i j w).sync = s.sync := rfl
@[simp] theorem State.clearReg_pins (s : State) (i j w : Nat) : (s.clearReg i j w).pins = s.pins := rfl
@[simp] theorem State.clearReg_seqs (s : State) (i j w : Nat) : (s.clearReg i j w).seqs = s.seqs := rfl
@[simp] theorem State.clearReg_groups (s : State) (i j w : Nat) : (s.clearReg i j w).groups = s.groups := rfl
@[simp] theorem State.clearReg_mea (s : State) (i j w : Nat) : (s.clearReg i j w).mea = s.mea := rfl
@[simp] theorem State.clearReg_red (s : State) (i j w : Nat) : (s.clearReg i j w).red = s.red := rfl
@[simp] theorem State.clearReg_stim (s : State) (i j w : Nat) : (s.clearReg i j w).stim = s.stim := rfl
@[simp] theorem State.clearReg_halo (s : State) (i j w : Nat) : (s.clearReg i j w).halo = s.halo := rfl
@[simp] theorem State.clearReg_host (s : State) (i j w : Nat) : (s.clearReg i j w).host = s.host := rfl
@[simp] theorem State.clearReg_micro (s : State) (i j w : Nat) : (s.clearReg i j w).micro = s.micro := rfl
@[simp] theorem State.clearReg_mem (s : State) (i j w : Nat) : (s.clearReg i j w).mem = s.mem := rfl
@[simp] theorem State.clearReg_therm (s : State) (i j w : Nat) : (s.clearReg i j w).therm = s.therm := rfl
@[simp] theorem State.clearReg_start (s : State) (i j w : Nat) : (s.clearReg i j w).start = s.start := rfl
@[simp] theorem State.clearReg_svc (s : State) (i j w : Nat) : (s.clearReg i j w).svc = s.svc := rfl
@[simp] theorem State.clearReg_tap (s : State) (i j w : Nat) : (s.clearReg i j w).tap = s.tap := rfl

@[simp] theorem State.activate_pending (s : State) (i j w : Nat) : (s.activate i j w).pending = s.pending := rfl
@[simp] theorem State.activate_agenda (s : State) (i j w : Nat) : (s.activate i j w).agenda = s.agenda := rfl
@[simp] theorem State.activate_hbm (s : State) (i j w : Nat) : (s.activate i j w).hbm = s.hbm := rfl
@[simp] theorem State.activate_posted (s : State) (i j w : Nat) : (s.activate i j w).posted = s.posted := rfl
@[simp] theorem State.activate_clock (s : State) (i j w : Nat) : (s.activate i j w).clock = s.clock := rfl
@[simp] theorem State.activate_regs (s : State) (i j w : Nat) : (s.activate i j w).regs = s.regs := rfl
@[simp] theorem State.activate_cmdStat (s : State) (i j w : Nat) : (s.activate i j w).cmdStat = s.cmdStat := rfl
@[simp] theorem State.activate_reply (s : State) (i j w : Nat) : (s.activate i j w).reply = s.reply := rfl
@[simp] theorem State.activate_locks (s : State) (i j w : Nat) : (s.activate i j w).locks = s.locks := rfl
@[simp] theorem State.activate_log (s : State) (i j w : Nat) : (s.activate i j w).log = s.log := rfl
@[simp] theorem State.activate_alm (s : State) (i j w : Nat) : (s.activate i j w).alm = s.alm := rfl
@[simp] theorem State.activate_queues (s : State) (i j w : Nat) : (s.activate i j w).queues = s.queues := rfl
@[simp] theorem State.activate_faults (s : State) (i j w : Nat) : (s.activate i j w).faults = s.faults := rfl
@[simp] theorem State.activate_sync (s : State) (i j w : Nat) : (s.activate i j w).sync = s.sync := rfl
@[simp] theorem State.activate_pins (s : State) (i j w : Nat) : (s.activate i j w).pins = s.pins := rfl
@[simp] theorem State.activate_seqs (s : State) (i j w : Nat) : (s.activate i j w).seqs = s.seqs := rfl
@[simp] theorem State.activate_groups (s : State) (i j w : Nat) : (s.activate i j w).groups = s.groups := rfl
@[simp] theorem State.activate_mea (s : State) (i j w : Nat) : (s.activate i j w).mea = s.mea := rfl
@[simp] theorem State.activate_red (s : State) (i j w : Nat) : (s.activate i j w).red = s.red := rfl
@[simp] theorem State.activate_stim (s : State) (i j w : Nat) : (s.activate i j w).stim = s.stim := rfl
@[simp] theorem State.activate_halo (s : State) (i j w : Nat) : (s.activate i j w).halo = s.halo := rfl
@[simp] theorem State.activate_host (s : State) (i j w : Nat) : (s.activate i j w).host = s.host := rfl
@[simp] theorem State.activate_micro (s : State) (i j w : Nat) : (s.activate i j w).micro = s.micro := rfl
@[simp] theorem State.activate_mem (s : State) (i j w : Nat) : (s.activate i j w).mem = s.mem := rfl
@[simp] theorem State.activate_therm (s : State) (i j w : Nat) : (s.activate i j w).therm = s.therm := rfl
@[simp] theorem State.activate_start (s : State) (i j w : Nat) : (s.activate i j w).start = s.start := rfl
@[simp] theorem State.activate_svc (s : State) (i j w : Nat) : (s.activate i j w).svc = s.svc := rfl
@[simp] theorem State.activate_tap (s : State) (i j w : Nat) : (s.activate i j w).tap = s.tap := rfl

@[simp] theorem State.setCmd_pending (s : State) (src : Word) (i j : Nat) (v : Word) : (s.setCmd src i j v).pending = s.pending := rfl
@[simp] theorem State.setCmd_agenda (s : State) (src : Word) (i j : Nat) (v : Word) : (s.setCmd src i j v).agenda = s.agenda := rfl
@[simp] theorem State.setCmd_hbm (s : State) (src : Word) (i j : Nat) (v : Word) : (s.setCmd src i j v).hbm = s.hbm := rfl
@[simp] theorem State.setCmd_posted (s : State) (src : Word) (i j : Nat) (v : Word) : (s.setCmd src i j v).posted = s.posted := rfl
@[simp] theorem State.setCmd_clock (s : State) (src : Word) (i j : Nat) (v : Word) : (s.setCmd src i j v).clock = s.clock := rfl
@[simp] theorem State.setCmd_regs (s : State) (src : Word) (i j : Nat) (v : Word) : (s.setCmd src i j v).regs = s.regs := rfl
@[simp] theorem State.setCmd_act (s : State) (src : Word) (i j : Nat) (v : Word) : (s.setCmd src i j v).act = s.act := rfl
@[simp] theorem State.setCmd_reply (s : State) (src : Word) (i j : Nat) (v : Word) : (s.setCmd src i j v).reply = s.reply := rfl
@[simp] theorem State.setCmd_locks (s : State) (src : Word) (i j : Nat) (v : Word) : (s.setCmd src i j v).locks = s.locks := rfl
@[simp] theorem State.setCmd_log (s : State) (src : Word) (i j : Nat) (v : Word) : (s.setCmd src i j v).log = s.log := rfl
@[simp] theorem State.setCmd_alm (s : State) (src : Word) (i j : Nat) (v : Word) : (s.setCmd src i j v).alm = s.alm := rfl
@[simp] theorem State.setCmd_queues (s : State) (src : Word) (i j : Nat) (v : Word) : (s.setCmd src i j v).queues = s.queues := rfl
@[simp] theorem State.setCmd_faults (s : State) (src : Word) (i j : Nat) (v : Word) : (s.setCmd src i j v).faults = s.faults := rfl
@[simp] theorem State.setCmd_sync (s : State) (src : Word) (i j : Nat) (v : Word) : (s.setCmd src i j v).sync = s.sync := rfl
@[simp] theorem State.setCmd_pins (s : State) (src : Word) (i j : Nat) (v : Word) : (s.setCmd src i j v).pins = s.pins := rfl
@[simp] theorem State.setCmd_seqs (s : State) (src : Word) (i j : Nat) (v : Word) : (s.setCmd src i j v).seqs = s.seqs := rfl
@[simp] theorem State.setCmd_groups (s : State) (src : Word) (i j : Nat) (v : Word) : (s.setCmd src i j v).groups = s.groups := rfl
@[simp] theorem State.setCmd_mea (s : State) (src : Word) (i j : Nat) (v : Word) : (s.setCmd src i j v).mea = s.mea := rfl
@[simp] theorem State.setCmd_red (s : State) (src : Word) (i j : Nat) (v : Word) : (s.setCmd src i j v).red = s.red := rfl
@[simp] theorem State.setCmd_stim (s : State) (src : Word) (i j : Nat) (v : Word) : (s.setCmd src i j v).stim = s.stim := rfl
@[simp] theorem State.setCmd_halo (s : State) (src : Word) (i j : Nat) (v : Word) : (s.setCmd src i j v).halo = s.halo := rfl
@[simp] theorem State.setCmd_host (s : State) (src : Word) (i j : Nat) (v : Word) : (s.setCmd src i j v).host = s.host := rfl
@[simp] theorem State.setCmd_micro (s : State) (src : Word) (i j : Nat) (v : Word) : (s.setCmd src i j v).micro = s.micro := rfl
@[simp] theorem State.setCmd_mem (s : State) (src : Word) (i j : Nat) (v : Word) : (s.setCmd src i j v).mem = s.mem := rfl
@[simp] theorem State.setCmd_therm (s : State) (src : Word) (i j : Nat) (v : Word) : (s.setCmd src i j v).therm = s.therm := rfl
@[simp] theorem State.setCmd_start (s : State) (src : Word) (i j : Nat) (v : Word) : (s.setCmd src i j v).start = s.start := rfl
@[simp] theorem State.setCmd_svc (s : State) (src : Word) (i j : Nat) (v : Word) : (s.setCmd src i j v).svc = s.svc := rfl
@[simp] theorem State.setCmd_tap (s : State) (src : Word) (i j : Nat) (v : Word) : (s.setCmd src i j v).tap = s.tap := rfl

@[simp] theorem State.endCmd_pending (s : State) (src : Word) (i j r c : Nat) : (s.endCmd src i j r c).pending = s.pending := rfl
@[simp] theorem State.endCmd_agenda (s : State) (src : Word) (i j r c : Nat) : (s.endCmd src i j r c).agenda = s.agenda := rfl
@[simp] theorem State.endCmd_hbm (s : State) (src : Word) (i j r c : Nat) : (s.endCmd src i j r c).hbm = s.hbm := rfl
@[simp] theorem State.endCmd_posted (s : State) (src : Word) (i j r c : Nat) : (s.endCmd src i j r c).posted = s.posted := rfl
@[simp] theorem State.endCmd_clock (s : State) (src : Word) (i j r c : Nat) : (s.endCmd src i j r c).clock = s.clock := rfl
@[simp] theorem State.endCmd_regs (s : State) (src : Word) (i j r c : Nat) : (s.endCmd src i j r c).regs = s.regs := rfl
@[simp] theorem State.endCmd_act (s : State) (src : Word) (i j r c : Nat) : (s.endCmd src i j r c).act = s.act := rfl
@[simp] theorem State.endCmd_reply (s : State) (src : Word) (i j r c : Nat) : (s.endCmd src i j r c).reply = s.reply := rfl
@[simp] theorem State.endCmd_locks (s : State) (src : Word) (i j r c : Nat) : (s.endCmd src i j r c).locks = s.locks := rfl
@[simp] theorem State.endCmd_log (s : State) (src : Word) (i j r c : Nat) : (s.endCmd src i j r c).log = s.log := rfl
@[simp] theorem State.endCmd_alm (s : State) (src : Word) (i j r c : Nat) : (s.endCmd src i j r c).alm = s.alm := rfl
@[simp] theorem State.endCmd_queues (s : State) (src : Word) (i j r c : Nat) : (s.endCmd src i j r c).queues = s.queues := rfl
@[simp] theorem State.endCmd_faults (s : State) (src : Word) (i j r c : Nat) : (s.endCmd src i j r c).faults = s.faults := rfl
@[simp] theorem State.endCmd_sync (s : State) (src : Word) (i j r c : Nat) : (s.endCmd src i j r c).sync = s.sync := rfl
@[simp] theorem State.endCmd_pins (s : State) (src : Word) (i j r c : Nat) : (s.endCmd src i j r c).pins = s.pins := rfl
@[simp] theorem State.endCmd_seqs (s : State) (src : Word) (i j r c : Nat) : (s.endCmd src i j r c).seqs = s.seqs := rfl
@[simp] theorem State.endCmd_groups (s : State) (src : Word) (i j r c : Nat) : (s.endCmd src i j r c).groups = s.groups := rfl
@[simp] theorem State.endCmd_mea (s : State) (src : Word) (i j r c : Nat) : (s.endCmd src i j r c).mea = s.mea := rfl
@[simp] theorem State.endCmd_red (s : State) (src : Word) (i j r c : Nat) : (s.endCmd src i j r c).red = s.red := rfl
@[simp] theorem State.endCmd_stim (s : State) (src : Word) (i j r c : Nat) : (s.endCmd src i j r c).stim = s.stim := rfl
@[simp] theorem State.endCmd_halo (s : State) (src : Word) (i j r c : Nat) : (s.endCmd src i j r c).halo = s.halo := rfl
@[simp] theorem State.endCmd_host (s : State) (src : Word) (i j r c : Nat) : (s.endCmd src i j r c).host = s.host := rfl
@[simp] theorem State.endCmd_micro (s : State) (src : Word) (i j r c : Nat) : (s.endCmd src i j r c).micro = s.micro := rfl
@[simp] theorem State.endCmd_mem (s : State) (src : Word) (i j r c : Nat) : (s.endCmd src i j r c).mem = s.mem := rfl
@[simp] theorem State.endCmd_therm (s : State) (src : Word) (i j r c : Nat) : (s.endCmd src i j r c).therm = s.therm := rfl
@[simp] theorem State.endCmd_start (s : State) (src : Word) (i j r c : Nat) : (s.endCmd src i j r c).start = s.start := rfl
@[simp] theorem State.endCmd_svc (s : State) (src : Word) (i j r c : Nat) : (s.endCmd src i j r c).svc = s.svc := rfl
@[simp] theorem State.endCmd_tap (s : State) (src : Word) (i j r c : Nat) : (s.endCmd src i j r c).tap = s.tap := rfl

@[simp] theorem State.due_pending (s : State) (c : Instr) : (s.due c).pending = s.pending := rfl
@[simp] theorem State.due_hbm (s : State) (c : Instr) : (s.due c).hbm = s.hbm := rfl
@[simp] theorem State.due_posted (s : State) (c : Instr) : (s.due c).posted = s.posted := rfl
@[simp] theorem State.due_clock (s : State) (c : Instr) : (s.due c).clock = s.clock := rfl
@[simp] theorem State.due_regs (s : State) (c : Instr) : (s.due c).regs = s.regs := rfl
@[simp] theorem State.due_act (s : State) (c : Instr) : (s.due c).act = s.act := rfl
@[simp] theorem State.due_cmdStat (s : State) (c : Instr) : (s.due c).cmdStat = s.cmdStat := rfl
@[simp] theorem State.due_reply (s : State) (c : Instr) : (s.due c).reply = s.reply := rfl
@[simp] theorem State.due_locks (s : State) (c : Instr) : (s.due c).locks = s.locks := rfl
@[simp] theorem State.due_log (s : State) (c : Instr) : (s.due c).log = s.log := rfl
@[simp] theorem State.due_alm (s : State) (c : Instr) : (s.due c).alm = s.alm := rfl
@[simp] theorem State.due_queues (s : State) (c : Instr) : (s.due c).queues = s.queues := rfl
@[simp] theorem State.due_faults (s : State) (c : Instr) : (s.due c).faults = s.faults := rfl
@[simp] theorem State.due_sync (s : State) (c : Instr) : (s.due c).sync = s.sync := rfl
@[simp] theorem State.due_pins (s : State) (c : Instr) : (s.due c).pins = s.pins := rfl
@[simp] theorem State.due_seqs (s : State) (c : Instr) : (s.due c).seqs = s.seqs := rfl
@[simp] theorem State.due_groups (s : State) (c : Instr) : (s.due c).groups = s.groups := rfl
@[simp] theorem State.due_mea (s : State) (c : Instr) : (s.due c).mea = s.mea := rfl
@[simp] theorem State.due_red (s : State) (c : Instr) : (s.due c).red = s.red := rfl
@[simp] theorem State.due_stim (s : State) (c : Instr) : (s.due c).stim = s.stim := rfl
@[simp] theorem State.due_halo (s : State) (c : Instr) : (s.due c).halo = s.halo := rfl
@[simp] theorem State.due_host (s : State) (c : Instr) : (s.due c).host = s.host := rfl
@[simp] theorem State.due_micro (s : State) (c : Instr) : (s.due c).micro = s.micro := rfl
@[simp] theorem State.due_mem (s : State) (c : Instr) : (s.due c).mem = s.mem := rfl
@[simp] theorem State.due_therm (s : State) (c : Instr) : (s.due c).therm = s.therm := rfl
@[simp] theorem State.due_start (s : State) (c : Instr) : (s.due c).start = s.start := rfl
@[simp] theorem State.due_svc (s : State) (c : Instr) : (s.due c).svc = s.svc := rfl
@[simp] theorem State.due_tap (s : State) (c : Instr) : (s.due c).tap = s.tap := rfl

@[simp] theorem State.raiseFault_pending (s : State) (a b c : Nat) (v : Word) (x : Bool) : (s.raiseFault a b c v x).pending = s.pending := rfl
@[simp] theorem State.raiseFault_hbm (s : State) (a b c : Nat) (v : Word) (x : Bool) : (s.raiseFault a b c v x).hbm = s.hbm := rfl
@[simp] theorem State.raiseFault_posted (s : State) (a b c : Nat) (v : Word) (x : Bool) : (s.raiseFault a b c v x).posted = s.posted := rfl
@[simp] theorem State.raiseFault_clock (s : State) (a b c : Nat) (v : Word) (x : Bool) : (s.raiseFault a b c v x).clock = s.clock := rfl
@[simp] theorem State.raiseFault_regs (s : State) (a b c : Nat) (v : Word) (x : Bool) : (s.raiseFault a b c v x).regs = s.regs := rfl
@[simp] theorem State.raiseFault_act (s : State) (a b c : Nat) (v : Word) (x : Bool) : (s.raiseFault a b c v x).act = s.act := rfl
@[simp] theorem State.raiseFault_cmdStat (s : State) (a b c : Nat) (v : Word) (x : Bool) : (s.raiseFault a b c v x).cmdStat = s.cmdStat := rfl
@[simp] theorem State.raiseFault_reply (s : State) (a b c : Nat) (v : Word) (x : Bool) : (s.raiseFault a b c v x).reply = s.reply := rfl
@[simp] theorem State.raiseFault_locks (s : State) (a b c : Nat) (v : Word) (x : Bool) : (s.raiseFault a b c v x).locks = s.locks := rfl
@[simp] theorem State.raiseFault_log (s : State) (a b c : Nat) (v : Word) (x : Bool) : (s.raiseFault a b c v x).log = s.log := rfl
@[simp] theorem State.raiseFault_alm (s : State) (a b c : Nat) (v : Word) (x : Bool) : (s.raiseFault a b c v x).alm = s.alm := rfl
@[simp] theorem State.raiseFault_queues (s : State) (a b c : Nat) (v : Word) (x : Bool) : (s.raiseFault a b c v x).queues = s.queues := rfl
@[simp] theorem State.raiseFault_faults (s : State) (a b c : Nat) (v : Word) (x : Bool) : (s.raiseFault a b c v x).faults = s.faults := rfl
@[simp] theorem State.raiseFault_sync (s : State) (a b c : Nat) (v : Word) (x : Bool) : (s.raiseFault a b c v x).sync = s.sync := rfl
@[simp] theorem State.raiseFault_pins (s : State) (a b c : Nat) (v : Word) (x : Bool) : (s.raiseFault a b c v x).pins = s.pins := rfl
@[simp] theorem State.raiseFault_seqs (s : State) (a b c : Nat) (v : Word) (x : Bool) : (s.raiseFault a b c v x).seqs = s.seqs := rfl
@[simp] theorem State.raiseFault_groups (s : State) (a b c : Nat) (v : Word) (x : Bool) : (s.raiseFault a b c v x).groups = s.groups := rfl
@[simp] theorem State.raiseFault_mea (s : State) (a b c : Nat) (v : Word) (x : Bool) : (s.raiseFault a b c v x).mea = s.mea := rfl
@[simp] theorem State.raiseFault_red (s : State) (a b c : Nat) (v : Word) (x : Bool) : (s.raiseFault a b c v x).red = s.red := rfl
@[simp] theorem State.raiseFault_stim (s : State) (a b c : Nat) (v : Word) (x : Bool) : (s.raiseFault a b c v x).stim = s.stim := rfl
@[simp] theorem State.raiseFault_halo (s : State) (a b c : Nat) (v : Word) (x : Bool) : (s.raiseFault a b c v x).halo = s.halo := rfl
@[simp] theorem State.raiseFault_host (s : State) (a b c : Nat) (v : Word) (x : Bool) : (s.raiseFault a b c v x).host = s.host := rfl
@[simp] theorem State.raiseFault_micro (s : State) (a b c : Nat) (v : Word) (x : Bool) : (s.raiseFault a b c v x).micro = s.micro := rfl
@[simp] theorem State.raiseFault_mem (s : State) (a b c : Nat) (v : Word) (x : Bool) : (s.raiseFault a b c v x).mem = s.mem := rfl
@[simp] theorem State.raiseFault_therm (s : State) (a b c : Nat) (v : Word) (x : Bool) : (s.raiseFault a b c v x).therm = s.therm := rfl
@[simp] theorem State.raiseFault_start (s : State) (a b c : Nat) (v : Word) (x : Bool) : (s.raiseFault a b c v x).start = s.start := rfl
@[simp] theorem State.raiseFault_svc (s : State) (a b c : Nat) (v : Word) (x : Bool) : (s.raiseFault a b c v x).svc = s.svc := rfl
@[simp] theorem State.raiseFault_tap (s : State) (a b c : Nat) (v : Word) (x : Bool) : (s.raiseFault a b c v x).tap = s.tap := rfl

@[simp] theorem State.setRateWin_pending (s : State) (c : Nat) (x : Option RateWin) : (s.setRateWin c x).pending = s.pending := rfl
@[simp] theorem State.setRateWin_agenda (s : State) (c : Nat) (x : Option RateWin) : (s.setRateWin c x).agenda = s.agenda := rfl
@[simp] theorem State.setRateWin_hbm (s : State) (c : Nat) (x : Option RateWin) : (s.setRateWin c x).hbm = s.hbm := rfl
@[simp] theorem State.setRateWin_posted (s : State) (c : Nat) (x : Option RateWin) : (s.setRateWin c x).posted = s.posted := rfl
@[simp] theorem State.setRateWin_clock (s : State) (c : Nat) (x : Option RateWin) : (s.setRateWin c x).clock = s.clock := rfl
@[simp] theorem State.setRateWin_regs (s : State) (c : Nat) (x : Option RateWin) : (s.setRateWin c x).regs = s.regs := rfl
@[simp] theorem State.setRateWin_act (s : State) (c : Nat) (x : Option RateWin) : (s.setRateWin c x).act = s.act := rfl
@[simp] theorem State.setRateWin_cmdStat (s : State) (c : Nat) (x : Option RateWin) : (s.setRateWin c x).cmdStat = s.cmdStat := rfl
@[simp] theorem State.setRateWin_reply (s : State) (c : Nat) (x : Option RateWin) : (s.setRateWin c x).reply = s.reply := rfl
@[simp] theorem State.setRateWin_locks (s : State) (c : Nat) (x : Option RateWin) : (s.setRateWin c x).locks = s.locks := rfl
@[simp] theorem State.setRateWin_alm (s : State) (c : Nat) (x : Option RateWin) : (s.setRateWin c x).alm = s.alm := rfl
@[simp] theorem State.setRateWin_queues (s : State) (c : Nat) (x : Option RateWin) : (s.setRateWin c x).queues = s.queues := rfl
@[simp] theorem State.setRateWin_faults (s : State) (c : Nat) (x : Option RateWin) : (s.setRateWin c x).faults = s.faults := rfl
@[simp] theorem State.setRateWin_sync (s : State) (c : Nat) (x : Option RateWin) : (s.setRateWin c x).sync = s.sync := rfl
@[simp] theorem State.setRateWin_pins (s : State) (c : Nat) (x : Option RateWin) : (s.setRateWin c x).pins = s.pins := rfl
@[simp] theorem State.setRateWin_seqs (s : State) (c : Nat) (x : Option RateWin) : (s.setRateWin c x).seqs = s.seqs := rfl
@[simp] theorem State.setRateWin_groups (s : State) (c : Nat) (x : Option RateWin) : (s.setRateWin c x).groups = s.groups := rfl
@[simp] theorem State.setRateWin_mea (s : State) (c : Nat) (x : Option RateWin) : (s.setRateWin c x).mea = s.mea := rfl
@[simp] theorem State.setRateWin_red (s : State) (c : Nat) (x : Option RateWin) : (s.setRateWin c x).red = s.red := rfl
@[simp] theorem State.setRateWin_stim (s : State) (c : Nat) (x : Option RateWin) : (s.setRateWin c x).stim = s.stim := rfl
@[simp] theorem State.setRateWin_halo (s : State) (c : Nat) (x : Option RateWin) : (s.setRateWin c x).halo = s.halo := rfl
@[simp] theorem State.setRateWin_host (s : State) (c : Nat) (x : Option RateWin) : (s.setRateWin c x).host = s.host := rfl
@[simp] theorem State.setRateWin_micro (s : State) (c : Nat) (x : Option RateWin) : (s.setRateWin c x).micro = s.micro := rfl
@[simp] theorem State.setRateWin_mem (s : State) (c : Nat) (x : Option RateWin) : (s.setRateWin c x).mem = s.mem := rfl
@[simp] theorem State.setRateWin_therm (s : State) (c : Nat) (x : Option RateWin) : (s.setRateWin c x).therm = s.therm := rfl
@[simp] theorem State.setRateWin_start (s : State) (c : Nat) (x : Option RateWin) : (s.setRateWin c x).start = s.start := rfl
@[simp] theorem State.setRateWin_svc (s : State) (c : Nat) (x : Option RateWin) : (s.setRateWin c x).svc = s.svc := rfl
@[simp] theorem State.setRateWin_tap (s : State) (c : Nat) (x : Option RateWin) : (s.setRateWin c x).tap = s.tap := rfl

/-- Reading a register after writing one. -/
theorem State.reg_setRegW (s : State) (i j w i' j' w' : Nat) (v : Word) :
    (s.setRegW i j w v).reg i' j' w' = if odKey i j w = odKey i' j' w' then v else s.reg i' j' w' := SMap.get_set _ _ _ _ _

@[simp] theorem State.reg_setRegW_same (s : State) (i j w : Nat) (v : Word) : (s.setRegW i j w v).reg i j w = v := by
  simp [State.reg_setRegW]
@[simp] theorem State.reg_tick (s : State) (t i j w : Nat) : (s.tick t).reg i j w = s.reg i j w := rfl
@[simp] theorem State.reg_due (s : State) (c : Instr) (i j w : Nat) : (s.due c).reg i j w = s.reg i j w := rfl
@[simp] theorem State.reg_setCmd (s : State) (src : Word) (i j : Nat) (v : Word) (a b c : Nat) : (s.setCmd src i j v).reg a b c = s.reg a b c := rfl
@[simp] theorem State.reg_setAct (s : State) (i j w : Nat) (v : Word) (a b c : Nat) : (s.setAct i j w v).reg a b c = s.reg a b c := rfl
theorem State.tick_clock (s : State) (t : Nat) : (s.tick t).clock = if s.localOn then max s.clock t else s.clock := rfl
theorem State.tick_clock_le (s : State) (t : Nat) : s.clock ≤ (s.tick t).clock := by
  rw [State.tick_clock]; split <;> omega
@[simp] theorem State.tick_offset (s : State) (t : Nat) : (s.tick t).offset = s.offset := rfl
@[simp] theorem State.tick_localOn (s : State) (t : Nat) : (s.tick t).localOn = s.localOn := rfl
@[simp] theorem State.due_agenda (s : State) (c : Instr) : (s.due c).agenda = s.agenda ++ [c] := rfl

end Sys2Proof.Machine
end

