-- ==== Sys2Proof/Laws/Step.lean ====
section
/-! SUPPORT. Laws/Step.lean: what a step that `perform` or `performReset` wraps can do: its outcome, the queue, memory, LOCAL. -/

namespace Sys2Proof.Machine

@[simp] theorem State.when_true (s : State) (f : State → State) : s.when true f = f s := rfl
@[simp] theorem State.when_false (s : State) (f : State → State) : s.when false f = s := rfl
@[simp] theorem State.at_reg (s : State) (t i j w : Nat) : (s.at t).reg i j w = s.reg i j w := rfl
@[simp] theorem State.tick_posted_nil (s : State) (t : Nat) : ({ s with posted := [] } : State).tick t = s.at t := rfl

@[simp] theorem State.at_posted (s : State) (t : Nat) : (s.at t).posted = [] := rfl
theorem State.at_clock (s : State) (t : Nat) : (s.at t).clock = if s.localOn then max s.clock t else s.clock := rfl

/-- STATE unchanged: ATTN_CAUSE [3] does not latch. -/
theorem State.attention_same (s : State) (w : Word) (h : s.reg 0x0100 0x00 = w) : s.attention w = s := by
  simp [State.attention, h]

/-- STATE changed: ATTN_CAUSE [3] latches, nothing else changes. -/
theorem State.attention_changed (s : State) (w : Word) (h : s.reg 0x0100 0x00 ≠ w) :
    s.attention w = { s with svc := { s.svc with cause := s.svc.cause ||| 8 } } := by
  simp [State.attention, h]

@[simp] theorem State.attention_posted (s : State) (w : Word) : (s.attention w).posted = s.posted := by
  unfold State.attention; split <;> rfl

/-- A step that leaves STATE as it was and posts nothing to memory answers what its body makes. -/
theorem State.perform_calm {s r : State} {f : State → State} (h : f { s with posted := [] } = r)
    (hs : r.reg 0x0100 0x00 = s.reg 0x0100 0x00) (hp : r.posted = []) :
    s.perform f = .next { r with pending := s.pending, hbm := s.hbm, posted := [], clock := max s.clock r.clock } := by
  simp only [State.perform, h, State.attention_same r _ hs, hp, Memory.land_nil]

/-- As `State.perform_calm`, for a body that leaves the queue and memory alone and never takes LOCAL back. -/
theorem State.perform_next {s r : State} {f : State → State} (h : f { s with posted := [] } = r)
    (hs : r.reg 0x0100 0x00 = s.reg 0x0100 0x00) (hp : r.posted = []) (hq : r.pending = s.pending) (hh : r.hbm = s.hbm)
    (hc : s.clock ≤ r.clock) : s.perform f = .next r := by
  rw [State.perform_calm h hs hp]
  have : max s.clock r.clock = r.clock := by omega
  rw [this, ← hq, ← hh, ← hp]

/-- A step that changes STATE and posts nothing to memory: beside what its body makes, ATTN_CAUSE [3] latches. -/
theorem State.perform_moved {s r : State} {f : State → State} (h : f { s with posted := [] } = r)
    (hs : r.reg 0x0100 0x00 ≠ s.reg 0x0100 0x00) (hp : r.posted = []) :
    s.perform f = .next { r with pending := s.pending, hbm := s.hbm, posted := [], clock := max s.clock r.clock, svc := { r.svc with cause := r.svc.cause ||| 8 } } := by
  simp only [State.perform, h, State.attention_changed r _ hs, hp, Memory.land_nil]

end Sys2Proof.Machine
end

