-- ==== Sys2Proof/Laws/Frame.lean ====
section
/-! SUPPORT. Laws/Frame.lean: what the shared operations leave unchanged: registers, the log, the journal, occurrences, Halo ports. -/

namespace Sys2Proof.Machine

/-! ## Registers -/

theorem SameRegs.refl (s : State) (ks : List Nat) : SameRegs s s ks := fun _ _ => rfl
theorem SameRegs.trans {s t u : State} {ks ls : List Nat} (h : SameRegs s t ks) (h' : SameRegs t u ls) : SameRegs s u (ks ++ ls) := by
  intro k hk
  simp only [List.mem_append, not_or] at hk
  rw [h' k hk.2, h k hk.1]
theorem SameRegs.mono {s t : State} {ks ls : List Nat} (h : SameRegs s t ks) (hs : ∀ k ∈ ks, k ∈ ls) : SameRegs s t ls :=
  fun k hk => h k (fun hm => hk (hs k hm))
theorem SameRegs.of_eq {s t : State} (ks : List Nat) (h : t.regs = s.regs) : SameRegs s t ks := fun k _ => by rw [h]
theorem SameRegs.reg {s t : State} {ks : List Nat} (h : SameRegs s t ks) (i j w : Nat) (hk : odKey i j w ∉ ks) :
    t.reg i j w = s.reg i j w := h _ hk
theorem SameRegs.setRegW (s : State) (i j w : Nat) (v : Word) : SameRegs s (s.setRegW i j w v) [odKey i j w] := by
  intro k hk
  simp only [List.mem_singleton] at hk
  exact SMap.get_set_other _ _ _ (Ne.symm hk)
theorem SameRegs.setReg (s : State) (i j : Nat) (v : Word) : SameRegs s (s.setReg i j v) [odKey i j 0] := SameRegs.setRegW s i j 0 v
theorem SameRegs.setRegN (s : State) (i j n : Nat) : SameRegs s (s.setRegN i j n) [odKey i j 0] := SameRegs.setRegW s i j 0 _
theorem SameRegs.addReg (s : State) (i j n w : Nat) : SameRegs s (s.addReg i j n w) [odKey i j w] := SameRegs.setRegW s i j w _
theorem SameRegs.setReg80 (s : State) (i j : Nat) (v : U80) : SameRegs s (s.setReg80 i j v) [odKey i j 0, odKey i j 1] :=
  (SameRegs.setRegW s i j 0 _).trans (SameRegs.setRegW _ i j 1 _)

theorem wd_toNat (v : Word) : wd v.toNat = v := by simp [wd]

@[simp] theorem State.reg_setReg_same (s : State) (i j : Nat) (v : Word) : (s.setReg i j v).reg i j = v := State.reg_setRegW_same s i j 0 v
@[simp] theorem State.reg_setRegN_same (s : State) (i j n : Nat) : (s.setRegN i j n).reg i j = wd n := State.reg_setRegW_same s i j 0 _
@[simp] theorem State.reg_addReg_same (s : State) (i j n w : Nat) : (s.addReg i j n w).reg i j w = s.reg i j w + BitVec.ofNat 40 n :=
  State.reg_setRegW_same s i j w _
@[simp] theorem State.reg80_setReg80_same (s : State) (i j : Nat) (v : U80) : (s.setReg80 i j v).reg80 i j = v := by
  have h : ¬ odKey i j 1 = odKey i j 0 := by unfold odKey; omega
  have h0 : (s.setReg80 i j v).reg i j 0 = loWord v := by
    unfold State.setReg80; rw [State.reg_setRegW]; simp [h]
  have h1 : (s.setReg80 i j v).reg i j 1 = hiWord v := by unfold State.setReg80; simp
  unfold State.reg80
  rw [h0, h1]
  simp only [u80, loWord, hiWord]
  apply BitVec.eq_of_getLsbD_eq
  intro k hk
  rw [BitVec.getLsbD_append]
  by_cases h : k < 40
  · simp [h]
  · have : 40 + (k - 40) = k := by omega
    simp [h, this]; omega

/-- A list drawn from the listed words does not see a write of a word it never draws from. -/
theorem SMap.filterMap_set {α β : Type} [DecidableEq α] (d : Nat → α) (m : SMap α) (k : Nat) (v : α) (f : Nat × α → Option β)
    (h : ∀ w, f (k, w) = none) : (SMap.set d m k v).filterMap f = m.filterMap f := by
  have he : (SMap.erase m k).filterMap f = m.filterMap f := by
    induction m with
    | nil => rfl
    | cons e m ih =>
      obtain ⟨j, w⟩ := e
      by_cases hj : j = k
      · subst hj; simpa [SMap.erase, h w] using ih
      · have : SMap.erase ((j, w) :: m) k = (j, w) :: SMap.erase m k := by simp [SMap.erase, hj]
        rw [this, List.filterMap_cons, List.filterMap_cons, ih]
  have hp : ∀ (l : SMap α) (x : Option α), (SMap.place l k x).filterMap f = l.filterMap f := by
    intro l x
    induction l with
    | nil => cases x <;> simp [SMap.place, h]
    | cons e l ih =>
      obtain ⟨j, w⟩ := e
      by_cases hj : k < j
      · cases x <;> simp [SMap.place, hj, h, List.filterMap_cons]
      · simp [SMap.place, hj, List.filterMap_cons, ih]
  rw [SMap.set, hp, he]

/-! ## The journal -/

/-- All that a journal entry moves. -/
theorem State.journalAt_eq (s : State) (kind i sub st : Nat) (time : U80) (src : Word) (lk : Bool) (v : Word) :
    s.journalAt kind i sub st time src lk v =
      { s with alm := { s.alm with head := s.alm.head ++ [journalLine kind (s.reg 0x0400 0x01) i sub st time src lk v] }, regs := (s.journalAt kind i sub st time src lk v).regs } := by
  simp only [State.journalAt, State.when]
  split <;> rfl

/-- The registers that a journal entry moves. -/
theorem State.journalAt_regs (s : State) (kind i sub st : Nat) (time : U80) (src : Word) (lk : Bool) (v : Word) :
    SameRegs s (s.journalAt kind i sub st time src lk v) journalKeys := by
  intro k hk
  simp only [journalKeys, List.mem_cons, List.not_mem_nil, or_false, not_or] at hk
  simp only [State.journalAt, State.when]
  split <;> simp [State.setReg, State.setRegN, State.addReg, State.setRegW, SMap.get_set, Ne.symm hk.1, Ne.symm hk.2.1, Ne.symm hk.2.2]

/-- NEXT_SEQ after a journal entry. -/
theorem State.journalAt_next (s : State) (kind i sub st : Nat) (time : U80) (src : Word) (lk : Bool) (v : Word) :
    (s.journalAt kind i sub st time src lk v).reg 0x0400 0x01 = s.reg 0x0400 0x01 + 1 := by
  simp only [State.journalAt, State.when]
  split <;> simp [State.setReg, State.setRegN, State.addReg, State.reg_setRegW, odKey]

/-! ## The event log -/

/-- All that a record's entry into the log moves. -/
theorem State.logEnter_eq (s : State) (code : Nat) (a b : Word) (inj : Bool) (time : U80) :
    ∃ l r, s.logEnter code a b inj time = { s with log := l, regs := r } := by
  unfold State.logEnter
  split <;> exact ⟨_, _, rfl⟩

/-- All that the close of a rate window moves. -/
theorem State.closeRateWin_eq (s : State) (code : Nat) : ∃ l r, s.closeRateWin code = { s with log := l, regs := r } := by
  unfold State.closeRateWin
  split
  · exact ⟨_, _, rfl⟩
  · next w _ =>
    simp only [State.when]
    split
    · exact ⟨_, _, rfl⟩
    · split
      · obtain ⟨l, r, h⟩ := State.logEnter_eq (s.setRateWin code none) 0x0107 (wd code) (wd w.held) false
          ((s.setRateWin code none).meridianOf ((w.opened + msEt (s.regN 0x0500 0x02)) / 32))
        exact ⟨l, r, h⟩
      · exact ⟨_, _, rfl⟩

/-- All that logging an occurrence moves. -/
theorem State.logAt_eq (s : State) (code : Nat) (a b : Word) (inj : Bool) (time : U80) :
    s.logAt code a b inj time = { s with log := (s.logAt code a b inj time).log, regs := (s.logAt code a b inj time).regs } := by
  obtain ⟨l, r, h⟩ := s.closeRateWin_eq code
  unfold State.logAt
  simp only [h]
  unfold State.logEnter
  split
  · split
    · split <;> rfl
    · split
      · split <;> rfl
      · rfl
  · split <;> rfl

/-- The registers that a record's entry into the log moves: LOST. -/
theorem State.logEnter_regs (s : State) (code : Nat) (a b : Word) (inj : Bool) (time : U80) :
    SameRegs s (s.logEnter code a b inj time) [odKey 0x0500 0x06 0, odKey 0x0500 0x07 0] := by
  unfold State.logEnter
  split
  · exact SameRegs.of_eq _ rfl
  · exact (SameRegs.addReg s 0x0500 0x07 1 0).mono (by simp)

theorem State.closeRateWin_regs (s : State) (code : Nat) :
    SameRegs s (s.closeRateWin code) [odKey 0x0500 0x06 0, odKey 0x0500 0x07 0] := by
  unfold State.closeRateWin
  split
  · exact SameRegs.of_eq _ rfl
  · simp only [State.when]
    split
    · exact SameRegs.of_eq _ rfl
    · split
      · exact State.logEnter_regs (s.setRateWin code none) _ _ _ _ _
      · exact SameRegs.of_eq _ rfl

/-- The registers that logging moves: SUPPRESSED and LOST. -/
theorem State.logAt_regs (s : State) (code : Nat) (a b : Word) (inj : Bool) (time : U80) :
    SameRegs s (s.logAt code a b inj time) [odKey 0x0500 0x06 0, odKey 0x0500 0x07 0] := by
  unfold State.logAt
  split
  · refine ((s.closeRateWin_regs code).trans (t := s.closeRateWin code) (ls := [odKey 0x0500 0x06 0, odKey 0x0500 0x07 0]) ?_).mono (by simp)
    dsimp only
    split
    · exact State.logEnter_regs (State.setRateWin _ _ _) _ _ _ _ _
    · split
      · exact State.logEnter_regs (State.setRateWin _ _ _) _ _ _ _ _
      · exact (SameRegs.addReg (State.setRateWin _ _ _) 0x0500 0x06 1 0).mono (by simp)
  · exact s.logEnter_regs code a b inj time

theorem State.logPut_eq (s : State) (code : Nat) (a b : Word) (inj : Bool) :
    s.logPut code a b inj = { s with log := (s.logPut code a b inj).log, regs := (s.logPut code a b inj).regs } := s.logAt_eq ..
theorem State.logPut_regs (s : State) (code : Nat) (a b : Word) (inj : Bool) :
    SameRegs s (s.logPut code a b inj) [odKey 0x0500 0x06 0, odKey 0x0500 0x07 0] := s.logAt_regs code a b inj _

/-! ## Occurrences -/

theorem State.foldl_due {α : Type} (g : α → Instr) (l : List α) (s : State) :
    l.foldl (fun s n => s.due (g n)) s = { s with agenda := s.agenda ++ l.map g } := by
  induction l generalizing s with
  | nil => simp
  | cons a l ih => rw [List.foldl_cons, ih]; simp [State.due]

/-- An occurrence of a source comes due on every line that names the source. -/
theorem State.raiseEvent_eq (s : State) (code : Nat) (stamp : U80) :
    s.raiseEvent code stamp = { s with agenda := s.agenda ++ (s.linesOf code).map (fun n => .eventOccurrence (Fin.ofNat 512 n) stamp false) } :=
  s.foldl_due _ _

/-- The lines that name a source depend on the objects of the lines alone. -/
theorem State.linesOf_setRegW (s : State) (code i j w : Nat) (v : Word) (hi : i < 0x0A00 ∨ 0x0C00 ≤ i) (hj : j < 256) (hw : w < 134217728) :
    (s.setRegW i j w v).linesOf code = s.linesOf code := by
  unfold State.linesOf
  rw [show (s.setRegW i j w v).regs = SMap.set romDefault s.regs (odKey i j w) v from rfl, SMap.filterMap_set]
  intro x
  have : odKey i j w / 134217728 / 256 = i := by unfold odKey; omega
  simp only [this]
  split
  · next h => omega
  · rfl

/-! ## Halo ports -/

@[simp] theorem State.port_setPort_same (s : State) (p : Nat) (x : PortSt) : (s.setPort p x).port p = x := by
  simp [State.port, State.setPort]
theorem State.port_setPort_other (s : State) {p q : Nat} (x : PortSt) (h : p ≠ q) : (s.setPort p x).port q = s.port q := by
  simp [State.port, State.setPort, SMap.get_set, h]
@[simp] theorem State.port_onPort_same (s : State) (p : Nat) (f : PortSt → PortSt) : (s.onPort p f).port p = f (s.port p) := by
  simp [State.onPort]
theorem State.port_onPort_other (s : State) {p q : Nat} (f : PortSt → PortSt) (h : p ≠ q) : (s.onPort p f).port q = s.port q := by
  simp [State.onPort, State.port_setPort_other _ _ h]

/-- All that handing a frame to an egress moves. -/
theorem State.egress_eq (s : State) (inp : Option Nat) (p : Nat) (f : Frame) (b : Bool) :
    s.egress inp p f b = { s with halo := (s.egress inp p f b).halo } := rfl

/-- The egress that gets a frame. -/
theorem State.egress_port (s : State) (inp : Option Nat) (p : Nat) (f : Frame) (b : Bool) :
    ((s.egress inp p f b).port p).txq =
      (s.port p).txq ++ [⟨frameClass f.ty.toNat, { f with vc := s.vcFor inp p f }, inp, if b then some f.vc else none⟩] := by
  simp [State.egress]

theorem State.egress_other (s : State) (inp : Option Nat) {p q : Nat} (f : Frame) (b : Bool) (h : p ≠ q) :
    (s.egress inp p f b).port q = s.port q := by
  simp [State.egress, State.port_onPort_other _ _ h]

end Sys2Proof.Machine
end

