-- ==== Sys2Proof/Laws/Od.lean ====
section
/-! SUPPORT. Laws/Od.lean: what the OD service does with an accepted write or command. -/

namespace Sys2Proof.Machine

/-- The effect of an accepted write or command: its journal entry, then its action. -/
def State.taken (s : State) (rq : Req) (i sub off : Nat) (vals : List Word) (e : Env) (r : Obj) : State :=
  let s := s.journalWrite r rq.src i sub (wordsAt off vals) false
  let s := if r.acc == .cmd then s.command r rq.src i sub (wordsAt off vals) e else s.applyWrite r i sub (wordsAt off vals)
  { s with reply := ⟨0, 0, []⟩ }

/-- An accepted write or command is journalled, acts, and is answered 0x0000. -/
theorem State.odRow_taken {s : State} {rq : Req} {i sub off : Nat} {vals : List Word} {e : Env} {t : Nat} {r : Obj}
    (h : s.takes rq i sub off vals e t = true) (hr : odFind i sub = some r) :
    ({ s with posted := [] } : State).odRow rq i sub off vals e t = (s.at t).taken rq i sub off vals e r := by
  simp only [State.takes, hr, Bool.and_eq_true, bne_iff_ne, beq_iff_eq, decide_eq_true_eq, List.isEmpty_iff,
    Option.isNone_iff_eq_none] at h
  obtain ⟨⟨⟨⟨⟨⟨⟨hc, hh⟩, hf⟩, hw⟩, hs⟩, hk⟩, hk'⟩, hl⟩ := h
  have ha : ({ s with posted := [] } : State).tick t = s.at t := rfl
  have hcom : r.commits = false := by simp [Obj.commits, hk, hk']
  have hroom : (s.at t).headRoom ((s.at t).entriesOf (mkTx rq .write i sub off vals.length vals .here) r (wordsAt off vals)) = true := by
    have hn : (s.at t).entriesOf (mkTx rq .write i sub off vals.length vals .here) r (wordsAt off vals) = 1 := by
      simp [State.entriesOf, mkTx, hs, hcom]
    rw [hn]; simpa [State.headRoom] using hl
  have hp : (s.at t).writePerform (mkTx rq .write i sub off vals.length vals .here) r (wordsAt off vals) e =
      ((0, 0), let s := (s.at t).journalWrite r rq.src i sub (wordsAt off vals) false
        if r.acc == .cmd then s.command r rq.src i sub (wordsAt off vals) e else s.applyWrite r i sub (wordsAt off vals)) := by
    simp [State.writePerform, mkTx, hs, hcom]
  simp only [State.odRow, ha, hc, if_true, State.odSubmit, hh]
  simp only [mkTx] at hp hf hw hroom
  simp [mkTx, State.odPerform, hr, hf, hw, hroom, hp, State.deliver, State.taken]

end Sys2Proof.Machine
end

