-- ==== Sys2Proof/Tests/Slice0.lean ====
section
/-! SUPPORT. Tests/Slice0.lean: the tests: ill-formed operands refused, and for every statement with hypotheses a state and operands
that meet them. -/

namespace Sys2Proof.Tests

open Sys2Proof.Machine

set_option Elab.async false

/-- The device in READY, as bring-up leaves it with every object at its default. -/
def ready : State := State.reset.setRegN 0x0100 0x00 3
/-- A request by the host's G1 path without an epoch. -/
def rq0 : Req := ⟨0, none⟩

/-- The row of an object that exists. -/
def row (i sub : Nat) : Obj := (odFind i sub).getD ⟨0, 1, 0, 0, 0, 1, .u8, 0, .ro, false, .all 0, .any, .imm, .none⟩

/-- Every slot held by source 9. -/
def allHeld : State := (List.range 64).foldl (fun s n => (s.setRegN (0x0210 + n) 0 1).setRegN (0x0210 + n) 3 9) ready

/-- Slot 3 held by the host for 0x2000 to 0x20FF since 0, lease 2,000 ms. -/
def held3 : State := { ((((ready.setRegN 0x0213 0 1).setRegN 0x0213 1 0x2000).setRegN 0x0213 2 0x20FF).setRegN 0x0213 5 2000).setRegN 0x0200 6 1 with locks := ready.locks }
/-- Words of an ACQUIRE of 0x2010 to 0x2020 that waits 100 ms. -/
def acq : List Word := [wd (0x2020 * 65536 + 0x2010), 0, wd (100 * 2 ^ 24 + 7)]

/-- Port 0 UP with a sync port whose delay is known. -/
def syncUp : State := ((ready.setRegN 0x1110 0x07 3).setRegN 0x0904 0x00 1).setRegN 0x0904 0x05 2

/-- A slave LOCKED to master 9 on port 0. -/
def slave : State := { ((syncUp.setRegN 0x0900 0x03 2).setRegN 0x0900 0x04 4).setRegN 0x0900 0x08 9 with sync := { syncUp.sync with upstream := some 0, est := 40 } }

/-- A vector of opcode `op`, operand `n`, set 0, no lane driven. -/
def vec (op n : Nat) : Vec := ⟨0, 0, wd (n * 2 ^ 26 + op * 2 ^ 21), false⟩
/-- Cluster 5 in RUN at vector address 16 with one vector on hand: opcode `op`, operand `n`, set 0 of 100,000 et. -/
def run5 (op n : Nat) : State :=
  (((ready.setAct (tsIdx 5 0) 0xF0 0 100000).setRegN (seqIdx 0 5) 0 3).setRegN 0x0100 0 4).onSq 5
    (fun q => { q with ctl := Ctl.at 16, due := 70000, fetch := ⟨Ctl.at 17, false, [(16, vec op n)]⟩ })
/-- As `run5`, with loop 1 open. -/
def loop5 (op n count : Nat) : State :=
  (run5 op n).onSq 5 (fun q => { q with ctl := (Ctl.at 16).setLoop 1 (some ⟨count, 9, false, 9, 15, false⟩) })

/-- As `run5`, in the first iteration of a block that starts at 9 with a limit of `lim`; lane 1 of site 3 has failed. -/
def block5 (op n lim : Nat) : State :=
  ((run5 op n).setAct (seqIdx 1 5) 6 0 0xFFFFFF).onSq 5 (fun q => { q with block := some ⟨9, lim, 1, 60000, [⟨3, 2, none⟩], 2, 0, [], none, 60000, false⟩ })

/-- Cluster 5 with its sequencer in state `n`, in device state RUN. -/
def seqAt5 (n : Nat) : State := (ready.setRegN (seqIdx 0 5) 0 n).setRegN 0x0100 0 4
/-- Cluster 5 in RUN with the boundary at its segment's end due at 90,000 et. -/
def bound5 : State := (seqAt5 3).onSq 5 (fun q => { q with phase := .boundary false, due := 90000, ctl := Ctl.at 33 })

/-- Cluster 5 playing a WAIT on line 3 since 50. -/
def wait5 : State := (seqAt5 3).onSq 5 (fun q => { q with wait := some ⟨50, 3, false, none⟩, ctl := Ctl.at 33, due := 90000 })
/-- Cluster 5 in RUN with nothing on hand and its prefetcher at address 34. -/
def dry5 : State := ((seqAt5 3).setAct (tsIdx 5 0) 0xF0 0 100000).onSq 5 (fun q => { q with ctl := Ctl.at 34, due := 70000, fetch := Fetch.start (Ctl.at 34) })

/-- As `dry5`, with clusters 5 and 9 attached to the stream of broadcast group 3, which has come to address 34. -/
def two5 : State := ((((dry5.setRegN (seqIdx 0x20 5) 0 3).setRegN (seqIdx 0x20 5) 9 1).setRegN (seqIdx 0x20 9) 0 3).setRegN (seqIdx 0x20 9) 9 1).setGrp 3 ⟨34, none⟩
/-- As `two5`, with cluster 9 in RUN at the same vector. -/
def both59 : State := (two5.setRegN (seqIdx 0 9) 0 3).onSq 9 (fun q => { q with ctl := Ctl.at 34, due := 70000, fetch := Fetch.start (Ctl.at 34) })
/-- A read-ahead with no room left. -/
def full : Fetch := ⟨Ctl.at 34, false, List.replicate 2048 (5, vec 0 0)⟩

/-- ADC 1 of cluster 5: step 0 measures lane 3's voltage on a line trigger, 4 samples each 0.1 ms apart, the last step, record only. -/
def adc5 : State := ((ready.setRegW (adcIdx 5 1) 3 0 (wd (3 * 2 ^ 19 + 2 ^ 16 + 2 ^ 13 + 2 ^ 7))).setRegW (adcIdx 5 1) 3 1 (wd (10000 * 2 ^ 20 + 3))).setRegN (adcIdx 5 1) 4 6
/-- As `adc5`, in WAIT since 0. -/
def adcWait : State := adc5.setRegN (adcIdx 5 1) 0 1
/-- As `adc5`, with 2 of 4 samples taken. -/
def adcGoing : State := ((adc5.setRegN (adcIdx 5 1) 0 2).setRegN (adcIdx 5 1) 8 0x10000).onAdc 5 1 (fun a => { a with started := true, s0 := some 0, next := 819200, count := 2, sum := 7, release := some 0, accFrom := 0 })
/-- As `adcWait`, its step with AUTO after 10 µs. -/
def autoWait : State := (adcWait.setRegW (adcIdx 5 1) 3 0 (wd (3 * 2 ^ 19 + 2 ^ 16 + 2 ^ 13 + 2 ^ 12))).setRegN (adcIdx 5 1) 5 10
/-- As `adcGoing`, with 4 of 4 samples taken and limits of 10 and 9. -/
def adcMask : State := ((adcGoing.setRegW (adcIdx 5 1) 3 4 10).setRegW (adcIdx 5 1) 3 5 9).onAdc 5 1 (fun a => { a with count := 4, sum := 786432, violation := 0xFFFFF })

/-- The stamp capture of cluster 5 waits, armed at 0, on lane 3, rising crossings, 100 µs, 10 stamps. -/
def capWait : State := (((((ready.setRegN (capIdx 5) 0 1).setRegN (capIdx 5) 3 8).setRegN (capIdx 5) 4 0xFFFF).setRegN (capIdx 5) 5 100000).setRegN (capIdx 5) 6 10).setRegN (meaIdx 2 5) 3 1
/-- As `capWait`, with the gate open since 0. -/
def capOpen5 : State := (capWait.setRegN (capIdx 5) 0 2).onCap 5 (fun x => { x with release := some 0 })
/-- As `capOpen5`, with a stamp in lane 3's burst buffer and a last stamp at 500 mt. -/
def capHas : State := { capOpen5.onLane 5 3 (fun x => { x with buffer := [wd 500], slice := 3 }) with mea := { (capOpen5.onLane 5 3 (fun x => { x with buffer := [wd 500], slice := 3 })).mea with lastStamp := [(123, some 500)] } }

/-- Regression unit 2 of cluster 5 in state `n`, its present gate of 1 µs open since 0 with three stamps 100 mt apart, record only. -/
def ru5 (n : Nat) : State := ((((ready.setRegN (ruIdx 5 2) 0 n).setRegN (ruIdx 5 2) 5 1000).setRegN (ruIdx 5 2) 6 0xFFFF).setRegN (ruIdx 5 2) 7 1).onRu 5 2 (fun x => { x with m := 3, st := 300, snt := 500 })

/-- Measurement 2 of sites 0 to 3 goes to contexts 8 to 11 with parameter set 1: STATS, signed, no close of its own. -/
def bound9 : State := ((((ready.setRegW 0x6003 0 4 (wd (8 * 2 ^ 20 + 3 * 2 ^ 8 + 2 ^ 7))).setRegW 0x6003 0 5 (wd (2 ^ 28))).setRegW 0x6004 0 8 (wd (2 ^ 36))).setRegN 0x6004 0 8).setRegW 0x6004 0 8 (wd (2 ^ 36))
/-- An update of measurement 2, site 1, value 55. -/
def upd9 : Upd := ⟨2, 5, 3, 1, 700, 0, 1, some 55, 0, 0, false⟩
/-- As `bound9`, with `upd9` in cluster 5's input and context 9's live line in the cache. -/
def fed9 : State := ((bound9.setInput 5 [upd9]).setCached 9 (some (mkLine 1 0 false 0 0 0 0 (wd 0x7FFFFFFFFF) (wd 0x8000000000), false)))
/-- As `fed9`, with line closes of line 7 for set 1, 2 µs later. -/
def lined9 : State := (fed9.setRegW 0x6004 0 8 (wd (2 ^ 36 + 2 * 2 ^ 34 + 7 * 2 ^ 25))).setRegW 0x6004 0 10 (wd (2 * 2 ^ 20))

/-- Queue 300 enabled with its reserve, holding the on-chip cells `cs`. -/
def queue300 (cs : List QCell) : State := (((ready.setRegW 0x7010 0 300 (wd (2 ^ 39))).setAct 0x7000 1 0 70000).setRegW 0x7011 0 300 1000).setQueue 300 ⟨cs, true, false, []⟩
/-- A whole item of one cell. -/
def cell7 : QCell := ⟨7, true, true, none, 3, true, mkLine 9 0 false 5 0 0 0 0 0, 0⟩
/-- Queue 300 with a packet of producer (5, 1) open, its head in it. -/
def pkt300 : State := let s := queue300 [{ cell7 with pkt := some 7 }]; s.setQueue 300 { s.queue 300 with opens := [⟨⟨5, 1⟩, 7, 0, 0, .live⟩] }

/-- Output 9 in STATE `st`, MODE `md` active. -/
def out9 (md st : Nat) : State := ((ready.setRegN (asIdx 9) 0 md).setAct (asIdx 9) 0 0 (wd md)).setRegN (asIdx 9) 0x11 st
/-- Output 9 in RUN on entry 0: 3 samples, one repeat, the last entry, a sample each 5,120 et, `a` prefetched. -/
def play9 (a : List (Int × Option Nat)) : State :=
  ((((out9 2 3).setRegW (asIdx 9) 7 1 (wd (3 * 65536 + 1))).setRegW (asIdx 9) 7 2 (wd (2 ^ 31))).setRegN (asIdx 9) 6 1).onOut 9 (fun x => { x with ahead := a, next := 20480 })

/-- Port 0 UP as a ring port of a ring of 4, this device number 5 at position 1. -/
def up0 : State := ((((((ready.setRegN 0x1110 0x07 3).setRegN 0x1110 0x09 15).setRegN 0x1110 0x01 1).setRegN 0x1102 0x00 4).setRegN 0x1102 0x01 1).setRegN 0x1100 0x00 5)
/-- As `up0`, with two frames held for replay and one waiting. -/
def up0q : State := up0.onPort 0 (fun x => { x with txq := [⟨3, mkFrame 4 0xFFFFFF 5 [1, 2, 3], none, none⟩], replay := [⟨7, mkFrame 4 0xFFFFFF 5 [9]⟩, ⟨8, mkFrame 4 0xFFFFFF 5 [10]⟩], txSeq := 9, credit0 := 3, unacked := 2, rxSeq := 6 })

/-- As `up0`, with link 2 in BROKEN. -/
def up0b : State := up0.setRegW 0x1102 0x02 0 (wd (2 ^ 24 + 2))

/-- As `up0`, with one request to device 77 not answered. -/
def asked77 : State := { up0 with halo := { up0.halo with targets := [(77 * 8, ⟨4, false, [⟨3, ⟨rq0, .read, 0x0100, 0, 0, 1, [], .here⟩, none, 0, 0⟩], []⟩)] } }

/-- The G1 address of register `k` of object 0x0900.`sub`. -/
def g1At900 (sub k : Nat) : BitVec 24 := BitVec.ofNat 24 (0x0030000 + 16 * sub + 4 * k)

/-- Mailbox 2 asks to read object 0x0990.00, words 4 and 5. -/
def mbx2 : State := ready.onMbx 2 (fun x => { x with cmd := wd (2 ^ 36 + 0x0990 * 256), range := wd (4 * 2 ^ 14 + 16) })
/-- Vector 9 can be sent to address 0x1000 with data 55. -/
def vec9 : State := { ready with host := { ready.host with busMaster := true, msixEnable := true, msix := [(36, 0x1000), (38, 55), (39, 0)] } }

/-- Ring 4 enabled, 16 entries, with the descriptors `ds` in progress, completions at 0x8000. -/
def ring4 (ds : List Desc) : State := ready.onRing 4 (fun x => { x with desc := 0x4000, cpl := 0x8000, size := 4, state := 1, head := 2, phase := true, prog := ds })

/-- A descriptor at index 1 with operation `op`, object `i`.00, `n` words, a buffer of 4,096 bytes at 0x20000. -/
def desc (op i n : Nat) : Desc := ⟨1, [op * 2 ^ 56 + 7, i * 2 ^ 48, n, 0x20000, 4096, 0, 0, 0], 0, 0, false, false, false⟩

/-- The state with line `a` of HBM holding `l`. -/
def landed (s : State) (a : Nat) (l : LineData) : State := match s.perform (fun s => s.hbmPut a l) with | .next t => t | _ => s

/-- The patch (or routine) object of class `cls` holding a smallest image: no code, `n` table words, KEY 0, VERSION 5. -/
def imaged (cls n : Nat) : State :=
  let w := fun (s : State) (k v : Nat) => s.setRegW (0x0E00 + cls) 0 k (wd v)
  let s := w (w (w (w (w ready 0 (0xD5 * 2 ^ 32 + cls * 2 ^ 28)) 1 0x1FF) 2 5) 4 (n * 2 ^ 32)) 5 (21 + 2 * n)
  { s with regs := (odKey 0 5 0, 0x100) :: s.regs }

/-- A sequencer's stores with a patch of one microword and one nanoword, whose word 3 is `br`. -/
def ustore (w br : Word) : UStores := ⟨true, [0, 0, 0, wd (2 ^ 20 + 1), 0, 0, 0, 0, w, 0, 0, 0, br], []⟩

/-- Row 7 of pseudo-channel 3 is listed for repair; `n` spare rows are left. -/
def row7 (n : Nat) : State := { (ready.setRegW 0x0D01 0 3 (wd (n * 2 ^ 36 + 2 ^ 21))).setRegN 0x0D00 5 1 with mem := { ready.mem with repairs := [(3, 7)] } }
/-- Cluster 5 GATED, its scratch word 9 not zero before. -/
def gated5 : State := (ready.setRegN (seqIdx 0 5) 0 7).setRegW 0x0D00 9 0 32

/-- Cluster 5 with STATE `n` of Starfix and temperature `v` noted at the start of its run. -/
def cal5 (n : Nat) (v : Word) : State := (ready.setRegN (calIdx 5) 0 n).onCal 5 (fun x => { x with temp := v })
/-- Monitor 20 with MIN −10, MAX 10, filter 1 of 1, decided and NORMAL; ACTION `a`. -/
def mon20 (a : Nat) : State := ((((((ready.setRegW 0x0710 2 20 0).setRegW 0x0710 0 20 (wdI (-10))).setRegW 0x0710 1 20 10).setRegW 0x0710 3 20 0x11).setRegW 0x0710 4 20 (wd a))).setMon 20 ⟨[3], true, 0⟩

/-- A state whose SERIAL and ROM_VERSION are known. -/
def known (s : State) : State := { s with regs := (odKey 0 4 0, 0x11) :: (odKey 0 5 0, 0x100) :: s.regs }
/-- Words 0 to 5 of a calibration set of cluster 5. -/
def calHead : List Word := [wd (0xCA * 2 ^ 32 + 5), 0x11, 0x1AA, 41000, 7, 8]
/-- Its words from 7 on. -/
def calBody : List Word := List.replicate 4089 0
/-- A calibration set of cluster 5: its CRC is right. -/
def calSet : List Word := calHead ++ wd (crcWords (calHead ++ calBody)).toNat :: calBody
theorem calSet_length : calSet.length = 4096 := by
  have h : calBody.length = 4089 := List.length_replicate ..
  simp [calSet, calHead, h]
theorem values_good (s : State) (c : Nat) (b : List Word) (w0 w1 w2 w3 w4 w5 : Word)
    (n0 : w0 = wd (0xCA * 2 ^ 32 + c)) (n1 : w1 = s.reg 0 4) (n2 : w2 >>> 8 = (s.reg 0 5) >>> 8) :
    s.valuesBad c ([w0, w1, w2, w3, w4, w5] ++ wd (crcWords ([w0, w1, w2, w3, w4, w5] ++ b)).toNat :: b) = 0 := by
  have h : ∀ x : BitVec 32, x.toNat = fld (wd x.toNat) 0 32 := by
    intro x
    have := x.isLt
    simp only [fld, wd, BitVec.toNat_ofNat, Nat.shiftRight_zero]
    omega
  simp only [State.valuesBad, List.cons_append, List.nil_append, List.getD_cons_zero, List.getD_cons_succ, List.take_succ_cons, List.drop_succ_cons, List.take_zero, List.drop_zero]
  rw [if_neg (by simp [n0, n1, n2]), if_neg (not_not.mpr (h _))]
theorem calSet_good (s : State) : (known s).valuesBad 5 calSet = 0 :=
  values_good _ _ _ _ _ _ _ _ _ rfl (by simp [known, State.reg, SMap.get, odKey]) (by
    have b : (known s).reg 0 5 = 0x100 := by simp [known, State.reg, SMap.get, odKey]
    rw [b]; decide)

/-- In ECLIPSE, entered from READY for a fault of reference domain 0xA9 that persists; cluster 5's driver 3 was enabled. -/
def eclipsed : State := { ((ready.setRegN 0x0100 0 7).setRegW 0x0601 0 0xA9 (wd (2 ^ 39 + 2 ^ 38 + 3 * 2 ^ 35 + 0x1E * 2 ^ 26 + 1))).setRegN (peIdx 0 5) 3 1 with faults := ⟨[], [(0xA9, 0x1E)], false, 3, []⟩ }

/-- A log record of code 0x0901 with ARG0 7. -/
def rec7 : LogRec := LogRec.fresh 0x0901 7 1 false false 50
/-- A journal entry with SEQ `n`. -/
def entry (n : Nat) : LineData := mkLine 1 0 false (wd n) 0 0 0 0 0
/-- A commit of bank 2 runs for source 7. -/
def committing : State := { (ready.setRegN 0x0300 1 1).setRegN 0x0300 3 3 with alm := { ready.alm with run := some ⟨7, 2, 5, [(99, some 3)], 4109⟩, bankB := { Bank.erased with st := 3 } } }

/-- In BRINGUP at step `n`, FACTORY_STATE 1. -/
def bring (n : Nat) : State := ((ready.setRegN 0x0100 0 2).setRegN 0x0100 8 n).setRegN 0x0300 0x0A 1
/-- A warm reset that host source 7 asked for in READY is under way. -/
def warm : State := { ready.setRegN 0x0100 0 2 with start := { ready.start with warm := some ⟨7, 3, 50, 0, []⟩ } }

/-- The service port with LEN `n`. -/
def len (n : Nat) : State := ready.setRegN 0x1200 8 n
/-- The service port asks to read object 0x0990.00, words 4 and 5. -/
def svcAsks : State := { ready with svc := { ready.svc with cmd := wd (2 ^ 36 + 0x0990 * 256), range := wd (4 * 2 ^ 14 + 16) } }

/-- A calm environment. -/
def e0 : Env := Env.calm
/-- A frame of type `ty` without payload. -/
def fr (ty : Nat) : Frame := ⟨BitVec.ofNat 4 ty, false, 1, 2, 0, []⟩
/-- A frame of type `ty` with 97 words, one more than R350 admits. -/
def longFr (ty : Nat) : Frame := { fr ty with payload := List.replicate 97 0 }
/-- A word that a background test finds. -/
def bw0 : BankWord := ⟨1, 0, 7, true, false, .other⟩

/-- Each received frame has its row's type and at most 96 payload words (12, R350). -/
theorem test_frames_of_another_type_are_ill_formed :
    ([.teIssueRx 0 (fr 4) 0, .teCancelRx 0 (fr 4) 0, .odRequestRx 0 [fr 3] e0 0, .odReplyRx 0 [fr 2] 0, .eventFrameRx 0 (fr 5) 0,
      .syncRx 0 (fr 7) 0, .delayReqRx 0 (fr 8) 0, .delayReplyRx 0 (fr 7) 0, .ringBrokenRx 0 (fr 10) 0, .ringRestoredRx 0 (fr 10) 0,
      .linkInfoRx 0 (fr 9) 0, .forwardedFrameRx 0 (fr 11) 0, .forwardedFrameRx 0 (fr 1) 0] : List Instr).all (fun i => !i.wf) = true := by decide +kernel
theorem test_frames_too_long_are_ill_formed :
    ([.teIssueRx 0 (longFr 5) 0, .odRequestRx 0 [longFr 2] e0 0, .odReplyRx 0 [longFr 3] 0, .eventFrameRx 0 (longFr 4) 0] : List Instr).all
      (fun i => !i.wf) = true := by decide +kernel
theorem test_empty_trains_are_ill_formed :
    ([.odRequestRx 0 [] e0 0, .odReplyRx 0 [] 0] : List Instr).all (fun i => !i.wf) = true := by decide +kernel
/-- Link bring-up (12): no lane, a rate outside the two, a codeword short of its 128 words; a host link outside gen 1 to 6 or of an odd width (13). -/
theorem test_links_that_cannot_be_are_ill_formed :
    ([.signalDetect 0 0 0, .portTrained 0 3 1 0, .portTrained 0 1 0 0, .codewordRx 0 0 ⟨0, 0, List.replicate 127 0, false, 0⟩ 0,
      .hostLinkTrained 0 4 false 0, .hostLinkTrained 7 4 false 0, .hostLinkTrained 5 3 false 0] : List Instr).all (fun i => !i.wf) = true := by decide +kernel
/-- Queue items (10): producers outside the pool, an item without lines, a head whose CLASS or UNIT needs more than 4 bits. -/
theorem test_items_that_cannot_be_are_ill_formed :
    ([.qAppend 0 ⟨49, 0⟩ .done false 0, .qAppend 0 ⟨0, 9⟩ .done false 0, .qAppend 0 ⟨0, 0⟩ (.item []) false 0,
      .qAppend 0 ⟨0, 0⟩ (.head 16 0) false 0, .qAppend 0 ⟨0, 0⟩ (.head 0 16) false 0] : List Instr).all (fun i => !i.wf) = true := by decide +kernel
/-- The host's accesses (13): a BAR0 write past the 64 MiB, without a byte or with a value too large; windows off their alignment;
descriptors not of 8 quadwords or more than 16; a BAR2 access without a byte or past its end. -/
theorem test_host_accesses_that_cannot_be_are_ill_formed :
    ([.registerWrite (.bar0 67108864 1 0) 0, .registerWrite (.bar0 0 0 0) 0, .registerWrite (.bar0 0 1 256) 0,
      .g1Reg0Read 4 e0 0, .g1RegnRead 6 e0 0, .g1RegnRead 16 e0 0, .g1HighWrite 16 0 0, .g1HighWrite 5 0 0, .g1Reg0Write 4 0 e0 0,
      .descriptorFetch 0 [List.replicate 7 0] 0, .descriptorFetch 0 (List.replicate 17 (List.replicate 8 0)) 0,
      .bar2Read 0 0 [] 0, .bar2Read 4294967295 2 [] 0, .bar2Write 0 [] false 0, .bar2Write 4294967295 [0, 0] false 0] : List Instr).all
      (fun i => !i.wf) = true := by decide +kernel
/-- Readings and findings that name a thing twice; a housekeeping round without its 64 power readings; a share over 8 bits. -/
theorem test_findings_that_cannot_be_are_ill_formed :
    ([.bankTest [bw0, bw0] 0, .hkRound [] [] none false 0, .hkRound (List.replicate 64 none) [(3, 1), (3, 2)] none false 0,
      .arbGrant 0 [(0, 256)] 0, .bringupStepDone [(1, 2), (1, 2)] [] ⟨0, none⟩ 0, .bringupStepDone [] [4, 4] ⟨0, none⟩ 0, .warmResetDone [4, 4] 0] : List Instr).all
      (fun i => !i.wf) = true := by decide +kernel
/-- Transfers of no word, of more than 4,096 words, past the 2^26 words that OFFSET reaches; service-port and mailbox writes of nothing. -/
theorem test_empty_transfers_are_ill_formed :
    ([.odWrite rq0 0 0 0 [] e0 0, .odWrite rq0 0 0 67108864 [0] e0 0, .acquire rq0 0 [] 0, .issue rq0 0 [] 0, .cancel rq0 0 [] 0,
      .resultRead rq0 0 0 [] 0, .resultRead rq0 0 4097 [] 0, .pop rq0 0 0 [] none 0, .push rq0 0 [] 0, .scratchDataWrite rq0 0 0 [] [] 0,
      .scratchSet rq0 0 0 [] [] 0, .scratchClear rq0 0 0 [] [] 0, .starfixRun rq0 0 [] 0, .valuesWrite rq0 0 0 [] 0, .inject rq0 0 [] 0,
      .mbxOutAppend rq0 0 [] 0, .svcWrite 0 [] 0 e0 0, .mbxWrite [] 0 0] : List Instr).all (fun i => !i.wf) = true := by decide +kernel
/-- The well-formed neighbours of the terms above. -/
theorem test_their_neighbours_are_well_formed :
    ([.teIssueRx 0 (fr 5) 0, .odRequestRx 0 [fr 2] e0 0, .portTrained 0 2 1 0, .codewordRx 0 0 ⟨0, 0, List.replicate 128 0, false, 0⟩ 0,
      .hostLinkTrained 6 16 true 0, .qAppend 0 ⟨48, 8⟩ (.head 15 15) false 0, .registerWrite (.bar0 67108863 1 255) 0, .g1Reg0Read 32 e0 0,
      .g1RegnRead 36 e0 0, .bar2Read 4294967295 1 [] 0, .bankTest [bw0] 0, .odWrite rq0 0 0 67108863 [0] e0 0] : List Instr).all Instr.wf = true := by decide +kernel

/-- The block idles on an empty queue with nothing due (log entry 1). -/
theorem test_step_idles_at_reset : Machine.step State.reset = .next State.reset := rfl
/-- The table gives no row bits, so no word spells a command. -/
theorem test_no_word_is_a_command (nbits w : Nat) : decodeTableWord nbits w = none := rfl
/-- Reset waits for the first command with nothing due. -/
theorem test_reset_holds_no_command : State.reset.pending = [] ∧ State.reset.agenda = [] := ⟨rfl, rfl⟩

/-- A state with these steps on its agenda and nothing waiting. -/
def due (l : List Instr) : State := { State.reset with agenda := l }
/-- What StepRunsTheFront supposes: a step served, a head that is no occurrence, an occurrence at its stamp behind one of its line that
is not reached yet, an agenda of which nothing can be served. -/
theorem wit_StepRunsTheFront_served : ∃ c later, (due [.linkDown 5]).pending = [] ∧ (due [.linkDown 5]).serve = some (c, later) := ⟨_, _, rfl, rfl⟩
theorem wit_StepRunsTheFront_head : (due [.linkDown 5]).pending = [] ∧ occurrenceOf (.linkDown 5) = none := ⟨rfl, rfl⟩
theorem wit_StepRunsTheFront_occurrence :
    let s := due [.eventOccurrence 4 5000 false, .eventOccurrence 3 0 false]
    s.pending = [] ∧ s.agenda[1]? = some (.eventOccurrence 3 0 false) ∧ occurrenceOf (.eventOccurrence 3 0 false) = some (3, 0) ∧
    (∀ k < 1, ∀ d ∈ s.agenda[k]?, s.servable d = false) ∧ (diff80 0 s.now ≤ 0 ∨ 8192 < diff80 0 s.now) ∧
    (∀ d ∈ s.agenda, ∀ x, occurrenceOf d = some (3, x) → 0 ≤ diff80 x 0) := by
  refine ⟨rfl, rfl, rfl, by decide +kernel, by decide +kernel, ?_⟩
  intro d hd x hx
  simp only [due, List.mem_cons, List.not_mem_nil, or_false] at hd
  rcases hd with rfl | rfl
  · simp [occurrenceOf] at hx
  · have : x = 0 := by simpa [occurrenceOf] using hx.symm
    subst this; decide
theorem wit_StepRunsTheFront_nothing :
    (due [.eventOccurrence 4 5000 false]).pending = [] ∧ ∀ d ∈ (due [.eventOccurrence 4 5000 false]).agenda, (due [.eventOccurrence 4 5000 false]).servable d = false :=
  ⟨rfl, by decide +kernel⟩
/-- What StepKeepsSound and EveryCommandAnswers suppose. -/
theorem wit_StepKeepsSound : ∃ s t : State, s.Sound ∧ step s = .next t := ⟨State.reset, State.reset, ⟨by decide, rfl⟩, rfl⟩
theorem wit_EveryCommandAnswers : startsAgain (.linkDown 0) = false := rfl

/-- Lines read without poison leave the state, however many are read. -/
theorem waves_quiet (s : State) (b : Nat) (l : List Nat) (acc : List Int × Bool × State) (h : ∀ k ∈ l, (s.waveRead (b + k)).2 = (false, s))
    (ha : acc.2 = (false, s)) :
    (l.foldl (fun (r : List Int × Bool × State) k =>
      let g := r.2.2.waveRead (b + k)
      (r.1 ++ g.1.map (fun e => e.1), r.2.1 || g.2.1, g.2.2)) acc).2 = (false, s) := by
  induction l generalizing acc with
  | nil => exact ha
  | cons k l ih =>
    refine ih _ (fun j hj => h j (List.mem_cons_of_mem _ hj)) ?_
    have hk := h k (List.mem_cons_self ..)
    simp [ha, hk]
/-- An NCO table whose lines are not poisoned is read whole and leaves the state. -/
theorem nco_quiet (s : State) (n : Nat) (h : ∀ k ∈ List.range 342, (s.waveRead (fld (s.reg (asIdx n) 0x0B) 0 31 + k)).2 = (false, s)) :
    s.ncoTable n = (some ((s.ncoTable n).1.getD []), s) := by
  have q := waves_quiet s _ (List.range 342) ([], false, s) h rfl
  simp only at q
  simp only [State.ncoTable, q, Bool.false_eq_true, if_false, Option.getD_some]

theorem wit_WritesTakeEffect_1 : ∃ (s : State) (rq : Req) (idx : BitVec 16) (sub : BitVec 8) (off : Nat) (vals : List Word) (e : Env) (t : Nat) (r : Obj),
    s.takes rq idx.toNat sub.toNat off vals e t = true ∧ odFind idx.toNat sub.toNat = some r ∧ r.hook = .none ∧ r.acc ≠ .cmd ∧ (r.eff = .imm ∨ r.eff = .shadow) :=
  ⟨ready, rq0, 0x0500, 1, 0, [77], Env.calm, 9, row 0x0500 1, by decide +kernel⟩

theorem wit_WritesTakeEffect_2 : ∃ (s : State) (rq : Req) (c : Fin 48) (n : Fin 25) (v : Word) (t : Nat),
    s.takes rq (peIdx 0x00 c) n 0 [v] Env.calm t = true :=
  ⟨ready, rq0, 47, 24, 1, 9, by decide +kernel⟩

theorem wit_WritesTakeEffect_3 : ∃ (s : State) (rq : Req) (c : Fin 48) (n : Fin 25) (v : Word) (t : Nat),
    s.takes rq (peIdx 0x01 c) n 0 [v] Env.calm t = true :=
  ⟨ready, rq0, 47, 24, 2, 9, by decide +kernel⟩

theorem wit_WritesTakeEffect_4 : ∃ (s : State) (rq : Req) (c : Fin 48) (n : Fin 25) (v : Word) (t : Nat),
    s.takes rq (peIdx 0x03 c) n 0 [v] Env.calm t = true :=
  ⟨ready.setRegN (peIdx 0 5) 3 1, rq0, 5, 3, 2, 9, by decide +kernel⟩

theorem wit_WritesTakeEffect_5 : ∃ (s : State) (rq : Req) (n : Fin 32) (v : Word) (t : Nat),
    s.takes rq (asIdx n) 0x10 0 [v] Env.calm t = true :=
  ⟨ready, rq0, 31, 1, 9, by decide +kernel⟩

theorem wit_WritesTakeEffect_6 : ∃ (s : State) (rq : Req) (v : Word) (t : Nat),
    s.takes rq 0x0500 0x00 0 [v] Env.calm t = true :=
  ⟨{ ready with log := { ready.log with windows := [(5, some ⟨0, 1, 2⟩)] } }, rq0, 1, 9, by decide +kernel⟩

theorem wit_PinWritesMoveTheMap_1 : ∃ (s : State) (rq : Req) (c : Fin 48) (n : Fin 25) (v : Word) (t : Nat),
    s.takes rq (peIdx 0x04 c) n 0 [v] Env.calm t = true :=
  ⟨ready, rq0, 5, 3, 4, 9, by decide +kernel⟩

theorem wit_PinWritesMoveTheMap_2 : ∃ (s : State) (rq : Req) (c : Fin 48) (v : Word) (t : Nat),
    s.takes rq (peIdx 0x1F c) 0xF2 0 [v] Env.calm t = true ∧ v = s.reg (peIdx 0x1F c) 0xF2 :=
  ⟨ready, rq0, 5, 0xFF, 9, by decide +kernel⟩

theorem wit_PinWritesMoveTheMap_3 : ∃ (s : State) (rq : Req) (c : Fin 48) (v : Word) (t : Nat),
    s.takes rq (peIdx 0x1F c) 0xF2 0 [v] Env.calm t = true ∧ v ≠ s.reg (peIdx 0x1F c) 0xF2 :=
  ⟨ready, rq0, 5, 7, 9, by decide +kernel⟩

theorem wit_PinWritesMoveTheMap_4 : ∃ (s : State) (rq : Req) (c : Fin 48) (v : Word) (t : Nat),
    s.takes rq (peIdx 0x1F c) 0xF1 0 [v] Env.calm t = true ∧ s.seqState c ≠ 7 :=
  ⟨(ready.setRegN (peIdx 0x0A 5) 3 77).setRegN (peIdx 0x1F 5) 0xF6 2, rq0, 5, 1, 9, by decide +kernel⟩

theorem wit_LevelsAndMovesComplete_1 : ∃ (s : State) (c : Fin 48),
    s.seqState c ≠ 7 :=
  ⟨(ready.setRegN (peIdx 0x0A 5) 3 77).setRegN (peIdx 0x1F 5) 0xF6 2, 5, by decide +kernel⟩

theorem wit_LevelsAndMovesComplete_4 : ∃ (s : State),
    s.devState ≠ 0 :=
  ⟨ready, by decide +kernel⟩

theorem wit_LevelsAndMovesComplete_5 : ∃ (s : State),
    s.devState ≠ 0 :=
  ⟨(ready.setRegN (peIdx 0x1F 5) 0xF6 1), by decide +kernel⟩

theorem wit_LevelsAndMovesComplete_6 : ∃ (s : State) (c : Fin 48) (m : List Nat × Nat),
    (s.pe c).moving = some m ∧ (s.pe c).waiting = [] ∧ s.start.waiting = [] :=
  ⟨(ready.onPe 5 (fun p => { p with moving := some ([7], 7) })), 5, ([7], 7), by decide +kernel⟩

theorem wit_LevelsAndMovesComplete_7 : ∃ (s : State) (c : Fin 48) (r : Recovery),
    (s.pe c).swap = some r ∧ (s.pe c).waiting = [] ∧ s.start.waiting = [] :=
  ⟨((ready.onPe 5 (fun p => { p with swap := some ⟨7, 7, 1, 0, 0, 0⟩ })).setRegN 0x100 0 3), 5, ⟨7, 7, 1, 0, 0, 0⟩, by decide +kernel⟩

theorem wit_LevelsAndMovesComplete_8 : ∃ (s : State) (c : Fin 48) (r : Recovery),
    (s.pe c).rehome = some r ∧ (s.pe c).waiting = [] ∧ r.unit < 6 ∧ s.start.waiting = [] :=
  ⟨(ready.onPe 5 (fun p => { p with rehome := some ⟨0, 2, 9, 0, 0, 0⟩ })), 5, ⟨0, 2, 9, 0, 0, 0⟩, by decide +kernel⟩

theorem wit_LocksAreAcquired_1 : ∃ (s : State) (rq : Req) (vals : List Word) (t : Nat) (n : Nat),
    s.takes rq 0x0200 0 0 vals Env.calm t = true ∧ s.lockNext = none ∧ s.lockFree = some n ∧ (s.lockMeets ((s.at t).acquireOf rq.src vals).first ((s.at t).acquireOf rq.src vals).last || s.locks.waiters.any (fun v => rangesMeet ((s.at t).acquireOf rq.src vals).first ((s.at t).acquireOf rq.src vals).last v.first v.last)) = false :=
  ⟨ready, rq0, acq, 9, 0, by decide +kernel⟩

theorem wit_LocksAreAcquired_2 : ∃ (s : State) (rq : Req) (vals : List Word) (t : Nat),
    s.takes rq 0x0200 0 0 vals Env.calm t = true ∧ s.lockNext = none ∧ (s.lockMeets ((s.at t).acquireOf rq.src vals).first ((s.at t).acquireOf rq.src vals).last || s.locks.waiters.any (fun v => rangesMeet ((s.at t).acquireOf rq.src vals).first ((s.at t).acquireOf rq.src vals).last v.first v.last)) = true ∧ (s.at t).clock < ((s.at t).acquireOf rq.src vals).deadline :=
  ⟨held3, ⟨1, none⟩, acq, 9, by decide +kernel⟩

theorem wit_LocksAreAcquired_3 : ∃ (s : State) (rq : Req) (vals : List Word) (t : Nat),
    s.takes rq 0x0200 0 0 vals Env.calm t = true ∧ s.lockNext = none ∧ (s.lockMeets ((s.at t).acquireOf rq.src vals).first ((s.at t).acquireOf rq.src vals).last || s.locks.waiters.any (fun v => rangesMeet ((s.at t).acquireOf rq.src vals).first ((s.at t).acquireOf rq.src vals).last v.first v.last)) = true ∧ ((s.at t).acquireOf rq.src vals).deadline ≤ (s.at t).clock :=
  ⟨held3, ⟨1, none⟩, [wd (0x2020 * 65536 + 0x2010), 0, 7], 9, by decide +kernel⟩

theorem wit_LocksAreAcquired_4 : ∃ (s : State) (rq : Req) (vals : List Word) (t : Nat),
    s.takes rq 0x0200 0 0 vals Env.calm t = true ∧ s.lockFree = none ∧ (s.at t).clock < ((s.at t).acquireOf rq.src vals).deadline :=
  ⟨allHeld, rq0, acq, 9, by decide +kernel⟩

theorem wit_LocksAreAcquired_5 : ∃ (s : State) (rq : Req) (vals : List Word) (t : Nat) (n : Nat) (w : Waiter),
    s.takes rq 0x0200 0 0 vals Env.calm t = true ∧ s.lockNext = some w ∧ s.lockFree = some n ∧ w.src ≠ rq.src :=
  ⟨{ ready with locks := { ready.locks with waiters := [⟨5, 0x2000, 0x2001, 2000, 1, 99⟩] } }, rq0, acq, 9, 0, ⟨5, 0x2000, 0x2001, 2000, 1, 99⟩, by decide +kernel⟩

theorem wit_LocksAreAcquired_6 : ∃ (s : State) (w : Waiter) (n : Nat),
    s.lockNext = some w ∧ s.lockFree = some n :=
  ⟨{ ready with locks := { ready.locks with waiters := [⟨5, 0x2000, 0x2001, 2000, 1, 99⟩] } }, ⟨5, 0x2000, 0x2001, 2000, 1, 99⟩, 0, by decide +kernel⟩

theorem wit_LocksAreAcquired_7 : ∃ (s : State) (w : Waiter) (t : Nat),
    s.locks.waiters.find? (fun v => v.src = w.src) = some w ∧ w.deadline ≤ (s.at t).clock :=
  ⟨{ held3 with locks := { ready.locks with waiters := [⟨5, 0x2000, 0x2001, 2000, 1, 99⟩] } }, ⟨5, 0x2000, 0x2001, 2000, 1, 99⟩, 100, by decide +kernel⟩

theorem wit_LocksCommitAndBreak_1 : ∃ (s : State) (rq : Req) (slot : Word) (t : Nat),
    s.carries = true ∧ s.alm.held = [] ∧ slot.toNat < 64 ∧ ((s.at t).firstChecks (mkTx rq .write 0x0200 2 0 1 [slot] .here) [(0, slot)]).1 = 0 ∧ s.lockOf 0x0200 = none ∧ s.cmdBusy rq.src 0x0200 2 = false ∧ s.holds rq.src slot.toNat = true ∧ ((s.at t).commitCode slot.toNat).1 = 0 ∧ s.alm.head.length + 1 + (s.stagedIn slot.toNat).length ≤ 3584 ∧ (s.stagedIn slot.toNat).all (fun g => match odFind g.idx g.sub with | some r => r.hook == .none && r.eff == .imm | none => false) = true :=
  ⟨held3, rq0, 3, 9, by decide +kernel⟩

theorem wit_LocksCommitAndBreak_2 : ∃ (s : State) (rq : Req) (slot : Word) (t : Nat) (i : Nat) (sub : Nat) (w : Nat) (v : Word),
    s.carries = true ∧ s.alm.held = [] ∧ slot.toNat < 64 ∧ ((s.at t).firstChecks (mkTx rq .write 0x0200 2 0 1 [slot] .here) [(0, slot)]).1 = 0 ∧ s.lockOf 0x0200 = none ∧ s.cmdBusy rq.src 0x0200 2 = false ∧ s.holds rq.src slot.toNat = true ∧ ((s.at t).commitCode slot.toNat).1 = 0 ∧ s.alm.head.length + 1 + (s.stagedIn slot.toNat).length ≤ 3584 ∧ (s.stagedIn slot.toNat).all (fun g => match odFind g.idx g.sub with | some r => r.hook == .none && r.eff == .imm | none => false) = true ∧ s.stagedIn slot.toNat = [⟨i, sub, [(w, v)], []⟩] ∧ i ≠ 0x0400 ∧ i ≠ 0x0200 ∧ i ≠ 0x0210 + slot.toNat :=
  ⟨held3.setStaged 3 [⟨0x0990, 0, [(1, 5)], []⟩], rq0, 3, 9, 0x0990, 0, 1, 5, by decide +kernel⟩

theorem wit_LocksCommitAndBreak_3 : ∃ (s : State) (rq : Req) (slot : Word) (t : Nat),
    s.carries = true ∧ s.alm.held = [] ∧ slot.toNat < 64 ∧ ((s.at t).firstChecks (mkTx rq .write 0x0200 4 0 1 [slot] .here) [(0, slot)]).1 = 0 ∧ s.lockOf 0x0200 = none ∧ s.cmdBusy rq.src 0x0200 4 = false ∧ s.holds rq.src slot.toNat = true ∧ ((s.at t).commitCode slot.toNat).1 = 0 ∧ s.alm.head.length + 1 + (s.stagedIn slot.toNat).length ≤ 3584 ∧ (s.stagedIn slot.toNat).all (fun g => match odFind g.idx g.sub with | some r => r.hook == .none && r.eff == .imm | none => false) = true :=
  ⟨held3, rq0, 3, 9, by decide +kernel⟩

theorem wit_LocksCommitAndBreak_4 : ∃ (s : State) (rq : Req) (slot : Word) (t : Nat),
    s.takes rq 0x0200 3 0 [slot] Env.calm t = true :=
  ⟨held3, rq0, 3, 9, by decide +kernel⟩

theorem wit_LocksCommitAndBreak_5 : ∃ (s : State) (rq : Req) (slot : Word) (t : Nat),
    s.takes rq 0x0200 1 0 [slot] Env.calm t = true :=
  ⟨held3, rq0, 3, 9, by decide +kernel⟩

theorem wit_LocksCommitAndBreak_6 : ∃ (s : State) (slot : Fin 64) (t : Nat),
    s.lockSlots.contains slot.val = true ∧ s.leaseEnd slot ≤ (s.at t).clock :=
  ⟨held3, 3, msEt 2000, by decide +kernel⟩

theorem wit_LocksCommitAndBreak_7 : ∃ (s : State) (dev : BitVec 24),
    s.route none dev.toNat = none :=
  ⟨held3.setReg 0x0213 3 (sourceOf 4 0 77), 77, by decide +kernel⟩

theorem wit_MeridianModeAndLoads_1 : ∃ (s : State) (rq : Req) (v : Word) (t : Nat),
    s.takes rq 0x0900 0x03 0 [v] Env.calm t = true :=
  ⟨ready, rq0, 1, 5, by decide +kernel⟩

theorem wit_MeridianModeAndLoads_2 : ∃ (s : State) (rq : Req) (t : Nat),
    s.takes rq 0x0900 0x0E 0 [1] Env.calm t = true :=
  ⟨ready, rq0, 5, by decide +kernel⟩

theorem wit_MeridianModeAndLoads_3 : ∃ (s : State) (rq : Req) (t : Nat),
    s.takes rq 0x0900 0x0E 0 [2] Env.calm t = true :=
  ⟨ready, rq0, 5, by decide +kernel⟩

theorem wit_MeridianModeAndLoads_4 : ∃ (s : State),
    s.sync.loads = [] :=
  ⟨ready.setRegN 0x0A05 1 0x2008, by decide +kernel⟩

theorem wit_MeridianModeAndLoads_5 : ∃ (s : State),
    s.sync.loads ≠ [] :=
  ⟨{ ready.setReg80 0x0900 0xD 99 with sync := { ready.sync with loads := [(0, 0), (7, 3)] } }, by decide +kernel⟩

theorem wit_SyncFramesAndPulses_1 : ∃ (s : State),
    s.syncMode = 1 :=
  ⟨syncUp.setRegN 0x0900 3 1, by decide +kernel⟩

theorem wit_SyncFramesAndPulses_2 : ∃ (s : State) (p : Fin 4),
    s.syncPort p = true :=
  ⟨syncUp, 0, by decide +kernel⟩

theorem wit_SyncFramesAndPulses_3 : ∃ (s : State) (p : Fin 4) (f : Frame),
    s.syncPort p = true ∧ f.ty = 7 :=
  ⟨syncUp, 0, mkFrame 7 0xFFFFFE 9 [5, 0, 0], by decide +kernel⟩

theorem wit_SyncFramesAndPulses_4 : ∃ (s : State) (t : Nat),
    s.regN 0x0900 0x11 ≠ 0 ∧ (s.at t).now.toNat % s.regN 0x0900 0x11 = 0 ∧ s.sync.past.any (fun e => e.step && e.till == (s.at t).localMt) = false :=
  ⟨ready.setRegN 0x0900 0x11 128, 128 * 32, by decide +kernel⟩

theorem wit_SyncFramesAndPulses_5 : ∃ (s : State) (t : Nat) (e : Nat),
    s.sync.syncOut = some e ∧ e ≤ (s.at t).clock :=
  ⟨{ ready with sync := { ready.sync with syncOut := some 40960 } }, 40960, 40960, by decide +kernel⟩

theorem wit_SlaveFollowsItsMaster_1 : ∃ (s : State) (p : Fin 4) (f : Frame) (t : Nat),
    f.ty = 6 ∧ s.syncPort p = true ∧ s.syncMode = 2 ∧ s.syncState = 4 ∧ s.eligible p = true ∧ (∀ e ∈ (s.at t).mastersHeard, e.2.1 = fld (fpay f 0) 16 24) ∧ s.sync.upstream = some p.val ∧ (diff80 (u80 (fpay f 1) (fpay f 2) + BitVec.ofNat 80 ((s.regN (0x0904 + p) 0x02 * 128 + 500) / 1000) - BitVec.ofNat 80 (s.at t).localMt) s.offset).natAbs ≤ s.regN 0x0900 0x0B :=
  ⟨slave.setRegN 0x0900 0x0B 1000, 0, mkFrame 6 0xFFFFFE 9 [wd (9 * 65536 + 3 * 256), 0, 0, 7, 5], 32*20, by decide +kernel⟩

theorem wit_SlaveFollowsItsMaster_2 : ∃ (s : State) (p : Fin 4) (f : Frame) (t : Nat),
    f.ty = 6 ∧ s.syncPort p = true ∧ s.syncMode = 2 ∧ (s.syncState = 2 ∨ s.syncState = 5) ∧ s.eligible p = true ∧ (∀ e ∈ (s.at t).mastersHeard, e.2.1 = fld (fpay f 0) 16 24) ∧ s.sync.upstream = none :=
  ⟨{ slave.setRegN 0x0900 0x04 2 with sync := { slave.sync with upstream := none } }, 0, mkFrame 6 0xFFFFFE 9 [wd (9 * 65536 + 3 * 256), 0, 0, 7, 5], 32*20, by decide +kernel⟩

theorem wit_SlaveFollowsItsMaster_3 : ∃ (s : State),
    s.syncState = 4 ∧ s.sync.est ≠ s.offset ∧ ((diff80 s.sync.est s.offset).natAbs ≤ s.regN 0x0900 0x0B ∨ s.stepPermitted = false) :=
  ⟨slave.setRegN 0x0900 0x0B 1000, by decide +kernel⟩

theorem wit_SlaveFollowsItsMaster_4 : ∃ (s : State),
    s.syncState = 4 ∧ s.sync.est ≠ s.offset ∧ s.regN 0x0900 0x0B < (diff80 s.sync.est s.offset).natAbs ∧ s.stepPermitted = true :=
  ⟨slave.setRegN 0x0900 0x0B 10, by decide +kernel⟩

theorem wit_SlaveFollowsItsMaster_5 : ∃ (s : State) (t : Nat),
    (s.syncState = 4 ∨ s.syncState = 3) ∧ s.sync.lastSync + usEt (3 * s.regN 0x0900 0x09) ≤ (s.at t).clock :=
  ⟨slave, usEt 3000000, by decide +kernel⟩

theorem wit_SlaveFollowsItsMaster_6 : ∃ (s : State) (p : Fin 4) (f : Frame) (seq : Nat) (t1 : Nat),
    f.ty = 8 ∧ s.syncPort p = true ∧ SMap.get (fun _ => none) s.sync.asked p = some (seq, t1) ∧ fld (fpay f 0) 0 16 = seq :=
  ⟨{ syncUp with sync := { syncUp.sync with asked := [(0, some (5, 100))] } }, 0, mkFrame 8 0xFFFFFE 9 [5, 200, 0, 300, 0], 5, 100, by decide +kernel⟩

theorem wit_OccurrencesReachLines_1 : ∃ (s : State) (rq : Req) (line : Fin 512) (v : Word) (t : Nat),
    s.takes rq (0x0A00 + line) 0x05 0 [v] Env.calm t = true :=
  ⟨ready.setRegN 0x0A11 0 0x4000, rq0, 17, 1, 900, by decide +kernel⟩

theorem wit_OccurrencesReachLines_2 : ∃ (s : State) (ball : Fin 8),
    s.regN (0x0980 + ball) 0x00 = 0 :=
  ⟨ready.setRegN 0x0A05 1 0x2002, 2, by decide +kernel⟩

theorem wit_OccurrencesReachLines_3 : ∃ (s : State) (ball : Fin 8) (t : Nat) (e : Nat),
    SMap.get (fun _ => none) s.sync.evtOut ball = some e ∧ e ≤ (s.at t).clock :=
  ⟨{ ready with sync := { ready.sync with evtOut := [(2, some 50), (3, some 70)] } }, 2, 60, 50, by decide +kernel⟩

theorem wit_OccurrencesReachLines_4 : ∃ (s : State) (line : Fin 512) (m : U80),
    (s.reg (0x0A00 + line) 0x06 ≠ 0 ∨ s.reg80 (0x0A00 + line) 0x08 ≠ 0) ∧ (m - s.reg80 (0x0A00 + line) 0x08).toNat < 640 :=
  ⟨(ready.setRegN 0x0A03 6 4).setReg80 0x0A03 8 10000, 3, 10300, by decide +kernel⟩

theorem wit_OccurrencesReachLines_5 : ∃ (s : State) (line : Fin 512) (m : U80),
    (s.reg (0x0A00 + line) 0x06 ≠ 0 ∨ s.reg80 (0x0A00 + line) 0x08 ≠ 0) ∧ 640 ≤ (m - s.reg80 (0x0A00 + line) 0x08).toNat ∧ (s.reg80 (0x0A00 + line) 0x08 - m).toNat < 640 :=
  ⟨(ready.setRegN 0x0A03 6 4).setReg80 0x0A03 8 10300, 3, 10000, by decide +kernel⟩

theorem wit_OccurrencesReachLines_6 : ∃ (s : State) (line : Fin 512) (m : U80),
    ((640 ≤ (m - s.reg80 (0x0A00 + line) 0x08).toNat ∧ 640 ≤ (s.reg80 (0x0A00 + line) 0x08 - m).toNat) ∨ (s.reg (0x0A00 + line) 0x06 = 0 ∧ s.reg80 (0x0A00 + line) 0x08 = 0)) :=
  ⟨ready.setRegN 0x3040 5 3, 3, 10300, by decide +kernel⟩

theorem wit_OccurrencesReachLines_7 : ∃ (s : State) (p : Fin 4) (f : Frame) (t : Nat),
    f.ty = 4 ∧ ((s.at t).acceptBroadcast p f).1 = true ∧ fld (fpay f 0) 32 8 = 1 ∧ (f.src.toNat, fld (fpay f 1) 31 9, u80 (fpay f 2) (fpay f 3)) ∉ s.halo.events :=
  ⟨ready, 0, mkFrame 4 0xFFFFFF 9 [wd (2^32 + 1), wd (5 * 2^31), 77, 0], 9, by decide +kernel⟩

theorem wit_OccurrencesReachLines_8 : ∃ (s : State) (p : Fin 4) (f : Frame) (t : Nat),
    f.ty = 4 ∧ ((s.at t).acceptBroadcast p f).1 = false :=
  ⟨{ ready with halo := { ready.halo with seen := [(9, 4, 1, 0)] } }, 0, mkFrame 4 0xFFFFFF 9 [wd (2^32 + 1), wd (5 * 2^31), 77, 0], 9, by decide +kernel⟩

theorem wit_TimedEventsArmAndFire_1 : ∃ (s : State) (rq : Req) (a : Word) (b : Word) (c : Word) (d : Word) (t : Nat) (n : Nat),
    s.takes rq 0x0910 0x00 0 [a, b, c, d] Env.calm t = true ∧ (fld c 16 24 = 0xFFFFFF ∨ fld c 16 24 = s.ownDevice) ∧ s.teFree = some n ∧ (s.at t).now.toNat + 128000 ≤ (u80 a b).toNat :=
  ⟨ready, rq0, 500000, 0, wd (0xFFFFFF * 65536 + 3), 5, 9, 0, by decide +kernel⟩

theorem wit_TimedEventsArmAndFire_2 : ∃ (s : State) (rq : Req) (a : Word) (b : Word) (c : Word) (d : Word) (t : Nat),
    s.takes rq 0x0910 0x00 0 [a, b, c, d] Env.calm t = true ∧ fld c 16 24 ≠ 0xFFFFFF ∧ fld c 16 24 ≠ s.ownDevice :=
  ⟨ready, rq0, 500000, 0, wd (12 * 65536 + 3), 5, 9, by decide +kernel⟩

theorem wit_TimedEventsArmAndFire_3 : ∃ (s : State) (rq : Req) (w : Word) (t : Nat) (n : Nat),
    s.takes rq 0x0910 0x01 0 [w] Env.calm t = true ∧ (fld w 16 24 = 0xFFFFFF ∨ fld w 16 24 = s.ownDevice) ∧ s.teFind s.ownDevice (fld w 0 16) (fun st => st = 1) = some n :=
  ⟨((ready.setRegN 0x0920 0 1).setRegN 0x0920 4 5).setReg 0x0920 3 (ready.reg 0x1100 0), rq0, wd (0xFFFFFF * 65536 + 5), 9, 0, by decide +kernel⟩

theorem wit_TimedEventsArmAndFire_4 : ∃ (s : State) (slot : Fin 64) (t : Nat),
    s.teState slot = 1 ∧ (s.reg80 (0x0920 + slot) 0x01).toNat ≤ (s.at t).now.toNat :=
  ⟨((ready.setRegN 0x0920 0 1).setReg80 0x0920 1 50).setRegN 0x0920 2 4, 0, 50 * 32, by decide +kernel⟩

theorem wit_TimedEventsArmAndFire_5 : ∃ (s : State) (p : Fin 4) (f : Frame) (t : Nat) (n : Nat),
    f.ty = 5 ∧ fld (fpay f 1) 36 4 = 1 ∧ ((s.at t).acceptBroadcast p f).1 = true ∧ (fld (fpay f 0) 16 24 = 0xFFFFFF ∨ fld (fpay f 0) 16 24 = s.ownDevice) ∧ s.teFind f.src.toNat (fld (fpay f 1) 0 16) (fun st => st ≠ 0) = none ∧ s.teFree = some n ∧ (s.at t).now.toNat + 128000 ≤ (u80 (fpay f 2) (fpay f 3)).toNat :=
  ⟨ready, 0, mkFrame 5 0xFFFFFF 9 [wd (0xFFFFFF * 65536 + 1), wd (2^36 + 3 * 65536 + 5), 500000, 0], 9, 0, by decide +kernel⟩

theorem wit_TimedEventsArmAndFire_6 : ∃ (s : State) (p : Fin 4) (f : Frame) (t : Nat) (n : Nat),
    f.ty = 5 ∧ fld (fpay f 1) 36 4 = 2 ∧ ((s.at t).acceptBroadcast p f).1 = true ∧ (fld (fpay f 0) 16 24 = 0xFFFFFF ∨ fld (fpay f 0) 16 24 = s.ownDevice) ∧ s.teFind f.src.toNat (fld (fpay f 1) 0 16) (fun st => st = 1) = some n :=
  ⟨((ready.setRegN 0x0920 0 1).setRegN 0x0920 4 5).setRegN 0x0920 3 9, 0, mkFrame 5 0xFFFFFF 9 [wd (0xFFFFFF * 65536 + 2), wd (2 * 2^36 + 5), 0, 0], 9, 0, by decide +kernel⟩

theorem wit_VectorsPlay_1 : ∃ (s : State) (c : Fin 48) (v : Vec),
    s.duePlays c v = true ∧ vecOp v = 0x00 :=
  ⟨run5 0 0, 5, vec 0 0, by decide +kernel⟩

theorem wit_VectorsPlay_2 : ∃ (s : State) (c : Fin 48) (v : Vec) (n : Nat) (first : Nat),
    s.duePlays c v = true ∧ vecOp v = 0x01 ∧ (s.sq c).rpt = some (n, first) ∧ 1 < n :=
  ⟨(run5 1 7).onSq 5 (fun q => { q with rpt := some (4, 20) }), 5, vec 1 7, 4, 20, by decide +kernel⟩

theorem wit_VectorsPlay_3 : ∃ (s : State) (c : Fin 48) (v : Vec) (first : Nat),
    s.duePlays c v = true ∧ vecOp v = 0x01 ∧ (s.sq c).rpt = some (1, first) :=
  ⟨(run5 1 7).onSq 5 (fun q => { q with rpt := some (1, 20) }), 5, vec 1 7, 20, by decide +kernel⟩

theorem wit_VectorsPlay_4 : ∃ (s : State) (c : Fin 48) (v : Vec),
    s.duePlays c v = true ∧ vecOp v = 0x01 ∧ (s.sq c).rpt = none ∧ 1 < vecOperand v :=
  ⟨run5 1 7, 5, vec 1 7, by decide +kernel⟩

theorem wit_VectorsPlay_5 : ∃ (s : State) (c : Fin 48) (v : Vec) (k : Nat),
    s.duePlays c v = true ∧ vecOp v = 2 + k ∧ k < 4 ∧ (s.sq c).ctl.loops.length = 4 :=
  ⟨run5 3 9, 5, vec 3 9, 1, by decide +kernel⟩

theorem wit_VectorsPlay_6 : ∃ (s : State) (c : Fin 48) (v : Vec) (k : Nat) (l : LoopSt),
    s.duePlays c v = true ∧ vecOp v = 6 + k ∧ k < 4 ∧ (s.sq c).ctl.loops.length = 4 ∧ (s.sq c).ctl.loop k = some l ∧ 1 < l.count :=
  ⟨loop5 7 0 3, 5, vec 7 0, 1, ⟨3, 9, false, 9, 15, false⟩, by decide +kernel⟩

theorem wit_VectorsPlay_7 : ∃ (s : State) (c : Fin 48) (v : Vec) (k : Nat) (l : LoopSt),
    s.duePlays c v = true ∧ vecOp v = 6 + k ∧ k < 4 ∧ (s.sq c).ctl.loops.length = 4 ∧ (s.sq c).ctl.loop k = some l ∧ l.count ≤ 1 :=
  ⟨loop5 7 0 1, 5, vec 7 0, 1, ⟨1, 9, false, 9, 15, false⟩, by decide +kernel⟩

theorem wit_ControlFlowLeadsOn_1 : ∃ (s : State) (c : Fin 48) (v : Vec),
    s.duePlays c v = true ∧ vecOp v = 0x0A :=
  ⟨(run5 10 2).setAct (seqIdx 1 5) 9 2 77, 5, vec 10 2, by decide +kernel⟩

theorem wit_ControlFlowLeadsOn_2 : ∃ (s : State) (c : Fin 48) (v : Vec),
    s.duePlays c v = true ∧ vecOp v = 0x0B :=
  ⟨run5 11 16380, 5, vec 11 16380, by decide +kernel⟩

theorem wit_ControlFlowLeadsOn_3 : ∃ (s : State) (c : Fin 48) (v : Vec),
    s.duePlays c v = true ∧ vecOp v = 0x0C :=
  ⟨(run5 12 2).setAct (seqIdx 1 5) 9 2 77, 5, vec 12 2, by decide +kernel⟩

theorem wit_ControlFlowLeadsOn_4 : ∃ (s : State) (c : Fin 48) (v : Vec) (a : Nat) (st : List Nat),
    s.duePlays c v = true ∧ vecOp v = 0x0D ∧ (s.sq c).ctl.stack = a :: st :=
  ⟨(run5 13 2).onSq 5 (fun q => { q with ctl := { q.ctl with stack := [99, 98] } }), 5, vec 13 2, 99, [98], by decide +kernel⟩

theorem wit_ControlFlowLeadsOn_5 : ∃ (s : State) (c : Fin 48) (v : Vec),
    s.duePlays c v = true ∧ vecOp v = 0x13 :=
  ⟨(run5 19 2).setAct (seqIdx 0x21 5) 0 2 1, 5, vec 19 2, by decide +kernel⟩

theorem wit_ControlFlowLeadsOn_6 : ∃ (s : State) (c : Fin 48) (v : Vec),
    s.duePlays c v = true ∧ vecOp v = 0x14 :=
  ⟨run5 20 0, 5, vec 20 0, by decide +kernel⟩

theorem wit_ControlFlowLeadsOn_7 : ∃ (s : State) (c : Fin 48) (v : Vec),
    s.seqState c = 3 ∧ (s.sq c).phase = .play ∧ (s.sq c).gap = none ∧ s.unmapped (s.sq c).ctl.pc = false ∧ (s.sq c).onHand = some v ∧ v.poison = false ∧ 0x15 ≤ vecOp v :=
  ⟨run5 25 0, 5, vec 25 0, by decide +kernel⟩

theorem wit_BlocksSegmentsAndWaits_1 : ∃ (s : State) (c : Fin 48) (v : Vec) (b : BlockSt),
    s.duePlays c v = true ∧ vecOp v = 0x0E ∧ (s.sq c).block = some b :=
  ⟨(block5 14 9 4).onSq 5 (fun q => { q with block := q.block.map (fun b => { b with start := 16, iter := 2, back := true }) }), 5, vec 14 9, ⟨16, 4, 2, 60000, [⟨3, 2, none⟩], 2, 0, [], none, 60000, true⟩, by decide +kernel⟩

theorem wit_BlocksSegmentsAndWaits_2 : ∃ (s : State) (c : Fin 48) (v : Vec),
    s.duePlays c v = true ∧ vecOp v = 0x0E ∧ (s.sq c).block = none :=
  ⟨run5 14 9, 5, vec 14 9, by decide +kernel⟩

theorem wit_BlocksSegmentsAndWaits_3 : ∃ (s : State) (c : Fin 48) (v : Vec) (b : BlockSt),
    s.duePlays c v = true ∧ vecOp v = 0x0F ∧ (s.sq c).block = some b ∧ s.sqAct c 1 7 = 0 ∧ b.iter < b.limit ∧ (∃ x ∈ b.sites, x.matched = none ∧ x.lanes &&& s.sqAct c 1 6 &&& b.failed ≠ 0) :=
  ⟨block5 15 0 4, 5, vec 15 0, ⟨9, 4, 1, 60000, [⟨3, 2, none⟩], 2, 0, [], none, 60000, false⟩, by decide +kernel⟩

theorem wit_BlocksSegmentsAndWaits_4 : ∃ (s : State) (c : Fin 48) (v : Vec) (b : BlockSt),
    s.duePlays c v = true ∧ vecOp v = 0x0F ∧ (s.sq c).block = some b ∧ s.sqAct c 1 7 = 0 ∧ (∀ x ∈ b.sites, x.matched ≠ none) :=
  ⟨(block5 15 0 4).onSq 5 (fun q => { q with block := q.block.map (fun b => { b with sites := [⟨3, 2, some (1, 9)⟩] }) }), 5, vec 15 0, ⟨9, 4, 1, 60000, [⟨3, 2, some (1, 9)⟩], 2, 0, [], none, 60000, false⟩, by decide +kernel⟩

theorem wit_BlocksSegmentsAndWaits_5 : ∃ (s : State) (c : Fin 48) (v : Vec) (b : BlockSt),
    s.duePlays c v = true ∧ vecOp v = 0x0F ∧ (s.sq c).block = some b ∧ s.sqAct c 1 7 ≠ 0 ∧ b.groupDone = none ∧ b.iter < b.limit :=
  ⟨(block5 15 0 4).setAct (seqIdx 1 5) 7 0 3, 5, vec 15 0, ⟨9, 4, 1, 60000, [⟨3, 2, none⟩], 2, 0, [], none, 60000, false⟩, by decide +kernel⟩

theorem wit_BlocksSegmentsAndWaits_6 : ∃ (s : State) (c : Fin 48) (v : Vec) (b : BlockSt),
    s.duePlays c v = true ∧ vecOp v = 0x0F ∧ (s.sq c).block = some b ∧ s.sqAct c 1 7 = 0 ∧ b.limit ≤ b.iter :=
  ⟨block5 15 0 1, 5, vec 15 0, ⟨9, 1, 1, 60000, [⟨3, 2, none⟩], 2, 0, [], none, 60000, false⟩, by decide +kernel⟩

theorem wit_BlocksSegmentsAndWaits_7 : ∃ (s : State) (c : Fin 48) (v : Vec),
    s.duePlays c v = true ∧ vecOp v = 0x10 :=
  ⟨run5 16 8192, 5, vec 16 8192, by decide +kernel⟩

theorem wit_BlocksSegmentsAndWaits_8 : ∃ (s : State) (c : Fin 48) (v : Vec),
    s.duePlays c v = true ∧ vecOp v = 0x11 ∧ s.devState ≠ 2 ∧ s.devState ≠ 5 ∧ s.devState ≠ 6 :=
  ⟨(run5 17 3).setRegN 0x0A07 2 0x102B, 5, vec 17 3, by decide +kernel⟩

theorem wit_BlocksSegmentsAndWaits_9 : ∃ (s : State) (c : Fin 48) (v : Vec),
    s.duePlays c v = true ∧ vecOp v = 0x11 ∧ (s.devState = 2 ∨ s.devState = 5 ∨ s.devState = 6) :=
  ⟨(run5 17 3).setRegN 0x0100 0 5, 5, vec 17 3, by decide +kernel⟩

theorem wit_BlocksSegmentsAndWaits_10 : ∃ (s : State) (c : Fin 48) (v : Vec),
    s.duePlays c v = true ∧ vecOp v = 0x12 ∧ (s.sq c).wait = none ∧ (∀ r ∈ ((s.sq c).foundAt (vecOperand v)).toList, (s.sq c).due + s.period c (vecSet v) < r) :=
  ⟨run5 18 3, 5, vec 18 3, by decide +kernel⟩

theorem wit_BlocksSegmentsAndWaits_11 : ∃ (s : State) (c : Fin 48) (v : Vec) (r : Nat),
    s.duePlays c v = true ∧ vecOp v = 0x12 ∧ (s.sq c).wait = none ∧ (s.sq c).foundAt (vecOperand v) = some r ∧ r ≤ (s.sq c).due + s.period c (vecSet v) :=
  ⟨(run5 18 8195).onSq 5 (fun q => { q with seen := [(3, 9)] }), 5, vec 18 8195, ((run5 18 8195).sq 5).due, by decide +kernel⟩

theorem wit_BlocksSegmentsAndWaits_12 : ∃ (s : State) (c : Fin 48) (v : Vec) (w : WaitSt),
    s.duePlays c v = true ∧ vecOp v = 0x12 ∧ (s.sq c).wait = some w ∧ (∀ r ∈ w.release.toList, (s.sq c).due + s.period c (vecSet v) < r) :=
  ⟨(run5 18 3).onSq 5 (fun q => { q with wait := some ⟨50, 3, false, none⟩ }), 5, vec 18 3, ⟨50, 3, false, none⟩, by decide +kernel⟩

theorem wit_BlocksSegmentsAndWaits_13 : ∃ (s : State) (c : Fin 48) (v : Vec) (w : WaitSt) (r : Nat),
    s.duePlays c v = true ∧ vecOp v = 0x12 ∧ (s.sq c).wait = some w ∧ w.release = some r ∧ r ≤ (s.sq c).due + s.period c (vecSet v) :=
  ⟨(run5 18 3).onSq 5 (fun q => { q with wait := some ⟨50, 3, false, some 99⟩ }), 5, vec 18 3, ⟨50, 3, false, some 99⟩, 99, by decide +kernel⟩

theorem wit_RunsAreArmedAndStarted_1 : ∃ (s : State) (rq : Req) (c : Fin 48) (v : Word) (t : Nat),
    s.takes rq (seqIdx 0x00 c) 0x01 0 [v] Env.calm t = true :=
  ⟨(ready.setRegN (seqIdx 0 5) 4 33).setRegN (seqIdx 3 5) 5 7, rq0, 5, 1, 9, by decide +kernel⟩

theorem wit_RunsAreArmedAndStarted_2 : ∃ (s : State) (c : Fin 48),
    s.seqState c = 1 ∧ s.unmapped (s.sq c).ctl.pc = false ∧ s.fetchDone 2048 (s.sq c).fetch = true ∧ (s.sq c).store.all (s.fetchDone 512) = true ∧ (∀ e ∈ (s.sq c).fetch.ahead, e.2.poison = false) :=
  ⟨(seqAt5 1).onSq 5 (fun q => { q with fetch := ⟨Ctl.at 0, false, List.replicate 2048 (5, vec 0 0)⟩ }), 5, by decide +kernel⟩

theorem wit_RunsAreArmedAndStarted_3 : ∃ (s : State) (c : Fin 48),
    s.seqState c = 1 ∧ s.attached c = false ∧ s.unmapped (s.sq c).ctl.pc = true :=
  ⟨(seqAt5 1).onSq 5 (fun q => { q with ctl := Ctl.at 0xFFFFFFFF }), 5, by decide +kernel⟩

theorem wit_RunsAreArmedAndStarted_4 : ∃ (s : State) (c : Fin 48) (a : Nat) (v : Vec) (l : List (Nat × Vec)),
    s.seqState c = 1 ∧ s.attached c = false ∧ s.unmapped (s.sq c).ctl.pc = false ∧ (s.sq c).fetch.ahead = (a, v) :: l ∧ v.poison = true :=
  ⟨(seqAt5 1).onSq 5 (fun q => { q with fetch := ⟨Ctl.at 1, false, [(0, ⟨0, 0, 0, true⟩)]⟩ }), 5, 0, ⟨0, 0, 0, true⟩, [], by decide +kernel⟩

theorem wit_RunsAreArmedAndStarted_5 : ∃ (s : State) (c : Fin 48),
    s.seqState c = 1 ∧ s.attached c = true ∧ s.unmapped (s.sq c).ctl.pc = true :=
  ⟨(((seqAt5 1).setRegN (seqIdx 0x20 5) 0 3).setRegN (seqIdx 0x20 5) 9 1).onSq 5 (fun q => { q with ctl := Ctl.at 0xFFFFFFFF }), 5, by decide +kernel⟩

theorem wit_RunsAreArmedAndStarted_6 : ∃ (s : State) (rq : Req) (c : Fin 48) (v : Word) (t : Nat),
    s.takes rq (seqIdx 0x00 c) 0x02 0 [v] Env.calm t = true :=
  ⟨seqAt5 2, rq0, 5, 1, 9, by decide +kernel⟩

theorem wit_RunsAreArmedAndStarted_7 : ∃ (s : State) (c : Fin 48),
    s.seqState c = 2 ∧ (s.sq c).start = none ∧ s.devState ≠ 7 :=
  ⟨seqAt5 2, 5, by decide +kernel⟩

theorem wit_RunsAreArmedAndStarted_8 : ∃ (s : State) (c : Fin 48),
    (s.seqState c ≠ 2 ∨ (s.sq c).start ≠ none) ∧ s.devState ≠ 7 :=
  ⟨seqAt5 3, 5, by decide +kernel⟩

theorem wit_RunsAreArmedAndStarted_9 : ∃ (s : State) (c : Fin 48) (t : Nat) (r : Nat) (exact : Bool),
    s.seqState c = 2 ∧ (s.sq c).start = some (r, exact) ∧ r ≤ (s.at t).clock :=
  ⟨((seqAt5 2).setRegN 0x0100 0 3).onSq 5 (fun q => { q with start := some (5000, false) }), 5, 5600, 5000, false, by decide +kernel⟩

theorem wit_RunsAreStopped_1 : ∃ (s : State) (rq : Req) (c : Fin 48) (t : Nat),
    s.takes rq (seqIdx 0x00 c) 0x03 0 [1] Env.calm t = true ∧ s.seqState c = 3 :=
  ⟨seqAt5 3, rq0, 5, 9, by decide +kernel⟩

theorem wit_RunsAreStopped_2 : ∃ (s : State) (rq : Req) (c : Fin 48) (t : Nat),
    s.takes rq (seqIdx 0x00 c) 0x03 0 [2] Env.calm t = true ∧ s.seqState c = 3 :=
  ⟨seqAt5 3, rq0, 5, 9, by decide +kernel⟩

theorem wit_RunsAreStopped_3 : ∃ (s : State) (rq : Req) (c : Fin 48) (t : Nat),
    s.takes rq (seqIdx 0x00 c) 0x03 0 [2] Env.calm t = true ∧ (s.seqState c = 1 ∨ s.seqState c = 2) :=
  ⟨seqAt5 2, rq0, 5, 9, by decide +kernel⟩

theorem wit_RunsAreStopped_4 : ∃ (s : State) (rq : Req) (g : Fin 48) (v : Word) (t : Nat),
    s.takes rq (0x3C00 + g) 0x01 0 [v] Env.calm t = true :=
  ⟨((ready.setRegN 0x3C01 2 64).setRegN (seqIdx 0x20 7) 0 1).setRegN (seqIdx 0x20 9) 0 1, rq0, 1, 1, 9, by decide +kernel⟩

theorem wit_RunsAreStopped_5 : ∃ (s : State) (g : Fin 48) (t : Nat) (h : Nat),
    (s.grp g).holding = some h ∧ (s.at t).clock < h + usEt (s.regN (0x3C00 + g) 3) :=
  ⟨(ready.setRegN 0x3C03 3 50).setGrp 3 ⟨0, some 8⟩, 3, 9, 8, by decide +kernel⟩

theorem wit_RunsAreStopped_6 : ∃ (s : State) (g : Fin 48) (t : Nat) (h : Nat),
    (s.grp g).holding = some h ∧ h + usEt (s.regN (0x3C00 + g) 3) ≤ (s.at t).clock ∧ (∃ d ∈ s.attachedTo g, ∃ e ∈ s.attachedTo g, (s.sq d).taken < (s.sq e).taken) :=
  ⟨((((((((ready.setRegN (seqIdx 0x20 7) 0 3).setRegN (seqIdx 0x20 7) 9 1).setRegN (seqIdx 0 7) 0 3).setRegN (seqIdx 0x20 9) 0 3).setRegN (seqIdx 0x20 9) 9 1).setRegN (seqIdx 0 9) 0 3).onSq 7 (fun q => { q with taken := 3 })).onSq 9 (fun q => { q with taken := 4 })).setGrp 3 ⟨0, some 8⟩, 3, usEt 60000, 8, by decide +kernel⟩

theorem wit_JumpsAreDecidedAtBoundaries_1 : ∃ (s : State) (rq : Req) (c : Fin 48) (v : Word) (t : Nat),
    s.takes rq (seqIdx 0x02 c) 0x00 0 [v] Env.calm t = true ∧ (s.sq c).closed = none :=
  ⟨seqAt5 3, rq0, 5, 2, 9, by decide +kernel⟩

theorem wit_JumpsAreDecidedAtBoundaries_2 : ∃ (s : State) (c : Fin 48),
    s.seqState c ≠ 3 :=
  ⟨seqAt5 2, 5, by decide +kernel⟩

theorem wit_JumpsAreDecidedAtBoundaries_3 : ∃ (s : State) (c : Fin 48) (t : Nat) (k : Nat),
    s.seqState c = 3 ∧ (s.sq c).closed = some k ∧ k < (s.at t).clock :=
  ⟨(seqAt5 3).onSq 5 (fun q => { q with closed := some 5 }), 5, 9, 5, by decide +kernel⟩

theorem wit_JumpsAreDecidedAtBoundaries_4 : ∃ (s : State) (c : Fin 48),
    s.seqState c = 3 ∧ (s.sq c).closed = none :=
  ⟨seqAt5 3, 5, by decide +kernel⟩

theorem wit_JumpsAreDecidedAtBoundaries_5 : ∃ (s : State) (c : Fin 48) (t : Nat) (j : JumpReq),
    s.seqState c = 3 ∧ (s.sq c).closed = none ∧ (s.sq c).jump = some j ∧ (j.reached < (s.sq c).segFrom ∨ j.arrival < (s.at t).clock ∨ j.deferred = true) :=
  ⟨((seqAt5 3).setAct (seqIdx 1 5) 9 2 77).onSq 5 (fun q => { q with jump := some ⟨2, 3, 4, false⟩, segFrom := 8 }), 5, 9, ⟨2, 3, 4, false⟩, by decide +kernel⟩

theorem wit_JumpsAreDecidedAtBoundaries_6 : ∃ (s : State) (c : Fin 48) (t : Nat) (j : JumpReq),
    s.seqState c = 3 ∧ (s.sq c).closed = none ∧ (s.sq c).jump = some j ∧ (s.sq c).segFrom ≤ j.reached ∧ (s.at t).clock ≤ j.arrival ∧ j.deferred = false :=
  ⟨(seqAt5 3).onSq 5 (fun q => { q with jump := some ⟨2, 30, 40, false⟩, segFrom := 8 }), 5, 9, ⟨2, 30, 40, false⟩, by decide +kernel⟩

theorem wit_JumpsAreDecidedAtBoundaries_7 : ∃ (s : State) (c : Fin 48),
    s.seqState c = 3 ∧ (s.sq c).closed = none ∧ (s.sq c).jump = none :=
  ⟨seqAt5 3, 5, by decide +kernel⟩

theorem wit_JumpsAreDecidedAtBoundaries_8 : ∃ (s : State) (c : Fin 48) (safe : Bool) (r : Nat),
    s.seqState c = 3 ∧ (s.sq c).phase = .boundary safe ∧ (s.sq c).stopReq = some r ∧ (r < (s.sq c).segFrom ∨ r < (s.sq c).windowClose) :=
  ⟨bound5.onSq 5 (fun q => { q with stopReq := some 3, segFrom := 8 }), 5, false, 3, by decide +kernel⟩

theorem wit_JumpsAreDecidedAtBoundaries_9 : ∃ (s : State) (c : Fin 48) (safe : Bool),
    s.seqState c = 3 ∧ (s.sq c).phase = .boundary safe ∧ (s.sq c).stopReq = none ∧ (s.sq c).jump = none :=
  ⟨bound5, 5, false, by decide +kernel⟩

theorem wit_JumpsAreDecidedAtBoundaries_10 : ∃ (s : State) (c : Fin 48) (safe : Bool) (j : JumpReq),
    s.seqState c = 3 ∧ (s.sq c).phase = .boundary safe ∧ (s.sq c).stopReq = none ∧ (s.sq c).jump = some j ∧ (j.reached < (s.sq c).segFrom ∨ (j.arrival < (s.sq c).windowClose ∧ j.reached ≤ (s.sq c).windowClose)) :=
  ⟨(bound5.setAct (seqIdx 1 5) 9 2 77).onSq 5 (fun q => { q with jump := some ⟨2, 3, 4, false⟩, segFrom := 8 }), 5, false, ⟨2, 3, 4, false⟩, by decide +kernel⟩

theorem wit_JumpsAreDecidedAtBoundaries_11 : ∃ (s : State) (c : Fin 48) (safe : Bool) (j : JumpReq),
    s.seqState c = 3 ∧ (s.sq c).phase = .boundary safe ∧ (s.sq c).stopReq = none ∧ (s.sq c).jump = some j ∧ (s.sq c).segFrom ≤ j.reached ∧ ((s.sq c).windowClose ≤ j.arrival ∨ (s.sq c).windowClose < j.reached) ∧ j.deferred = false :=
  ⟨bound5.onSq 5 (fun q => { q with jump := some ⟨2, 300, 400, false⟩, segFrom := 8 }), 5, false, ⟨2, 300, 400, false⟩, by decide +kernel⟩

theorem wit_JumpsAreDecidedAtBoundaries_12 : ∃ (s : State) (c : Fin 48) (v : Vec),
    s.duePlays c v = true ∧ vecOp v = 0x00 ∧ (s.sq c).opening = true :=
  ⟨(run5 0 0).onSq 5 (fun q => { q with opening := true, tb := 600 }), 5, vec 0 0, by decide +kernel⟩

theorem wit_JumpsAreDecidedAtBoundaries_13 : ∃ (s : State) (c : Fin 48) (till : Nat),
    s.seqState c = 3 ∧ (s.sq c).phase = .gap till :=
  ⟨bound5.onSq 5 (fun q => { q with phase := .gap 9 }), 5, 9, by decide +kernel⟩

theorem wit_WaitsAndStreams_1 : ∃ (s : State) (c : Fin 48) (line : Fin 512) (stamp : U80) (timed : Bool) (w : WaitSt),
    s.seqState c = 3 ∧ (s.sq c).wait = some w ∧ w.line = line.val ∧ w.release = none ∧ (w.first ≤ s.localOf stamp * 32 ∨ (w.latched = true ∧ (s.sq c).segFrom ≤ s.localOf stamp * 32)) ∧ ((s.sq c).due < max (s.releaseAt stamp timed) w.first ∨ (s.sq c).onHand = none) :=
  ⟨wait5, 5, 3, 100, true, ⟨50, 3, false, none⟩, by decide +kernel⟩

theorem wit_WaitsAndStreams_2 : ∃ (s : State) (c : Fin 48) (line : Fin 512) (stamp : U80) (timed : Bool) (w : WaitSt) (v : Vec),
    s.seqState c = 3 ∧ (s.sq c).wait = some w ∧ w.line = line.val ∧ w.release = none ∧ (w.first ≤ s.localOf stamp * 32 ∨ (w.latched = true ∧ (s.sq c).segFrom ≤ s.localOf stamp * 32)) ∧ max (s.releaseAt stamp timed) w.first ≤ (s.sq c).due ∧ (s.sq c).onHand = some v ∧ vecOp v = 0x12 :=
  ⟨(run5 18 3).onSq 5 (fun q => { q with wait := some ⟨50, 3, false, none⟩ }), 5, 3, 100, true, ⟨50, 3, false, none⟩, vec 18 3, by decide +kernel⟩

theorem wit_WaitsAndStreams_3 : ∃ (s : State) (c : Fin 48) (line : Fin 512) (stamp : U80) (w : WaitSt),
    (s.sq c).wait = some w ∧ (w.line ≠ line.val ∨ w.release ≠ none ∨ (s.localOf stamp * 32 < w.first ∧ (w.latched = false ∨ s.localOf stamp * 32 < (s.sq c).segFrom))) :=
  ⟨wait5, 5, 4, 100, ⟨50, 3, false, none⟩, by decide +kernel⟩

theorem wit_WaitsAndStreams_4 : ∃ (s : State) (c : Fin 48),
    (s.sq c).wait = none :=
  ⟨dry5, 5, by decide +kernel⟩

theorem wit_WaitsAndStreams_5 : ∃ (s : State) (c : Fin 48) (t : Nat) (w : WaitSt),
    s.seqState c = 3 ∧ (s.sq c).wait = some w ∧ w.release = none ∧ s.sqAct c 1 8 ≠ 0 ∧ w.first + nsEt (s.sqAct c 1 8) ≤ (s.at t).clock ∧ ((s.sq c).due < w.first + nsEt (s.sqAct c 1 8) ∨ (s.sq c).onHand = none) :=
  ⟨wait5.setAct (seqIdx 1 5) 8 0 100, 5, nsEt 200, ⟨50, 3, false, none⟩, by decide +kernel⟩

theorem wit_WaitsAndStreams_6 : ∃ (s : State) (c : Fin 48) (t : Nat) (w : WaitSt) (v : Vec),
    s.seqState c = 3 ∧ (s.sq c).wait = some w ∧ w.release = none ∧ s.sqAct c 1 8 ≠ 0 ∧ w.first + nsEt (s.sqAct c 1 8) ≤ (s.at t).clock ∧ w.first + nsEt (s.sqAct c 1 8) ≤ (s.sq c).due ∧ (s.sq c).onHand = some v ∧ vecOp v = 0x12 :=
  ⟨((run5 18 3).setAct (seqIdx 1 5) 8 0 1).onSq 5 (fun q => { q with wait := some ⟨50, 3, false, none⟩ }), 5, nsEt 200, ⟨50, 3, false, none⟩, vec 18 3, by decide +kernel⟩

theorem wit_WaitsAndStreams_7 : ∃ (s : State) (c : Fin 48) (t : Nat),
    (∀ w ∈ (s.sq c).wait.toList, w.release ≠ none ∨ s.sqAct c 1 8 = 0 ∨ (s.at t).clock < w.first + nsEt (s.sqAct c 1 8)) :=
  ⟨wait5, 5, 9, by decide +kernel⟩

theorem wit_WaitsAndStreams_8 : ∃ (s : State) (c : Fin 48),
    (s.sqAct c 1 7 = 0 ∨ (s.sq c).block = none) :=
  ⟨wait5, 5, by decide +kernel⟩

theorem wit_WaitsAndStreams_9 : ∃ (s : State) (c : Fin 48) (b : BlockSt),
    s.sqAct c 1 7 ≠ 0 ∧ (s.sq c).block = some b :=
  ⟨(wait5.setAct (seqIdx 1 5) 7 0 2).onSq 5 (fun q => { q with block := some ⟨9, 4, 1, 60000, [⟨3, 2, none⟩], 2, 0, [], none, 60000, false⟩ }), 5, ⟨9, 4, 1, 60000, [⟨3, 2, none⟩], 2, 0, [], none, 60000, false⟩, by decide +kernel⟩

theorem wit_WaitsAndStreams_10 : ∃ (s : State) (c : Fin 48) (b : BlockSt) (r : Nat × Nat × Nat) (x : SiteSt),
    s.sqAct c 1 7 ≠ 0 ∧ (s.sq c).block = some b ∧ b.sites = [x] ∧ x.matched = none ∧ b.results = [r] ∧ r.2.2 = 0 ∧ s.groupMates (s.sqAct c 1 7) = [c.val] :=
  ⟨(wait5.setAct (seqIdx 1 5) 7 0 2).onSq 5 (fun q => { q with block := some ⟨9, 4, 1, 60000, [⟨3, 2, none⟩], 2, 0, [(1, 77, 0)], none, 60000, false⟩ }), 5, ⟨9, 4, 1, 60000, [⟨3, 2, none⟩], 2, 0, [(1, 77, 0)], none, 60000, false⟩, (1, 77, 0), ⟨3, 2, none⟩, by decide +kernel⟩

theorem wit_WaitsAndStreams_11 : ∃ (s : State) (c : Fin 48),
    1 ≤ s.seqState c ∧ s.seqState c ≤ 3 ∧ s.attached c = false ∧ s.fetchWants 2048 (s.sq c).fetch = true ∧ (s.sq c).fetch.ctl.pc < 0xC0000000 ∧ parityBad (s.line ((s.sq c).fetch.ctl.pc / 2)) = false :=
  ⟨dry5, 5, by decide +kernel⟩

theorem wit_WaitsAndStreams_12 : ∃ (s : State) (c : Fin 48) (e : LineData),
    1 ≤ s.seqState c ∧ s.seqState c ≤ 3 ∧ s.attached c = false ∧ s.fetchWants 2048 (s.sq c).fetch = true ∧ (s.sq c).fetch.ctl.pc < 0xC0000000 ∧ parityBad ((s.line ((s.sq c).fetch.ctl.pc / 2)) ^^^ e) = true :=
  ⟨dry5, 5, 1, by decide +kernel⟩

theorem wit_WaitsAndStreams_13 : ∃ (s : State) (c : Fin 48) (k : Fin 4) (f : Fetch),
    1 ≤ s.seqState c ∧ s.seqState c ≤ 3 ∧ (s.sq c).store[k.val]? = some f ∧ s.fetchWants 512 f = true ∧ f.ctl.pc < 0xC0000000 ∧ parityBad (s.line (f.ctl.pc / 2)) = false :=
  ⟨dry5.onSq 5 (fun q => { q with store := [Fetch.idle, Fetch.start (Ctl.at 88), Fetch.idle, Fetch.idle] }), 5, 1, Fetch.start (Ctl.at 88), by decide +kernel⟩

theorem wit_WaitsAndStreams_14 : ∃ (s : State) (c : Fin 48) (a : Nat) (f : Fetch),
    1 ≤ s.seqState c ∧ s.seqState c ≤ 3 ∧ (s.sq c).coming = some (a, f) ∧ s.fetchWants 2048 f = true ∧ f.ctl.pc < 0xC0000000 ∧ parityBad (s.line (f.ctl.pc / 2)) = false :=
  ⟨dry5.onSq 5 (fun q => { q with coming := some (88, Fetch.start (Ctl.at 88)) }), 5, 88, Fetch.start (Ctl.at 88), by decide +kernel⟩

theorem wit_WaitsAndStreams_15 : ∃ (s : State) (c : Fin 48),
    (s.seqState c = 0 ∨ 4 ≤ s.seqState c ∨ (s.attached c = false ∧ s.fetchWants 2048 (s.sq c).fetch = false)) :=
  ⟨dry5.onSq 5 (fun q => { q with fetch := full }), 5, by decide +kernel⟩

theorem wit_WaitsAndStreams_16 : ∃ (s : State) (c : Fin 48) (g : Nat),
    1 ≤ s.seqState c ∧ s.seqState c ≤ 3 ∧ s.attached c = true ∧ s.bcastGroup c = g ∧ (∀ d ∈ s.attachedTo g, (s.sq d).fetch.ctl.pc = (s.grp g).next ∧ s.fetchWants 2048 (s.sq d).fetch = true) ∧ (s.grp g).next < 0xC0000000 ∧ parityBad (s.line ((s.grp g).next / 2)) = false :=
  ⟨both59, 5, 3, by decide +kernel⟩

theorem wit_WaitsAndStreams_17 : ∃ (s : State) (c : Fin 48) (g : Nat),
    1 ≤ s.seqState c ∧ s.seqState c ≤ 3 ∧ s.attached c = true ∧ s.bcastGroup c = g ∧ (∀ d ∈ s.attachedTo g, (s.sq d).fetch.ctl.pc = (s.grp g).next) ∧ (∃ d ∈ s.attachedTo g, s.fetchWants 2048 (s.sq d).fetch = false) :=
  ⟨both59.onSq 9 (fun q => { q with fetch := full }), 5, 3, by decide +kernel⟩

theorem wit_WaitsAndStreams_18 : ∃ (s : State) (c : Fin 48),
    s.seqState c = 3 ∧ (s.sq c).phase = .play ∧ (s.sq c).onHand = none ∧ s.unmapped (s.sq c).ctl.pc = false ∧ (s.sq c).gap = none ∧ s.gapCause c ≠ 3 :=
  ⟨dry5, 5, by decide +kernel⟩

theorem wit_WaitsAndStreams_19 : ∃ (s : State) (c : Fin 48) (h : Nat),
    s.seqState c = 3 ∧ (s.sq c).phase = .play ∧ (s.sq c).onHand = none ∧ s.unmapped (s.sq c).ctl.pc = false ∧ (s.sq c).gap = none ∧ s.gapCause c = 3 ∧ s.bcastGroup c < 48 ∧ h = ((s.grp (s.bcastGroup c)).holding).getD (s.sq c).due :=
  ⟨both59.onSq 9 (fun q => { q with fetch := full }), 5, 70000, by decide +kernel⟩

theorem wit_WaitsAndStreams_20 : ∃ (s : State) (c : Fin 48) (g : GapSt),
    s.seqState c = 3 ∧ (s.sq c).phase = .play ∧ (s.sq c).onHand = none ∧ s.unmapped (s.sq c).ctl.pc = false ∧ (s.sq c).gap = some g :=
  ⟨dry5.onSq 5 (fun q => { q with gap := some ⟨9, 4, 1⟩ }), 5, ⟨9, 4, 1⟩, by decide +kernel⟩

theorem wit_WaitsAndStreams_21 : ∃ (s : State) (c : Fin 48) (g : GapSt) (v : Vec),
    s.seqState c = 3 ∧ (s.sq c).gap = some g ∧ (s.sq c).onHand = some v :=
  ⟨(run5 0 0).onSq 5 (fun q => { q with gap := some ⟨9, 4, 1⟩ }), 5, ⟨9, 4, 1⟩, vec 0 0, by decide +kernel⟩

theorem wit_WaitsAndStreams_22 : ∃ (s : State) (c : Fin 48) (g : GapSt) (v : Vec),
    s.seqState c = 3 ∧ (s.sq c).gap = some g ∧ (s.sq c).onHand = some v ∧ g.cause = 3 ∧ s.attached c = true ∧ s.bcastGroup c < 48 ∧ (∀ d ∈ s.attachedTo (s.bcastGroup c), d = c.val ∨ ∀ h ∈ (s.sq d).gap.toList, h.cause ≠ 3) :=
  ⟨((run5 0 0).setRegN (seqIdx 0x20 5) 9 1).onSq 5 (fun q => { q with gap := some ⟨9, 4, 3⟩ }), 5, ⟨9, 4, 3⟩, vec 0 0, by decide +kernel⟩

theorem wit_AdcSequencesRun_1 : ∃ (s : State) (rq : Req) (c : Fin 48) (n : Fin 2) (v : Word) (t : Nat),
    s.takes rq (meaIdx n c) 0x01 0 [v] Env.calm t = true :=
  ⟨adc5, rq0, 5, 1, 1, 9, by decide +kernel⟩

theorem wit_AdcSequencesRun_2 : ∃ (s : State) (c : Fin 48) (n : Fin 2) (stamp : U80) (timed : Bool),
    s.regN (adcIdx c n) 0 = 1 ∧ stepTrig (s.stepWord c n (s.adcStep c n) 0) = 1 ∧ (s.adc c n).entry ≤ s.localOf stamp * 32 ∧ (∀ e ∈ (s.autoInstant c n).toList, s.releaseAt stamp timed ≤ e) :=
  ⟨adcWait, 5, 1, 300, false, by decide +kernel⟩

theorem wit_AdcSequencesRun_3 : ∃ (s : State) (c : Fin 48) (n : Fin 2) (stamp : U80) (timed : Bool) (e : Nat),
    s.regN (adcIdx c n) 0 = 1 ∧ stepTrig (s.stepWord c n (s.adcStep c n) 0) = 1 ∧ (s.adc c n).entry ≤ s.localOf stamp * 32 ∧ s.autoInstant c n = some e ∧ e < s.releaseAt stamp timed :=
  ⟨autoWait.setRegN (adcIdx 5 1) 5 10, 5, 1, 3000000, false, usEt 10, by decide +kernel⟩

theorem wit_AdcSequencesRun_4 : ∃ (s : State) (c : Fin 48) (n : Fin 2) (stamp : U80) (timed : Bool),
    stepTrig (s.stepWord c n (s.adcStep c n) 0) = 1 ∧ (s.adc c n).entry ≤ s.localOf stamp * 32 ∧ s.adcAutoAt c n (s.releaseAt stamp timed) = true :=
  ⟨(autoWait.setRegN (adcIdx 5 1) 0 2).onAdc 5 1 (fun a => { a with kind := 3, release := some (9600 + nsEt 64) }), 5, 1, 300, false, by decide +kernel⟩

theorem wit_AdcSequencesRun_5 : ∃ (s : State) (c : Fin 48) (n : Fin 2) (stamp : U80) (timed : Bool),
    (stepTrig (s.stepWord c n (s.adcStep c n) 0) ≠ 1 ∨ s.localOf stamp * 32 < (s.adc c n).entry ∨ (s.regN (adcIdx c n) 0 ≠ 1 ∧ s.adcAutoAt c n (s.releaseAt stamp timed) = false)) :=
  ⟨adc5, 5, 1, 300, false, by decide +kernel⟩

theorem wit_AdcSequencesRun_6 : ∃ (s : State) (c : Fin 48) (n : Fin 2) (t : Nat),
    s.regN (adcIdx c n) 0 = 1 ∧ bit (s.stepWord c n (s.adcStep c n) 0) 12 = true ∧ (s.adc c n).entry + usEt (s.regN (adcIdx c n) 5) ≤ (s.at t).clock :=
  ⟨(adcWait.setRegW (adcIdx 5 1) 3 0 (wd (3 * 2 ^ 19 + 2 ^ 16 + 2 ^ 13 + 2 ^ 12))).setRegN (adcIdx 5 1) 5 10, 5, 1, usEt 20, by decide +kernel⟩

theorem wit_AdcSequencesRun_7 : ∃ (s : State) (c : Fin 48) (n : Fin 2) (t : Nat),
    (∀ e ∈ (s.autoInstant c n).toList, s.regN (adcIdx c n) 0 ≠ 1 ∨ (s.at t).clock < e) :=
  ⟨adcWait, 5, 1, 9, by decide +kernel⟩

theorem wit_AdcSequencesRun_8 : ∃ (s : State) (c : Fin 48) (n : Fin 2) (z : Nat),
    s.regN (adcIdx c n) 0 = 2 ∧ (s.adc c n).armed = none ∧ (s.adc c n).s0 = some z ∧ z ≤ (s.adc c n).next ∧ (s.adc c n).started = true ∧ 0 < (s.adc c n).count ∧ (s.adc c n).count < stepAvg (s.stepWord c n (s.adcStep c n) 1) :=
  ⟨adcGoing, 5, 1, 0, by decide +kernel⟩

theorem wit_AdcSequencesRun_9 : ∃ (s : State) (c : Fin 48) (n : Fin 2) (z : Nat),
    s.regN (adcIdx c n) 0 = 2 ∧ (s.adc c n).armed = none ∧ (s.adc c n).s0 = some z ∧ z ≤ (s.adc c n).next ∧ (s.adc c n).started = false ∧ (s.adc c n).count = 0 ∧ stepTrig (s.stepWord c n (s.adcStep c n) 0) < 2 :=
  ⟨adcGoing.onAdc 5 1 (fun a => { a with started := false, count := 0 }), 5, 1, 0, by decide +kernel⟩

theorem wit_AdcSequencesRun_10 : ∃ (s : State) (c : Fin 48) (n : Fin 2) (w : Nat),
    s.regN (adcIdx c n) 0 = 1 ∧ (s.adc c n).armed = none ∧ (s.adc c n).s0 = none ∧ (s.adc c n).grid = some w ∧ (s.adc c n).count = 0 ∧ stepTrig (s.stepWord c n (s.adcStep c n) 0) < 2 :=
  ⟨(adcWait.setRegW (adcIdx 5 1) 3 2 (wd (2 ^ 16))).onAdc 5 1 (fun a => { a with grid := some 40960, next := 40960 }), 5, 1, 40960, by decide +kernel⟩

theorem wit_AdcSequencesRun_11 : ∃ (s : State) (c : Fin 48) (n : Fin 2) (code : BitVec 16) (compliance : Bool) (t : Nat) (w : Nat),
    s.regN (adcIdx c n) 0 = 1 ∧ (s.adc c n).armed = none ∧ (s.adc c n).s0 = none ∧ (s.adc c n).grid = some w ∧ (s.adc c n).count = 0 ∧ stepTrig (s.stepWord c n (s.adcStep c n) 0) = 2 ∧ (s.adc c n).low = true ∧ (s.stepWord c n (s.adcStep c n) 3).toInt * 65536 ≤ ((s.at (max t (s.adc c n).next)).adcValue c (stepLane (s.stepWord c n (s.adcStep c n) 0)) (stepQty (s.stepWord c n (s.adcStep c n) 0)) code compliance).1 :=
  ⟨((adcWait.setRegW (adcIdx 5 1) 3 0 (wd (3 * 2 ^ 19 + 2 ^ 16 + 2 * 2 ^ 13 + 2 ^ 7))).setRegN (peIdx 3 5) 3 1).onAdc 5 1 (fun a => { a with grid := some 40960, next := 40960, low := true }), 5, 1, 50000, false, 9, 40960, by decide +kernel⟩

theorem wit_AdcSequencesRun_12 : ∃ (s : State) (c : Fin 48) (n : Fin 2),
    (s.adc c n).armed = none ∧ ((s.regN (adcIdx c n) 0 ≠ 2 ∧ (s.regN (adcIdx c n) 0 ≠ 1 ∨ (s.adc c n).grid = none)) ∨ (s.adc c n).count = stepAvg (s.stepWord c n (s.adcStep c n) 1)) :=
  ⟨adc5, 5, 1, by decide +kernel⟩

theorem wit_AdcSequencesRun_13 : ∃ (s : State) (c : Fin 48) (n : Fin 2),
    s.regN (adcIdx c n) 0 = 2 ∧ (s.adc c n).started = true ∧ (s.adc c n).count = stepAvg (s.stepWord c n (s.adcStep c n) 1) :=
  ⟨adcGoing.onAdc 5 1 (fun a => { a with count := 4, sum := 786432 }), 5, 1, by decide +kernel⟩

theorem wit_AdcSequencesRun_14 : ∃ (s : State) (c : Fin 48) (n : Fin 2),
    s.regN (adcIdx c n) 0 = 2 ∧ (s.adc c n).started = true ∧ (s.adc c n).count = stepAvg (s.stepWord c n (s.adcStep c n) 1) ∧ fld (s.stepWord c n (s.adcStep c n) 0) 10 2 = 1 ∧ stepDest (s.stepWord c n (s.adcStep c n) 0) = 1 ∧ (s.adc c n).violation = 0xFFFFF ∧ ((roundDiv (s.adc c n).sum (65536 * stepAvg (s.stepWord c n (s.adcStep c n) 1))) < (s.stepWord c n (s.adcStep c n) 4).toInt ∨ (s.stepWord c n (s.adcStep c n) 5).toInt < (roundDiv (s.adc c n).sum (65536 * stepAvg (s.stepWord c n (s.adcStep c n) 1)))) ∧ fld (s.stepWord c n (s.adcStep c n) 0) 8 2 = 0 ∧ (s.adc c n).post < fld (s.stepWord c n (s.adcStep c n) 2) 24 16 :=
  ⟨(adcMask.setRegW (adcIdx 5 1) 3 0 (wd (3 * 2 ^ 19 + 2 ^ 16 + 2 ^ 10))).setRegW (adcIdx 5 1) 3 2 (wd (3 * 2 ^ 24)), 5, 1, by decide +kernel⟩

theorem wit_AdcSequencesRun_15 : ∃ (s : State) (c : Fin 48) (n : Fin 2),
    s.regN (adcIdx c n) 0 = 2 ∧ (s.adc c n).started = true ∧ (s.adc c n).count = stepAvg (s.stepWord c n (s.adcStep c n) 1) ∧ fld (s.stepWord c n (s.adcStep c n) 0) 10 2 = 1 ∧ stepDest (s.stepWord c n (s.adcStep c n) 0) = 1 ∧ (s.adc c n).violation = 0xFFFFF ∧ ((roundDiv (s.adc c n).sum (65536 * stepAvg (s.stepWord c n (s.adcStep c n) 1))) < (s.stepWord c n (s.adcStep c n) 4).toInt ∨ (s.stepWord c n (s.adcStep c n) 5).toInt < (roundDiv (s.adc c n).sum (65536 * stepAvg (s.stepWord c n (s.adcStep c n) 1)))) ∧ fld (s.stepWord c n (s.adcStep c n) 0) 8 2 = 2 :=
  ⟨adcMask.setRegW (adcIdx 5 1) 3 0 (wd (3 * 2 ^ 19 + 2 ^ 16 + 2 ^ 10 + 2 * 2 ^ 8)), 5, 1, by decide +kernel⟩

theorem wit_AdcSequencesRun_16 : ∃ (s : State) (c : Fin 48) (n : Fin 2),
    s.regN (adcIdx c n) 0 = 2 ∧ (s.adc c n).started = true ∧ (s.adc c n).count = stepAvg (s.stepWord c n (s.adcStep c n) 1) ∧ fld (s.stepWord c n (s.adcStep c n) 0) 10 2 = 0 ∧ stepDest (s.stepWord c n (s.adcStep c n) 0) = 1 ∧ (s.adc c n).post < fld (s.stepWord c n (s.adcStep c n) 2) 24 16 :=
  ⟨(adcGoing.setRegW (adcIdx 5 1) 3 2 (wd (3 * 2 ^ 24))).onAdc 5 1 (fun a => { a with count := 4, sum := 786432 }), 5, 1, by decide +kernel⟩

theorem wit_AdcSequencesRun_17 : ∃ (s : State) (c : Fin 48) (n : Fin 2),
    s.regN (adcIdx c n) 0 = 2 ∧ (s.adc c n).started = true ∧ (s.adc c n).stopping = false ∧ (s.adc c n).count = stepAvg (s.stepWord c n (s.adcStep c n) 1) ∧ fld (s.stepWord c n (s.adcStep c n) 0) 10 2 = 0 ∧ stepDest (s.stepWord c n (s.adcStep c n) 0) = 1 ∧ fld (s.stepWord c n (s.adcStep c n) 2) 24 16 ≤ (s.adc c n).post ∧ bit (s.stepWord c n (s.adcStep c n) 0) 7 = true ∧ s.regB (adcIdx c n) 7 = false :=
  ⟨adcGoing.onAdc 5 1 (fun a => { a with count := 4, sum := 786432 }), 5, 1, by decide +kernel⟩

theorem wit_AdcSequencesRun_18 : ∃ (s : State) (rq : Req) (c : Fin 48) (n : Fin 2) (t : Nat),
    s.takes rq (meaIdx n c) 0x02 0 [1] Env.calm t = true :=
  ⟨adcWait, rq0, 5, 1, 9, by decide +kernel⟩

theorem wit_AdcSequencesRun_19 : ∃ (s : State) (rq : Req) (c : Fin 48) (n : Fin 2) (t : Nat),
    s.takes rq (meaIdx n c) 0x02 0 [2] Env.calm t = true ∧ (s.regN (adcIdx c n) 0 = 1 ∨ s.regN (adcIdx c n) 0 = 2) :=
  ⟨adcGoing, rq0, 5, 1, 9, by decide +kernel⟩

theorem wit_StampsAreCaptured_1 : ∃ (s : State) (rq : Req) (c : Fin 48) (v : Word) (t : Nat),
    s.takes rq (meaIdx 0x03 c) 0x01 0 [v] Env.calm t = true :=
  ⟨capWait.setRegN (capIdx 5) 0 0, rq0, 5, 1, 9, by decide +kernel⟩

theorem wit_StampsAreCaptured_2 : ∃ (s : State) (c : Fin 48),
    s.regN (capIdx c) 0 = 1 ∧ s.regN (capIdx c) 4 = 0xFFFF :=
  ⟨capWait, 5, by decide +kernel⟩

theorem wit_StampsAreCaptured_3 : ∃ (s : State) (c : Fin 48) (t : Nat) (r : Nat),
    s.regN (capIdx c) 0 = 1 ∧ s.regN (capIdx c) 4 ≠ 0xFFFF ∧ (s.cap c).release = some r ∧ r ≤ (s.at t).clock :=
  ⟨(capWait.setRegN (capIdx 5) 4 7).onCap 5 (fun x => { x with release := some 5 }), 5, 9, 5, by decide +kernel⟩

theorem wit_StampsAreCaptured_4 : ∃ (s : State) (c : Fin 48),
    s.regN (capIdx c) 0 = 1 ∧ s.regN (capIdx c) 4 = 0xFFFF ∧ (s.cap c).early = [] :=
  ⟨capWait, 5, by decide +kernel⟩

theorem wit_StampsAreCaptured_5 : ∃ (s : State) (c : Fin 48) (t : Nat),
    (s.regN (capIdx c) 0 ≠ 1 ∨ (s.regN (capIdx c) 4 ≠ 0xFFFF ∧ ∀ r ∈ (s.cap c).release.toList, (s.at t).clock < r)) :=
  ⟨capWait.setRegN (capIdx 5) 4 7, 5, 9, by decide +kernel⟩

theorem wit_StampsAreCaptured_6 : ∃ (s : State) (c : Fin 48) (l : Fin 24) (e : Crossing) (t : Nat) (sl : Nat) (mt : Nat) (r : Nat),
    s.servedBy c l = some sl ∧ s.strobesFail c l = false ∧ selects (s.regN (meaIdx 2 c) l) e = true ∧ mt = ((((s.at t).clock : Nat) - s.deskew c sl true) / 32 : Int).toNat ∧ (∀ p ∈ (SMap.get (fun _ => none) s.mea.lastStamp (24 * c + l)).toList, p + 64 ≤ mt) ∧ s.regN (capIdx c) 0 = 2 ∧ (s.regN (capIdx c) 3).testBit l = true ∧ (s.cap c).release = some r ∧ r / 32 ≤ mt ∧ mt < r / 32 + s.regN (capIdx c) 5 * 128 ∧ (SMap.get (fun _ => StampLane.empty) (s.cap c).lanes l).buffer.length + (SMap.get (fun _ => StampLane.empty) (s.cap c).lanes l).stamps.length < s.regN (capIdx c) 6 ∧ (SMap.get (fun _ => StampLane.empty) (s.cap c).lanes l).buffer.length < 64 :=
  ⟨capOpen5, 5, 3, .intoH, 32 * 900, 3, 900, 0, by decide +kernel⟩

theorem wit_StampsAreCaptured_7 : ∃ (s : State) (c : Fin 48) (l : Fin 24) (e : Crossing) (t : Nat) (sl : Nat) (mt : Nat) (r : Nat),
    s.servedBy c l = some sl ∧ s.strobesFail c l = false ∧ selects (s.regN (meaIdx 2 c) l) e = true ∧ mt = ((((s.at t).clock : Nat) - s.deskew c sl true) / 32 : Int).toNat ∧ (∀ p ∈ (SMap.get (fun _ => none) s.mea.lastStamp (24 * c + l)).toList, p + 64 ≤ mt) ∧ s.regN (capIdx c) 0 = 2 ∧ (s.regN (capIdx c) 3).testBit l = true ∧ (s.cap c).release = some r ∧ r / 32 ≤ mt ∧ mt < r / 32 + s.regN (capIdx c) 5 * 128 ∧ (SMap.get (fun _ => StampLane.empty) (s.cap c).lanes l).buffer.length + (SMap.get (fun _ => StampLane.empty) (s.cap c).lanes l).stamps.length < s.regN (capIdx c) 6 ∧ 64 ≤ (SMap.get (fun _ => StampLane.empty) (s.cap c).lanes l).buffer.length :=
  ⟨(capOpen5.setRegN (capIdx 5) 6 100).onLane 5 3 (fun x => { x with buffer := List.replicate 64 9 }), 5, 3, .intoH, 32 * 900, 3, 900, 0, by decide +kernel⟩

theorem wit_StampsAreCaptured_8 : ∃ (s : State) (c : Fin 48) (l : Fin 24) (e : Crossing) (t : Nat) (sl : Nat) (mt : Nat) (p : Nat),
    s.servedBy c l = some sl ∧ s.strobesFail c l = false ∧ selects (s.regN (meaIdx 2 c) l) e = true ∧ mt = ((((s.at t).clock : Nat) - s.deskew c sl true) / 32 : Int).toNat ∧ SMap.get (fun _ => none) s.mea.lastStamp (24 * c + l) = some p ∧ mt < p + 64 :=
  ⟨capHas, 5, 3, .intoH, 32 * 540, 3, 540, 500, by decide +kernel⟩

theorem wit_StampsAreCaptured_9 : ∃ (s : State) (c : Fin 48) (l : Fin 24) (e : Crossing),
    (s.servedBy c l = none ∨ s.strobesFail c l = true ∨ selects (s.regN (meaIdx 2 c) l) e = false) :=
  ⟨capOpen5, 5, 3, .intoL, by decide +kernel⟩

theorem wit_StampsAreCaptured_10 : ∃ (s : State) (c : Fin 48) (k : Nat) (ks : List Nat) (l : Fin 24) (x : StampLane) (w : Word) (ws : List Word),
    (s.cap c).waiting = k :: ks ∧ (s.cap c).lanes.filter (fun e => e.2.slice = k) = [(l.val, x)] ∧ (SMap.get (fun _ => StampLane.empty) (s.cap c).lanes l) = x ∧ x.buffer = w :: ws :=
  ⟨capHas, 5, 3, [], 3, { StampLane.empty with buffer := [wd 500], slice := 3 }, wd 500, [], by decide +kernel⟩

theorem wit_StampsAreCaptured_11 : ∃ (s : State) (c : Fin 48),
    (s.cap c).waiting = [] :=
  ⟨capOpen5, 5, by decide +kernel⟩

theorem wit_StampsAreCaptured_12 : ∃ (s : State) (c : Fin 48) (t : Nat) (r : Nat),
    s.regN (capIdx c) 0 = 2 ∧ (s.cap c).release = some r ∧ r + nsEt (s.regN (capIdx c) 5) + s.stampLag c ≤ (s.at t).clock :=
  ⟨capHas, 5, nsEt 200000, 0, by decide +kernel⟩

theorem wit_StampsAreCaptured_13 : ∃ (s : State) (c : Fin 48) (t : Nat) (r : Nat),
    (s.regN (capIdx c) 0 ≠ 2 ∨ ((s.cap c).release = some r ∧ (s.at t).clock < r + nsEt (s.regN (capIdx c) 5) + s.stampLag c)) :=
  ⟨capHas, 5, 9, 0, by decide +kernel⟩

theorem wit_StampsAreCaptured_14 : ∃ (s : State) (rq : Req) (c : Fin 48) (t : Nat),
    s.takes rq (meaIdx 0x03 c) 0x02 0 [1] Env.calm t = true :=
  ⟨capHas, rq0, 5, 9, by decide +kernel⟩

theorem wit_StampsAreCaptured_15 : ∃ (s : State) (rq : Req) (c : Fin 48) (t : Nat),
    s.takes rq (meaIdx 0x03 c) 0x02 0 [2] Env.calm t = true ∧ (s.regN (capIdx c) 0 = 1 ∨ s.regN (capIdx c) 0 = 2) :=
  ⟨capHas, rq0, 5, 9, by decide +kernel⟩

theorem wit_RegressionUnitsMeasure_1 : ∃ (s : State) (rq : Req) (c : Fin 48) (n : Fin 4) (v : Word) (t : Nat),
    s.takes rq (meaIdx (4 + n) c) 0x01 0 [v] Env.calm t = true :=
  ⟨ru5 0, rq0, 5, 2, 1, 9, by decide +kernel⟩

theorem wit_RegressionUnitsMeasure_2 : ∃ (s : State) (c : Fin 48) (n : Fin 4),
    s.regN (ruIdx c n) 0 = 1 ∧ s.regN (ruIdx c n) 6 = 0xFFFF :=
  ⟨ru5 1, 5, 2, by decide +kernel⟩

theorem wit_RegressionUnitsMeasure_3 : ∃ (s : State) (c : Fin 48) (n : Fin 4) (t : Nat) (r : Nat),
    s.regN (ruIdx c n) 0 = 1 ∧ s.regN (ruIdx c n) 6 ≠ 0xFFFF ∧ (s.ru c n).release = some r ∧ r ≤ (s.at t).clock :=
  ⟨((ru5 1).setRegN (ruIdx 5 2) 6 7).onRu 5 2 (fun x => { x with release := some 5 }), 5, 2, 9, 5, by decide +kernel⟩

theorem wit_RegressionUnitsMeasure_4 : ∃ (s : State) (c : Fin 48) (n : Fin 4) (t : Nat),
    (s.regN (ruIdx c n) 0 ≠ 1 ∨ (s.regN (ruIdx c n) 6 ≠ 0xFFFF ∧ ∀ r ∈ (s.ru c n).release.toList, (s.at t).clock < r)) :=
  ⟨(ru5 1).setRegN (ruIdx 5 2) 6 7, 5, 2, 9, by decide +kernel⟩

theorem wit_RegressionUnitsMeasure_5 : ∃ (s : State) (c : Fin 48) (n : Fin 4) (l : Fin 24) (e : Crossing) (t : Nat) (sl : Nat) (mt : Nat),
    s.servedBy c l = some sl ∧ s.strobesFail c l = false ∧ selects (s.regN (meaIdx 2 c) l) e = true ∧ mt = ((((s.at t).clock : Nat) - s.deskew c sl true) / 32 : Int).toNat ∧ (∀ p ∈ (SMap.get (fun _ => none) s.mea.lastStamp (24 * c + l)).toList, p + 64 ≤ mt) ∧ s.regN (ruIdx c n) 0 = 2 ∧ s.regN (ruIdx c n) 3 = l ∧ (s.regN (ruIdx c n) 4 = 1) = (fallsAt e = true) ∧ (s.ru c n).opened / 32 ≤ mt ∧ mt < (s.ru c n).opened / 32 + s.regN (ruIdx c n) 5 * 128 :=
  ⟨(ru5 2).setRegN (meaIdx 2 5) 0 1, 5, 2, 0, .intoH, 32 * 90, 0, 90, by decide +kernel⟩

theorem wit_RegressionUnitsMeasure_6 : ∃ (s : State) (c : Fin 48) (n : Fin 4) (t : Nat),
    s.regN (ruIdx c n) 0 = 2 ∧ (s.ru c n).opened + nsEt (s.regN (ruIdx c n) 5) + s.stampLag c ≤ (s.at t).clock :=
  ⟨ru5 2, 5, 2, usEt 2, by decide +kernel⟩

theorem wit_RegressionUnitsMeasure_7 : ∃ (s : State) (c : Fin 48) (n : Fin 4) (t : Nat),
    s.regN (ruIdx c n) 0 = 2 ∧ (s.ru c n).opened + nsEt (s.regN (ruIdx c n) 5) + s.stampLag c ≤ (s.at t).clock ∧ s.regN (ruIdx c n) 9 = 1 ∧ 65536 ≤ s.regN (ruIdx c n) 0x0A ∧ s.regN (ruIdx c n) 7 ≠ 0 ∧ s.regN (ruIdx c n) 7 ≤ (s.ru c n).gate + 1 ∧ (s.ru c n).stopping = false :=
  ⟨((ru5 2).setRegN (ruIdx 5 2) 9 1).setRegN (ruIdx 5 2) 0x0A 0x10000, 5, 2, usEt 2, by decide +kernel⟩

theorem wit_RegressionUnitsMeasure_8 : ∃ (s : State) (c : Fin 48) (n : Fin 4) (t : Nat),
    s.regN (ruIdx c n) 0 = 2 ∧ (s.ru c n).opened + nsEt (s.regN (ruIdx c n) 5) + s.stampLag c ≤ (s.at t).clock ∧ (s.ru c n).stopping = true :=
  ⟨(ru5 2).onRu 5 2 (fun x => { x with stopping := true }), 5, 2, usEt 2, by decide +kernel⟩

theorem wit_RegressionUnitsMeasure_9 : ∃ (s : State) (c : Fin 48) (n : Fin 4) (t : Nat),
    s.regN (ruIdx c n) 0 = 2 ∧ (s.ru c n).opened + nsEt (s.regN (ruIdx c n) 5) + s.stampLag c ≤ (s.at t).clock ∧ (s.ru c n).stopping = false ∧ (s.regN (ruIdx c n) 7 = 0 ∨ (s.ru c n).gate + 1 < s.regN (ruIdx c n) 7) :=
  ⟨(ru5 2).setRegN (ruIdx 5 2) 7 0, 5, 2, usEt 2, by decide +kernel⟩

theorem wit_RegressionUnitsMeasure_10 : ∃ (s : State) (c : Fin 48) (n : Fin 4) (t : Nat),
    (s.regN (ruIdx c n) 0 ≠ 2 ∨ (s.at t).clock < (s.ru c n).opened + nsEt (s.regN (ruIdx c n) 5) + s.stampLag c) :=
  ⟨ru5 2, 5, 2, 9, by decide +kernel⟩

theorem wit_RegressionUnitsMeasure_11 : ∃ (s : State) (rq : Req) (c : Fin 48) (n : Fin 4) (t : Nat),
    s.takes rq (meaIdx (4 + n) c) 0x02 0 [1] Env.calm t = true :=
  ⟨ru5 2, rq0, 5, 2, 9, by decide +kernel⟩

theorem wit_RegressionUnitsMeasure_12 : ∃ (s : State) (rq : Req) (c : Fin 48) (n : Fin 4) (t : Nat),
    s.takes rq (meaIdx (4 + n) c) 0x02 0 [2] Env.calm t = true ∧ (s.regN (ruIdx c n) 0 = 1 ∨ s.regN (ruIdx c n) 0 = 2) :=
  ⟨ru5 2, rq0, 5, 2, 9, by decide +kernel⟩

theorem wit_UpdatesReduce_1 : ∃ (s : State) (c : Fin 48) (role : Fin 16) (n : Nat) (p : Nat) (x : Upd) (us : List Upd) (l : LineData) (dirty : Bool),
    s.redInput c = x :: us ∧ s.roleWaits role = false ∧ s.boundTo x.meas x.site = some (n, p) ∧ n % 16 = role.val ∧ s.heldBy x n = false ∧ 1 ≤ (fld ((s.psetOf p).getD 0 0) 36 4) ∧ (fld ((s.psetOf p).getD 0 0) 36 4) ≤ 7 ∧ x.value.isNone = decide ((fld ((s.psetOf p).getD 0 0) 36 4) = 5) ∧ x.flags &&& BitVec.ofNat 20 (fld ((s.psetOf p).getD 0 0) 0 20) = 0 ∧ fld ((s.psetOf p).getD 0 0) 34 2 ≠ 1 ∧ s.cached n = some (l, dirty) ∧ lineFormat l = (fld ((s.psetOf p).getD 0 0) 36 4) ∧ s.red.cache.length < 32768 ∧ s.resultAt n < 0x60000000 ∧ parityBad (s.line (s.resultAt n)) = false :=
  ⟨fed9, 5, 9, 9, 1, upd9, [], mkLine 1 0 false 0 0 0 0 (wd 0x7FFFFFFFFF) (wd 0x8000000000), false, by decide +kernel⟩

theorem wit_UpdatesReduce_2 : ∃ (s : State) (c : Fin 48) (x : Upd) (us : List Upd),
    s.redInput c = x :: us ∧ s.boundTo x.meas x.site = none ∧ s.red.cache.length ≤ 32768 :=
  ⟨ready.setInput 5 [upd9], 5, upd9, [], by decide +kernel⟩

theorem wit_UpdatesReduce_3 : ∃ (s : State) (c : Fin 48) (role : Fin 16) (n : Nat) (p : Nat) (x : Upd) (us : List Upd),
    s.redInput c = x :: us ∧ s.roleWaits role = false ∧ s.boundTo x.meas x.site = some (n, p) ∧ n % 16 = role.val ∧ s.heldBy x n = false ∧ s.red.cache.length ≤ 32768 ∧ (fld ((s.psetOf p).getD 0 0) 36 4) = 0 :=
  ⟨fed9.setRegW 0x6004 0 8 0, 5, 9, 9, 1, upd9, [], by decide +kernel⟩

theorem wit_UpdatesReduce_4 : ∃ (s : State) (c : Fin 48) (role : Fin 16) (n : Nat) (p : Nat) (x : Upd) (us : List Upd),
    s.redInput c = x :: us ∧ s.roleWaits role = false ∧ s.boundTo x.meas x.site = some (n, p) ∧ n % 16 = role.val ∧ s.heldBy x n = false ∧ s.red.cache.length ≤ 32768 ∧ ((x.value.isSome = true ∧ (fld ((s.psetOf p).getD 0 0) 36 4) = 5) ∨ (x.value = none ∧ (fld ((s.psetOf p).getD 0 0) 36 4) ∈ [1, 2, 3, 4, 6, 7])) :=
  ⟨fed9.setRegW 0x6004 0 8 (wd (5 * 2 ^ 36)), 5, 9, 9, 1, upd9, [], by decide +kernel⟩

theorem wit_UpdatesReduce_5 : ∃ (s : State) (c : Fin 48) (role : Fin 16) (n : Nat) (p : Nat) (x : Upd) (us : List Upd) (l : LineData) (dirty : Bool),
    s.redInput c = x :: us ∧ s.roleWaits role = false ∧ s.boundTo x.meas x.site = some (n, p) ∧ n % 16 = role.val ∧ s.heldBy x n = false ∧ s.red.cache.length ≤ 32768 ∧ 1 ≤ (fld ((s.psetOf p).getD 0 0) 36 4) ∧ (fld ((s.psetOf p).getD 0 0) 36 4) ≤ 7 ∧ x.value.isNone = decide ((fld ((s.psetOf p).getD 0 0) 36 4) = 5) ∧ s.cached n = some (l, dirty) ∧ lineFormat l ≠ 0 ∧ lineFormat l ≠ (fld ((s.psetOf p).getD 0 0) 36 4) :=
  ⟨fed9.setRegW 0x6004 0 8 (wd (2 * 2 ^ 36)), 5, 9, 9, 1, upd9, [], mkLine 1 0 false 0 0 0 0 (wd 0x7FFFFFFFFF) (wd 0x8000000000), false, by decide +kernel⟩

theorem wit_UpdatesReduce_6 : ∃ (s : State) (c : Fin 48) (role : Fin 16) (n : Nat) (p : Nat) (x : Upd) (us : List Upd),
    s.redInput c = x :: us ∧ s.roleWaits role = false ∧ s.boundTo x.meas x.site = some (n, p) ∧ n % 16 = role.val ∧ s.heldBy x n = true ∧ s.red.cache.length ≤ 32768 :=
  ⟨{ fed9 with red := { fed9.red with closes := [⟨1, 500, 900, none⟩] } }, 5, 9, 9, 1, upd9, [], by decide +kernel⟩

theorem wit_UpdatesReduce_7 : ∃ (s : State) (c : Fin 48) (role : Fin 16) (n : Nat) (p : Nat) (x : Upd),
    s.redInput c = [x] ∧ s.boundTo x.meas x.site = some (n, p) ∧ (n % 16 ≠ role.val ∨ s.roleWaits role = true) ∧ s.red.cache.length ≤ 32768 :=
  ⟨fed9, 5, 8, 9, 1, upd9, by decide +kernel⟩

theorem wit_UpdatesReduce_8 : ∃ (s : State) (c : Fin 48),
    4096 ≤ (s.redInput c).length :=
  ⟨ready.setInput 5 (List.replicate 4096 upd9), 5, by decide +kernel⟩

theorem wit_UpdatesReduce_9 : ∃ (s : State) (c : Fin 48) (n : Nat) (l : LineData) (dirty : Bool),
    (s.redInput c).length < 4096 ∧ s.dropList c = [n] ∧ s.roleWaits (n % 16) = false ∧ s.cached n = some (l, dirty) ∧ s.red.cache.length ≤ 32768 :=
  ⟨fed9.setDrops 5 [9], 5, 9, mkLine 1 0 false 0 0 0 0 (wd 0x7FFFFFFFFF) (wd 0x8000000000), false, by decide +kernel⟩

theorem wit_UpdatesReduce_10 : ∃ (s : State) (c : Fin 48) (k : Coal),
    s.coalOf c = [k] ∧ k.upd.cluster = c.val ∧ (k.due = true ∨ k.since + 64 ≤ (s.sq c).plays) ∧ (s.redInput c).length < 4096 :=
  ⟨(ready.setCoal 5 [⟨upd9, 3, false⟩]).onSq 5 (fun q => { q with plays := 70 }), 5, ⟨upd9, 3, false⟩, by decide +kernel⟩

theorem wit_UpdatesReduce_11 : ∃ (s : State) (c : Fin 48) (k : Coal),
    s.coalOf c = [k] ∧ k.since + 64 ≤ (s.sq c).plays ∧ 4096 ≤ (s.redInput c).length :=
  ⟨((ready.setInput 5 (List.replicate 4096 upd9)).setCoal 5 [⟨upd9, 3, false⟩]).onSq 5 (fun q => { q with plays := 70 }), 5, ⟨upd9, 3, false⟩, by decide +kernel⟩

theorem wit_UpdatesReduce_12 : ∃ (s : State) (c : Fin 48),
    (∀ k ∈ s.coalOf c, k.due = false ∧ (s.sq c).plays < k.since + 64) :=
  ⟨(ready.setCoal 5 [⟨upd9, 30, false⟩]).onSq 5 (fun q => { q with plays := 70 }), 5, by decide +kernel⟩

theorem wit_ContextsCloseAndAreRead_1 : ∃ (s : State) (rq : Req) (v : Word) (t : Nat),
    s.takes rq 0x6000 0x01 0 [v] Env.calm t = true :=
  ⟨ready, rq0, wd (8 * 2 ^ 20 + 3), 9, by decide +kernel⟩

theorem wit_ContextsCloseAndAreRead_2 : ∃ (s : State) (rq : Req) (v : Word) (t : Nat),
    s.takes rq 0x6000 0x02 0 [v] Env.calm t = true :=
  ⟨ready, rq0, wd (8 * 2 ^ 20 + 3), 9, by decide +kernel⟩

theorem wit_ContextsCloseAndAreRead_3 : ∃ (s : State) (n : Nat) (src : Word) (l : LineData) (dirty : Bool),
    s.red.closes = [] ∧ s.red.sweeps = [⟨false, n, 1, src⟩] ∧ s.roleWaits (n % 16) = false ∧ s.cached n = some (l, dirty) ∧ s.resultAt n < 0x60000000 ∧ s.red.cache.length < 32768 :=
  ⟨{ fed9 with red := { fed9.red with sweeps := [⟨false, 9, 1, 4⟩] } }, 9, 4, mkLine 1 0 false 0 0 0 0 (wd 0x7FFFFFFFFF) (wd 0x8000000000), false, by decide +kernel⟩

theorem wit_ContextsCloseAndAreRead_4 : ∃ (s : State) (n : Nat) (src : Word),
    s.red.closes = [] ∧ s.red.sweeps = [⟨true, n, 1, src⟩] ∧ s.roleWaits (n % 16) = false ∧ s.resultAt n < 0x60000000 ∧ s.red.cache.length < 32768 :=
  ⟨{ fed9 with red := { fed9.red with sweeps := [⟨true, 9, 1, 4⟩] } }, 9, 4, by decide +kernel⟩

theorem wit_ContextsCloseAndAreRead_5 : ∃ (s : State) (n : Nat) (k : Nat) (src : Word) (l : LineData) (dirty : Bool),
    s.red.closes = [] ∧ s.red.sweeps = [⟨false, n, k + 2, src⟩] ∧ s.roleWaits (n % 16) = false ∧ s.cached n = some (l, dirty) ∧ s.resultAt n < 0x60000000 ∧ s.red.cache.length < 32768 :=
  ⟨{ fed9 with red := { fed9.red with sweeps := [⟨false, 9, 3, 4⟩] } }, 9, 1, 4, mkLine 1 0 false 0 0 0 0 (wd 0x7FFFFFFFFF) (wd 0x8000000000), false, by decide +kernel⟩

theorem wit_ContextsCloseAndAreRead_6 : ∃ (s : State) (n : Nat) (p : Nat) (tc : U80) (b : U80) (l : LineData) (dirty : Bool),
    s.red.closes = [⟨p, tc, b, some [n]⟩] ∧ s.red.held = [] ∧ s.roleWaits (n % 16) = false ∧ s.cached n = some (l, dirty) ∧ s.resultAt n < 0x60000000 ∧ s.red.cache.length < 32768 :=
  ⟨{ lined9 with red := { lined9.red with closes := [⟨1, 5, 9, some [9]⟩] } }, 9, 1, 5, 9, mkLine 1 0 false 0 0 0 0 (wd 0x7FFFFFFFFF) (wd 0x8000000000), false, by decide +kernel⟩

theorem wit_ContextsCloseAndAreRead_7 : ∃ (s : State) (n : Nat) (k : Nat) (reset : Bool) (src : Word),
    s.red.closes = [] ∧ s.red.sweeps = [⟨reset, n, k, src⟩] ∧ s.roleWaits (n % 16) = true ∧ s.red.cache.length ≤ 32768 :=
  ⟨({ ready with red := { ready.red with sweeps := [⟨true, 9, 3, 4⟩] } }).setRegN 0x6019 0 3, 9, 3, true, 4, by decide +kernel⟩

theorem wit_ContextsCloseAndAreRead_10 : ∃ (s : State) (rq : Req) (n : Nat) (t : Nat) (l : LineData),
    s.carries = true ∧ s.alm.held = [] ∧ ((s.at t).firstChecks (mkTx rq .read 0x6001 0 (8 * n) 8 [] .here) []).1 = 0 ∧ n < 1048576 ∧ s.resultAt n < 0x60000000 ∧ s.line (s.resultAt n) = l ∧ parityBad l = false :=
  ⟨ready, rq0, 9, 9, 0, by decide +kernel⟩

theorem wit_ContextsCloseAndAreRead_11 : ∃ (s : State) (e : Fin 18) (k : Takeover),
    SMap.get (fun _ => none) s.red.takeovers e = some k :=
  ⟨{ ready with red := { ready.red with takeovers := [(16, some ⟨[3], 2, 5⟩)] } }, 16, ⟨[3], 2, 5⟩, by decide +kernel⟩

theorem wit_QueueItemsEnter_1 : ∃ (s : State) (q : Fin 65536) (ls : List LineData),
    s.qState q = 1 ∧ (s.queue q).reserve = true ∧ s.qFull q ls.length = 0 :=
  ⟨queue300 [cell7], 300, [mkLine 9 0 false 1 0 0 0 0 0, mkLine 9 0 false 2 0 0 0 0 0], by decide +kernel⟩

theorem wit_QueueItemsEnter_2 : ∃ (s : State) (q : Fin 65536),
    s.qState q ≠ 1 :=
  ⟨ready, 300, by decide +kernel⟩

theorem wit_QueueItemsEnter_3 : ∃ (s : State) (q : Fin 65536) (ls : List LineData),
    s.qState q = 1 ∧ (s.queue q).reserve = true ∧ s.regN 0x7011 0 q < (s.queue q).cells.length + ls.length ∧ (∀ c ∈ (s.queue q).cells, lineFormat (s.cellRaw c) ≠ 0xD) :=
  ⟨(queue300 [cell7]).setRegW 0x7011 0 300 1, 300, [mkLine 9 0 false 1 0 0 0 0 0], by decide +kernel⟩

theorem wit_QueueItemsEnter_4 : ∃ (s : State) (q : Fin 65536),
    s.qState q = 1 ∧ (s.queue q).reserve = true ∧ s.qFull q 1 = 0 :=
  ⟨queue300 [cell7], 300, by decide +kernel⟩

theorem wit_QueueItemsEnter_5 : ∃ (s : State) (q : Fin 65536) (num : Nat) (loc : Nat) (c : QCell),
    (s.queue q).cells.find? (fun c => c.num = num && c.onChip) = some c ∧ s.poolLineFree loc = true ∧ loc < 0x60000000 :=
  ⟨queue300 [cell7], 300, 7, ready.actN 0x7000 0 + 5, cell7, by decide +kernel⟩

theorem wit_QueueItemsEnter_6 : ∃ (s : State) (q : Fin 65536) (num : Nat) (loc : Nat),
    ((s.queue q).cells.find? (fun c => c.num = num && c.onChip) = none ∨ s.poolLineFree loc = false) :=
  ⟨queue300 [cell7], 300, 8, 5, by decide +kernel⟩

theorem wit_QueueItemsEnter_7 : ∃ (s : State) (q : Fin 65536) (prod : Producer) (p : OpenPkt),
    (s.queue q).opens = [p] ∧ p.prod = prod ∧ p.st = .live ∧ (s.queue q).reserve = true ∧ s.qFull q 1 = 0 :=
  ⟨pkt300, 300, ⟨5, 1⟩, ⟨⟨5, 1⟩, 7, 0, 0, .live⟩, by decide +kernel⟩

theorem wit_QueueItemsEnter_8 : ∃ (s : State) (q : Fin 65536) (prod : Producer) (p : OpenPkt) (c : QCell),
    (s.queue q).opens = [p] ∧ p.prod = prod ∧ p.st = .live ∧ (s.queue q).cells = [c] ∧ c.num = p.id ∧ c.pkt = some p.id ∧ c.onChip = true :=
  ⟨pkt300, 300, ⟨5, 1⟩, ⟨⟨5, 1⟩, 7, 0, 0, .live⟩, { cell7 with pkt := some 7 }, by decide +kernel⟩

theorem wit_QueueItemsEnter_9 : ∃ (s : State) (q : Fin 65536) (part : QPart),
    (s.queue q).cells ≠ [] ∧ (s.queue q).opens = [] ∧ part = .done :=
  ⟨queue300 [cell7], 300, .done, by decide +kernel⟩

theorem wit_QueueItemsEnter_10 : ∃ (s : State) (rq : Req) (q : Fin 65536) (vals : List Word) (t : Nat),
    s.takes rq 0x7001 1 (1024 * q) vals Env.calm t = true ∧ vals.length = 6 ∧ s.qState q = 1 ∧ (s.queue q).reserve = true ∧ s.qFull q 1 = 0 :=
  ⟨queue300 [cell7], rq0, 300, [1,2,3,4,5,6], 9, by decide +kernel⟩

theorem wit_QueuesAreReadAndRuled_1 : ∃ (s : State) (rq : Req) (q : Fin 65536) (t : Nat) (c : QCell) (cs : List QCell),
    s.carries = true ∧ s.alm.held = [] ∧ ((s.at t).firstChecks (mkTx rq .read 0x7001 0 (1024 * q) 8 [] .here) []).1 = 0 ∧ (s.queue q).opens = [] ∧ (s.queue q).cells = c :: cs ∧ c.onChip = true ∧ (parityBad c.line = false ∨ linePoison c.line = true) :=
  ⟨queue300 [cell7], rq0, 300, 9, cell7, [], by decide +kernel⟩

theorem wit_QueuesAreReadAndRuled_2 : ∃ (s : State) (rq : Req) (q : Fin 65536) (t : Nat) (c : QCell) (cs : List QCell),
    s.carries = true ∧ s.alm.held = [] ∧ ((s.at t).firstChecks (mkTx rq .read 0x7001 0 (1024 * q) 8 [] .here) []).1 = 0 ∧ (s.queue q).opens = [] ∧ (s.queue q).cells = c :: cs ∧ c.onChip = false ∧ c.loc < 0x60000000 ∧ parityBad (s.line c.loc) = false :=
  ⟨queue300 [{ cell7 with onChip := false, loc := 70 }], rq0, 300, 9, { cell7 with onChip := false, loc := 70 }, [], by decide +kernel⟩

theorem wit_QueuesAreReadAndRuled_3 : ∃ (s : State) (rq : Req) (q : Fin 65536) (t : Nat) (c : QCell) (cs : List QCell) (p : OpenPkt),
    s.carries = true ∧ s.alm.held = [] ∧ ((s.at t).firstChecks (mkTx rq .read 0x7001 0 (1024 * q) 8 [] .here) []).1 = 0 ∧ (s.queue q).opens = [p] ∧ p.st = .live ∧ (s.queue q).cells = c :: cs ∧ c.pkt = some p.id ∧ s.qCut q = false :=
  ⟨pkt300, rq0, 300, 9, { cell7 with pkt := some 7 }, [], ⟨⟨5, 1⟩, 7, 0, 0, .live⟩, by decide +kernel⟩

theorem wit_QueuesAreReadAndRuled_4 : ∃ (s : State) (rq : Req) (q : Fin 65536) (t : Nat),
    s.carries = true ∧ s.alm.held = [] ∧ ((s.at t).firstChecks (mkTx rq .read 0x7001 0 (1024 * q) 8 [] .here) []).1 = 0 ∧ (s.queue q).opens = [] ∧ (s.queue q).cells = [] :=
  ⟨queue300 [], rq0, 300, 9, by decide +kernel⟩

theorem wit_QueuesAreReadAndRuled_5 : ∃ (s : State) (rq : Req) (q : Fin 65536) (v : Word) (t : Nat),
    s.takes rq 0x7016 0 q [v] Env.calm t = true ∧ v = 1 :=
  ⟨queue300 [cell7], rq0, 300, 1, 9, by decide +kernel⟩

theorem wit_QueuesAreReadAndRuled_6 : ∃ (s : State) (rq : Req) (q : Fin 65536) (v : Word) (n : Nat) (t : Nat),
    s.takes rq 0x7016 0 q [v] { Env.calm with broken := some n } t = true :=
  ⟨queue300 [cell7], rq0, 300, 1, 0, 9, by decide +kernel⟩

theorem wit_QueuesAreReadAndRuled_7 : ∃ (s : State) (rq : Req) (q : Fin 65536) (v : Word) (t : Nat),
    s.takes rq 0x701B 0 q [v] Env.calm t = true :=
  ⟨(queue300 [cell7]).setLevelHit 300 true, rq0, 300, 1, 9, by decide +kernel⟩

theorem wit_QueuesAreReadAndRuled_8 : ∃ (s : State) (rq : Req) (q : Fin 65536) (v : Word) (t : Nat),
    s.takes rq 0x7010 0 q [setBit v 39 true] Env.calm t = true :=
  ⟨ready.setAct 0x7000 1 0 70000, rq0, 300, 0, 9, by decide +kernel⟩

theorem wit_QueuesAreReadAndRuled_9 : ∃ (s : State) (rq : Req) (q : Fin 65536) (v : Word) (t : Nat),
    s.takes rq 0x7010 0 q [setBit v 39 false] Env.calm t = true :=
  ⟨queue300 [], rq0, 300, 0, 9, by decide +kernel⟩

theorem wit_QueuesAreReadAndRuled_10 : ∃ (s : State) (rq : Req) (q : Fin 65536) (v : Word) (t : Nat),
    s.takes rq 0x7014 0 q [v] Env.calm t = true :=
  ⟨queue300 [], rq0, 300, 5, 9, by decide +kernel⟩

theorem wit_OutputsTakeTheirTargets_1 : ∃ (s : State) (n : Fin 32),
    s.asHeld = false ∧ (s.out n).change = none :=
  ⟨(out9 1 0).setRegN (asIdx 9) 1 1, 9, by decide +kernel⟩

theorem wit_OutputsTakeTheirTargets_2 : ∃ (s : State) (n : Fin 32),
    (s.asHeld = true ∨ (s.out n).change ≠ none) :=
  ⟨{ out9 1 0 with pins := { ready.pins with lvlclrLow := true } }, 9, by decide +kernel⟩

theorem wit_OutputsTakeTheirTargets_3 : ∃ (s : State) (n : Fin 32) (k : Nat),
    (s.out n).change = some k :=
  ⟨(out9 1 0).onOut 9 (fun x => { x with change := some 7 }), 9, 7, by decide +kernel⟩

theorem wit_OutputsTakeTheirTargets_4 : ∃ (s : State) (n : Fin 32),
    (s.out n).change = none :=
  ⟨out9 1 0, 9, by decide +kernel⟩

theorem wit_OutputsTakeTheirTargets_5 : ∃ (s : State) (n : Fin 32) (k : Nat),
    (s.out n).change = some k ∧ s.asHeld = false :=
  ⟨(out9 1 0).onOut 9 (fun x => { x with change := some 7 }), 9, 7, by decide +kernel⟩

theorem wit_OutputsTakeTheirTargets_6 : ∃ (s : State) (n : Fin 32) (k : Nat),
    (s.out n).change = some k ∧ s.asHeld = true :=
  ⟨({ out9 1 0 with pins := { ready.pins with lvlclrLow := true } }).onOut 9 (fun x => { x with change := some 7 }), 9, 7, by decide +kernel⟩

theorem wit_OutputsTakeTheirTargets_7 : ∃ (s : State) (n : Fin 32),
    (s.out n).change = none :=
  ⟨out9 1 0, 9, by decide +kernel⟩

theorem wit_OutputsTakeTheirTargets_8 : ∃ (s : State) (rq : Req) (v : Word) (t : Nat),
    s.takes rq 0x8020 0 0 [v] Env.calm t = true :=
  ⟨(out9 1 0).setRegN (asIdx 9) 1 1, rq0, wd (2 ^ 9), 70, by decide +kernel⟩

theorem wit_OutputsTakeTheirTargets_9 : ∃ (s : State) (rq : Req) (n : Fin 32) (v : Word) (t : Nat),
    s.takes rq (asIdx n) 0x0E 0 [v] Env.calm t = true :=
  ⟨out9 2 0, rq0, 9, 1, 70, by decide +kernel⟩

theorem wit_OutputsTakeTheirTargets_10 : ∃ (s : State) (rq : Req) (n : Fin 32) (t : Nat),
    s.takes rq (asIdx n) 0x0F 0 [1] Env.calm t = true ∧ s.asState n = 3 :=
  ⟨out9 2 3, rq0, 9, 70, by decide +kernel⟩

theorem wit_OutputsTakeTheirTargets_11 : ∃ (s : State) (rq : Req) (n : Fin 32) (t : Nat),
    s.takes rq (asIdx n) 0x0F 0 [2] Env.calm t = true ∧ s.asState n = 3 :=
  ⟨out9 2 3, rq0, 9, 70, by decide +kernel⟩

theorem wit_OutputsTakeTheirTargets_12 : ∃ (s : State) (rq : Req) (n : Fin 32) (t : Nat),
    s.takes rq (asIdx n) 0x0F 0 [2] Env.calm t = true ∧ (s.asState n = 1 ∨ s.asState n = 2 ∨ s.asState n = 4) :=
  ⟨out9 2 4, rq0, 9, 70, by decide +kernel⟩

theorem wit_OutputsPlay_1 : ∃ (s : State) (n : Fin 32) (v : Int) (r : List (Int × Option Nat)),
    s.asState n = 1 ∧ s.asMode n = 2 ∧ (s.out n).ahead = (v, none) :: r :=
  ⟨(out9 2 1).onOut 9 (fun x => { x with ahead := [(5, none)] }), 9, 5, [], by decide +kernel⟩

theorem wit_OutputsPlay_2 : ∃ (s : State) (n : Fin 32) (v : Int) (a : Nat) (r : List (Int × Option Nat)),
    s.asState n = 1 ∧ s.asMode n = 2 ∧ (s.out n).ahead = (v, some a) :: r :=
  ⟨(out9 2 1).onOut 9 (fun x => { x with ahead := [(5, some 3)] }), 9, 5, 3, [], by decide +kernel⟩

theorem wit_OutputsPlay_3 : ∃ (s : State) (n : Fin 32) (t : Nat) (tb : List Int),
    s.asState n = 1 ∧ s.asMode n = 3 ∧ (s.at t).ncoTable n = (some tb, s.at t) :=
  ⟨out9 3 1, 9, 70, (((out9 3 1).at 70).ncoTable 9).1.getD [], by decide +kernel, by decide +kernel, nco_quiet _ _ (by decide +kernel)⟩

theorem wit_OutputsPlay_4 : ∃ (s : State) (n : Fin 32),
    s.asState n ≠ 1 :=
  ⟨out9 2 3, 9, by decide +kernel⟩

theorem wit_OutputsPlay_5 : ∃ (s : State) (n : Fin 32) (stamp : U80),
    ((s.asState n ≠ 2 ∧ s.asState n ≠ 4) ∨ (s.asState n = 4 ∧ s.localOf stamp * 32 < (s.out n).lastEnd)) :=
  ⟨out9 2 3, 9, 4000, by decide +kernel⟩

theorem wit_OutputsPlay_6 : ∃ (s : State) (n : Fin 32),
    s.asState n = 2 :=
  ⟨out9 2 2, 9, by decide +kernel⟩

theorem wit_OutputsPlay_7 : ∃ (s : State) (n : Fin 32) (stamp : U80),
    s.asState n = 4 ∧ (s.out n).lastEnd ≤ s.localOf stamp * 32 :=
  ⟨out9 2 4, 9, 4000, by decide +kernel⟩

theorem wit_OutputsPlay_8 : ∃ (s : State) (n : Fin 32) (v : Int) (r : List (Int × Option Nat)),
    s.asState n = 3 ∧ s.asMode n = 2 ∧ (s.out n).stop = 0 ∧ (s.out n).ahead = (v, none) :: r :=
  ⟨play9 [(5, none), (6, none)], 9, 5, [(6, none)], by decide +kernel⟩

theorem wit_OutputsPlay_9 : ∃ (s : State) (n : Fin 32) (v : Int) (a : Nat) (r : List (Int × Option Nat)),
    s.asState n = 3 ∧ s.asMode n = 2 ∧ (s.out n).stop = 0 ∧ (s.out n).ahead = (v, some a) :: r :=
  ⟨play9 [(5, some 3)], 9, 5, 3, [], by decide +kernel⟩

theorem wit_OutputsPlay_10 : ∃ (s : State) (n : Fin 32),
    s.asState n ≠ 3 :=
  ⟨out9 2 2, 9, by decide +kernel⟩

theorem wit_OutputsPlay_11 : ∃ (s : State) (n : Fin 32),
    s.asState n = 3 ∧ s.asMode n = 2 ∧ (s.out n).stop = 0 ∧ (s.out n).ahead = [] :=
  ⟨play9 [], 9, by decide +kernel⟩

theorem wit_OutputsPlay_12 : ∃ (s : State) (n : Fin 32),
    s.asState n = 3 ∧ s.asMode n = 3 ∧ (s.out n).stop = 0 ∧ (s.out n).rephase = false :=
  ⟨((out9 3 3).setAct (asIdx 9) 9 0 1000).onOut 9 (fun x => { x with table := [4, 900], phase := 2 ^ 27 }), 9, by decide +kernel⟩

theorem wit_OutputsPlay_13 : ∃ (s : State) (n : Fin 32),
    s.asState n = 3 ∧ ((s.out n).stop = 2 ∨ ((s.out n).stop = 1 ∧ s.asMode n = 3)) :=
  ⟨(play9 [(5, none)]).onOut 9 (fun x => { x with stop := 2 }), 9, by decide +kernel⟩

theorem wit_OutputsPlay_14 : ∃ (s : State) (n : Fin 32),
    s.asBusy n = true ∧ s.asMode n = 2 ∧ (s.out n).ended = false ∧ (s.out n).ahead.length ≤ 4084 ∧ (s.out n).skip = 0 ∧ (s.out n).fetch.2.2 < s.asLength n (s.out n).fetch.1 :=
  ⟨play9 [], 9, by decide +kernel⟩

theorem wit_OutputsPlay_15 : ∃ (s : State) (n : Fin 32),
    (4084 < (s.out n).ahead.length ∨ s.asBusy n = false ∨ s.asMode n ≠ 2 ∨ (s.out n).ended = true) :=
  ⟨play9 (List.replicate 4085 (0, none)), 9, by decide +kernel⟩

theorem wit_HaloPortsTrain_1 : ∃ (s : State) (rq : Req) (p : Fin 4) (v : Word) (t : Nat),
    s.takes rq (0x1110 + p) 0x00 0 [setBit v 0 true] Env.calm t = true :=
  ⟨ready, rq0, 1, 1, 9, by decide +kernel⟩

theorem wit_HaloPortsTrain_2 : ∃ (s : State) (rq : Req) (p : Fin 4) (v : Word) (t : Nat),
    s.takes rq (0x1110 + p) 0x00 0 [setBit v 0 false] Env.calm t = true :=
  ⟨ready, rq0, 1, 0, 9, by decide +kernel⟩

theorem wit_HaloPortsTrain_3 : ∃ (s : State) (p : Fin 4),
    s.portState p = 1 :=
  ⟨ready.setRegN 0x1112 7 1, 2, by decide +kernel⟩

theorem wit_HaloPortsTrain_4 : ∃ (s : State) (p : Fin 4),
    s.portState p ≠ 1 :=
  ⟨up0, 0, by decide +kernel⟩

theorem wit_HaloPortsTrain_5 : ∃ (s : State) (p : Fin 4) (rate : Nat) (lanes : BitVec 4),
    s.portState p = 2 ∧ s.trainsAt p rate = true ∧ s.regN (0x1110 + p) 0x03 ≤ lanesOf lanes.toNat ∧ (s.port p).peer = [] :=
  ⟨up0.setRegN 0x1110 7 2, 0, 2, 3, by decide +kernel⟩

theorem wit_HaloPortsTrain_6 : ∃ (s : State) (p : Fin 4) (rate : Nat) (lanes : BitVec 4),
    s.portState p = 2 ∧ s.trainsAt p rate = true ∧ s.regN (0x1110 + p) 0x03 ≤ lanesOf lanes.toNat ∧ (s.port p).peer ≠ [] :=
  ⟨(up0.setRegN 0x1110 7 2).onPort 0 (fun x => { x with peer := [wd (2^32 + 2^24 + 7), wd (4 * 65536), wd (2^36 + 2^35 + 2), 0, 0, 0, 0, 0, 0, 0, 0] }), 0, 1, 3, by decide +kernel⟩

theorem wit_HaloPortsTrain_7 : ∃ (s : State) (p : Fin 4) (rate : Nat) (lanes : BitVec 4),
    (s.portState p ≠ 2 ∨ s.trainsAt p rate = false ∨ lanesOf lanes.toNat < s.regN (0x1110 + p) 0x03) :=
  ⟨up0.setRegN 0x1110 7 2, 0, 3, 3, by decide +kernel⟩

theorem wit_HaloPortsTrain_8 : ∃ (s : State) (p : Fin 4) (t : Nat),
    s.portState p = 2 ∧ (s.port p).since + msEt 50 ≤ (s.at t).clock :=
  ⟨up0q.setRegN 0x1110 7 2, 0, msEt 60, by decide +kernel⟩

theorem wit_HaloPortsTrain_9 : ∃ (s : State) (p : Fin 4) (t : Nat),
    (s.portState p ≠ 2 ∨ (s.at t).clock < (s.port p).since + msEt 50) :=
  ⟨up0q.setRegN 0x1110 7 2, 0, msEt 40, by decide +kernel⟩

theorem wit_HaloPortsTrain_10 : ∃ (s : State) (p : Fin 4),
    (s.portState p = 3 ∨ s.portState p = 4) :=
  ⟨up0q, 0, by decide +kernel⟩

theorem wit_HaloPortsTrain_11 : ∃ (s : State) (rq : Req) (p : Fin 4) (v : Word) (t : Nat),
    s.takes rq (0x1110 + p) 0x06 0 [v] Env.calm t = true ∧ (s.portState p = 3 ∨ s.portState p = 4) :=
  ⟨up0q, rq0, 0, 1, 9, by decide +kernel⟩

theorem wit_HaloLinkProtocol_3 : ∃ (s : State) (p : Fin 4) (lseq : BitVec 8),
    2 ≤ s.portState p ∧ (if (s.port p).nakSeq = lseq then (s.port p).naks + 1 else 1) < 8 :=
  ⟨up0q, 0, 8, by decide +kernel⟩

theorem wit_HaloLinkProtocol_4 : ∃ (s : State) (p : Fin 4) (lseq : BitVec 8),
    2 ≤ s.portState p ∧ (s.port p).nakSeq = lseq ∧ 7 ≤ (s.port p).naks :=
  ⟨up0q.onPort 0 (fun x => { x with naks := 7, nakSeq := 8 }), 0, 8, by decide +kernel⟩

theorem wit_HaloLinkProtocol_5 : ∃ (s : State) (p : Fin 4),
    (s.port p).unacked ≠ 0 :=
  ⟨up0q, 0, by decide +kernel⟩

theorem wit_HaloLinkProtocol_6 : ∃ (s : State) (p : Fin 4),
    (s.port p).nakWait = true :=
  ⟨up0q.onPort 0 (fun x => { x with nakWait := true }), 0, by decide +kernel⟩

theorem wit_HaloLinkProtocol_7 : ∃ (s : State) (p : Fin 4) (vc : Bool) (t : Nat) (d : Nat),
    (s.port p).credit vc = 0 ∧ (s.port p).dry vc = some d ∧ d + msEt 10 ≤ (s.at t).clock ∧ (s.port p).txq.any (fun e => e.cls ≠ 1 && e.frame.vc = vc) = true :=
  ⟨up0q.onPort 0 (fun x => { x with credit0 := 0, dry0 := some 9 }), 0, false, msEt 11, 9, by decide +kernel⟩

theorem wit_HaloLinkProtocol_8 : ∃ (s : State) (p : Fin 4) (vc : Bool) (t : Nat),
    ((s.port p).credit vc ≠ 0 ∨ (∀ d ∈ ((s.port p).dry vc).toList, (s.at t).clock < d + msEt 10) ∨ (s.port p).txq.any (fun e => e.cls ≠ 1 && e.frame.vc = vc) = false) :=
  ⟨up0q, 0, false, 9, by decide +kernel⟩

theorem wit_HaloLinkProtocol_9 : ∃ (s : State) (p : Fin 4) (w : Word) (ws : List Word),
    2 ≤ s.portState p ∧ (s.port p).ctl = w :: ws :=
  ⟨up0q.onPort 0 (fun x => { x with ctl := [5, 6] }), 0, 5, [6], by decide +kernel⟩

theorem wit_HaloLinkProtocol_10 : ∃ (s : State) (p : Fin 4) (e : TxFrame) (t : Nat),
    2 ≤ s.portState p ∧ (s.port p).ctl = [] ∧ ((s.at t).pickFrame p).1 = some e ∧ (s.port p).replay.length < 128 :=
  ⟨up0q, 0, ⟨3, mkFrame 4 0xFFFFFF 5 [1, 2, 3], none, none⟩, 4, by decide +kernel⟩

theorem wit_HaloLinkProtocol_11 : ∃ (s : State) (p : Fin 4) (d : TxFrame) (e : TxFrame),
    s.portState p = 3 ∧ (s.port p).ctl = [] ∧ (s.port p).txq = [d, e] ∧ (s.port p).credit d.frame.vc ≠ 0 ∧ (s.port p).credit e.frame.vc ≠ 0 ∧ 1 ≤ e.cls ∧ e.cls < d.cls ∧ d.cls ≤ 5 ∧ d.inp = none ∧ e.inp = none ∧ (s.port p).replay.length < 128 :=
  ⟨up0q.onPort 0 (fun x => { x with txq := [⟨3, mkFrame 4 0xFFFFFF 5 [1, 2, 3], none, none⟩, ⟨2, mkFrame 6 0xFFFFFE 5 [1, 2, 3], none, none⟩] }), 0, ⟨3, mkFrame 4 0xFFFFFF 5 [1, 2, 3], none, none⟩, ⟨2, mkFrame 6 0xFFFFFE 5 [1, 2, 3], none, none⟩, by decide +kernel⟩

theorem wit_HaloLinkProtocol_12 : ∃ (s : State) (p : Fin 4),
    (s.portState p < 2 ∨ ((s.port p).ctl = [] ∧ (s.sendable p = [] ∨ 128 ≤ (s.port p).replay.length))) :=
  ⟨up0, 0, by decide +kernel⟩

theorem wit_HaloLinkProtocol_13 : ∃ (s : State) (p : Fin 4) (words : List Word),
    2 ≤ s.portState p ∧ (∀ x ∈ (parseFrame words).toList, x.2 ≠ (s.port p).rxSeq) :=
  ⟨up0q, 0, [1, 2, 3], by decide +kernel⟩

theorem wit_HaloLinkProtocol_14 : ∃ (s : State) (p : Fin 4),
    s.portState p < 2 :=
  ⟨ready, 0, by decide +kernel⟩

theorem wit_HaloLinkProtocol_15 : ∃ (s : State) (p : Fin 4) (words : List Word) (f : Frame),
    2 ≤ s.portState p ∧ parseFrame words = some (f, (s.port p).rxSeq) ∧ 0xB ≤ f.ty.toNat :=
  ⟨up0q, 0, frameWire (mkFrame 0xC 5 9 [7]) 6, mkFrame 0xC 5 9 [7], by decide +kernel⟩

theorem wit_HaloLanesAndLoss_1 : ∃ (s : State) (p : Fin 4) (lane : Fin 4) (cw : Codeword),
    2 ≤ s.portState p ∧ (s.portState p = 2 ∨ (s.regN (0x1110 + p) 0x09).testBit lane.val = true) ∧ (cw.bad = true ∨ 2 ≤ cw.kind.toNat) ∧ ((s.port p).badCw.filter (fun e => e.1 = lane.val)).length < 15 :=
  ⟨up0q, 0, 2, ⟨0, 5, [], true, 3⟩, by decide +kernel⟩

theorem wit_HaloLanesAndLoss_2 : ∃ (s : State) (p : Fin 4) (lane : Fin 4) (cw : Codeword) (t : Nat),
    2 ≤ s.portState p ∧ (s.portState p = 2 ∨ (s.regN (0x1110 + p) 0x09).testBit lane.val = true) ∧ (cw.bad = true ∨ 2 ≤ cw.kind.toNat) ∧ 15 ≤ ((s.port p).badCw.filter (fun e => e.1 = lane.val ∧ (s.at t).clock < e.2 + msEt 1)).length ∧ (s.regN (0x1110 + p) 0x09).testBit lane.val = true ∧ s.wideWithout p (2 ^ lane.val) = true :=
  ⟨up0q.onPort 0 (fun x => { x with badCw := List.replicate 15 (2, 5) }), 0, 2, ⟨0, 5, [], true, 3⟩, 9, by decide +kernel⟩

theorem wit_HaloLanesAndLoss_3 : ∃ (s : State) (p : Fin 4) (lane : Fin 4) (cw : Codeword),
    2 ≤ s.portState p ∧ (s.portState p = 2 ∨ (s.regN (0x1110 + p) 0x09).testBit lane.val = true) ∧ cw.bad = false ∧ cw.kind = 1 :=
  ⟨up0q, 0, 2, ⟨1, 0, [], false, 3⟩, by decide +kernel⟩

theorem wit_HaloLanesAndLoss_4 : ∃ (s : State) (p : Fin 4) (lane : Fin 4) (cw : Codeword),
    2 ≤ s.portState p ∧ (s.portState p = 2 ∨ (s.regN (0x1110 + p) 0x09).testBit lane.val = true) ∧ cw.bad = false ∧ cw.kind = 0 ∧ (s.port p).cwHeld = [] ∧ cw.seq = (s.port p).cwNext ∧ (s.port p).stream = [] ∧ cw.words.all (· = 0) = true :=
  ⟨up0q, 0, 2, ⟨0, 0, [0, 0], false, 3⟩, by decide +kernel⟩

theorem wit_HaloLanesAndLoss_5 : ∃ (s : State) (p : Fin 4) (lane : Fin 4) (cw : Codeword),
    2 ≤ s.portState p ∧ (s.portState p = 2 ∨ (s.regN (0x1110 + p) 0x09).testBit lane.val = true) ∧ cw.bad = false ∧ cw.kind = 0 ∧ (s.port p).cwHeld = [] ∧ cw.seq ≠ (s.port p).cwNext :=
  ⟨up0q, 0, 2, ⟨0, 7, [5], false, 3⟩, by decide +kernel⟩

theorem wit_HaloLanesAndLoss_6 : ∃ (s : State) (p : Fin 4) (lane : Fin 4),
    (s.portState p < 2 ∨ (2 < s.portState p ∧ (s.regN (0x1110 + p) 0x09).testBit lane.val = false)) :=
  ⟨ready, 0, 2, by decide +kernel⟩

theorem wit_HaloLanesAndLoss_7 : ∃ (s : State) (p : Fin 4) (lane : Fin 4),
    (s.portState p = 3 ∨ s.portState p = 4) ∧ (s.regN (0x1110 + p) 0x09).testBit lane.val = true ∧ s.regN (0x1110 + p) 0x03 ≤ lanesOf (s.regN (0x1110 + p) 0x09 &&& (15 ^^^ 2 ^ lane.val)) :=
  ⟨up0q, 0, 2, by decide +kernel⟩

theorem wit_HaloLanesAndLoss_8 : ∃ (s : State) (p : Fin 4) (lanes : BitVec 4),
    (s.portState p = 3 ∨ s.portState p = 4) ∧ s.regN (0x1110 + p) 0x03 ≤ lanesOf (s.regN (0x1110 + p) 0x09 &&& (15 ^^^ lanes.toNat)) :=
  ⟨up0q, 0, 6, by decide +kernel⟩

theorem wit_HaloLanesAndLoss_9 : ∃ (s : State) (p : Fin 4) (lanes : BitVec 4),
    (s.portState p = 3 ∨ s.portState p = 4) ∧ s.regN (0x1110 + p) 0x09 &&& lanes.toNat ≠ 0 ∧ s.regN (0x1110 + p) 0x03 ≤ lanesOf (s.regN (0x1110 + p) 0x09 &&& (15 ^^^ lanes.toNat)) :=
  ⟨up0q, 0, 6, by decide +kernel⟩

theorem wit_HaloLanesAndLoss_10 : ∃ (s : State) (p : Fin 4),
    (s.portState p = 3 ∨ s.portState p = 4) ∧ s.portRole p ≠ 1 :=
  ⟨up0q.setRegN 0x1110 1 2, 0, by decide +kernel⟩

theorem wit_HaloLanesAndLoss_11 : ∃ (s : State) (p : Fin 4),
    (s.portState p = 3 ∨ s.portState p = 4) ∧ s.portRole p = 1 ∧ p.val < 2 ∧ s.ringSize ≠ 0 :=
  ⟨up0q, 0, by decide +kernel⟩

theorem wit_HaloLanesAndLoss_12 : ∃ (s : State) (p : Fin 4),
    s.portState p ≠ 3 ∧ s.portState p ≠ 4 :=
  ⟨ready, 0, by decide +kernel⟩

theorem wit_HaloRingAndRoutes_1 : ∃ (s : State) (p : Fin 4) (f : Frame) (t : Nat),
    f.ty = 9 ∧ fld (fpay f 0) 36 4 = 1 ∧ ((s.at t).acceptBroadcast p f).1 = true ∧ s.linkBroken (fld (fpay f 1) 0 24) = false ∧ (∃ i < 8, bit (s.reg 0x1102 0x02 i) 24 = false) :=
  ⟨up0, 1, mkFrame 9 0xFFFFFF 9 [wd (2 ^ 36 + 1), 2], 9, by decide +kernel⟩

theorem wit_HaloRingAndRoutes_2 : ∃ (s : State) (p : Fin 4) (f : Frame) (t : Nat),
    f.ty = 9 ∧ fld (fpay f 0) 36 4 = 2 ∧ ((s.at t).acceptBroadcast p f).1 = true :=
  ⟨up0b, 1, mkFrame 9 0xFFFFFF 9 [wd (2 * 2 ^ 36 + 1), 2], 9, by decide +kernel⟩

theorem wit_HaloRingAndRoutes_3 : ∃ (s : State) (p : Fin 4) (f : Frame) (t : Nat),
    f.ty = 9 ∧ ((s.at t).acceptBroadcast p f).1 = false ∧ (fld (fpay f 0) 36 4 = 1 ∨ fld (fpay f 0) 36 4 = 2) :=
  ⟨{ up0 with halo := { up0.halo with seen := [(9, 9, 1, 0)] } }, 1, mkFrame 9 0xFFFFFF 9 [wd (2 ^ 36 + 1), 2], 9, by decide +kernel⟩

theorem wit_HaloRingAndRoutes_4 : ∃ (s : State) (p : Fin 4),
    s.portRole p = 1 ∧ p.val < 2 ∧ s.ringSize ≠ 0 ∧ s.linkBroken (s.ringLink p) = true ∧ s.portState p ≠ 3 :=
  ⟨((up0.setRegN 0x1111 1 1).setRegN 0x1111 7 1).setRegW 0x1102 2 0 (wd (2^24)), 1, by decide +kernel⟩

theorem wit_HaloRingAndRoutes_5 : ∃ (s : State) (p : Fin 4) (t : Nat),
    s.portRole p = 1 ∧ p.val < 2 ∧ s.ringSize ≠ 0 ∧ s.linkBroken (s.ringLink p) = true ∧ s.portState p = 3 ∧ (s.port p).restoring = true ∧ (s.port p).since + usEt (s.regN 0x1102 3) ≤ (s.at t).clock :=
  ⟨(up0.setRegW 0x1102 2 0 (wd (2^24 + 1))).onPort 0 (fun x => { x with restoring := true }), 0, msEt 9000, by decide +kernel⟩

theorem wit_HaloRingAndRoutes_6 : ∃ (s : State) (p : Fin 4) (t : Nat),
    ((s.port p).restoring = false ∨ s.portState p ≠ 3 ∨ (s.at t).clock < (s.port p).since + usEt (s.regN 0x1102 3)) :=
  ⟨up0, 0, 9, by decide +kernel⟩

theorem wit_HaloRingAndRoutes_7 : ∃ (s : State) (p : Fin 4),
    (s.portRole p ≠ 1 ∨ 2 ≤ p.val ∨ s.ringSize = 0 ∨ s.linkBroken (s.ringLink p) = false ∨ s.portState p = 3) :=
  ⟨up0, 0, by decide +kernel⟩

theorem wit_HaloRingAndRoutes_8 : ∃ (f : Frame),
    (f.ty ≠ 9 ∨ fld (fpay f 0) 36 4 ≠ 1) :=
  ⟨mkFrame 9 0xFFFFFF 9 [0, 2], by decide +kernel⟩

theorem wit_HaloRingAndRoutes_9 : ∃ (f : Frame),
    (f.ty ≠ 9 ∨ fld (fpay f 0) 36 4 ≠ 2) :=
  ⟨mkFrame 9 0xFFFFFF 9 [0, 2], by decide +kernel⟩

theorem wit_HaloRingAndRoutes_10 : ∃ (s : State) (p : Fin 4) (f : Frame),
    f.ty = 0xA ∧ 2 ≤ s.portState p :=
  ⟨up0, 0, mkFrame 0xA 0xFFFFFE 6 [wd (2^32 + 2^24 + 6), wd (4 * 65536 + 32 * 256 + 32), wd (2^36 + 2^35 + 2), 0, 0, 0, 0, 0, 0, 0, 0], by decide +kernel⟩

theorem wit_HaloRingAndRoutes_11 : ∃ (s : State) (p : Fin 4) (f : Frame),
    (f.ty ≠ 0xA ∨ s.portState p < 2) :=
  ⟨ready, 0, mkFrame 0xA 0xFFFFFE 6 [wd (2^32 + 2^24 + 6), wd (4 * 65536 + 32 * 256 + 32), wd (2^36 + 2^35 + 2), 0, 0, 0, 0, 0, 0, 0, 0], by decide +kernel⟩

theorem wit_HaloRingAndRoutes_12 : ∃ (s : State) (p : Fin 4) (f : Frame) (out : Nat),
    f.dest.toNat ≠ s.ownDevice ∧ f.dest ≠ 0xFFFFFE ∧ f.dest ≠ 0xFFFFFF ∧ s.route (some p.val) f.dest.toNat = some out :=
  ⟨(up0.setRegN 0x1111 1 2).setRegN 0x1111 7 3, 0, mkFrame 2 77 9 [1,2,3], 1, by decide +kernel⟩

theorem wit_HaloRingAndRoutes_13 : ∃ (s : State) (p : Fin 4) (f : Frame),
    f.dest.toNat ≠ s.ownDevice ∧ f.dest ≠ 0xFFFFFE ∧ f.dest ≠ 0xFFFFFF ∧ s.route (some p.val) f.dest.toNat = none ∧ f.ty ≠ 2 :=
  ⟨up0, 0, mkFrame 3 77 9 [1,2,3], by decide +kernel⟩

theorem wit_HaloRingAndRoutes_14 : ∃ (s : State) (p : Fin 4) (f : Frame) (out : Nat),
    f.dest.toNat ≠ s.ownDevice ∧ f.dest ≠ 0xFFFFFE ∧ f.dest ≠ 0xFFFFFF ∧ s.route (some p.val) f.dest.toNat = none ∧ f.ty = 2 ∧ bit (fpay f 2) 23 = true ∧ s.route none f.src.toNat = some out :=
  ⟨(up0.setRegN 0x1111 1 2).setRegN 0x1111 7 3, 1, mkFrame 2 77 9 [1, 2, wd (2 ^ 23)], 1, by decide +kernel⟩

theorem wit_HaloRingAndRoutes_15 : ∃ (s : State) (f : Frame),
    (f.dest.toNat = s.ownDevice ∨ f.dest = 0xFFFFFE ∨ f.dest = 0xFFFFFF) :=
  ⟨up0, mkFrame 2 5 9 [1], by decide +kernel⟩

theorem wit_RemoteTransactions_1 : ∃ (s : State) (f : Frame),
    s.carries = true ∧ trainWhole false [f] = true ∧ bit (fpay f 2) 22 = false ∧ bit (fpay f 0) 24 = false ∧ s.requester f.src.toNat = none :=
  ⟨up0, mkFrame 2 5 9 [wd (3 * 2 ^ 36 + 0x0100 * 256), 0, wd (7 * 2 ^ 24 + 2 ^ 23)], by decide +kernel⟩

theorem wit_RemoteTransactions_2 : ∃ (s : State) (f : Frame) (out : Nat) (r : Obj),
    s.carries = true ∧ trainWhole false [f] = true ∧ bit (fpay f 2) 22 = false ∧ bit (fpay f 0) 24 = true ∧ fld (fpay f 0) 36 4 = 3 ∧ f.dest.toNat = s.ownDevice ∧ f.src.toNat ≠ s.ownDevice ∧ s.alm.held = [] ∧ s.serviceClosed (mkTx ⟨sourceOf 4 0 f.src.toNat, none⟩ .describe (fld (fpay f 0) 8 16) (fld (fpay f 0) 0 8) 0 1 [] .here) = false ∧ bit (fpay f 0) 35 = false ∧ s.existCode (fld (fpay f 0) 8 16) (fld (fpay f 0) 0 8) = 0 ∧ odFind (fld (fpay f 0) 8 16) (fld (fpay f 0) 0 8) = some r ∧ s.route none f.src.toNat = some out ∧ f.dest ≠ 0xFFFFFE ∧ f.src ≠ 0xFFFFFE :=
  ⟨(up0.setRegN 0x1111 1 2).setRegN 0x1111 7 3, mkFrame 2 5 9 [wd (3 * 2 ^ 36 + 2 ^ 24 + 0x0100 * 256), 0, wd (7 * 2 ^ 24 + 2 ^ 23)], 1, row 0x0100 0, by decide +kernel⟩

theorem wit_RemoteTransactions_3 : ∃ (s : State) (f : Frame) (r : RemReq),
    trainWhole true [f] = true ∧ fld (fpay f 1) 16 24 = s.ownDevice ∧ fld (fpay f 0) 8 16 ≠ 0x63 ∧ fld (fpay f 0) 8 16 ≠ 0x66 ∧ (s.target (targetKey f.src.toNat none)).out = [r] ∧ (s.target (targetKey f.src.toNat none)).waiting = [] ∧ r.seq = BitVec.ofNat 16 (fld (fpay f 0) 24 16) ∧ r.tx.dst = .here :=
  ⟨asked77, mkFrame 3 5 77 [wd (3 * 2 ^ 24 + 8), wd (5 * 65536), 1234], ⟨3, ⟨rq0, .read, 0x0100, 0, 0, 1, [], .here⟩, none, 0, 0⟩, by decide +kernel⟩

theorem wit_RemoteTransactions_4 : ∃ (s : State) (f : Frame),
    trainWhole true [f] = true ∧ fld (fpay f 1) 16 24 = s.ownDevice ∧ fld (fpay f 0) 8 16 ≠ 0x63 ∧ (s.target (targetKey f.src.toNat none)).out.find? (fun r => r.seq = BitVec.ofNat 16 (fld (fpay f 0) 24 16)) = none :=
  ⟨up0, mkFrame 3 5 77 [wd (3 * 2 ^ 24 + 8), wd (5 * 65536), 1234], by decide +kernel⟩

theorem wit_RemoteTransactions_5 : ∃ (s : State) (dev : BitVec 24) (r : RemReq) (t : Nat),
    (s.target (targetKey dev.toNat none)).out = [r] ∧ (s.target (targetKey dev.toNat none)).waiting = [] ∧ r.sentAt + usEt (s.regN 0x1100 0x01) ≤ (s.at t).clock ∧ s.regN 0x1100 0x02 ≤ r.retries ∧ r.tx.dst = .here :=
  ⟨asked77.setRegN 0x1100 2 0, 77, ⟨3, ⟨rq0, .read, 0x0100, 0, 0, 1, [], .here⟩, none, 0, 0⟩, msEt 5000, by decide +kernel⟩

theorem wit_RemoteTransactions_6 : ∃ (s : State) (dev : BitVec 24) (r : RemReq) (t : Nat),
    (s.target (targetKey dev.toNat none)).out = [r] ∧ r.sentAt + usEt (s.regN 0x1100 0x01) ≤ (s.at t).clock ∧ r.retries < s.regN 0x1100 0x02 :=
  ⟨asked77.setRegN 0x1100 2 3, 77, ⟨3, ⟨rq0, .read, 0x0100, 0, 0, 1, [], .here⟩, none, 0, 0⟩, msEt 5000, by decide +kernel⟩

theorem wit_RemoteTransactions_7 : ∃ (s : State) (dev : BitVec 24) (t : Nat),
    (∀ r ∈ (s.target (targetKey dev.toNat none)).out, (s.at t).clock < r.sentAt + usEt (s.regN 0x1100 0x01)) :=
  ⟨asked77, 77, 9, by decide +kernel⟩

theorem wit_RemoteTransactions_8 : ∃ (s : State) (f : Frame) (rp : Nat),
    s.carries = true ∧ trainWhole false [f] = true ∧ bit (fpay f 2) 22 = true ∧ rp = fld (fpay f 2) 20 2 ∧ (s.portState rp = 3 ∨ s.portState rp = 4) :=
  ⟨up0, mkFrame 2 5 9 [wd (3 * 2 ^ 36 + 2 ^ 24 + 0x0100 * 256), 0, wd (7 * 2 ^ 24 + 2 ^ 23 + 2 ^ 22)], 0, by decide +kernel⟩

theorem wit_RemoteTransactions_9 : ∃ (s : State) (l : List Frame),
    s.carries = true ∧ trainWhole false l = false :=
  ⟨up0, [], by decide +kernel⟩

theorem wit_RemoteTransactions_10 : ∃ (s : State),
    s.carries = false :=
  ⟨State.reset, by decide +kernel⟩

theorem wit_RemoteTransactions_11 : ∃ (l : List Frame),
    trainWhole true l = false :=
  ⟨[], by decide +kernel⟩

theorem wit_G1RegistersReachObjects_1 : ∃ (s : State) (a : BitVec 24) (t : Nat) (i : Nat) (sub : Nat) (n : Nat) (r : Obj),
    0x10000 ≤ a.toNat ∧ g1Object a.toNat = some (i, sub, 0) ∧ odFind i sub = some r ∧ r.isDomain = false ∧ r.words = n ∧ s.gives s.g1Req i sub 0 n t = true :=
  ⟨ready.setReg80 0x0900 0x0D (2 ^ 50 + 77), g1At900 0x0D 0, 9, 0x0900, 0x0D, 2, row 0x0900 0x0D, by decide +kernel⟩

theorem wit_G1RegistersReachObjects_2 : ∃ (s : State) (a : BitVec 24) (i : Nat) (sub : Nat) (k : Nat) (ws : List Word) (r : Obj),
    s.carries = true ∧ 0x10000 ≤ a.toNat ∧ g1Object a.toNat = some (i, sub, k) ∧ a.toNat / 4 % 4 = k ∧ k ≠ 0 ∧ odFind i sub = some r ∧ r.isDomain = false ∧ s.host.latch = some (i, sub, ws) :=
  ⟨{ ready with host := { ready.host with latch := some (0x0900, 0x0D, [5, wd (7 * 2 ^ 32 + 6)]) } }, g1At900 0x0D 3, 0x0900, 0x0D, 3, [5, wd (7 * 2 ^ 32 + 6)], row 0x0900 0x0D, by decide +kernel⟩

theorem wit_G1RegistersReachObjects_3 : ∃ (s : State) (a : BitVec 24) (i : Nat) (sub : Nat) (k : Nat),
    s.carries = true ∧ 0x10000 ≤ a.toNat ∧ g1Object a.toNat = some (i, sub, k) ∧ a.toNat / 4 % 4 = k ∧ k ≠ 0 ∧ s.host.wlatch = none :=
  ⟨ready, g1At900 0x0D 1, 0x0900, 0x0D, 1, by decide +kernel⟩

theorem wit_G1RegistersReachObjects_4 : ∃ (s : State) (a : BitVec 24) (v : BitVec 32) (t : Nat) (i : Nat) (sub : Nat) (hi : Nat) (r : Obj),
    0x10000 ≤ a.toNat ∧ g1Object a.toNat = some (i, sub, 0) ∧ odFind i sub = some r ∧ r.words = 1 ∧ r.ty ≠ .str ∧ r.isDomain = false ∧ r.hook = .none ∧ r.acc ≠ .cmd ∧ (r.eff = .imm ∨ r.eff = .shadow) ∧ s.host.wlatch = some (i, sub, [hi, 0, 0]) ∧ s.takes s.g1Req i sub 0 [wd (hi % 256 * 2 ^ 32 + v.toNat)] Env.calm t = true :=
  ⟨{ ready with host := { ready.host with wlatch := some (0x0904, 0x01, [0xFF, 0, 0]) } }, 0x0034010, 0xFFFFFFFB, 9, 0x0904, 0x01, 0xFF, row 0x0904 0x01, by decide +kernel⟩

theorem wit_G1RegistersReachObjects_5 : ∃ (s : State) (a : BitVec 24) (t : Nat) (i : Nat) (sub : Nat) (c : Nat) (ep : Nat) (r : Obj),
    s.carries = true ∧ s.alm.held = [] ∧ 0x10000 ≤ a.toNat ∧ g1Object a.toNat = some (i, sub, 0) ∧ odFind i sub = some r ∧ r.isDomain = false ∧ (s.at t).firstChecks (mkTx s.g1Req .read i sub 0 r.words [] .here) [] = (c, ep) ∧ c ≠ 0 ∧ c ≠ 8 :=
  ⟨ready.setRegN 0x0100 8 1, g1At900 0x0D 0, 9, 0x0900, 0x0D, 7, 0, row 0x0900 0x0D, by decide +kernel⟩

theorem wit_G1RegistersReachObjects_6 : ∃ (s : State),
    s.carries = true :=
  ⟨{ ready with host := { ready.host with aborts := (5, 3) } }, by decide +kernel⟩

theorem wit_G1RegistersReachObjects_7 : ∃ (s : State) (a : BitVec 24) (t : Nat) (i : Nat) (sub : Nat) (k : Nat) (n : Nat) (r : Obj),
    0x10000 ≤ a.toNat ∧ g1Object a.toNat = some (i, sub, k) ∧ a.toNat / 4 % 4 = k ∧ k ≠ 0 ∧ odFind i sub = some r ∧ r.isDomain = false ∧ r.words = n ∧ s.host.latch.all (fun l => l.1 != i || l.2.1 != sub) = true ∧ s.gives s.g1Req i sub 0 n t = true :=
  ⟨ready.setReg80 0x0900 0x0D (2 ^ 50 + 77), g1At900 0x0D 1, 9, 0x0900, 0x0D, 1, 2, row 0x0900 0x0D, by decide +kernel⟩

theorem wit_G1RegistersReachObjects_8 : ∃ (s : State) (a : BitVec 24) (i : Nat) (sub : Nat) (k : Nat) (li : Nat) (ls : Nat) (ps : List Nat),
    s.carries = true ∧ 0x10000 ≤ a.toNat ∧ g1Object a.toNat = some (i, sub, k) ∧ a.toNat / 4 % 4 = k ∧ k ≠ 0 ∧ s.host.wlatch = some (li, ls, ps) :=
  ⟨{ ready with host := { ready.host with wlatch := some (0x0900, 0x0D, [1, 2, 3]) } }, g1At900 0x0D 2, 0x0900, 0x0D, 2, 0x0900, 0x0D, [1, 2, 3], by decide +kernel⟩

theorem wit_G1RegistersReachObjects_9 : ∃ (s : State) (a : BitVec 24) (v : BitVec 32) (t : Nat) (i : Nat) (sub : Nat) (p0 : Nat) (p1 : Nat) (p2 : Nat) (r : Obj),
    0x10000 ≤ a.toNat ∧ g1Object a.toNat = some (i, sub, 0) ∧ odFind i sub = some r ∧ r.words = 2 ∧ r.ty ≠ .str ∧ r.isDomain = false ∧ r.hook = .none ∧ r.acc ≠ .cmd ∧ (r.eff = .imm ∨ r.eff = .shadow) ∧ s.host.wlatch = some (i, sub, [p0, p1, p2]) ∧ s.takes s.g1Req i sub 0 [wd (p0 % 256 * 2 ^ 32 + v.toNat), wd (p2 % 256 * 2 ^ 32 + p1)] Env.calm t = true :=
  ⟨{ ready with host := { ready.host with wlatch := some (0x0900, 0x0D, [1, 2, 3]) } }, g1At900 0x0D 0, 0xFFFFFFFF, 9, 0x0900, 0x0D, 1, 2, 3, row 0x0900 0x0D, by decide +kernel⟩

theorem wit_G1RegistersReachObjects_10 : ∃ (s : State) (a : BitVec 24) (i : Nat) (sub : Nat) (r : Obj),
    s.carries = true ∧ 0x10000 ≤ a.toNat ∧ a.toNat / 4 % 4 = 0 ∧ g1Object a.toNat = some (i, sub, 0) ∧ odFind i sub = some r ∧ (r.isDomain = true ∨ r.ty = .str) :=
  ⟨ready, g1At900 0x13 0, 0x0900, 0x13, row 0x0900 0x13, by decide +kernel⟩

theorem wit_G1RegistersReachObjects_11 : ∃ (a : BitVec 24) (e : Env) (t : Nat) (i : Nat) (sub : Nat) (k : Nat) (r : Obj) (c : Instr),
    0x10000 ≤ a.toNat ∧ g1Object a.toNat = some (i, sub, k) ∧ odFind i sub = some r ∧ r.isDomain = true ∧ (c = .g1Reg0Read a e t ∨ c = .g1RegnRead a e t) :=
  ⟨g1At900 0x13 0, Env.calm, 9, 0x0900, 0x13, 0, row 0x0900 0x13, .g1Reg0Read (g1At900 0x13 0) Env.calm 9, by decide +kernel⟩

theorem wit_G1RegistersReachObjects_12 : ∃ (s : State) (a : BitVec 24),
    s.carries = true ∧ a.toNat ∈ [0x000, 0x004, 0x100, 0x200, 0x300, 0x304] :=
  ⟨{ ready with host := { ready.host with aborts := (5, 3) } }, 0, by decide +kernel⟩

theorem wit_G1RegistersReachObjects_13 : ∃ (s : State) (a : BitVec 24) (v : BitVec 32) (e : Env) (t : Nat) (c : Instr),
    (s.carries = false ∨ (0x10000 ≤ a.toNat ∧ g1Object a.toNat = none)) ∧ c ∈ [.g1Reg0Read a e t, .g1RegnRead a e t, .g1HighWrite a v t, .g1Reg0Write a v e t] :=
  ⟨State.reset, 0x30000, 7, Env.calm, 9, .g1Reg0Read 0x30000 Env.calm 9, by decide +kernel⟩

theorem wit_G1RegistersReachObjects_14 : ∃ (a : BitVec 24) (v : BitVec 32) (e : Env) (t : Nat) (c : Instr),
    (a.toNat < 0x10000 ∨ a.toNat / 4 % 4 = 0) ∧ (c = .g1RegnRead a e t ∨ c = .g1HighWrite a v t) :=
  ⟨0x30000, 7, Env.calm, 9, .g1RegnRead 0x30000 Env.calm 9, by decide +kernel⟩

theorem wit_G1RegistersReachObjects_15 : ∃ (a : BitVec 24),
    (a.toNat < 0x10000 ∨ a.toNat / 4 % 4 ≠ 0) :=
  ⟨0x30004, by decide +kernel⟩

theorem wit_G1WindowsReachDomains_1 : ∃ (s : State) (t : Nat),
    s.gives s.g1Req (s.host.domTarget / 256) (s.host.domTarget % 256) s.host.domOffset 1 t = true :=
  ⟨{ ready.setRegW 0x0990 0 4 77 with host := { ready.host with domTarget := 0x099000, domOffset := 4 } }, 9, by decide +kernel⟩

theorem wit_G1WindowsReachDomains_2 : ∃ (s : State),
    s.carries = true :=
  ⟨{ ready with host := { ready.host with domRead := wd (2 ^ 34 + 8), domOffset := 2 ^ 26 - 1 } }, by decide +kernel⟩

theorem wit_G1WindowsReachDomains_3 : ∃ (s : State),
    s.carries = true :=
  ⟨ready, by decide +kernel⟩

theorem wit_G1WindowsReachDomains_4 : ∃ (s : State) (v : BitVec 32) (t : Nat) (i : Nat) (sub : Nat) (r : Obj),
    s.host.domTarget = i * 256 + sub ∧ sub < 256 ∧ odFind i sub = some r ∧ r.isDomain = true ∧ r.hook = .none ∧ r.acc ≠ .cmd ∧ (r.eff = .imm ∨ r.eff = .shadow) ∧ s.takes s.g1Req i sub s.host.domOffset [wd (s.host.domWrite * 2 ^ 32 + v.toNat)] Env.calm t = true :=
  ⟨{ ready with host := { ready.host with domTarget := 0x099000, domOffset := 4, domWrite := 3 } }, 55, 9, 0x0990, 0, row 0x0990 0, by decide +kernel⟩

theorem wit_G1WindowsReachDomains_5 : ∃ (s : State) (a : BitVec 24),
    s.carries = true ∧ 0x110 < a.toNat ∧ a.toNat < 0x150 ∧ a.toNat % 4 = 0 :=
  ⟨{ ready with host := { ready.host with resData := [1, 2, 3] } }, 0x118, by decide +kernel⟩

theorem wit_G1WindowsReachDomains_6 : ∃ (s : State) (t : Nat) (l : LineData),
    s.carries = true ∧ s.alm.held = [] ∧ ((s.at t).firstChecks (mkTx s.g1Req .read 0x6001 0 (8 * s.host.resCtx) 8 [] .here) []).1 = 0 ∧ s.host.resCtx < 1048576 ∧ s.resultAt s.host.resCtx < 0x60000000 ∧ s.line (s.resultAt s.host.resCtx) = l ∧ parityBad l = false :=
  ⟨{ ready with host := { ready.host with resCtx := 6 } }, 9, 0, by decide +kernel⟩

theorem wit_G1WindowsReachDomains_7 : ∃ (s : State) (a : BitVec 24),
    s.carries = true ∧ 0x210 < a.toNat ∧ a.toNat < 0x250 ∧ 4 ≤ a.toNat - 0x210 :=
  ⟨{ ready with host := { ready.host with popData := [1, 2, 3] } }, 0x218, by decide +kernel⟩

theorem wit_G1WindowsReachDomains_8 : ∃ (s : State) (t : Nat) (q : Fin 65536) (c : QCell) (cs : List QCell),
    s.carries = true ∧ s.host.popQueue = q.val ∧ s.alm.held = [] ∧ ((s.at t).firstChecks (mkTx s.g1Req .read 0x7001 0 (1024 * q) 8 [] .here) []).1 = 0 ∧ (s.queue q).opens = [] ∧ (s.queue q).cells = c :: cs ∧ c.onChip = true ∧ (parityBad c.line = false ∨ linePoison c.line = true) :=
  ⟨(let s := queue300 [cell7]; { s with host := { s.host with popQueue := 300 } }), 9, 300, cell7, [], by decide +kernel⟩

theorem wit_G1WindowsReachDomains_9 : ∃ (s : State) (t : Nat) (q : Fin 65536),
    s.carries = true ∧ s.host.popQueue = q.val ∧ s.alm.held = [] ∧ ((s.at t).firstChecks (mkTx s.g1Req .read 0x7001 0 (1024 * q) 8 [] .here) []).1 = 0 ∧ (s.queue q).opens = [] ∧ (s.queue q).cells = [] :=
  ⟨(let s := queue300 []; { s with host := { s.host with popQueue := 300 } }), 9, 300, by decide +kernel⟩

theorem wit_G1WindowsReachDomains_10 : ∃ (s : State) (a : BitVec 24) (v : BitVec 32) (e : Env) (t : Nat) (c : Instr),
    s.carries = false ∧ c ∈ [.domDataLoRead e t, .domDataHiRead t, .domDataHiWrite v t, .domDataLoWrite v e t, .resDataRead a e t, .popDataRead a e t, .g1AbortClear t] :=
  ⟨State.reset, 0x110, 7, Env.calm, 9, .resDataRead 0x110 Env.calm 9, by decide +kernel⟩

theorem wit_G1WindowsReachDomains_11 : ∃ (a : BitVec 24),
    (a.toNat < 0x110 ∨ 0x150 ≤ a.toNat) :=
  ⟨0x150, by decide +kernel⟩

theorem wit_G1WindowsReachDomains_12 : ∃ (a : BitVec 24),
    (a.toNat < 0x210 ∨ 0x250 ≤ a.toNat) :=
  ⟨0x250, by decide +kernel⟩

theorem wit_G1WindowsReachDomains_13 : ∃ (s : State),
    s.carries = true ∧ s.alm.held = [] ∧ odFind (s.host.domTarget / 256) (s.host.domTarget % 256) = none :=
  ⟨{ ready with host := { ready.host with domTarget := 0x0FFF00 } }, by decide +kernel⟩

theorem wit_MailboxesVectorsAndTheLink_1 : ∃ (s : State) (m : Fin 8) (t : Nat) (i : Nat) (sub : Nat) (off : Nat) (cnt : Nat),
    (s.mbx m).state ≠ 1 ∧ (s.mbx m).cmd = wd (2 ^ 36 + i * 256 + sub) ∧ (s.mbx m).range = wd (off * 2 ^ 14 + cnt * 16) ∧ (s.mbx m).target = 0 ∧ i < 65536 ∧ sub < 256 ∧ off < 2 ^ 26 ∧ cnt < 1024 ∧ s.gives ⟨sourceOf 2 0 s.ownDevice, none⟩ i sub off (cnt + 1) t = true :=
  ⟨mbx2, 2, 9, 0x0990, 0, 4, 1, by decide +kernel⟩

theorem wit_MailboxesVectorsAndTheLink_2 : ∃ (s : State) (m : Fin 8),
    s.carries = true ∧ (s.mbx m).state = 1 :=
  ⟨ready.onMbx 2 (fun x => { x with state := 1 }), 2, by decide +kernel⟩

theorem wit_MailboxesVectorsAndTheLink_3 : ∃ (s : State) (m : Fin 8) (a : OdReply),
    (s.mbx m).answer = some a ∧ bit (s.mbx m).irq 6 = false :=
  ⟨ready.onMbx 2 (fun x => { x with state := 1, answer := some ⟨0, 0, [5, 6]⟩ }), 2, ⟨0, 0, [5, 6]⟩, by decide +kernel⟩

theorem wit_MailboxesVectorsAndTheLink_4 : ∃ (s : State) (v : Fin 64),
    s.vectorOpen v = true :=
  ⟨vec9, 9, by decide +kernel⟩

theorem wit_MailboxesVectorsAndTheLink_5 : ∃ (s : State) (v : Fin 64),
    s.vectorOpen v = false :=
  ⟨ready, 9, by decide +kernel⟩

theorem wit_MailboxesVectorsAndTheLink_6 : ∃ (s : State) (m : Fin 8) (v : Nat),
    s.carries = true ∧ (s.mbx m).state ≠ 1 ∧ v < 2 ^ 40 :=
  ⟨ready, 2, 77, by decide +kernel⟩

theorem wit_MailboxesVectorsAndTheLink_7 : ∃ (s : State) (size : Nat),
    s.carries = true ∧ size ≠ 4 ∧ size ≠ 8 :=
  ⟨ready, 2, by decide +kernel⟩

theorem wit_MailboxesVectorsAndTheLink_8 : ∃ (s : State) (gen : Nat) (width : Nat),
    s.devState ≠ 0 ∧ 1 ≤ gen ∧ 1 ≤ width ∧ 1 ≤ s.regN 0x1000 3 :=
  ⟨ready, 5, 8, by decide +kernel⟩

theorem wit_MailboxesVectorsAndTheLink_9 : ∃ (s : State) (gen : Nat) (width : Nat) (flit : Bool) (t : Nat) (c : Instr),
    s.devState = 0 ∧ c ∈ [.hostLinkTrained gen width flit t, .flr t, .linkDown t] :=
  ⟨ready.setRegN 0x0100 0 0, 5, 8, true, 9, .flr 9, by decide +kernel⟩

theorem wit_MailboxesVectorsAndTheLink_10 : ∃ (s : State),
    s.devState ≠ 0 :=
  ⟨{ held3.setReg 0x0213 3 (sourceOf 1 0 0xFFFFFD) with host := vec9.host }, by decide +kernel⟩

theorem wit_MailboxesVectorsAndTheLink_11 : ∃ (s : State),
    s.devState ≠ 0 :=
  ⟨ready.setRegN 0x1000 0 5, by decide +kernel⟩

theorem wit_MailboxesVectorsAndTheLink_12 : ∃ (s : State) (m : Fin 8) (v : BitVec 64),
    (s.carries = false ∨ ((s.mbx m).state ≠ 1 ∧ v.toNat % 2 ^ 40 ≠ 1)) :=
  ⟨ready, 2, 3, by decide +kernel⟩

theorem wit_MailboxesVectorsAndTheLink_13 : ∃ (s : State) (m : Fin 8),
    (s.mbx m).answer = none :=
  ⟨ready, 2, by decide +kernel⟩

theorem wit_MailboxesVectorsAndTheLink_14 : ∃ (s : State) (m : Fin 8),
    s.carries = true ∧ (s.mbx m).state ≠ 1 ∧ (fld (s.mbx m).cmd 36 4 = 0 ∨ 3 < fld (s.mbx m).cmd 36 4 ∨ fld (s.mbx m).cmd 24 3 ≠ 0 ∨ fld (s.mbx m).range 0 4 ≠ 0 ∨ fld (s.mbx m).target 25 15 ≠ 0) :=
  ⟨ready, 2, by decide +kernel⟩

theorem wit_MailboxesVectorsAndTheLink_15 : ∃ (s : State) (m : Fin 8) (a : OdReply),
    (s.mbx m).answer = some a ∧ bit (s.mbx m).irq 6 = true :=
  ⟨ready.onMbx 2 (fun x => { x with state := 1, irq := 73, answer := some ⟨0, 0, [5, 6]⟩ }), 2, ⟨0, 0, [5, 6]⟩, by decide +kernel⟩

theorem wit_MailboxesVectorsAndTheLink_16 : ∃ (s : State) (m : Fin 8) (o : Nat) (half : Nat),
    s.carries = true ∧ (s.mbx m).state ≠ 1 ∧ o ∈ [0, 8, 16, 0x30] ∧ half < 2 :=
  ⟨ready, 2, 8, 1, by decide +kernel⟩

theorem wit_MailboxesVectorsAndTheLink_17 : ∃ (s : State) (m : Fin 8) (o : Nat) (v : Nat),
    s.carries = true ∧ (s.mbx m).state ≠ 1 ∧ o ∈ [8, 16, 0x30] ∧ v < 2 ^ 40 :=
  ⟨ready, 2, 16, 77, by decide +kernel⟩

theorem wit_MailboxesVectorsAndTheLink_18 : ∃ (s : State) (m : Fin 8) (k : Nat),
    s.carries = true ∧ (s.mbx m).state ≠ 1 ∧ k < 1024 :=
  ⟨ready, 2, 1023, by decide +kernel⟩

theorem wit_MailboxesVectorsAndTheLink_19 : ∃ (s : State) (m : Fin 8) (o : Nat),
    s.carries = true ∧ (s.mbx m).state ≠ 1 ∧ (o = 0x20 ∨ o = 0x28) :=
  ⟨ready, 2, 0x20, by decide +kernel⟩

theorem wit_MailboxesVectorsAndTheLink_20 : ∃ (s : State) (m : Fin 8) (o : Nat),
    s.carries = true ∧ (s.mbx m).state = 1 ∧ (o < 0x38 ∨ (0x40 ≤ o ∧ o < 0x2040)) ∧ o % 4 = 0 :=
  ⟨ready.onMbx 2 (fun x => { x with state := 1 }), 2, 0x40, by decide +kernel⟩

theorem wit_MailboxesVectorsAndTheLink_21 : ∃ (s : State) (r : Fin 64) (half : Nat),
    s.carries = true ∧ (s.ring r).state = 0 ∧ half < 2 :=
  ⟨ready, 4, 1, by decide +kernel⟩

theorem wit_MailboxesVectorsAndTheLink_22 : ∃ (s : State) (r : Fin 64) (v : Nat),
    s.carries = true ∧ v < (s.ring r).entries :=
  ⟨ring4 [], 4, 15, by decide +kernel⟩

theorem wit_MailboxesVectorsAndTheLink_23 : ∃ (s : State) (k : Nat),
    s.carries = true ∧ k < 256 ∧ s.host.pendingBits = [] :=
  ⟨ready, 7, by decide +kernel⟩

theorem wit_MailboxesVectorsAndTheLink_24 : ∃ (s : State),
    s.carries = true :=
  ⟨ready, by decide +kernel⟩

theorem wit_MailboxesVectorsAndTheLink_25 : ∃ (s : State),
    s.carries = true :=
  ⟨ready, by decide +kernel⟩

theorem wit_MailboxesVectorsAndTheLink_26 : ∃ (s : State),
    s.carries = true :=
  ⟨{ vec9 with host := { vec9.host with busMaster := false, pendingBits := [9] } }, by decide +kernel⟩

theorem wit_MailboxesVectorsAndTheLink_27 : ∃ (s : State) (reg : Fin 64),
    s.carries = true ∧ (reg = 0x0A ∨ reg = 0x1D) :=
  ⟨ready, 0x0A, by decide +kernel⟩

theorem wit_MailboxesVectorsAndTheLink_28 : ∃ (s : State),
    s.carries = true :=
  ⟨ready, by decide +kernel⟩

theorem wit_MailboxesVectorsAndTheLink_29 : ∃ (s : State) (o : Nat) (size : Nat) (v : Nat) (b : Bool) (i : Bool) (f : Bool) (w : RegWrite),
    s.carries = false ∧ (w = .poisoned ∨ w = .bar0 o size v ∨ w = .function b i f) :=
  ⟨State.reset, 0, 4, 7, true, true, false, .poisoned, by decide +kernel⟩

theorem wit_MailboxesVectorsAndTheLink_30 : ∃ (s : State) (reg : Fin 64),
    (s.carries = false ∨ 0x2C ≤ reg.val) :=
  ⟨ready, 0x2C, by decide +kernel⟩

theorem wit_RingsRun_1 : ∃ (s : State) (r : Fin 64) (v : BitVec 32),
    s.carries = true ∧ (s.ring r).state = 0 ∧ 4 ≤ v.toNat >>> 16 % 32 ∧ v.toNat >>> 16 % 32 ≤ 16 :=
  ⟨ready, 4, 0x80040000, by decide +kernel⟩

theorem wit_RingsRun_2 : ∃ (s : State) (r : Fin 64) (v : BitVec 32),
    s.carries = true ∧ ((s.ring r).state ≠ 0 ∨ v.toNat >>> 16 % 32 < 4 ∨ 16 < v.toNat >>> 16 % 32) :=
  ⟨ready, 4, 0x80030000, by decide +kernel⟩

theorem wit_RingsRun_3 : ∃ (s : State) (r : Fin 64),
    s.carries = true ∧ ((s.ring r).state ≠ 1 ∨ ((s.ring r).prog.takeWhile (fun d => d.begun) = [] ∧ (s.ring r).done = [])) :=
  ⟨ring4 [desc 5 0 0], 4, by decide +kernel⟩

theorem wit_RingsRun_4 : ∃ (s : State) (r : Fin 64),
    s.carries = true ∧ (s.ring r).state = 1 ∧ ((s.ring r).prog.takeWhile (fun d => d.begun) ≠ [] ∨ (s.ring r).done ≠ []) :=
  ⟨ring4 [{ desc 1 0 0 with begun := true }, desc 5 0 0], 4, by decide +kernel⟩

theorem wit_RingsRun_5 : ∃ (s : State) (r : Fin 64) (v : BitVec 32),
    s.carries = true ∧ v.toNat < (s.ring r).entries :=
  ⟨ring4 [], 4, 15, by decide +kernel⟩

theorem wit_RingsRun_6 : ∃ (s : State) (r : Fin 64) (v : BitVec 32),
    s.carries = true ∧ (s.ring r).entries ≤ v.toNat :=
  ⟨ring4 [], 4, 16, by decide +kernel⟩

theorem wit_RingsRun_7 : ∃ (s : State) (r : Fin 64) (ds : List (List (BitVec 64))),
    (s.ring r).state = 1 ∧ (s.ring r).stopping = false ∧ (s.ring r).prog = [] ∧ ds.length ≤ 16 ∧ ds.length = ((s.ring r).head + (s.ring r).entries - (s.ring r).fetched) % (s.ring r).entries ∧ (∀ d ∈ ds, (⟨0, d.map BitVec.toNat, 0, 0, false, false, false⟩ : Desc).invalid = false) :=
  ⟨ring4 [], 4, [[0x0500000000000007, 0, 0, 0, 0, 0, 0, 0], [0x0500000000000008, 0, 0, 0, 0, 0, 0, 0]], by decide +kernel⟩

theorem wit_RingsRun_8 : ∃ (s : State) (r : Fin 64) (d : Desc) (ds : List Desc),
    (s.ring r).state = 1 ∧ (s.ring r).prog = d :: ds ∧ d.op = 5 ∧ d.out = false ∧ d.bad = false ∧ (d.bits 0 45 1 = 0 ∨ (s.ring r).done = []) ∧ (∀ e ∈ ds, e.invalid = false ∧ e.bad = false) :=
  ⟨ring4 [desc 5 0 0], 4, desc 5 0 0, [], by decide +kernel⟩

theorem wit_RingsRun_9 : ∃ (s : State) (r : Fin 64) (c : Cpl) (cs : List Cpl),
    (s.ring r).done = c :: cs ∧ (s.ring r).stopping = false ∧ c.irq = false :=
  ⟨(ring4 []).onRing 4 (fun x => { x with done := [⟨15, 7, 0, false, 0, 3, false⟩] }), 4, ⟨15, 7, 0, false, 0, 3, false⟩, [], by decide +kernel⟩

theorem wit_RingsRun_10 : ∃ (s : State) (r : Fin 64) (c : Cpl),
    (s.ring r).done = [c] ∧ (s.ring r).stopping = true ∧ (s.ring r).prog = [] ∧ c.irq = true ∧ (s.ring r).vecOn = true :=
  ⟨(ring4 []).onRing 4 (fun x => { x with done := [⟨15, 7, 0, false, 0, 3, true⟩], stopping := true, vecOn := true, vec := 9 }), 4, ⟨15, 7, 0, false, 0, 3, true⟩, by decide +kernel⟩

theorem wit_RingsRun_11 : ∃ (s : State) (r : Fin 64) (v : BitVec 32) (t : Nat) (c : Instr),
    s.carries = false ∧ (c = .ringEnable r v t ∨ c = .ringDisable r t ∨ c = .headDoorbell r v t) :=
  ⟨State.reset, 4, 0x80040000, 9, .ringDisable 4 9, by decide +kernel⟩

theorem wit_RingsRun_12 : ∃ (s : State) (r : Fin 64),
    ((s.ring r).state ≠ 1 ∨ (s.ring r).stopping = true) :=
  ⟨ready, 4, by decide +kernel⟩

theorem wit_RingsRun_13 : ∃ (s : State) (r : Fin 64),
    (s.ring r).done = [] :=
  ⟨ready, 4, by decide +kernel⟩

theorem wit_RingsRun_14 : ∃ (s : State) (r : Fin 64),
    ((s.ring r).state = 0 ∨ (s.ring r).prog = []) :=
  ⟨ready, 4, by decide +kernel⟩

theorem wit_RingsRun_15 : ∃ (s : State) (r : Fin 64) (d : List (BitVec 64)),
    (s.ring r).state = 1 ∧ (s.ring r).stopping = false ∧ (s.ring r).prog = [] ∧ 0 < ((s.ring r).head + (s.ring r).entries - (s.ring r).fetched) % (s.ring r).entries ∧ (⟨0, d.map BitVec.toNat, 0, 0, false, false, false⟩ : Desc).invalid = true :=
  ⟨ring4 [], 4, [0x0900000000000007, 0, 0, 0, 0, 0, 0, 0], by decide +kernel⟩

theorem wit_RingsRun_16 : ∃ (s : State) (r : Fin 64) (a : BitVec 64),
    (s.ring r).state = 1 ∧ (s.ring r).readyAt a.toNat = none :=
  ⟨ring4 [desc 1 0x0990 2], 4, 0x9999, by decide +kernel⟩

theorem wit_RingsRun_17 : ∃ (s : State) (r : Fin 64) (a : BitVec 64) (i : Nat),
    (s.ring r).state = 1 ∧ (s.ring r).prog = [] ∧ (s.ring r).readyAt a.toNat = some i :=
  ⟨ring4 [], 4, 0x4040, 1, by decide +kernel⟩

theorem wit_RingsRun_18 : ∃ (s : State) (r : Fin 64),
    (s.ring r).state ≠ 1 :=
  ⟨ready, 4, by decide +kernel⟩

theorem wit_RingsRun_19 : ∃ (s : State) (r : Fin 64) (a : BitVec 64),
    (s.ring r).state = 1 ∧ (s.ring r).readyAt a.toNat = none :=
  ⟨ring4 [desc 1 0x0990 2], 4, 0x9999, by decide +kernel⟩

theorem wit_RingsRun_20 : ∃ (s : State) (r : Fin 64) (a : BitVec 64) (i : Nat),
    (s.ring r).state = 1 ∧ (s.ring r).prog = [] ∧ (s.ring r).readyAt a.toNat = some i :=
  ⟨ring4 [], 4, 0x4040, 1, by decide +kernel⟩

theorem wit_RingsRun_21 : ∃ (s : State) (r : Fin 64),
    (s.ring r).state ≠ 1 :=
  ⟨ready, 4, by decide +kernel⟩

theorem wit_RingDescriptorsAct_1 : ∃ (s : State) (r : Fin 64) (t : Nat) (i : Nat) (sub : Nat) (d : Desc) (ds : List Desc),
    (s.ring r).state = 1 ∧ (s.ring r).prog = d :: ds ∧ d.op = 1 ∧ d.out = false ∧ d.bad = false ∧ (d.bits 0 45 1 = 0 ∨ (s.ring r).done = []) ∧ d.remote = false ∧ d.bits 0 55 1 = 0 ∧ (∀ e ∈ ds, e.invalid = false ∧ e.bad = false) ∧ d.bits 1 48 16 = i ∧ d.bits 1 40 8 = sub ∧ 8 * d.count ≤ d.len ∧ s.gives ⟨sourceOf 3 r s.ownDevice, none⟩ i sub (d.bits 1 12 26) d.count t = true :=
  ⟨ring4 [desc 1 0x0990 2, desc 5 0 0], 4, 9, 0x0990, 0, desc 1 0x0990 2, [desc 5 0 0], by decide +kernel⟩

theorem wit_RingDescriptorsAct_2 : ∃ (s : State) (r : Fin 64) (d : Desc) (ds : List Desc),
    (s.ring r).state = 1 ∧ (s.ring r).prog = d :: ds ∧ d.op = 1 ∧ d.out = false ∧ d.bad = false ∧ (d.bits 0 45 1 = 0 ∨ (s.ring r).done = []) ∧ d.len < 8 * d.count ∧ (∀ e ∈ ds, e.invalid = false ∧ e.bad = false) :=
  ⟨ring4 [desc 1 0x0990 600], 4, desc 1 0x0990 600, [], by decide +kernel⟩

theorem wit_RingDescriptorsAct_3 : ∃ (s : State) (r : Fin 64) (t : Nat) (i : Nat) (sub : Nat) (d : Desc) (ds : List Desc) (x : Obj),
    (s.ring r).state = 1 ∧ (s.ring r).prog = d :: ds ∧ d.op = 3 ∧ d.out = false ∧ d.bad = false ∧ (d.bits 0 45 1 = 0 ∨ (s.ring r).done = []) ∧ d.remote = false ∧ d.bits 0 55 1 = 0 ∧ (∀ e ∈ ds, e.invalid = false ∧ e.bad = false) ∧ d.bits 1 48 16 = i ∧ d.bits 1 40 8 = sub ∧ s.carries = true ∧ odFind i sub = some x ∧ (s.at t).firstChecks (mkTx ⟨sourceOf 3 r s.ownDevice, none⟩ .describe i sub 0 0 [] .here) [] = (0, 0) ∧ 8 * (s.describeWords x i sub).length ≤ d.len :=
  ⟨ring4 [desc 3 0x0990 0], 4, 9, 0x0990, 0, desc 3 0x0990 0, [], row 0x0990 0, by decide +kernel⟩

theorem wit_RingDescriptorsAct_4 : ∃ (s : State) (r : Fin 64) (t : Nat) (i : Nat) (sub : Nat) (w : BitVec 64) (d : Desc) (ds : List Desc) (x : Obj),
    (s.ring r).state = 1 ∧ (s.ring r).prog = d :: ds ∧ d.op = 2 ∧ d.out = false ∧ d.bad = false ∧ (d.bits 0 45 1 = 0 ∨ (s.ring r).done = []) ∧ d.remote = false ∧ d.bits 0 55 1 = 0 ∧ (∀ e ∈ ds, e.invalid = false ∧ e.bad = false) ∧ d.bits 1 48 16 = i ∧ d.bits 1 40 8 = sub ∧ odFind i sub = some x ∧ x.words = 1 ∧ x.hook = .none ∧ x.acc ≠ .cmd ∧ (x.eff = .imm ∨ x.eff = .shadow) ∧ d.count = 1 ∧ 8 ≤ d.len ∧ d.bits 1 12 26 = 0 ∧ s.takes ⟨sourceOf 3 r s.ownDevice, none⟩ i sub 0 [wd w.toNat] Env.calm t = true :=
  ⟨ring4 [⟨1, [0x0200000000000007, 0x0904010000000000, 1, 0x20000, 64, 0, 0, 0], 0, 0, false, false, false⟩], 4, 9, 0x0904, 0x01, 0xFFFFFFFFFB, ⟨1, [0x0200000000000007, 0x0904010000000000, 1, 0x20000, 64, 0, 0, 0], 0, 0, false, false, false⟩, [], row 0x0904 0x01, by decide +kernel⟩

theorem wit_RingDescriptorsAct_5 : ∃ (s : State) (r : Fin 64) (t : Nat) (q : Fin 65536) (c : QCell) (cs : List QCell) (d : Desc) (ds : List Desc),
    (s.ring r).state = 1 ∧ (s.ring r).prog = d :: ds ∧ d.op = 4 ∧ d.out = false ∧ d.bad = false ∧ (d.bits 0 45 1 = 0 ∨ (s.ring r).done = []) ∧ d.remote = false ∧ d.bits 0 55 1 = 0 ∧ (∀ e ∈ ds, e.invalid = false ∧ e.bad = false) ∧ s.carries = true ∧ d.invalid = false ∧ d.bits 1 12 26 = 1024 * q ∧ d.count = 1 ∧ 64 ≤ d.len ∧ d.cells = 0 ∧ s.alm.held = [] ∧ ((s.at t).firstChecks (mkTx ⟨sourceOf 3 r s.ownDevice, none⟩ .read 0x7001 0 (1024 * q) 8 [] .here) []).1 = 0 ∧ (s.queue q).opens = [] ∧ (s.queue q).cells = c :: cs ∧ c.onChip = true ∧ (parityBad c.line = false ∨ linePoison c.line = true) :=
  ⟨(queue300 [cell7]).onRing 4 (fun x => { x with desc := 0x4000, cpl := 0x8000, size := 4, state := 1, head := 2, phase := true, prog := [⟨1, [0x0400000000000007, 0x7001 * 2 ^ 48 + 1024 * 300 * 4096, 1, 0x20000, 64, 0, 0, 0], 0, 0, false, false, false⟩] }), 4, 9, 300, cell7, [], ⟨1, [0x0400000000000007, 0x7001 * 2 ^ 48 + 1024 * 300 * 4096, 1, 0x20000, 64, 0, 0, 0], 0, 0, false, false, false⟩, [], by decide +kernel⟩

theorem wit_RingDescriptorsAct_6 : ∃ (s : State) (r : Fin 64) (t : Nat) (q : Fin 65536) (d : Desc) (ds : List Desc),
    (s.ring r).state = 1 ∧ (s.ring r).prog = d :: ds ∧ d.op = 4 ∧ d.out = false ∧ d.bad = false ∧ (d.bits 0 45 1 = 0 ∨ (s.ring r).done = []) ∧ d.remote = false ∧ d.bits 0 55 1 = 0 ∧ (∀ e ∈ ds, e.invalid = false ∧ e.bad = false) ∧ s.carries = true ∧ d.invalid = false ∧ d.bits 1 12 26 = 1024 * q ∧ d.cells < d.count ∧ 64 * (d.cells + 1) ≤ d.len ∧ s.alm.held = [] ∧ ((s.at t).firstChecks (mkTx ⟨sourceOf 3 r s.ownDevice, none⟩ .read 0x7001 0 (1024 * q) (8 * min 128 (min (d.count - d.cells) (d.len / 64 - d.cells))) [] .here) []).1 = 0 ∧ (s.queue q).opens = [] ∧ (s.queue q).cells = [] ∧ d.since + usEt (d.bits 4 32 32) ≤ (s.at t).clock :=
  ⟨(queue300 []).onRing 4 (fun x => { x with desc := 0x4000, cpl := 0x8000, size := 4, state := 1, head := 2, phase := true, prog := [⟨1, [0x0400000000000007, 0x7001 * 2 ^ 48 + 1024 * 300 * 4096, 4, 0x20000, 3 * 2 ^ 32 + 256, 0, 0, 0], 0, 0, false, false, false⟩] }), 4, 10 ^ 13, 300, ⟨1, [0x0400000000000007, 0x7001 * 2 ^ 48 + 1024 * 300 * 4096, 4, 0x20000, 3 * 2 ^ 32 + 256, 0, 0, 0], 0, 0, false, false, false⟩, [], by decide +kernel⟩

theorem wit_RingDescriptorsAct_7 : ∃ (s : State) (r : Fin 64) (e : Env) (b : List (BitVec 64)) (t : Nat) (c : Instr),
    c ∈ [.g3Read r e t, .g3Write r b e t, .g3Describe r t, .g3Stream r e t, .streamWaitTimeout r t] ∧ ((s.ring r).state = 0 ∨ (s.ring r).prog = []) :=
  ⟨ready, 4, Env.calm, [1], 9, .g3Write 4 [1] Env.calm 9, by decide +kernel⟩

theorem wit_RingDescriptorsAct_8 : ∃ (s : State) (r : Fin 64) (e : Env) (d : Desc) (ds : List Desc),
    (s.ring r).state = 1 ∧ (s.ring r).prog = d :: ds ∧ d.op = 2 ∧ d.out = false ∧ d.bad = false ∧ (d.bits 0 45 1 = 0 ∨ (s.ring r).done = []) ∧ d.len < 8 * d.count ∧ (∀ e ∈ ds, e.invalid = false ∧ e.bad = false) :=
  ⟨ring4 [desc 2 0x0990 600], 4, Env.calm, desc 2 0x0990 600, [], by decide +kernel⟩

theorem wit_RingDescriptorsAct_9 : ∃ (s : State) (r : Fin 64) (t : Nat) (b : List (BitVec 64)) (e : Env) (d : Desc) (ds : List Desc) (c : Instr),
    (s.ring r).state = 1 ∧ (s.ring r).prog = d :: ds ∧ (d.op, c) ∈ [(1, .g3Read r e t), (2, .g3Write r b e t), (3, .g3Describe r t), (4, .g3Stream r e t)] ∧ d.out = false ∧ d.bad = false ∧ d.remote = true ∧ (d.bits 0 45 1 = 0 ∨ (s.ring r).done = []) ∧ (d.op = 3 ∨ 8 * d.count ≤ d.len) ∧ 64 ≤ d.len ∧ (s.bootEarly = true ∨ s.ownDevice = 0xFFFFFD) ∧ (∀ e ∈ ds, e.invalid = false ∧ e.bad = false) :=
  ⟨ring4 [⟨1, [0x0100010000000007, 0x0990 * 2 ^ 48, 2, 0x20000, 4096, 0, 0, 0], 0, 0, false, false, false⟩], 4, 9, [], Env.calm, ⟨1, [0x0100010000000007, 0x0990 * 2 ^ 48, 2, 0x20000, 4096, 0, 0, 0], 0, 0, false, false, false⟩, [], .g3Read 4 Env.calm 9, by decide +kernel⟩

theorem wit_RingDescriptorsAct_10 : ∃ (s : State) (r : Fin 64) (d : Desc) (ds : List Desc),
    (s.ring r).state = 1 ∧ (s.ring r).prog = d :: ds ∧ d.op = 1 ∧ d.out = false ∧ d.bad = false ∧ d.remote = true ∧ d.bits 0 55 1 = 0 ∧ (d.bits 0 45 1 = 0 ∨ (s.ring r).done = []) ∧ 8 * d.count ≤ d.len ∧ s.bootEarly = false ∧ s.ownDevice ≠ 0xFFFFFD ∧ (s.target (targetKey (d.bits 0 16 24) none)).out.length = 16 :=
  ⟨(let s := ring4 [⟨1, [0x0100010000000007 + 77 * 65536, 0x0990 * 2 ^ 48, 2, 0x20000, 4096, 0, 0, 0], 0, 0, false, false, false⟩]; let s := s.setRegN 0x1100 0 5; { s with halo := { s.halo with targets := [(77 * 8, ⟨20, false, List.replicate 16 ⟨3, mkTx rq0 .read 0x0100 0 0 1 [] .here, none, 0, 0⟩, []⟩)] } }), 4, ⟨1, [0x0100010000000007 + 77 * 65536, 0x0990 * 2 ^ 48, 2, 0x20000, 4096, 0, 0, 0], 0, 0, false, false, false⟩, [], by decide +kernel⟩

theorem wit_Bar2ReachesHbm_1 : ∃ (s : State) (o : Nat) (len : Nat) (l : LineData),
    s.carries = true ∧ 1 ≤ len ∧ o % 64 + len ≤ 64 ∧ s.lineUse (s.regN 0x1000 4 + o / 64) = LineUse.user ∧ s.line (s.regN 0x1000 4 + o / 64) = l ∧ parityBad l = false :=
  ⟨landed (ready.setRegN 0x1000 4 0x100000) 0x100002 (mkLine 9 0 false 1 2 3 4 5 6), 136, 8, mkLine 9 0 false 1 2 3 4 5 6, by decide +kernel⟩

theorem wit_Bar2ReachesHbm_2 : ∃ (s : State) (o : Nat) (bytes : List Byte),
    s.carries = true ∧ o % 64 = 0 ∧ 50 ≤ bytes.length ∧ bytes.length ≤ 64 ∧ s.lineUse (s.regN 0x1000 4 + o / 64) = LineUse.user :=
  ⟨ready.setRegN 0x1000 4 0x100000, 128, List.replicate 64 0x35, by decide +kernel⟩

theorem wit_Bar2ReachesHbm_3 : ∃ (s : State),
    s.carries = true :=
  ⟨ready, by decide +kernel⟩

theorem wit_Bar2ReachesHbm_4 : ∃ (s : State) (o : Nat) (n : Nat) (bytes : List Byte),
    s.carries = true ∧ 1 ≤ bytes.length ∧ o % 64 + bytes.length ≤ 64 ∧ (s.lineUse (s.regN 0x1000 4 + o / 64) = LineUse.live n ∨ s.lineUse (s.regN 0x1000 4 + o / 64) = LineUse.result n ∨ s.lineUse (s.regN 0x1000 4 + o / 64) = LineUse.pool ∨ s.lineUse (s.regN 0x1000 4 + o / 64) = LineUse.links) :=
  ⟨ready.setRegN 0x1000 4 (ready.ctxBase), 128, 2, [1, 2], by decide +kernel⟩

theorem wit_Bar2ReachesHbm_5 : ∃ (s : State) (o : Nat) (bytes : List Byte),
    s.carries = true ∧ 1 ≤ bytes.length ∧ o % 64 + bytes.length ≤ 64 ∧ (s.lineUse (s.regN 0x1000 4 + o / 64) = LineUse.replies ∨ s.lineUse (s.regN 0x1000 4 + o / 64) = LineUse.journal) :=
  ⟨ready.setRegN 0x1000 4 0x5FD00000, 128, [1, 2], by decide +kernel⟩

theorem wit_Bar2ReachesHbm_6 : ∃ (s : State) (o : Nat) (bytes : List Byte),
    s.carries = true ∧ 1 ≤ bytes.length ∧ o % 64 + bytes.length ≤ 64 ∧ s.lineUse (s.regN 0x1000 4 + o / 64) = LineUse.absent :=
  ⟨ready.setRegN 0x1000 4 0x60000000, 128, [1, 2], by decide +kernel⟩

theorem wit_Bar2ReachesHbm_7 : ∃ (s : State) (o : Nat) (bytes : List Byte) (l : LineData),
    s.carries = true ∧ 1 ≤ bytes.length ∧ o % 64 + bytes.length ≤ 64 ∧ o % 64 < 50 ∧ (0 < o % 64 ∨ bytes.length < 50) ∧ s.lineUse (s.regN 0x1000 4 + o / 64) = LineUse.user ∧ s.line (s.regN 0x1000 4 + o / 64) = l ∧ parityBad l = false :=
  ⟨ready.setRegN 0x1000 4 0x100000, 136, [7, 8], 0, by decide +kernel⟩

theorem wit_Bar2ReachesHbm_8 : ∃ (s : State) (o : Nat) (bytes : List Byte),
    s.carries = true ∧ 50 ≤ o % 64 ∧ o % 64 + bytes.length ≤ 64 ∧ s.lineUse (s.regN 0x1000 4 + o / 64) = LineUse.user :=
  ⟨ready.setRegN 0x1000 4 0x100000, 180, [7, 8], by decide +kernel⟩

theorem wit_Bar2ReachesHbm_9 : ∃ (s : State) (o : Nat) (len : Nat) (t : Nat) (bytes : List Byte) (p : Bool) (c : Instr),
    s.carries = false ∧ (c = .bar2Read o len [] t ∨ c = .bar2Write o bytes p t) :=
  ⟨State.reset, 0, 8, 9, [1], false, .bar2Read 0 8 [] 9, by decide +kernel⟩

theorem wit_Bar2ReachesHbm_10 : ∃ (s : State) (o : Nat) (len : Nat),
    s.carries = true ∧ 1 ≤ len ∧ o % 64 + len ≤ 64 ∧ s.lineUse (s.regN 0x1000 4 + o / 64) ∈ [LineUse.links, LineUse.replies, LineUse.absent] :=
  ⟨ready.setRegN 0x1000 4 0x60000000, 0, 8, by decide +kernel⟩

theorem wit_Bar2ReachesHbm_11 : ∃ (s : State) (o : Nat) (len : Nat) (l : LineData),
    s.carries = true ∧ 1 ≤ len ∧ o % 64 + len ≤ 64 ∧ s.lineUse (s.regN 0x1000 4 + o / 64) = LineUse.user ∧ s.line (s.regN 0x1000 4 + o / 64) = l ∧ parityBad l = true ∧ linePoison l = false :=
  ⟨landed (ready.setRegN 0x1000 4 0x100000) 0x100002 (mkLine 9 0 false 1 2 3 4 5 6 ^^^ 1), 136, 8, mkLine 9 0 false 1 2 3 4 5 6 ^^^ 1, by decide +kernel⟩

theorem wit_PatchesAndRoutinesLoad_1 : ∃ (s : State) (rq : Req) (engine : Bool) (t : Nat),
    s.carries = true ∧ s.alm.held = [] ∧ s.alm.head.length + 1 ≤ 3584 ∧ (s.at t).firstChecks (mkTx rq .write (0x0E00 + (if engine then 2 else 1)) 1 0 1 [1] .here) [(0, 1)] = (0, 0) ∧ s.lockOf (0x0E00 + (if engine then 2 else 1)) = none ∧ s.cmdBusy rq.src (0x0E00 + (if engine then 2 else 1)) 1 = false ∧ imageFormBad (if engine then 2 else 1) (s.imageObj (if engine then 2 else 1)) = false ∧ fld (s.imageObj (if engine then 2 else 1) 6) 38 2 = 0 ∧ (s.reg 0 5) >>> 8 = (s.imageObj (if engine then 2 else 1) 1) >>> 8 ∧ imageAddrBad (if engine then 2 else 1) (s.imageObj (if engine then 2 else 1)) = false ∧ SMap.get (fun _ => none) s.micro.runs 1 = none ∧ SMap.get (fun _ => none) s.micro.runs 2 = none ∧ ((List.range 66).filter (fun k => unitClass k = (if engine then 2 else 1))).filter s.unitLive ≠ [] :=
  ⟨imaged 1 0, rq0, false, 9, by decide +kernel⟩

theorem wit_PatchesAndRoutinesLoad_2 : ∃ (s : State) (rq : Req) (engine : Bool) (t : Nat),
    s.takes rq (0x0E00 + (if engine then 2 else 1)) 1 0 [2] Env.calm t = true ∧ ((List.range 66).filter (fun k => unitClass k = (if engine then 2 else 1))).filter s.unitLive ≠ [] :=
  ⟨(imaged 1 0).setRegN 0x0E00 0 5, rq0, false, 9, by decide +kernel⟩

theorem wit_PatchesAndRoutinesLoad_3 : ∃ (s : State) (n : Fin 66) (r : PatchRun),
    SMap.get (fun _ => none) s.micro.runs (unitClass n) = some r ∧ n.val ∈ r.left :=
  ⟨{ ready.setRegN 0x0E00 0 77 with micro := { ready.micro with runs := [(1, some ⟨9, 77, [4, 5], 3⟩)] } }, 4, ⟨9, 77, [4, 5], 3⟩, by decide +kernel⟩

theorem wit_PatchesAndRoutinesLoad_4 : ∃ (s : State) (rq : Req) (v : Word) (t : Nat),
    v = 1 ∧ s.carries = true ∧ s.alm.held = [] ∧ s.alm.head.length + 1 ≤ 3584 ∧ (s.at t).firstChecks (mkTx rq .write (0x0E03) 1 0 1 [1] .here) [(0, 1)] = (0, 0) ∧ s.lockOf (0x0E03) = none ∧ s.cmdBusy rq.src (0x0E03) 1 = false ∧ imageFormBad 3 (s.imageObj 3) = false ∧ fld (s.imageObj 3 6) 38 2 = 0 ∧ (s.reg 0 5) >>> 8 = (s.imageObj 3 1) >>> 8 ∧ imageAddrBad 3 (s.imageObj 3) = false ∧ s.setsBad (imageWords (s.imageObj 3)) = false ∧ s.micro.load = none ∧ s.loadOrder ≠ [] :=
  ⟨imaged 3 1, rq0, 1, 9, by decide +kernel⟩

theorem wit_PatchesAndRoutinesLoad_5 : ∃ (s : State) (e : Nat) (d : Nat) (es : List Nat) (w : Word) (i : List Word),
    s.micro.load = some ⟨some w, i, e :: es, d⟩ ∧ s.regN (0x6010 + e) 0 ≠ 3 :=
  ⟨{ ready with micro := { ready.micro with load := some ⟨some 7, [1, 2], [16, 17], 0⟩ } }, 16, 0, [17], 7, [1, 2], by decide +kernel⟩

theorem wit_PatchesAndRoutinesLoad_6 : ∃ (s : State) (c : Fin 48) (r : Restart),
    SMap.get (fun _ => none) s.micro.restarts c = some r ∧ SMap.get (fun _ => none) s.micro.runs 1 = none ∧ s.start.waiting = [] :=
  ⟨{ ready with micro := { ready.micro with restarts := [(5, some ⟨0, 1, 77⟩)] } }, 5, ⟨0, 1, 77⟩, by decide +kernel⟩

theorem wit_PatchesAndRoutinesLoad_7 : ∃ (s : State) (n : Fin 66),
    (SMap.get (fun _ => none) s.micro.runs (unitClass n)).all (fun r => !r.left.contains n.val) = true :=
  ⟨ready, 5, by decide +kernel⟩

theorem wit_PatchesAndRoutinesLoad_8 : ∃ (s : State),
    s.micro.load = none :=
  ⟨ready, by decide +kernel⟩

theorem wit_PatchesAndRoutinesLoad_9 : ∃ (s : State) (c : Fin 48),
    SMap.get (fun _ => none) s.micro.restarts c = none ∧ s.start.waiting = [] :=
  ⟨ready, 5, by decide +kernel⟩

theorem wit_PatchesAndRoutinesLoad_10 : ∃ (s : State) (e : Nat) (d : Nat) (es : List Nat) (w : Word) (i : List Word),
    s.micro.load = some ⟨some w, i, e :: es, d⟩ ∧ s.regN (0x6010 + e) 0 = 3 :=
  ⟨{ ready.setRegN 0x6020 0 3 with micro := { ready.micro with load := some ⟨some 7, [1, 2], [16, 17], 0⟩ } }, 16, 0, [17], 7, [1, 2], by decide +kernel⟩

theorem wit_PatchesAndRoutinesLoad_11 : ∃ (s : State) (rq : Req) (engine : Bool) (t : Nat),
    s.takes rq (0x0E00 + (if engine then 2 else 1)) 1 0 [2] Env.calm t = true ∧ ((List.range 66).filter (fun k => unitClass k = (if engine then 2 else 1))).filter s.unitLive = [] :=
  ⟨(List.range 48).foldl (fun s c => s.setRegN (seqIdx 0 c) 0 7) ((imaged 1 0).setRegN 0x0E00 0 5), rq0, false, 9, by decide +kernel⟩

theorem wit_PatchesAndRoutinesLoad_12 : ∃ (x : UStores) (u : Ucode),
    (x.region (x.fetchAt u.pc) = none ∨ fld (x.microword (x.fetchAt u.pc)) 22 2 = 3 ∨ (fld (x.nanoword (fld (x.microword (x.fetchAt u.pc)) 0 14) 3) 38 2 = 2 ∧ 4 ≤ u.stack.length) ∨ (fld (x.nanoword (fld (x.microword (x.fetchAt u.pc)) 0 14) 3) 38 2 = 3 ∧ u.stack = [])) :=
  ⟨⟨true, [], []⟩, ⟨0x3000, [], []⟩, by decide +kernel⟩

theorem wit_PatchesAndRoutinesLoad_13 : ∃ (x : UStores) (u : Ucode),
    x.region (x.fetchAt u.pc) ≠ none ∧ fld (x.microword (x.fetchAt u.pc)) 22 2 < 2 ∧ fld (x.nanoword (fld (x.microword (x.fetchAt u.pc)) 0 14) 3) 38 2 = 0 :=
  ⟨ustore 0x1000 (wd 7), ⟨0x4000, [5], []⟩, by decide +kernel⟩

theorem wit_PatchesAndRoutinesLoad_14 : ∃ (x : UStores) (u : Ucode),
    x.region (x.fetchAt u.pc) ≠ none ∧ fld (x.microword (x.fetchAt u.pc)) 22 2 < 2 ∧ fld (x.nanoword (fld (x.microword (x.fetchAt u.pc)) 0 14) 3) 38 2 = 1 :=
  ⟨ustore 0x1000 (wd (2 ^ 38 + 0x4000)), ⟨0x4000, [5], []⟩, by decide +kernel⟩

theorem wit_PatchesAndRoutinesLoad_15 : ∃ (x : UStores) (u : Ucode),
    x.region (x.fetchAt u.pc) ≠ none ∧ fld (x.microword (x.fetchAt u.pc)) 22 2 < 2 ∧ fld (x.nanoword (fld (x.microword (x.fetchAt u.pc)) 0 14) 3) 38 2 = 2 ∧ u.stack.length < 4 :=
  ⟨ustore 0x1000 (wd (2 * 2 ^ 38 + 0x4000)), ⟨0x4000, [5, 6, 7], []⟩, by decide +kernel⟩

theorem wit_PatchesAndRoutinesLoad_16 : ∃ (x : UStores) (u : Ucode) (a : Nat) (as : List Nat),
    x.region (x.fetchAt u.pc) ≠ none ∧ fld (x.microword (x.fetchAt u.pc)) 22 2 < 2 ∧ fld (x.nanoword (fld (x.microword (x.fetchAt u.pc)) 0 14) 3) 38 2 = 3 ∧ u.stack = a :: as :=
  ⟨ustore 0x1000 (wd (3 * 2 ^ 38)), ⟨0x4000, [5], []⟩, 5, [], by decide +kernel⟩

theorem wit_PatchesAndRoutinesLoad_17 : ∃ (x : UStores) (u : Ucode),
    x.region (x.fetchAt u.pc) ≠ none ∧ fld (x.microword (x.fetchAt u.pc)) 22 2 = 2 ∧ fld (x.nanoword (fld (x.microword (x.fetchAt u.pc)) 0 14) 3) 38 2 < 2 :=
  ⟨ustore (0x1000 + 2 ^ 23) 0, ⟨0x4000, [], []⟩, by decide +kernel⟩

theorem wit_PatchesAndRoutinesLoad_18 : ∃ (x : UStores) (a : Nat) (b : Nat),
    a < x.romSize ∧ (a, b) ∈ x.matches ∧ (x.matches.map (fun e => e.1)).Nodup :=
  ⟨⟨true, [0, 0, 0, 0, wd (2 ^ 32), 0, 0, 0, wd (7 * 2 ^ 22 + 0x4001)], []⟩, 7, 0x4001, by decide +kernel⟩

theorem wit_PatchesAndRoutinesLoad_19 : ∃ (x : UStores) (a : Nat),
    (x.romSize ≤ a ∨ ∀ e ∈ x.matches, e.1 ≠ a) :=
  ⟨⟨true, [], []⟩, 7, by decide +kernel⟩

theorem wit_ScratchBanksAreWritten_1 : ∃ (s : State) (rq : Req) (c : Fin 48) (off : Nat) (vals : List Word) (clash : List (Nat × Word)) (t : Nat),
    s.takes rq (0x0D40 + c) 0 off vals { Env.calm with clash := clash } t = true :=
  ⟨ready.setRegW 0x0D45 0 9 0xF0, rq0, 5, 8, [3, 5], [(7, 1)], 9, by decide +kernel⟩

theorem wit_ScratchBanksAreWritten_2 : ∃ (s : State) (rq : Req) (c : Fin 48) (off : Nat) (vals : List Word) (clash : List (Nat × Word)) (t : Nat),
    s.takes rq (0x0D40 + c) 1 off vals { Env.calm with clash := clash } t = true :=
  ⟨ready.setRegW 0x0D45 0 9 0xF0, rq0, 5, 8, [3, 5], [(7, 1)], 9, by decide +kernel⟩

theorem wit_ScratchBanksAreWritten_3 : ∃ (s : State) (rq : Req) (c : Fin 48) (off : Nat) (vals : List Word) (clash : List (Nat × Word)) (t : Nat),
    s.takes rq (0x0D40 + c) 2 off vals { Env.calm with clash := clash } t = true :=
  ⟨ready.setRegW 0x0D45 0 9 0xFF, rq0, 5, 8, [3, 5], [(7, 1)], 9, by decide +kernel⟩

theorem wit_ScratchBanksAreWritten_4 : ∃ (s : State) (rq : Req) (c : Fin 48) (off : Nat) (w : Nat) (vals : List Word) (t : Nat),
    s.takes rq (0x0D40 + c) 0 off vals Env.calm t = true ∧ off ≤ w ∧ w < off + vals.length :=
  ⟨ready.setRegW 0x0D45 0 9 0xFF, rq0, 5, 8, 9, [3, 5], 9, by decide +kernel⟩

theorem wit_ScratchBanksAreWritten_5 : ∃ (s : State) (rq : Req) (c : Fin 48) (off : Nat) (w : Nat) (vals : List Word) (t : Nat),
    s.takes rq (0x0D40 + c) 1 off vals Env.calm t = true ∧ off ≤ w ∧ w < off + vals.length :=
  ⟨ready.setRegW 0x0D45 0 9 0xFF, rq0, 5, 8, 9, [3, 5], 9, by decide +kernel⟩

theorem wit_ScratchBanksAreWritten_6 : ∃ (s : State) (rq : Req) (c : Fin 48) (off : Nat) (w : Nat) (vals : List Word) (t : Nat),
    s.takes rq (0x0D40 + c) 2 off vals Env.calm t = true ∧ off ≤ w ∧ w < off + vals.length :=
  ⟨ready.setRegW 0x0D45 0 9 0xFF, rq0, 5, 8, 9, [3, 5], 9, by decide +kernel⟩

theorem wit_ClustersAreGatedAndWake_1 : ∃ (s : State) (rq : Req) (c : Fin 64) (t : Nat),
    c.val < 48 ∧ s.takes rq 0x0D00 8 0 [wd (256 + c)] Env.calm t = true ∧ s.seqState c ≠ 7 :=
  ⟨queue300 [{ cell7 with burst := 5 }], rq0, 5, 9, by decide +kernel⟩

theorem wit_ClustersAreGatedAndWake_2 : ∃ (s : State) (rq : Req) (c : Fin 64) (t : Nat),
    s.takes rq 0x0D00 8 0 [wd (256 + c)] Env.calm t = true ∧ s.seqState c = 7 ∧ SMap.get (fun _ => none) s.mem.waking c = none :=
  ⟨gated5, rq0, 5, 9, by decide +kernel⟩

theorem wit_ClustersAreGatedAndWake_3 : ∃ (s : State) (rq : Req) (c : Fin 64) (t : Nat),
    s.takes rq 0x0D00 8 0 [wd c] Env.calm t = true ∧ s.seqState c = 7 ∧ SMap.get (fun _ => none) s.mem.waking c = none :=
  ⟨gated5.setRegW 0x0D45 0 9 0xFF, rq0, 5, 9, by decide +kernel⟩

theorem wit_ClustersAreGatedAndWake_4 : ∃ (s : State) (rq : Req) (c : Fin 64) (t : Nat),
    s.takes rq 0x0D00 8 0 [wd c] Env.calm t = true ∧ (s.seqState c ≠ 7 ∨ (SMap.get (fun _ => none) s.mem.waking c).isSome = true) :=
  ⟨ready, rq0, 5, 9, by decide +kernel⟩

theorem wit_ClustersAreGatedAndWake_5 : ∃ (s : State) (c : Fin 48) (w : Word),
    SMap.get (fun _ => none) s.mem.waking c = some w :=
  ⟨{ gated5 with mem := { gated5.mem with waking := [(5, some 77)] } }, 5, 77, by decide +kernel⟩

theorem wit_ClustersAreGatedAndWake_6 : ∃ (s : State) (c : Fin 48),
    SMap.get (fun _ => none) s.mem.waking c = none :=
  ⟨gated5, 5, by decide +kernel⟩

theorem wit_ArbitersGrantAndCut_1 : ∃ (s : State) (a : Fin 101) (asks : List (Fin 16 × Nat)),
    ((s.arb a).waiting ++ ((((asks.map (fun e => (e.1.val, e.2))).filter (fun e => reqAt e.1 a)).filter (fun e => !(s.arb a).waiting.any (fun w => w.1 = e.1 && w.2.1 = e.2))).eraseDups.map (fun e => (e.1, e.2, s.reqBase e.1)))) ≠ [] :=
  ⟨ready.setArb 3 ⟨[(5, 0, 9), (3, 2, 4)], 0, none, []⟩, 3, [(4, 0), (0, 7)], by decide +kernel⟩

theorem wit_ArbitersGrantAndCut_2 : ∃ (s : State) (a : Fin 101) (asks : List (Fin 16 × Nat)),
    ((s.arb a).waiting ++ ((((asks.map (fun e => (e.1.val, e.2))).filter (fun e => reqAt e.1 a)).filter (fun e => !(s.arb a).waiting.any (fun w => w.1 = e.1 && w.2.1 = e.2))).eraseDups.map (fun e => (e.1, e.2, s.reqBase e.1)))) = [] :=
  ⟨ready, 3, [(12, 0)], by decide +kernel⟩

theorem wit_ArbitersGrantAndCut_3 : ∃ (s : State) (a : Fin 101),
    (s.arb a).grant = none :=
  ⟨ready, 3, by decide +kernel⟩

theorem wit_ArbitersGrantAndCut_4 : ∃ (s : State) (a : Fin 101) (beats : Nat) (t : Nat) (r : Nat) (i : Nat) (at0 : Nat) (lim : Nat),
    (s.arb a).grant = some (r, i, at0, lim) ∧ r < 16 ∧ (lim ≤ beats ∨ at0 + usEt 10 ≤ (s.at t).clock) ∧ ((((s.arb a).cuts.filter (fun e => (s.at t).clock ≤ e.2.2 + msEt 1)) ++ [(r, i, (s.at t).clock)]).filter (fun e => e.1 = r && e.2.1 = i)).length < 8 :=
  ⟨ready.setArb 3 ⟨[(5, 0, 9)], 0, some (4, 0, 7, 16), []⟩, 3, 16, 9, 4, 0, 7, 16, by decide +kernel⟩

theorem wit_ArbitersGrantAndCut_5 : ∃ (s : State) (a : Fin 101) (beats : Nat) (t : Nat) (r : Nat) (i : Nat) (at0 : Nat) (lim : Nat),
    (s.arb a).grant = some (r, i, at0, lim) ∧ r < 16 ∧ (lim ≤ beats ∨ at0 + usEt 10 ≤ (s.at t).clock) ∧ 8 ≤ ((((s.arb a).cuts.filter (fun e => (s.at t).clock ≤ e.2.2 + msEt 1)) ++ [(r, i, (s.at t).clock)]).filter (fun e => e.1 = r && e.2.1 = i)).length :=
  ⟨ready.setArb 3 ⟨[(5, 0, 9)], 0, some (4, 0, 7, 16), List.replicate 7 (4, 0, 5)⟩, 3, 16, 9, 4, 0, 7, 16, by decide +kernel⟩

theorem wit_ArbitersGrantAndCut_6 : ∃ (s : State) (a : Fin 101) (beats : Nat) (t : Nat) (r : Nat) (i : Nat) (at0 : Nat) (lim : Nat),
    (s.arb a).grant = some (r, i, at0, lim) ∧ beats < lim ∧ (s.at t).clock < at0 + usEt 10 :=
  ⟨ready.setArb 3 ⟨[(5, 0, 9)], 0, some (4, 0, 7, 16), []⟩, 3, 15, 9, 4, 0, 7, 16, by decide +kernel⟩

theorem wit_ArbitersGrantAndCut_7 : ∃ (s : State) (rq : Req) (v : Word) (t : Nat),
    s.takes rq 0x0C00 0 0 [v] Env.calm t = true :=
  ⟨(ready.setRegW 0x0C01 0 5 3).setRegN 0x0C00 2 8, rq0, 1, 9, by decide +kernel⟩

theorem wit_HbmAndBanksAreRepaired_2 : ∃ (s : State) (p : Fin 64) (row : Nat),
    s.idleWindow = true ∧ s.mem.repairs.find? (fun e => e.1 = p.val) = some (p.val, row) ∧ row < 0x60000000 / 2048 :=
  ⟨row7 2, 3, 7, by decide +kernel⟩

theorem wit_HbmAndBanksAreRepaired_3 : ∃ (s : State) (p : Fin 64),
    s.mem.repairs.find? (fun e => e.1 = p.val) = none :=
  ⟨ready, 3, by decide +kernel⟩

theorem wit_HbmAndBanksAreRepaired_4 : ∃ (s : State) (b : BankWord),
    s.regN 0x0D00 0 ≠ 0 ∧ b.source.val < 48 ∧ s.seqState b.source = 7 :=
  ⟨gated5.setRegN 0x0D00 0 1, ⟨5, 3, 77, true, false, .other⟩, by decide +kernel⟩

theorem wit_HbmAndBanksAreRepaired_5 : ∃ (s : State) (b : BankWord),
    s.regN 0x0D00 0 ≠ 0 ∧ (48 ≤ b.source.val ∨ s.seqState b.source ≠ 7) ∧ b.march = false ∧ b.parity = true ∧ b.item = .other :=
  ⟨ready.setRegN 0x0D00 0 1, ⟨5, 3, 77, false, true, .other⟩, by decide +kernel⟩

theorem wit_HbmAndBanksAreRepaired_6 : ∃ (s : State) (b : BankWord),
    s.regN 0x0D00 0 ≠ 0 ∧ b.source.val < 48 ∧ s.seqState b.source ≠ 7 ∧ b.march = true ∧ b.parity = false ∧ 8 ≤ SMap.get (fun _ => 0) s.mem.spares (b.source * 256 + b.bank.toNat) :=
  ⟨{ ready.setRegN 0x0D00 0 1 with mem := { ready.mem with spares := [(5 * 256 + 3, 8)] } }, ⟨5, 3, 77, true, false, .other⟩, by decide +kernel⟩

theorem wit_HbmAndBanksAreRepaired_7 : ∃ (s : State),
    s.idleWindow = false :=
  ⟨(row7 2).setRegN (seqIdx 0 5) 0 3, by decide +kernel⟩

theorem wit_HbmAndBanksAreRepaired_8 : ∃ (s : State),
    s.regN 0x0D00 0 = 0 :=
  ⟨ready.setRegN 0x0D00 0 0, by decide +kernel⟩

theorem wit_HbmAndBanksAreRepaired_9 : ∃ (s : State),
    s.regN 0x0D00 0 ≠ 0 :=
  ⟨ready.setRegN 0x0D00 0 1, by decide +kernel⟩

theorem wit_HbmAndBanksAreRepaired_10 : ∃ (s : State) (b : BankWord),
    s.regN 0x0D00 0 ≠ 0 ∧ (48 ≤ b.source.val ∨ s.seqState b.source ≠ 7) ∧ b.march = true ∧ b.parity = false ∧ SMap.get (fun _ => 0) s.mem.spares (b.source * 256 + b.bank.toNat) < 8 :=
  ⟨ready.setRegN 0x0D00 0 1, ⟨5, 3, 77, true, false, .other⟩, by decide +kernel⟩

theorem wit_HousekeepingRounds_1 : ∃ (s : State),
    2 ≤ s.devState :=
  ⟨ready, by decide +kernel⟩

theorem wit_HousekeepingRounds_2 : ∃ (s : State),
    s.devState < 2 :=
  ⟨State.reset, by decide +kernel⟩

theorem wit_HousekeepingRounds_3 : ∃ (s : State) (m : Fin 256),
    2 ≤ s.devState ∧ monitorLive m = true ∧ s.regN 0x0710 4 m = 0 ∧ fld (s.reg 0x0710 3 m) 0 8 = 0x11 ∧ (s.mon m).decided = true ∧ (s.mon m).band = 0 ∧ s.regN 0x0710 5 m = 0 ∧ (s.reg 0x0710 0 m).toInt ≤ (s.reg 0x0710 1 m).toInt ∧ s.reg 0x0710 2 m = 0 :=
  ⟨mon20 0, 20, by decide +kernel⟩

theorem wit_HousekeepingRounds_4 : ∃ (s : State) (m : Fin 256),
    2 ≤ s.devState ∧ (monitorLive m = false ∨ s.regN 0x0710 4 m = 3) :=
  ⟨mon20 3, 20, by decide +kernel⟩

theorem wit_HousekeepingRounds_5 : ∃ (s : State),
    2 ≤ s.devState ∧ (s.regN 0x0100 8 = 0 ∨ 2 < s.regN 0x0100 8) ∧ s.therm.vout = none :=
  ⟨ready, by decide +kernel⟩

theorem wit_HousekeepingRounds_6 : ∃ (s : State) (m : BitVec 8),
    2 ≤ s.devState ∧ (s.regN 0x0100 8 = 0 ∨ 2 < s.regN 0x0100 8) ∧ s.therm.vout = some m :=
  ⟨{ ready with therm := { ready.therm with vout := some 0x17 } }, 0x17, by decide +kernel⟩

theorem wit_HousekeepingRounds_7 : ∃ (s : State) (m : BitVec 8),
    2 ≤ s.devState ∧ (s.regN 0x0100 8 = 0 ∨ 2 < s.regN 0x0100 8) ∧ s.therm.vout = some m ∧ voutLinear m = true ∧ (s.reg 0x0702 1).toInt ≠ 0 :=
  ⟨{ (ready.setRegW 0x0702 0 0 800000).setRegW 0x0702 1 0 720000 with therm := { ready.therm with vout := some 0x17 } }, 0x17, by decide +kernel⟩

theorem wit_HousekeepingRounds_8 : ∃ (s : State),
    2 ≤ s.devState :=
  ⟨ready, by decide +kernel⟩

theorem wit_StarfixCalibrates_1 : ∃ (s : State) (rq : Req) (off : Nat) (vals : List Word) (t : Nat),
    s.takes rq 0x0800 0 off vals Env.calm t = true :=
  ⟨ready.setRegN (calIdx 6) 0 2, rq0, 0, [0x60, 0x01], 9, by decide +kernel⟩

theorem wit_StarfixCalibrates_2 : ∃ (s : State) (c : Fin 48),
    s.regN (calIdx c) 0 = 2 :=
  ⟨cal5 2 41000, 5, by decide +kernel⟩

theorem wit_StarfixCalibrates_3 : ∃ (s : State) (c : Fin 48),
    s.regN (calIdx c) 0 ≠ 2 :=
  ⟨ready, 5, by decide +kernel⟩

theorem wit_StarfixCalibrates_4 : ∃ (s : State) (c : Fin 48),
    (s.cal c).quick = none :=
  ⟨ready, 5, by decide +kernel⟩

theorem wit_StarfixCalibrates_5 : ∃ (s : State) (c : Fin 48),
    (s.cal c).quick = some false :=
  ⟨ready.onCal 5 (fun x => { x with quick := some false }), 5, by decide +kernel⟩

theorem wit_StarfixCalibrates_6 : ∃ (s : State) (c : Fin 48),
    (s.cal c).quick = some true :=
  ⟨ready.onCal 5 (fun x => { x with quick := some true }), 5, by decide +kernel⟩

theorem wit_StarfixCalibrates_7 : ∃ (s : State) (c : Fin 48) (t : Nat),
    s.regN (calIdx c) 0 = 1 ∧ (s.cal c).logged = false ∧ s.regN 0x0800 3 ≠ 0 ∧ (s.cal c).asked + msEt (s.regN 0x0800 3) ≤ (s.at t).clock :=
  ⟨(cal5 1 0).setRegN 0x0800 3 10, 5, 10 ^ 12, by decide +kernel⟩

theorem wit_StarfixCalibrates_8 : ∃ (s : State) (c : Fin 48) (t : Nat),
    (s.regN (calIdx c) 0 ≠ 1 ∨ (s.cal c).logged = true ∨ s.regN 0x0800 3 = 0 ∨ (s.at t).clock < (s.cal c).asked + msEt (s.regN 0x0800 3)) :=
  ⟨(cal5 1 0).setRegN 0x0800 3 10, 5, 99, by decide +kernel⟩

theorem wit_StarfixCalibrates_9 : ∃ (s : State) (rq : Req) (c : Fin 48) (vals : List Word) (t : Nat),
    s.carries = true ∧ s.alm.held = [] ∧ s.alm.head.length + 1 ≤ 3584 ∧ (s.at t).firstChecks (mkTx rq .write (calIdx c) 7 0 4096 vals .here) (wordsAt 0 vals) = (0, 0) ∧ s.lockOf (calIdx c) = none ∧ s.valuesBad c vals = 0 ∧ vals.length = 4096 ∧ s.seqState c = 3 :=
  ⟨known (seqAt5 3), rq0, 5, calSet, 9, by decide +kernel, by decide +kernel, by decide +kernel, by decide +kernel, by decide +kernel, calSet_good _, calSet_length, by decide +kernel⟩

theorem wit_StarfixCalibrates_10 : ∃ (s : State) (rq : Req) (c : Fin 48) (vals : List Word) (t : Nat),
    s.carries = true ∧ s.alm.held = [] ∧ s.alm.head.length + 1 ≤ 3584 ∧ (s.at t).firstChecks (mkTx rq .write (calIdx c) 7 0 4096 vals .here) (wordsAt 0 vals) = (0, 0) ∧ s.lockOf (calIdx c) = none ∧ s.valuesBad c vals = 0 ∧ vals.length = 4096 ∧ s.seqState c ≠ 3 :=
  ⟨known (cal5 1 0), rq0, 5, calSet, 9, by decide +kernel, by decide +kernel, by decide +kernel, by decide +kernel, by decide +kernel, calSet_good _, calSet_length, by decide +kernel⟩

theorem wit_FaultsAreCollected_1 : ∃ (s : State) (source : Fin 512) (cause : Fin 128) (sev : Fin 4),
    2 ≤ s.devState ∧ s.faultValid source cause sev = true ∧ (cause.val = 0x0B ∨ cause.val = 0x0C ∨ cause.val = 0x0D ∨ cause.val = 0x12 ∨ cause.val = 0x14 ∨ cause.val = 0x16 ∨ cause.val = 0x19 ∨ cause.val = 0x1A ∨ cause.val = 0x1C ∨ cause.val = 0x22) :=
  ⟨ready, 0xB3, 0x16, 1, by decide +kernel⟩

theorem wit_FaultsAreCollected_2 : ∃ (s : State) (source : Fin 512) (cause : Fin 128) (sev : Fin 4),
    (s.devState < 2 ∨ s.faultValid source cause sev = false) :=
  ⟨ready, 0xB3, 0x17, 1, by decide +kernel⟩

theorem wit_FaultsAreCollected_3 : ∃ (s : State) (source : Fin 512) (cause : Fin 128),
    2 ≤ s.devState ∧ s.devState ≤ 6 ∧ s.faultValid source cause 3 = true :=
  ⟨(seqAt5 3).setRegN (asIdx 7) 0x10 1, 0xA9, 0x1E, by decide +kernel⟩

theorem wit_FaultsAreCollected_4 : ∃ (s : State) (rq : Req) (source : Fin 512) (v : Word) (t : Nat),
    s.takes rq 0x0601 1 source [v] Env.calm t = true ∧ v = 1 :=
  ⟨eclipsed, rq0, 0xA9, 1, 9, by decide +kernel⟩

theorem wit_FaultsAreCollected_5 : ∃ (s : State) (rq : Req) (source : Fin 512) (cause : Fin 128) (sev : Nat) (detail : Word) (t : Nat),
    s.takes rq 0xF010 1 0 [wd (cause * 512 + source), detail] Env.calm t = true ∧ (cause.val = 0x0B ∨ cause.val = 0x0C ∨ cause.val = 0x0D ∨ cause.val = 0x12 ∨ cause.val = 0x14 ∨ cause.val = 0x16 ∨ cause.val = 0x19 ∨ cause.val = 0x1A ∨ cause.val = 0x1C ∨ cause.val = 0x22) ∧ sev = s.severityOf source cause ∧ s.reacting source = false :=
  ⟨(ready.setRegN 0xF010 0 1).setRegN 0x0100 0 8, rq0, 0xB3, 0x16, 1, 77, 9, by decide +kernel⟩

theorem wit_FaultsAreCollected_6 : ∃ (s : State) (c : Fin 48) (cause : Fin 128) (detail : Word) (n : Nat),
    2 ≤ s.devState ∧ (cause = 1 ∨ cause = 2 ∨ cause = 3) ∧ fld detail 0 5 = n ∧ n < 24 ∧ s.sliceState c n = 0 ∧ s.sliceState c 24 = 1 ∧ (s.pe c).swap = none ∧ (s.pe c).rehome = none ∧ (s.pe c).moving = none :=
  ⟨ready.setRegN (peIdx 0x27 5) 24 1, 5, 1, 7, 7, by decide +kernel⟩

theorem wit_FaultsAreCollected_7 : ∃ (s : State) (c : Fin 48) (cause : Fin 128) (detail : Word) (d : Nat),
    2 ≤ s.devState ∧ (cause = 4 ∨ cause = 5 ∨ cause = 6) ∧ fld detail 0 3 = d ∧ d < 6 ∧ s.regN (peIdx 0x29 c) 0xF0 = 0 ∧ (s.pe c).swap = none ∧ (s.pe c).rehome = none ∧ (s.pe c).moving = none :=
  ⟨ready, 5, 5, 3, 3, by decide +kernel⟩

theorem wit_FaultsAreCollected_8 : ∃ (s : State) (c : Fin 48) (cause : Fin 128),
    2 ≤ s.devState ∧ 1 ≤ cause.val ∧ cause.val ≤ 6 ∧ ((s.pe c).swap.isSome = true ∨ (s.pe c).rehome.isSome = true ∨ (s.pe c).moving.isSome = true) ∧ SMap.get (fun _ => 0) s.faults.reaction c ≠ 2 ∧ s.looped c = false :=
  ⟨ready.onPe 5 (fun p => { p with moving := some ([3], 255) }), 5, 5, by decide +kernel⟩

theorem wit_FaultsAreCollected_9 : ∃ (s : State) (e : Fin 18),
    2 ≤ s.devState ∧ s.regN (0x6010 + e) 0 = 1 :=
  ⟨ready.setRegN 0x6020 0 1, 16, by decide +kernel⟩

theorem wit_FaultsAreCollected_10 : ∃ (s : State) (p : Fin 4),
    2 ≤ s.devState ∧ 1 < s.portState p :=
  ⟨ready.setRegN 0x1112 7 3, 2, by decide +kernel⟩

theorem wit_FaultsAreCollected_11 : ∃ (s : State) (detail : Word) (q : Nat),
    2 ≤ s.devState ∧ fld detail 0 16 = q ∧ (s.queue q).broken = false :=
  ⟨ready, 300, 300, by decide +kernel⟩

theorem wit_FaultsAreCollected_12 : ∃ (s : State) (source : Fin 512) (detail : Word),
    2 ≤ s.devState ∧ s.faultValid source 0x13 1 = true ∧ fld detail 0 31 < 0x60000000 :=
  ⟨landed (ready.setRegN 0x1000 4 0x100000) 0x100002 (mkLine 9 0 false 1 2 3 4 5 6 ^^^ 1), 0x48, 0x100002, by decide +kernel⟩

theorem wit_FaultsAreCollected_13 : ∃ (s : State) (c : Fin 48),
    2 ≤ s.devState ∧ s.restarting c = false ∧ SMap.get (fun _ => none) s.micro.last c = none ∧ s.seqState c ≠ 7 :=
  ⟨ready, 5, by decide +kernel⟩

theorem wit_FaultsAreCollected_14 : ∃ (s : State) (c : Fin 48) (detail : Word) (n : Nat),
    2 ≤ s.devState ∧ fld detail 0 1 = n ∧ (s.regN (adcIdx c n) 0 = 1 ∨ s.regN (adcIdx c n) 0 = 2) :=
  ⟨ready.setRegN (adcIdx 5 1) 0 1, 5, 1, 1, by decide +kernel⟩

theorem wit_EclipseIsEnteredAndLeft_1 : ∃ (s : State) (rq : Req) (v : Word) (t : Nat),
    s.takes rq 0x0600 4 0 [v] Env.calm t = true ∧ s.devState = 7 :=
  ⟨eclipsed, rq0, 1, 9, by decide +kernel⟩

theorem wit_EclipseIsEnteredAndLeft_2 : ∃ (s : State) (rq : Req) (v : Word) (t : Nat),
    s.takes rq 0x0600 4 0 [v] Env.calm t = true ∧ 2 ≤ s.devState ∧ s.devState ≤ 6 :=
  ⟨seqAt5 3, rq0, 1, 9, by decide +kernel⟩

theorem wit_EclipseIsEnteredAndLeft_3 : ∃ (s : State) (rq : Req) (v : Word) (a : Bool) (b : Bool) (t : Nat),
    s.takes rq 0x0600 5 0 [v] { Env.calm with relocked := a, rebuilt := b } t = true :=
  ⟨eclipsed, rq0, 1, true, false, 9, by decide +kernel⟩

theorem wit_AlmanacIsCommitted_1 : ∃ (s : State) (rq : Req) (t : Nat),
    s.takes rq 0x0300 0 0 [1] Env.calm t = true ∧ s.regN 0x0300 1 ≤ 2 :=
  ⟨ready.setRegN 0x0300 1 1, rq0, 9, by decide +kernel⟩

theorem wit_AlmanacIsCommitted_2 : ∃ (s : State) (rq : Req) (t : Nat),
    s.takes rq 0x0300 0 0 [2] Env.calm t = true ∧ s.regN 0x0300 1 ≤ 2 :=
  ⟨ready.setRegN 0x0300 1 2, rq0, 9, by decide +kernel⟩

theorem wit_AlmanacIsCommitted_3 : ∃ (s : State) (k : CommitRun),
    s.alm.run = some k ∧ s.bootEarly = false ∧ (k.bank = 1 ∨ k.bank = 2) :=
  ⟨committing, ⟨7, 2, 5, [(99, some 3)], 4109⟩, by decide +kernel⟩

theorem wit_AlmanacIsCommitted_4 : ∃ (s : State) (k : CommitRun),
    s.alm.run = some k ∧ s.bootEarly = false ∧ (k.bank = 1 ∨ k.bank = 2) ∧ s.regN 0x0300 1 ≤ 2 :=
  ⟨committing, ⟨7, 2, 5, [(99, some 3)], 4109⟩, by decide +kernel⟩

theorem wit_AlmanacIsCommitted_5 : ∃ (s : State),
    (s.alm.run = none ∨ s.bootEarly = true) :=
  ⟨ready, by decide +kernel⟩

theorem wit_AlmanacIsCommitted_6 : ∃ (s : State) (rq : Req) (v : Word) (t : Nat),
    v = 1 ∧ s.carries = true ∧ s.alm.held = [] ∧ s.alm.head.length + 1 ≤ 3584 ∧ (s.at t).firstChecks (mkTx rq .write 0xF020 1 0 1 [1] .here) [(0, 1)] = (0, 0) ∧ s.lockOf 0xF020 = none ∧ s.cmdBusy rq.src 0xF020 1 = false ∧ s.regB 0 7 = false :=
  ⟨{ ready.setRegN 0x0100 0 8 with regs := (odKey 0 7 0, 0) :: (ready.setRegN 0x0100 0 8).regs }, rq0, 1, 9, by decide +kernel⟩

theorem wit_CommitCaptures_1 : ∃ (s : State) (rq : Req) (t : Nat),
    s.takes rq 0x0300 0 0 [1] Env.calm t = true :=
  ⟨ready.setRegN 0x3C03 3 77, rq0, 9, by decide +kernel⟩

theorem wit_LogRecordsOccurrences_1 : ∃ (s : State) (code : BitVec 16),
    (s.regN 0x0500 0 ≠ 1 ∨ rateLimited code.toNat = false) ∧ s.log.input.length < 256 :=
  ⟨{ ready with log := { ready.log with lossPending := true } }, 0x0901, by decide +kernel⟩

theorem wit_LogRecordsOccurrences_2 : ∃ (s : State) (code : BitVec 16),
    (s.regN 0x0500 0 ≠ 1 ∨ rateLimited code.toNat = false) ∧ 256 ≤ s.log.input.length :=
  ⟨{ ready with log := { ready.log with input := List.replicate 256 rec7 } }, 0x0901, by decide +kernel⟩

theorem wit_LogRecordsOccurrences_3 : ∃ (s : State) (code : BitVec 16),
    s.regN 0x0500 0 = 1 ∧ rateLimited code.toNat = true ∧ s.rateWin code.toNat = none ∧ s.log.input.length < 256 :=
  ⟨ready.setRegN 0x0500 0 1, 0x0901, by decide +kernel⟩

theorem wit_LogRecordsOccurrences_4 : ∃ (s : State) (code : BitVec 16) (t : Nat) (w : RateWin),
    s.regN 0x0500 0 = 1 ∧ rateLimited code.toNat = true ∧ s.rateWin code.toNat = some w ∧ (s.at t).clock < w.opened + msEt (s.regN 0x0500 2) ∧ s.regN 0x0500 1 ≤ w.stored :=
  ⟨((ready.setRegN 0x0500 0 1).setRegN 0x0500 1 2).setRateWin 0x0901 (some ⟨5, 2, 0⟩), 0x0901, 9, ⟨5, 2, 0⟩, by decide +kernel⟩

theorem wit_LogRecordsOccurrences_5 : ∃ (s : State) (code : BitVec 16) (t : Nat) (w : RateWin),
    s.regN 0x0500 0 = 1 ∧ rateLimited code.toNat = true ∧ s.rateWin code.toNat = some w ∧ (s.at t).clock < w.opened + msEt (s.regN 0x0500 2) ∧ w.stored < s.regN 0x0500 1 ∧ s.log.input.length < 256 :=
  ⟨((ready.setRegN 0x0500 0 1).setRegN 0x0500 1 2).setRateWin 0x0901 (some ⟨5, 1, 0⟩), 0x0901, 9, ⟨5, 1, 0⟩, by decide +kernel⟩

theorem wit_LogRecordsOccurrences_6 : ∃ (s : State) (code : BitVec 16) (t : Nat) (w : RateWin),
    s.regN 0x0500 0 = 1 ∧ rateLimited code.toNat = true ∧ s.rateWin code.toNat = some w ∧ w.opened + msEt (s.regN 0x0500 2) ≤ (s.at t).clock ∧ w.held = 0 ∧ s.log.input.length < 256 :=
  ⟨((ready.setRegN 0x0500 0 1).setRegN 0x0500 2 1).setRateWin 0x0901 (some ⟨5, 1, 0⟩), 0x0901, 10 ^ 12, ⟨5, 1, 0⟩, by decide +kernel⟩

theorem wit_LogRecordsOccurrences_7 : ∃ (s : State),
    s.log.input = [] :=
  ⟨ready, by decide +kernel⟩

theorem wit_LogRecordsOccurrences_8 : ∃ (s : State) (r : LogRec) (x : LogRec) (l : List LogRec),
    s.log.input = r :: l ∧ s.regN 0x0500 0 = 0 ∧ s.newestRecord = some x ∧ r.mergesWith x = true ∧ r.afterLoss = false ∧ mergesAlone r.code = true :=
  ⟨{ ready.setRegN 0x0500 3 1 with log := { ready.log with input := [{ rec7 with code := 0x0B01, arg1 := 4 }], slots := [(0, some { rec7 with code := 0x0B01 })] } }, { rec7 with code := 0x0B01, arg1 := 4 }, { rec7 with code := 0x0B01 }, [], by decide +kernel⟩

theorem wit_LogRecordsOccurrences_9 : ∃ (s : State) (r : LogRec) (x : LogRec) (y : LogRec) (l : List LogRec),
    s.log.input = r :: y :: l ∧ s.regN 0x0500 0 = 0 ∧ s.newestRecord = some x ∧ r.mergesWith x = true ∧ r.afterLoss = true :=
  ⟨{ ready.setRegN 0x0500 3 1 with log := { ready.log with input := [{ rec7 with afterLoss := true }, rec7], slots := [(0, some rec7)] } }, { rec7 with afterLoss := true }, rec7, rec7, [], by decide +kernel⟩

theorem wit_LogRecordsOccurrences_10 : ∃ (s : State) (r : LogRec) (l : List LogRec),
    s.log.input = r :: l ∧ (∀ x ∈ s.newestRecord, s.regN 0x0500 0 ≠ 0 ∨ r.mergesWith x = false) ∧ 4096 ≤ s.regN 0x0500 3 :=
  ⟨{ ready.setRegN 0x0500 3 4100 with log := { ready.log with input := [rec7] } }, rec7, [], by decide +kernel⟩

theorem wit_LogRecordsOccurrences_11 : ∃ (s : State) (code : BitVec 16),
    s.rateWin code.toNat = none :=
  ⟨ready, 0x0901, by decide +kernel⟩

theorem wit_LogRecordsOccurrences_12 : ∃ (s : State) (r : LogRec) (l : List LogRec),
    s.log.input = r :: l ∧ (∀ x ∈ s.newestRecord, s.regN 0x0500 0 ≠ 0 ∨ r.mergesWith x = false) ∧ s.regN 0x0500 3 < 4096 :=
  ⟨{ ready with log := { ready.log with input := [rec7] } }, rec7, [], by decide +kernel⟩

theorem wit_LogRecordsOccurrences_13 : ∃ (s : State) (r : LogRec) (x : LogRec) (l : List LogRec),
    s.log.input = r :: l ∧ s.regN 0x0500 0 = 0 ∧ s.newestRecord = some x ∧ r.mergesWith x = true ∧ r.afterLoss = false ∧ mergesAlone r.code = false :=
  ⟨{ ready.setRegN 0x0500 3 1 with log := { ready.log with input := [rec7], slots := [(0, some rec7)] } }, rec7, rec7, [], by decide +kernel⟩

theorem wit_LogRecordsOccurrences_14 : ∃ (s : State) (code : BitVec 16) (t : Nat) (w : RateWin),
    s.rateWin code.toNat = some w ∧ w.opened + msEt (s.regN 0x0500 2) ≤ (s.at t).clock ∧ s.log.input.length < 256 :=
  ⟨(ready.setRegN 0x0500 2 1).setRateWin 0x0901 (some ⟨5, 2, 6⟩), 0x0901, 10 ^ 12, ⟨5, 2, 6⟩, by decide +kernel⟩

theorem wit_LogRecordsOccurrences_15 : ∃ (s : State) (code : BitVec 16) (t : Nat) (w : RateWin),
    s.rateWin code.toNat = some w ∧ (s.at t).clock < w.opened + msEt (s.regN 0x0500 2) :=
  ⟨(ready.setRegN 0x0500 2 1).setRateWin 0x0901 (some ⟨5, 2, 6⟩), 0x0901, 9, ⟨5, 2, 6⟩, by decide +kernel⟩

theorem wit_JournalDrains_1 : ∃ (s : State) (n : Nat),
    ((s.alm.head.take n).map (fun l => 0x5FD00000 + (lineWord l 0).toNat % 1048576)).Nodup :=
  ⟨{ ready with alm := { ready.alm with head := [entry 4, entry 5, entry 6] } }, 2, by decide +kernel⟩

theorem wit_JournalDrains_2 : ∃ (s : State) (rq : Req) (i : Nat) (sub : Nat) (v : Word) (t : Nat) (r : Obj),
    s.alm.held = [mkTx rq .write i sub 0 1 [v] .here] ∧ ({ s with alm := { s.alm with held := [] } } : State).takes rq i sub 0 [v] Env.calm t = true ∧ odFind i sub = some r ∧ r.hook = .none ∧ r.acc ≠ .cmd ∧ (r.eff = .imm ∨ r.eff = .shadow) :=
  ⟨{ ready with alm := { ready.alm with held := [mkTx rq0 .write 0x0500 1 0 1 [77] .here] } }, rq0, 0x0500, 1, 77, 9, row 0x0500 1, by decide +kernel⟩

theorem wit_JournalDrains_3 : ∃ (s : State) (e : Env) (x : Tx) (l : List Tx) (t : Nat),
    s.alm.held = x :: l ∧ (({ s.at t with alm := { s.alm with held := l } } : State).odPerform x e).isNone = true :=
  ⟨{ ready with alm := { ready.alm with held := [mkTx rq0 .write 0x0500 1 0 1 [77] .here], head := List.replicate 3584 0 } }, Env.calm, mkTx rq0 .write 0x0500 1 0 1 [77] .here, [], 9, by decide +kernel⟩

theorem wit_JournalDrains_4 : ∃ (s : State),
    s.alm.held = [] :=
  ⟨ready, by decide +kernel⟩

theorem wit_PowerAndColdResets_1 : ∃ (s : State),
    s.devState = 0 :=
  ⟨(State.reset.setRegN 0x0100 0 0).setRegN 0x0300 6 9, by decide +kernel⟩

theorem wit_PowerAndColdResets_2 : ∃ (s : State),
    s.devState ≠ 0 :=
  ⟨seqAt5 3, by decide +kernel⟩

theorem wit_PowerAndColdResets_4 : ∃ (s : State),
    s.devState = 1 :=
  ⟨State.reset, by decide +kernel⟩

theorem wit_PowerAndColdResets_5 : ∃ (s : State) (p : Bool) (t : Nat) (c : Instr),
    (s.devState = 0 ∧ c = .coldReset p t ∨ s.devState ≠ 0 ∧ c = .powerOn t) :=
  ⟨ready, true, 9, .powerOn 9, by decide +kernel⟩

theorem wit_PowerAndColdResets_6 : ∃ (s : State),
    s.devState ≠ 1 :=
  ⟨ready, by decide +kernel⟩

theorem wit_BringupAndTheBuiltInTest_1 : ∃ (s : State),
    s.regN 0x0100 8 = 1 :=
  ⟨bring 1, by decide +kernel⟩

theorem wit_BringupAndTheBuiltInTest_2 : ∃ (s : State),
    s.regN 0x0100 8 = 3 :=
  ⟨bring 3, by decide +kernel⟩

theorem wit_BringupAndTheBuiltInTest_3 : ∃ (s : State) (x : Fin 512),
    s.regN 0x0100 8 = 3 ∧ 2 ≤ s.devState ∧ s.devState ≤ 6 ∧ s.faultValid x 0x1E 3 = true :=
  ⟨bring 3, 0xA6, by decide +kernel⟩

theorem wit_BringupAndTheBuiltInTest_4 : ∃ (s : State),
    s.regN 0x0100 8 = 2 :=
  ⟨bring 2, by decide +kernel⟩

theorem wit_BringupAndTheBuiltInTest_5 : ∃ (s : State),
    (s.regN 0x0100 8 = 0 ∨ 5 < s.regN 0x0100 8) :=
  ⟨ready, by decide +kernel⟩

theorem wit_BringupAndTheBuiltInTest_6 : ∃ (s : State),
    s.regN 0x0100 8 = 4 :=
  ⟨(bring 4).setRegN 0x1111 0 1, by decide +kernel⟩

theorem wit_BringupAndTheBuiltInTest_7 : ∃ (s : State),
    s.regN 0x0100 8 = 5 :=
  ⟨bring 5, by decide +kernel⟩

theorem wit_BringupAndTheBuiltInTest_8 : ∃ (s : State) (rq : Req) (t : Nat),
    s.takes rq 0x0100 1 0 [1] Env.calm t = true :=
  ⟨ready, rq0, 9, by decide +kernel⟩

theorem wit_BringupAndTheBuiltInTest_9 : ∃ (s : State),
    s.regN 0x0100 0x0B = 1 :=
  ⟨ready.setRegN 0x0100 0x0B 1, by decide +kernel⟩

theorem wit_BringupAndTheBuiltInTest_10 : ∃ (s : State),
    s.regN 0x0100 0x0B ≠ 1 :=
  ⟨ready.setRegN 0x0100 0x0B 4, by decide +kernel⟩

theorem wit_BringupAndTheBuiltInTest_11 : ∃ (s : State) (rq : Req) (t : Nat),
    s.takes rq 0x0100 1 0 [2] Env.calm t = true :=
  ⟨ready.setRegN 0x0100 0 6, rq0, 9, by decide +kernel⟩

theorem wit_BringupAndTheBuiltInTest_12 : ∃ (s : State) (rq : Req) (v : Word) (t : Nat),
    s.takes rq 0xF000 0 0 [v] Env.calm t = true :=
  ⟨ready.setRegN 0x0100 5 1, rq0, 0xFA, 9, by decide +kernel⟩

theorem wit_WarmAndClusterResets_1 : ∃ (s : State) (rq : Req) (v : Word) (t : Nat),
    s.takes rq 0x0100 2 0 [v] Env.calm t = true :=
  ⟨{ held3.setRegN (peIdx 0 5) 3 1 with reply := ready.reply }, rq0, 1, 9, by decide +kernel⟩

theorem wit_WarmAndClusterResets_2 : ∃ (s : State) (w : WarmRun),
    s.start.warm = some w :=
  ⟨warm, ⟨7, 3, 50, 0, []⟩, by decide +kernel⟩

theorem wit_WarmAndClusterResets_3 : ∃ (s : State),
    s.start.warm = none :=
  ⟨ready, by decide +kernel⟩

theorem wit_WarmAndClusterResets_4 : ∃ (s : State) (x : Fin 512) (w : WarmRun),
    s.start.warm = some w ∧ s.faultValid x 0x1E 3 = true :=
  ⟨warm, 0xA6, ⟨7, 3, 50, 0, []⟩, by decide +kernel⟩

theorem wit_WarmAndClusterResets_5 : ∃ (s : State) (rq : Req) (v : Word) (t : Nat) (c : Nat),
    s.takes rq 0x0100 3 0 [v] Env.calm t = true ∧ v.toNat = c ∧ c < 48 ∧ s.recovering c = false :=
  ⟨(seqAt5 3).setRegN (peIdx 0 5) 3 1, rq0, 5, 9, 5, by decide +kernel⟩

theorem wit_WarmAndClusterResets_6 : ∃ (s : State) (rq : Req) (v : Word) (t : Nat) (c : Nat),
    s.takes rq 0x0100 3 0 [v] Env.calm t = true ∧ v.toNat = c ∧ c < 48 ∧ s.recovering c = true :=
  ⟨{ ready with micro := { ready.micro with restarts := [(5, some ⟨9, 0, 7⟩)] } }, rq0, 5, 9, 5, by decide +kernel⟩

theorem wit_ServiceFramesCommit_1 : ∃ (s : State),
    s.devState ≠ 0 :=
  ⟨len 48, by decide +kernel⟩

theorem wit_ServiceFramesCommit_2 : ∃ (s : State) (a : Fin 64) (n : Nat),
    s.devState ≠ 0 ∧ (s.devState = 1 → a.val + n ≤ 4) ∧ s.svcLen = 8 + 8 * n ∧ a.val + n ≤ 0x40 :=
  ⟨len 48, 0x27, 5, by decide +kernel⟩

theorem wit_ServiceFramesCommit_3 : ∃ (s : State) (a : Fin 64) (n : Nat),
    2 ≤ s.devState ∧ s.svcLen = 8 + 8 * n ∧ 0x40 < a.val + n :=
  ⟨len 48, 0x3D, 5, by decide +kernel⟩

theorem wit_ServiceFramesCommit_4 : ∃ (s : State) (a : Fin 64) (c : Instr) (bytes : List (BitVec 8)) (ws : List Word) (code : BitVec 8) (edges : Nat) (t : Nat),
    s.devState ≠ 0 ∧ 8 ≤ edges ∧ edges ≠ s.svcLen ∧ a.val + s.bodyBytes ≤ 0x40 ∧ 0x83 ≤ code.toNat ∧ code.toNat ≤ 0xFE ∧ c ∈ [.svcRead a edges t, .svcWrite a bytes edges Env.calm t, .mbxWrite ws edges t, .mbxRead edges t, .svcReservedCommand code edges t] :=
  ⟨len 48, 0x27, .svcRead 0x27 47 9, [1], [2], 0x83, 47, 9, by decide +kernel, by decide +kernel, by decide +kernel, by decide +kernel, by decide +kernel, by decide +kernel, .head _⟩

theorem wit_ServiceFramesCommit_5 : ∃ (s : State) (edges : Nat),
    s.devState ≠ 0 ∧ 8 ≤ edges ∧ edges ≠ 24 :=
  ⟨len 48, 23, by decide +kernel⟩

theorem wit_ServiceFramesCommit_6 : ∃ (s : State) (edges : Nat),
    s.devState ≠ 0 ∧ 8 < edges :=
  ⟨len 48, 9, by decide +kernel⟩

theorem wit_ServiceFramesCommit_7 : ∃ (s : State) (a : Fin 64) (c : Instr) (bytes : List (BitVec 8)) (ws : List Word) (code : BitVec 8) (n : BitVec 16) (edges : Nat) (t : Nat),
    s.devState ≠ 0 ∧ edges < 8 ∧ 0x83 ≤ code.toNat ∧ code.toNat ≤ 0xFE ∧ c ∈ [.svcStatus edges t, .svcRead a edges t, .svcWrite a bytes edges Env.calm t, .mbxWrite ws edges t, .mbxRead edges t, .setlen n edges t, .svcReservedCommand code edges t] :=
  ⟨len 48, 0, .svcStatus 7 9, [1], [2], 0x83, 1, 7, 9, by decide +kernel, by decide +kernel, by decide +kernel, by decide +kernel, .head _⟩

theorem wit_ServiceFramesCommit_8 : ∃ (s : State) (a : Fin 64) (c : Instr) (bytes : List (BitVec 8)) (ws : List Word) (t : Nat),
    s.devState = 1 ∧ 8 ≤ s.svcLen ∧ a.val + s.bodyBytes ≤ 0x40 ∧ 4 < a.val + s.bodyBytes ∧ c ∈ [.svcRead a s.svcLen t, .svcWrite a bytes s.svcLen Env.calm t, .mbxWrite ws s.svcLen t, .mbxRead s.svcLen t] :=
  ⟨(len 48).setRegN 0x0100 0 1, 0, .svcRead 0 48 9, [1], [2], 9, by decide +kernel, by decide +kernel, by decide +kernel, by decide +kernel, .head _⟩

theorem wit_ServiceFramesCommit_9 : ∃ (s : State) (a : Fin 64),
    2 ≤ s.devState ∧ s.svc.busy = true ∧ 8 ≤ s.svcLen ∧ a.val ≤ 0x2B ∧ 0x10 < a.val + s.bodyBytes ∧ a.val + s.bodyBytes ≤ 0x40 :=
  ⟨{ len 48 with svc := { (len 48).svc with busy := true } }, 0x2B, by decide +kernel⟩

theorem wit_ServiceFramesCommit_10 : ∃ (s : State) (a : Fin 64) (bytes : List (BitVec 8)) (edges : Nat),
    2 ≤ s.devState ∧ s.svc.busy = false ∧ edges = s.svcLen ∧ 8 ≤ edges ∧ bytes.length = s.bodyBytes ∧ 0x10 ≤ a.val ∧ a.val + bytes.length ≤ 0x15 :=
  ⟨len 24, 0x12, [0xAB, 0xCD], 24, by decide +kernel⟩

theorem wit_ServiceFramesCommit_11 : ∃ (s : State) (a : Fin 64),
    2 ≤ s.devState ∧ 8 ≤ s.svcLen ∧ 0x2B < a.val ∧ 0x40 < a.val + s.bodyBytes :=
  ⟨len 48, 0x3E, by decide +kernel⟩

theorem wit_ServiceFramesCommit_12 : ∃ (s : State) (a : Fin 64),
    2 ≤ s.devState ∧ s.svc.busy = false ∧ s.svcLen = 16 ∧ a.val ∈ [0x0A, 0x10, 0x11, 0x12, 0x13, 0x14, 0x15, 0x16, 0x17, 0x18, 0x19, 0x1A, 0x1B, 0x1C, 0x1D] :=
  ⟨len 16, 0x1B, by decide +kernel⟩

theorem wit_ServiceFramesCommit_13 : ∃ (s : State) (a : Fin 64),
    2 ≤ s.devState ∧ s.svc.busy = false ∧ s.svcLen = 16 ∧ (a.val = 0x25 ∨ a.val = 0x26) :=
  ⟨len 16, 0x25, by decide +kernel⟩

theorem wit_ServiceFramesCommit_14 : ∃ (s : State) (a : Fin 64),
    2 ≤ s.devState ∧ s.svc.busy = false ∧ s.svcLen = 16 ∧ 0x27 ≤ a.val ∧ a.val ≤ 0x2B :=
  ⟨len 16, 0x2B, by decide +kernel⟩

theorem wit_ServiceFramesCommit_15 : ∃ (s : State) (a : Fin 64),
    2 ≤ s.devState ∧ s.svc.busy = false ∧ s.svcLen = 16 ∧ a.val ∉ [0x0A, 0x1D, 0x1E, 0x25, 0x26] ∧ (a.val < 0x10 ∨ 0x1C < a.val) ∧ (a.val < 0x27 ∨ 0x2B < a.val) :=
  ⟨{ len 16 with svc := { (len 16).svc with cause := 10 } }, 0x0B, by decide +kernel⟩

theorem wit_ServiceFramesCommit_16 : ∃ (s : State) (n : BitVec 16),
    s.devState ≠ 0 ∧ 1 ≤ n.toNat ∧ n.toNat ≤ 4096 :=
  ⟨len 48, 16, by decide +kernel⟩

theorem wit_ServiceFramesCommit_17 : ∃ (s : State) (n : BitVec 16),
    s.devState ≠ 0 ∧ (n.toNat < 1 ∨ 4096 < n.toNat) :=
  ⟨len 48, 0, by decide +kernel⟩

theorem wit_ServiceFramesCommit_18 : ∃ (s : State) (ws : List Word),
    2 ≤ s.devState ∧ ws ≠ [] ∧ s.svcLen = 8 + 40 * ws.length ∧ s.regN 0x1200 2 + ws.length ≤ 256 :=
  ⟨((len 88).setRegN 0x1200 1 250).setRegN 0x1200 2 5, [7, 8], by decide +kernel⟩

theorem wit_ServiceFramesCommit_19 : ∃ (s : State),
    2 ≤ s.devState ∧ 8 ≤ s.svcLen ∧ 256 < s.regN 0x1200 2 + s.bodyWords :=
  ⟨(len 88).setRegN 0x1200 2 255, by decide +kernel⟩

theorem wit_ServiceFramesCommit_20 : ∃ (s : State) (n : Nat),
    2 ≤ s.devState ∧ s.svcLen = 8 + 40 * n ∧ n ≤ s.svc.outbox.length ∧ s.svc.outbox.length < 2 ^ 40 :=
  ⟨{ len 88 with svc := { (len 88).svc with outbox := [7, 8, 9] } }, 2, by decide +kernel⟩

theorem wit_ServiceFramesCommit_21 : ∃ (s : State) (code : BitVec 8),
    s.devState ≠ 0 ∧ 0x83 ≤ code.toNat ∧ code.toNat ≤ 0xFE ∧ 8 ≤ s.svcLen :=
  ⟨len 48, 0x83, by decide +kernel⟩

theorem wit_ServiceFramesCommit_22 : ∃ (s : State) (a : Fin 64) (c : Instr) (bytes : List (BitVec 8)) (ws : List Word) (code : BitVec 8) (n : BitVec 16) (edges : Nat) (t : Nat),
    s.devState = 0 ∧ c ∈ [.svcStatus edges t, .svcRead a edges t, .svcWrite a bytes edges Env.calm t, .mbxWrite ws edges t, .mbxRead edges t, .setlen n edges t, .svcReservedCommand code edges t] :=
  ⟨(len 48).setRegN 0x0100 0 0, 0, .svcStatus 8 9, [1], [2], 0x83, 1, 8, 9, by decide +kernel, .head _⟩

theorem wit_ServicePortActs_1 : ∃ (s : State) (t : Nat) (i : Nat) (sub : Nat) (off : Nat) (cnt : Nat),
    s.svc.busy = false ∧ s.svc.cmd = wd (2 ^ 36 + i * 256 + sub) ∧ s.svc.range = wd (off * 2 ^ 14 + cnt * 16) ∧ s.svc.flags % 2 = 0 ∧ i < 65536 ∧ sub < 256 ∧ off < 2 ^ 26 ∧ cnt < 1024 ∧ s.gives ⟨sourceOf 5 0 s.ownDevice, none⟩ i sub off (cnt + 1) t = true :=
  ⟨svcAsks, 9, 0x0990, 0, 4, 1, by decide +kernel⟩

theorem wit_ServicePortActs_2 : ∃ (s : State) (t : Nat) (i : Nat) (sub : Nat) (off : Nat) (cnt : Nat) (r : Obj),
    s.carries = true ∧ s.svc.busy = false ∧ s.svc.cmd = wd (3 * 2 ^ 36 + i * 256 + sub) ∧ s.svc.range = wd (off * 2 ^ 14 + cnt * 16) ∧ s.svc.flags % 2 = 0 ∧ i < 65536 ∧ sub < 256 ∧ off < 2 ^ 26 ∧ cnt < 1024 ∧ odFind i sub = some r ∧ (s.at t).firstChecks (mkTx ⟨sourceOf 5 0 s.ownDevice, none⟩ .describe i sub off (cnt + 1) [] .service) [] = (0, 0) :=
  ⟨{ svcAsks with svc := { svcAsks.svc with cmd := wd (3 * 2 ^ 36 + 0x0990 * 256), range := 0 } }, 9, 0x0990, 0, 0, 0, row 0x0990 0, by decide +kernel⟩

theorem wit_ServicePortActs_3 : ∃ (s : State) (i : Nat) (sub : Nat) (off : Nat) (cnt : Nat),
    s.carries = true ∧ s.svc.busy = false ∧ s.svc.cmd = wd (2 * 2 ^ 36 + i * 256 + sub) ∧ s.svc.range = wd (off * 2 ^ 14 + cnt * 16) ∧ s.svc.flags % 2 = 0 ∧ i < 65536 ∧ sub < 256 ∧ off < 2 ^ 26 ∧ cnt < 1024 :=
  ⟨{ svcAsks with svc := { svcAsks.svc with cmd := wd (2 * 2 ^ 36 + 0x0990 * 256), range := 0 } }, 0x0990, 0, 0, 0, by decide +kernel⟩

theorem wit_ServicePortActs_4 : ∃ (s : State) (i : Nat) (sub : Nat) (off : Nat) (cnt : Nat),
    s.carries = true ∧ s.svc.busy = false ∧ s.svc.cmd = wd (1 * 2 ^ 36 + i * 256 + sub) ∧ s.svc.range = wd (off * 2 ^ 14 + cnt * 16) ∧ s.svc.flags % 2 = 1 ∧ s.bootEarly = false ∧ s.ownDevice ≠ 0xFFFFFD ∧ i < 65536 ∧ sub < 256 ∧ off < 2 ^ 26 ∧ cnt < 1024 :=
  ⟨{ svcAsks.setRegN 0x1100 0 1 with svc := { svcAsks.svc with flags := 1, target := 7 } }, 0x0990, 0, 4, 1, by decide +kernel⟩

theorem wit_ServicePortActs_5 : ∃ (s : State),
    s.carries = true ∧ s.svc.busy = false ∧ (fld s.svc.cmd 36 4 ∉ [1, 2, 3] ∨ fld s.svc.cmd 24 3 ≠ 0 ∨ fld s.svc.range 0 4 ≠ 0) :=
  ⟨{ svcAsks with svc := { svcAsks.svc with cmd := 0 } }, by decide +kernel⟩

theorem wit_ServicePortActs_6 : ∃ (s : State),
    s.carries = false :=
  ⟨State.reset, by decide +kernel⟩

theorem wit_ServicePortActs_7 : ∃ (s : State),
    s.svc.answer = none :=
  ⟨ready, by decide +kernel⟩

theorem wit_ServicePortActs_8 : ∃ (s : State),
    s.carries = true ∧ s.svc.busy = true :=
  ⟨{ ready with svc := { ready.svc with busy := true } }, by decide +kernel⟩

theorem wit_ServicePortActs_9 : ∃ (s : State) (a : OdReply),
    s.svc.answer = some a :=
  ⟨{ ready with svc := { ready.svc with busy := true, answer := some ⟨0, 0, [5, 6]⟩ } }, ⟨0, 0, [5, 6]⟩, by decide +kernel⟩

theorem wit_ServicePortActs_12 : ∃ (s : State) (rq : Req) (v : Word) (t : Nat),
    s.takes rq 0x1200 3 0 [v] Env.calm t = true ∧ s.regN 0x1200 2 ≤ 256 :=
  ⟨(ready.setRegN 0x1200 1 250).setRegN 0x1200 2 9, rq0, 8, 9, by decide +kernel⟩

theorem wit_ServicePortActs_13 : ∃ (s : State) (rq : Req) (vals : List Word) (t : Nat),
    s.takes rq 0x1200 4 0 vals Env.calm t = true ∧ vals ≠ [] :=
  ⟨{ ready with svc := { ready.svc with outbox := [7] } }, rq0, [8, 9], 9, by decide +kernel⟩

theorem wit_ServicePortActs_15 : ∃ (n : Nat),
    n < 1152 :=
  ⟨7, by decide +kernel⟩

theorem wit_RefusalsChangeNothing_1 : ∃ (s : State) (c : Instr) (rq : Req) (i : Nat) (sub : Nat) (off : Nat) (vals : List Word) (e : Env) (t : Nat) (r : Obj),
    writeOf c = some (rq, i, sub, off, vals, e, t) ∧ s.carries = true ∧ s.alm.held = [] ∧ odFind i sub = some r ∧ r.acc = .cmd ∧ r.commits = false ∧ s.cmdBusy rq.src i sub = true ∧ (s.at t).firstChecks (mkTx rq .write i sub off vals.length vals .here) (wordsAt off vals) = (0, 0) ∧ (∀ n ∈ s.lockOf i, s.lockOwner n = rq.src) ∧ r.writeCount off vals.length = 0 ∧ r.valuesOk (wordsAt off vals) = true :=
  ⟨ready.setCmd rq0.src (seqIdx 0 5) 1 cmdRunning, .arm rq0 5 1 9, rq0, seqIdx 0 5, 1, 0, [1], Env.calm, 9, row (seqIdx 0 5) 1, rfl, by decide +kernel⟩

theorem wit_RefusalsChangeNothing_2 : ∃ (s : State) (c : Instr) (rq : Req) (i : Nat) (sub : Nat) (off : Nat) (vals : List Word) (e : Env) (t : Nat) (r : Obj) (k : Nat) (ep : Nat),
    writeOf c = some (rq, i, sub, off, vals, e, t) ∧ s.carries = true ∧ s.alm.held = [] ∧ odFind i sub = some r ∧ (s.at t).firstChecks (mkTx rq .write i sub off vals.length vals .here) (wordsAt off vals) = (k, ep) ∧ k ≠ 0 ∧ k ≠ 8 ∧ r.commits = false :=
  ⟨ready, .odWrite rq0 0x0100 0 0 [5] Env.calm 9, rq0, 0x0100, 0, 0, [5], Env.calm, 9, row 0x0100 0, 3, 0, rfl, by decide +kernel⟩

theorem wit_RefusalsChangeNothing_3 : ∃ (s : State) (c : Instr) (rq : Req) (i : Nat) (sub : Nat) (off : Nat) (vals : List Word) (e : Env) (t : Nat) (r : Obj) (k : Nat),
    writeOf c = some (rq, i, sub, off, vals, e, t) ∧ s.carries = true ∧ s.alm.held = [] ∧ odFind i sub = some r ∧ (s.at t).firstChecks (mkTx rq .write i sub off vals.length vals .here) (wordsAt off vals) = (0, 0) ∧ (s.at t).writeCode (mkTx rq .write i sub off vals.length vals .here) r (wordsAt off vals) e = k ∧ k ≠ 0 ∧ k ≠ 8 ∧ k ≠ 0x23 ∧ k ≠ 0x25 ∧ k ≠ 0xB5 ∧ r.commits = false :=
  ⟨ready, .start rq0 5 1 9, rq0, seqIdx 0 5, 2, 0, [1], Env.calm, 9, row (seqIdx 0 5) 2, 9, rfl, by decide +kernel⟩

theorem wit_RefusalsChangeNothing_4 : ∃ (s : State) (c : Instr) (rq : Req) (i : Nat) (sub : Nat) (off : Nat) (vals : List Word) (e : Env) (t : Nat) (r : Obj) (k : Nat),
    writeOf c = some (rq, i, sub, off, vals, e, t) ∧ s.carries = true ∧ s.alm.held = [] ∧ odFind i sub = some r ∧ (s.at t).firstChecks (mkTx rq .write i sub off vals.length vals .here) (wordsAt off vals) = (0, 0) ∧ (s.at t).writeCode (mkTx rq .write i sub off vals.length vals .here) r (wordsAt off vals) e = k ∧ k ≠ 0 ∧ k ≠ 8 ∧ k ≠ 0x23 ∧ k ≠ 0xB5 ∧ r.commits = true ∧ s.alm.head.length + 1 ≤ 3584 :=
  ⟨ready, .commit rq0 3 9, rq0, 0x0200, 2, 0, [3], Env.calm, 9, row 0x0200 2, 0x26, rfl, by decide +kernel⟩

theorem wit_RefusalsChangeNothing_5 : ∃ (s : State) (c : Instr) (rq : Req) (i : Nat) (sub : Nat) (off : Nat) (vals : List Word) (e : Env) (t : Nat),
    writeOf c = some (rq, i, sub, off, vals, e, t) ∧ s.carries = false :=
  ⟨State.reset, .start rq0 5 1 9, rq0, seqIdx 0 5, 2, 0, [1], Env.calm, 9, rfl, by decide +kernel⟩

theorem wit_RefusalsChangeNothing_6 : ∃ (s : State) (c : Instr) (rq : Req) (i : Nat) (sub : Nat) (off : Nat) (vals : List Word) (e : Env) (t : Nat) (r : Obj) (n : Nat),
    writeOf c = some (rq, i, sub, off, vals, e, t) ∧ s.carries = true ∧ s.alm.held = [] ∧ odFind i sub = some r ∧ (s.at t).firstChecks (mkTx rq .write i sub off vals.length vals .here) (wordsAt off vals) = (0, 0) ∧ (s.at t).writeCode (mkTx rq .write i sub off vals.length vals .here) r (wordsAt off vals) e = 0 ∧ s.lockOf i = some n ∧ s.lockOwner n = rq.src ∧ r.acc ≠ .cmd :=
  ⟨held3.setReg 0x0213 3 rq0.src, .odWrite rq0 0x2010 3 0 [1] Env.calm 9, rq0, 0x2010, 3, 0, [1], Env.calm, 9, row 0x2010 3, 3, rfl, by decide +kernel⟩

theorem wit_RefusalsChangeNothing_7 : ∃ (s : State) (rq : Req) (idx : BitVec 16) (sub : BitVec 8) (t : Nat) (r : Obj),
    s.carries = true ∧ s.alm.held = [] ∧ odFind idx.toNat sub.toNat = some r ∧ (s.at t).firstChecks (mkTx rq .describe idx.toNat sub.toNat 0 0 [] .here) [] = (0, 0) :=
  ⟨ready, rq0, 0x0990, 0, 9, row 0x0990 0, by decide +kernel⟩

end Sys2Proof.Tests
end

/-! O59: what a command, and a step, can do to memory, and that every step keeps the state sound. -/

namespace Sys2Proof.Machine

/-! ## What a command can do -/

/-- Every command that does not start LOCAL again is one `perform`: what it posts lands together at its end (15). -/
theorem exec_performs (c : Instr) (s : State) (h : startsAgain c = false) : ∃ f, exec c s = s.perform f := by
  unfold exec
  cases c with
  | powerOn | powerOff | coldReset => cases h
  | _ => exact ⟨_, rfl⟩

/-- A power-on resets the device when it is off; else it only lets time pass (19, R528). -/
theorem execPowerOn_cases (t : Nat) (s : State) :
    (∃ f, execPowerOn t s = s.performReset f) ∨ ∃ f, execPowerOn t s = s.perform f := by
  unfold execPowerOn
  split
  · exact .inl ⟨_, rfl⟩
  · exact .inr ⟨_, rfl⟩

/-- A cold reset resets the device unless it is off, where it only lets time pass (19, R530). -/
theorem execColdReset_cases (perst : Bool) (t : Nat) (s : State) :
    (∃ f, execColdReset perst t s = s.performReset f) ∨ ∃ f, execColdReset perst t s = s.perform f := by
  unfold execColdReset
  split
  · exact .inr ⟨_, rfl⟩
  · exact .inl ⟨_, rfl⟩

/-- A command that starts LOCAL again is one `performReset`, or one `perform` where it only lets time pass (03, R78). -/
theorem exec_cases_of_startsAgain (c : Instr) (s : State) (h : startsAgain c = true) :
    (∃ f, exec c s = s.performReset f) ∨ ∃ f, exec c s = s.perform f := by
  cases c with
  | powerOn t => exact execPowerOn_cases t s
  | powerOff t => exact .inl ⟨_, (rfl : execPowerOff t s = _)⟩
  | coldReset perst t => exact execColdReset_cases perst t s
  | _ => cases h

/-- A step answers what a command answers in `s` with a queue or an agenda of its own, or it leaves `s`. -/
theorem step_cases (s : State) :
    (∃ c p a, step s = exec c { s with pending := p, agenda := a }) ∨ step s = .next s := by
  unfold step
  split
  · exact .inl ⟨_, _, s.agenda, rfl⟩
  · exact .inl ⟨_, s.pending, _, rfl⟩
  · exact .inr rfl

/-! ## Soundness -/

/-- What `perform` answers is sound when memory was: the lines the body posted land in canonical form (01, R22). -/
theorem State.sound_of_perform {s t : State} {f : State → State} (hm : Memory.wf s.hbm) (h : s.perform f = .next t) : t.Sound := by
  cases h
  exact ⟨Memory.wf_land _ _ hm, rfl⟩

/-- What `performReset` answers is sound: it lists no cell of HBM. -/
theorem State.sound_of_performReset {s t : State} {f : State → State} (h : s.performReset f = .next t) : t.Sound := by
  cases h
  exact ⟨Memory.wf_reset, rfl⟩

/-- Every command answers a sound state when memory is in canonical form. -/
theorem sound_of_exec {c : Instr} {s t : State} (hm : Memory.wf s.hbm) (h : exec c s = .next t) : t.Sound := by
  cases hr : startsAgain c with
  | false =>
    obtain ⟨f, hf⟩ := exec_performs c s hr
    exact State.sound_of_perform hm (hf.symm.trans h)
  | true =>
    obtain ⟨f, hf⟩ | ⟨f, hf⟩ := exec_cases_of_startsAgain c s hr
    · exact State.sound_of_performReset (hf.symm.trans h)
    · exact State.sound_of_perform hm (hf.symm.trans h)

/-- Settles O59: a step is a command, which lands what it posts in canonical form, or it idles. -/
theorem stepKeepsSound : Obligations.StepKeepsSound := by
  intro s t hs h
  obtain ⟨c, p, a, hc⟩ | hi := step_cases s
  · exact sound_of_exec (s := { s with pending := p, agenda := a }) hs.1 (hc.symm.trans h)
  · cases hi.symm.trans h
    exact hs

end Sys2Proof.Machine

/-! The family of the object dictionary (02): O1, O5 and O56. -/

namespace Sys2Proof.Machine

/-! ## Writes that the plain frame does not cover: JUMP_LINE_TARGET

JUMP_LINE_TARGET (06, R218) has no action of its own and takes effect at once, yet its writes move more than its word: the sequencer
keeps each target that is replaced, for the jumps whose requests came before (`State.putValues`). Statements that leave every unit as
it was over all such objects fail there. -/

/-- The device in READY with every object at its default. -/
def readyDevice : State := State.reset.setRegN 0x0100 0x00 3

/-- Slot 3 is held by source 0 for 0x3000 to 0x30FF, and has JUMP_LINE_TARGET of cluster 0 staged as 5. -/
def targetStaged : State :=
  { (((readyDevice.setRegN 0x0213 0x00 1).setRegN 0x0213 0x01 0x3000).setRegN 0x0213 0x02 0x30FF) with
    locks := { readyDevice.locks with staged := [(3, [⟨0x3002, 2, [(0, 5)], []⟩])] } }

/-- A write of JUMP_LINE_TARGET keeps the target it replaces in the state of the sequencer (06, R218). -/
theorem odWrite_jumpLineTarget_moves_seqs :
    ∃ u, exec (.odWrite ⟨0, none⟩ 0x3002 2 0 [5] Env.calm 9) readyDevice = .next u ∧ u.seqs ≠ readyDevice.seqs :=
  ⟨_, rfl, by decide +kernel⟩

/-- A COMMIT that applies a staged JUMP_LINE_TARGET does so too (02, R61; 06, R218). -/
theorem commit_jumpLineTarget_moves_seqs :
    ∃ u, exec (.commit ⟨0, none⟩ 3 9) targetStaged = .next u ∧ u.seqs ≠ targetStaged.seqs :=
  ⟨_, rfl, by decide +kernel⟩

/-- Refutes O1: its first clause leaves every unit as it was, but the accepted write of 5 to JUMP_LINE_TARGET of cluster 0, an immediate
object with no action of its own, lists the target it replaces in the sequencer. -/
theorem not_writesTakeEffect : ¬ Obligations.WritesTakeEffect := by
  unfold Obligations.WritesTakeEffect
  rintro ⟨hplain, -⟩
  obtain ⟨u, hu, -, -, -, -, hframe, -⟩ := hplain readyDevice ⟨0, none⟩ 0x3002 2 0 [5] Env.calm 9 _ (by decide +kernel) rfl rfl
    (by decide) (.inl rfl)
  obtain ⟨v, hv, hseqs⟩ := odWrite_jumpLineTarget_moves_seqs
  obtain rfl : u = v := Host.Outcome.next.inj (hu.symm.trans hv)
  exact hseqs ((congrArg State.seqs hframe).trans rfl)

/-- Refutes O5: its first clause leaves every unit as it was, but the COMMIT of slot 3 in `targetStaged` applies a staged write of
JUMP_LINE_TARGET, which lists the target it replaces in the sequencer. -/
theorem not_locksCommitAndBreak : ¬ Obligations.LocksCommitAndBreak := by
  unfold Obligations.LocksCommitAndBreak
  rintro ⟨hcommit, -⟩
  obtain ⟨u, hu, -, -, -, -, hframe, -⟩ := hcommit targetStaged ⟨0, none⟩ 3 9 (by decide +kernel) rfl (by decide) (by decide +kernel)
    (by decide +kernel) (by decide +kernel) (by decide +kernel) (by decide +kernel) (by decide +kernel) (by decide +kernel)
  obtain ⟨v, hv, hseqs⟩ := commit_jumpLineTarget_moves_seqs
  obtain rfl : u = v := Host.Outcome.next.inj (hu.symm.trans hv)
  exact hseqs ((congrArg State.seqs hframe).trans rfl)

end Sys2Proof.Machine

namespace Sys2Proof.Machine

/-! ## How a row reaches the service -/

/-- A command that is an OD write or command transaction is the OD row of its object (02, R39, R44): each by its definition. -/
theorem exec_of_writeOf {c : Instr} {rq : Req} {i sub off : Nat} {vals : List Word} {e : Env} {t : Nat}
    (h : writeOf c = some (rq, i, sub, off, vals, e, t)) (s : State) :
    exec c s = s.perform fun s => s.odRow rq i sub off vals e t := by
  cases c <;> cases h <;> rfl

/-- What a transaction that performs no command moves at most: objects, the journal, command statuses, locks, the answer. -/
def State.served (s u : State) (t : Nat) : Prop :=
  u = { s.at t with regs := u.regs, alm := u.alm, cmdStat := u.cmdStat, locks := u.locks, reply := u.reply }

/-- A step that moves no more than that, and not STATE, answers what its body makes. -/
theorem State.perform_served {s u : State} {t : Nat} {f : State → State} (h : f { s with posted := [] } = u) (hu : s.served u t)
    (hs : u.reg 0x0100 0x00 = s.reg 0x0100 0x00) : s.perform f = .next u := by
  have hc : s.clock ≤ u.clock := by rw [hu]; exact State.tick_clock_le ({ s with posted := [] } : State) t
  exact State.perform_next h hs (by rw [hu]; rfl) (by rw [hu]; rfl) (by rw [hu]; rfl) hc

/-- No transaction waits for room in the journal's head: the service performs a new one at once (18, R518). -/
theorem State.odSubmit_performed {s u : State} {tx : Tx} {e : Env} (hheld : s.alm.held = []) (h : s.odPerform tx e = some u) :
    s.odSubmit tx e = u := by
  simp [State.odSubmit, hheld, h]

/-- A state with the answer of a transaction of a row. -/
def State.withReply (s : State) (a : OdReply) : State := { s with reply := a }

/-- An answer is among what a transaction may move. -/
theorem State.served.withReply {s w : State} {t : Nat} (h : s.served w t) (a : OdReply) : s.served (w.withReply a) t := by
  unfold State.served State.withReply at *
  rw [h]

/-- An OD write or command that the service performs at once, moving no unit and not STATE, answers what the service makes. -/
theorem exec_of_odPerform {c : Instr} {rq : Req} {i sub off : Nat} {vals : List Word} {e : Env} {t : Nat} {s w : State} {a : OdReply}
    (hc : writeOf c = some (rq, i, sub, off, vals, e, t)) (hcar : s.carries = true) (hheld : s.alm.held = [])
    (h : (s.at t).odPerform (mkTx rq .write i sub off vals.length vals .here) e = some (w.withReply a)) (hw : s.served w t)
    (hs : w.reg 0x0100 0x00 = s.reg 0x0100 0x00) : exec c s = .next (w.withReply a) := by
  rw [exec_of_writeOf hc]
  refine State.perform_served ?_ (hw.withReply a) hs
  have hcar' : (s.at t).carries = true := hcar
  simp only [State.odRow, State.tick_posted_nil, hcar', if_true]
  exact State.odSubmit_performed (s := s.at t) hheld h

/-- No path carries a transaction: the command only lets time pass (02, R76). -/
theorem exec_of_not_carries {c : Instr} {rq : Req} {i sub off : Nat} {vals : List Word} {e : Env} {t : Nat} {s : State}
    (hc : writeOf c = some (rq, i, sub, off, vals, e, t)) (hcar : s.carries = false) : exec c s = .next (s.at t) := by
  rw [exec_of_writeOf hc]
  refine State.perform_served (t := t) ?_ rfl rfl
  have hcar' : (s.at t).carries = false := hcar
  simp [State.odRow, hcar']

/-! ## Refusals -/

/-- The codes of checks 1 and 2 (02, R34). -/
theorem State.existCode_le (s : State) (i sub : Nat) : s.existCode i sub ≤ 0x02 := by
  unfold State.existCode
  dsimp only
  split
  · decide
  · split <;> decide

/-- The codes of check 5 (02, R72; 10, R327). -/
theorem State.epochCode_mem (s : State) (tx : Tx) : (s.epochCode tx).1 ∈ [0x00, 0x08, 0xA9] := by
  unfold State.epochCode
  split
  · dsimp only
    split_ifs <;> simp
  · simp

/-- Checks 1 to 6 answer codes of their own: neither that of a broken lock nor that of a scratch collision. -/
theorem State.firstChecks_ne (s : State) (tx : Tx) (ws : Words) :
    (s.firstChecks tx ws).1 ≠ 0x23 ∧ (s.firstChecks tx ws).1 ≠ 0xB5 := by
  have hexist := s.existCode_le tx.idx tx.sub
  have hepoch := s.epochCode_mem tx
  simp only [List.mem_cons, List.not_mem_nil, or_false] at hepoch
  unfold State.firstChecks
  dsimp only
  split
  · decide
  split
  · omega
  split
  · decide
  split
  · decide
  split
  · decide
  split
  · omega
  split <;> decide

/-- A transaction that passes checks 1 to 6 finds the service open. -/
theorem State.serviceClosed_of_firstChecks {s : State} {tx : Tx} {ws : Words} (h : (s.firstChecks tx ws).1 = 0) :
    s.serviceClosed tx = false := by
  cases hc : s.serviceClosed tx with
  | false => rfl
  | true => simp [State.firstChecks, hc] at h

/-- All that a refused write of an object that is no COMMIT leaves, when no collision, break or epoch is to report: the status of a
command that was not running (02, R42, R43). -/
theorem State.writeRefused_plain (s : State) (tx : Tx) {r : Obj} (ws : Words) (e : Env) {k : Nat} (ep : Nat) (hr : r.commits = false)
    (h8 : k ≠ 0x08) (h23 : k ≠ 0x23) (hB5 : k ≠ 0xB5) :
    s.writeRefused tx r ws e k ep =
      s.when (r.acc == .cmd && !s.cmdBusy tx.req.src tx.idx tx.sub) (fun s => s.endCmd tx.req.src tx.idx tx.sub 0 k) := by
  simp [State.writeRefused, hr, h8, h23, hB5]

/-- A journal entry leaves every command's status. -/
theorem State.cmdBusy_journalAt (s : State) (kind i sub st : Nat) (time : U80) (src : Word) (lk : Bool) (v src' : Word)
    (i' sub' : Nat) : (s.journalAt kind i sub st time src lk v).cmdBusy src' i' sub' = s.cmdBusy src' i' sub' := by
  rw [State.journalAt_eq]
  rfl

/-- A refused COMMIT makes one journal entry with its code before its status is set (02, R62). -/
theorem State.writeRefused_commit (s : State) (tx : Tx) {r : Obj} (ws : Words) (e : Env) {k : Nat} (ep : Nat) (hr : r.commits = true)
    (hcmd : r.acc = .cmd) (h8 : k ≠ 0x08) (h23 : k ≠ 0x23) (hB5 : k ≠ 0xB5) :
    s.writeRefused tx r ws e k ep =
      (s.journalAt 3 0x0200 tx.sub k s.now tx.req.src false (word0 ws)).when (!s.cmdBusy tx.req.src tx.idx tx.sub)
        (fun s => s.endCmd tx.req.src tx.idx tx.sub 0 k) := by
  simp [State.writeRefused, hr, hcmd, h8, h23, hB5, State.cmdBusy_journalAt]

/-- A write that fails one of checks 1 to 6, and is no COMMIT, is answered with its code (02, R48); at most the command's status is
set: not for an object that is absent or while the service is closed. -/
theorem State.odPerform_firstChecks {s : State} {tx : Tx} {r : Obj} {ws : Words} {e : Env} {k ep : Nat} (hop : tx.op = .write)
    (hdst : tx.dst = .here) (hr : odFind tx.idx tx.sub = some r) (hf : s.firstChecks tx ws = (k, ep)) (hws : wordsAt tx.off tx.data = ws)
    (hk : k ≠ 0) (hcom : r.commits = false) :
    ∃ u, (u = s ∨ u = s.writeRefused tx r ws e k ep) ∧ s.odPerform tx e = some (u.withReply ⟨k, ep, []⟩) := by
  by_cases hquiet : (s.serviceClosed tx = true ∨ k = 0x01) ∨ k = 0x02
  · exact ⟨s, .inl rfl, by simp [State.odPerform, State.deliver, State.withReply, hop, hdst, hws, hr, hf, hk, hquiet]⟩
  · exact ⟨_, .inr rfl, by simp [State.odPerform, State.deliver, State.withReply, hop, hdst, hws, hr, hf, hk, hquiet, hcom]⟩

/-- A write that fails one of checks 7 to 10, and for which the journal has room where it is a COMMIT, is answered with its code (02, R48,
R62). -/
theorem State.odPerform_writeCode {s : State} {tx : Tx} {r : Obj} {ws : Words} {e : Env} {k : Nat} (hop : tx.op = .write)
    (hdst : tx.dst = .here) (hr : odFind tx.idx tx.sub = some r) (hf : s.firstChecks tx ws = (0, 0)) (hw : s.writeCode tx r ws e = k)
    (hws : wordsAt tx.off tx.data = ws) (hk : k ≠ 0) (hroom : r.commits = true → s.headRoom 1 = true) :
    s.odPerform tx e = some ((s.writeRefused tx r ws e k 0).withReply ⟨k, 0, []⟩) := by
  have hclosed : s.serviceClosed tx = false := State.serviceClosed_of_firstChecks (by rw [hf])
  have hgo : (!r.commits || s.headRoom 1) = true := by
    cases hc : r.commits with
    | false => rfl
    | true => simpa using hroom hc
  simp [State.odPerform, State.deliver, State.withReply, hop, hdst, hws, hr, hf, hw, hk, hclosed, hgo]

/-- A command whose previous write by its source still runs meets 0x0025 when nothing before check 10 refuses it (02, R43). -/
theorem State.writeCode_busy {s : State} {tx : Tx} {r : Obj} {ws : Words} (e : Env) (hcmd : r.acc = .cmd)
    (hbusy : s.cmdBusy tx.req.src tx.idx tx.sub = true) (hlock : ∀ n ∈ s.lockOf tx.idx, s.lockOwner n = tx.req.src)
    (hcount : r.writeCount tx.off tx.cnt = 0) (hvals : r.valuesOk ws = true) : s.writeCode tx r ws e = 0x25 := by
  cases hl : s.lockOf tx.idx with
  | none => simp [State.writeCode, State.stagesAt, hl, hcmd, hbusy, hcount, hvals]
  | some n => simp [State.writeCode, State.stagesAt, hl, hlock n hl, hcmd, hbusy, hcount, hvals]

/-- The rows that commit a lock are commands. -/
theorem odFind_commits_cmd {i sub : Nat} {r : Obj} (h : odFind i sub = some r) (hr : r.commits = true) : r.acc = .cmd := by
  have hpage (p : Nat) : ∀ x ∈ odPage p, x.commits = true → x.acc = .cmd := by
    unfold odPage
    split <;> decide +kernel
  exact hpage _ r (List.mem_of_find?_eq_some h) hr

/-! ## Staging -/

/-- The word found under a key after one was put there: it, or under every other key what was found before. -/
theorem SMap.find?_place {α : Type} (m : SMap α) (k j : Nat) (v : α) (hm : ∀ e ∈ m, e.1 ≠ k) :
    (SMap.place m k (some v)).find? (fun e => e.1 == j) = if k = j then some (k, v) else m.find? (fun e => e.1 == j) := by
  induction m with
  | nil => by_cases hj : k = j <;> simp [SMap.place, hj]
  | cons e m ih =>
    obtain ⟨i, w⟩ := e
    have hi : i ≠ k := hm (i, w) (by simp)
    have hm' : ∀ e ∈ m, e.1 ≠ k := fun e he => hm e (by simp [he])
    by_cases hk : k < i
    · by_cases hj : k = j
      · subst hj
        simp [SMap.place, hk]
      · simp [SMap.place, hk, hj]
    · by_cases hj : i = j
      · subst hj
        simp [SMap.place, hk, Ne.symm hi]
      · simp [SMap.place, hk, hj, ih hm']

theorem SMap.find?_erase_other {α : Type} (m : SMap α) {k j : Nat} (h : j ≠ k) :
    (SMap.erase m k).find? (fun e => e.1 == j) = m.find? (fun e => e.1 == j) := by
  rw [SMap.erase, List.find?_filter]
  congr 1
  funext e
  by_cases he : e.1 = j <;> simp [he, h]

/-- One word put over staged words. -/
def mergeWord (off : Nat) (l : List (Nat × Word)) (e : Nat × Word) : List (Nat × Word) :=
  SMap.place (SMap.erase l (off + e.1)) (off + e.1) (some e.2)

theorem mergeWords_eq_foldl (old : List (Nat × Word)) (off : Nat) (vals : List Word) :
    mergeWords old off vals = ((List.range vals.length).zip vals).foldl (mergeWord off) old := rfl

theorem find?_mergeWord (off : Nat) (l : List (Nat × Word)) (e : Nat × Word) (k : Nat) :
    (mergeWord off l e).find? (fun x => x.1 == off + k) = if e.1 = k then some (off + k, e.2) else l.find? (fun x => x.1 == off + k) := by
  rw [mergeWord, SMap.find?_place _ _ _ _ (SMap.erase_fresh l _)]
  by_cases hk : e.1 = k
  · simp [hk]
  · rw [SMap.find?_erase_other l (by omega)]
    simp [hk]

/-- Words put elsewhere leave the word found under a key. -/
theorem find?_foldl_mergeWord_other (off k : Nat) (es l : List (Nat × Word)) (h : k ∉ es.map Prod.fst) :
    (es.foldl (mergeWord off) l).find? (fun x => x.1 == off + k) = l.find? (fun x => x.1 == off + k) := by
  induction es generalizing l with
  | nil => rfl
  | cons e es ih =>
    simp only [List.map_cons, List.mem_cons, not_or] at h
    rw [List.foldl_cons, ih _ h.2, find?_mergeWord, if_neg (Ne.symm h.1)]

/-- Of words put under distinct numbers each is found. -/
theorem find?_foldl_mergeWord (off : Nat) (es l : List (Nat × Word)) (hnd : (es.map Prod.fst).Nodup) {k : Nat} {v : Word}
    (h : (k, v) ∈ es) :
    (es.foldl (mergeWord off) l).find? (fun x => x.1 == off + k) = some (off + k, v) := by
  induction es generalizing l with
  | nil => cases h
  | cons e es ih =>
    obtain ⟨hfresh, hnd⟩ := List.nodup_cons.mp hnd
    rw [List.foldl_cons]
    rcases List.mem_cons.mp h with rfl | h
    · rw [find?_foldl_mergeWord_other off k es _ hfresh, find?_mergeWord, if_pos rfl]
    · exact ih _ hnd h

/-- Each word of a write is found among the staged words it is put over (02, R60). -/
theorem find?_mergeWords (old : List (Nat × Word)) (off : Nat) (vals : List Word) {k : Nat} (hk : k < vals.length) :
    (mergeWords old off vals).find? (fun e => e.1 == off + k) = some (off + k, vals.getD k 0) := by
  rw [mergeWords_eq_foldl]
  refine find?_foldl_mergeWord off _ old ?_ ?_
  · rw [List.map_fst_zip (by simp)]
    exact List.nodup_range
  · rw [List.mem_iff_getElem]
    exact ⟨k, by simpa using hk, by simp [hk]⟩

/-- Whether a staged entry is one of an object. -/
def Staged.isOf (i sub : Nat) (g : Staged) : Bool := g.idx == i && g.sub == sub

/-- A staged entry once a write of an object is put over those of the object (02, R60, R74). -/
def Staged.merged (i sub off : Nat) (vals : List Word) (epoch : Option (BitVec 8)) (g : Staged) : Staged :=
  if g.isOf i sub then { g with words := mergeWords g.words off vals, epochs := mergeEpochs g.epochs off vals.length epoch } else g

theorem Staged.isOf_merged (i sub off : Nat) (vals : List Word) (epoch : Option (BitVec 8)) :
    Staged.isOf i sub ∘ Staged.merged i sub off vals epoch = Staged.isOf i sub := by
  funext g
  simp only [Function.comp_apply, Staged.merged]
  split <;> rfl

/-- What slot `n` has staged once a write is staged under it (02, R57, R60). -/
def State.stagedWith (s : State) (n i sub off : Nat) (vals : List Word) (epoch : Option (BitVec 8)) : List Staged :=
  if (s.stagedIn n).any (Staged.isOf i sub) then (s.stagedIn n).map (Staged.merged i sub off vals epoch)
  else s.stagedIn n ++ [⟨i, sub, mergeWords [] off vals, mergeEpochs [] off vals.length epoch⟩]

/-- A staged write changes what its slot has staged and starts the lease again (02, R65). -/
theorem State.stage_eq_setStaged (s : State) (n i sub off : Nat) (vals : List Word) (epoch : Option (BitVec 8)) :
    s.stage n i sub off vals epoch = (s.setStaged n (s.stagedWith n i sub off vals epoch)).leaseRestart n := rfl

/-- The first staged entry of the written object holds the words written. -/
theorem State.find?_stagedWith (s : State) (n i sub off : Nat) (vals : List Word) (epoch : Option (BitVec 8)) :
    ∃ g old, (s.stagedWith n i sub off vals epoch).find? (Staged.isOf i sub) = some g ∧ g.words = mergeWords old off vals := by
  unfold State.stagedWith
  split
  · next hany =>
    obtain ⟨g, hg⟩ := Option.isSome_iff_exists.mp (List.find?_isSome.mpr (List.any_eq_true.mp hany))
    refine ⟨g.merged i sub off vals epoch, g.words, ?_, ?_⟩
    · rw [List.find?_map, Staged.isOf_merged, hg, Option.map_some]
    · rw [Staged.merged, if_pos (List.find?_some hg)]
  · next hnone =>
    refine ⟨⟨i, sub, mergeWords [] off vals, mergeEpochs [] off vals.length epoch⟩, [], ?_, rfl⟩
    rw [List.find?_append, List.find?_eq_none.mpr (by simpa using hnone)]
    simp [Staged.isOf]

/-- All that a change of what a slot has staged moves. -/
theorem State.setStaged_eq (s : State) (n : Nat) (l : List Staged) :
    s.setStaged n l =
      { s with regs := (s.setStaged n l).regs, locks := { s.locks with staged := SMap.set (fun _ => []) s.locks.staged n l } } := rfl

/-- The registers that it moves: STAGED of the slot and STAGED_IN_USE. -/
theorem State.setStaged_regs (s : State) (n : Nat) (l : List Staged) :
    SameRegs s (s.setStaged n l) [odKey (0x0210 + n) 7 0, odKey 0x0200 7 0] :=
  have h1 : SameRegs s _ [] :=
    SameRegs.of_eq (t := { s with locks := { s.locks with staged := SMap.set (fun _ => []) s.locks.staged n l } }) [] rfl
  (h1.trans (SameRegs.setRegN _ (0x0210 + n) 7 l.length)).trans (SameRegs.setRegN _ 0x0200 7 _)

@[simp] theorem State.stagedIn_setStaged_same (s : State) (n : Nat) (l : List Staged) : (s.setStaged n l).stagedIn n = l :=
  SMap.get_set_same _ _ _ _

/-- The held slots do not follow the words of objects other than their STATE. -/
theorem State.lockSlots_setRegN (s : State) (i j n : Nat) (hj : j ≠ 0) (hj' : j < 256) : (s.setRegN i j n).lockSlots = s.lockSlots := by
  refine SMap.filterMap_set romDefault s.regs _ _ _ fun w => ?_
  have : odKey i j 0 / 134217728 % 256 ≠ 0 := by unfold odKey; omega
  simp [this]

theorem State.lockSlots_setStaged (s : State) (n : Nat) (l : List Staged) : (s.setStaged n l).lockSlots = s.lockSlots := by
  unfold State.setStaged
  dsimp only
  rw [State.lockSlots_setRegN _ _ 7 _ (by decide) (by decide), State.lockSlots_setRegN _ _ 7 _ (by decide) (by decide)]
  rfl

/-- What a slot has staged does not bear on its other objects. -/
theorem State.reg_setStaged_slot (s : State) (n : Nat) (l : List Staged) (m k : Nat) (hk : k < 7) :
    (s.setStaged n l).reg (0x0210 + m) k = s.reg (0x0210 + m) k :=
  (s.setStaged_regs n l).reg _ _ _ (by simp [odKey]; omega)

/-- Staging leaves which slot covers an object, and whose it is. -/
theorem State.lockOf_setStaged (s : State) (n : Nat) (l : List Staged) (i : Nat) : (s.setStaged n l).lockOf i = s.lockOf i := by
  have hfirst : (s.setStaged n l).lockFirst = s.lockFirst := funext fun m => congrArg _ (s.reg_setStaged_slot n l m 1 (by decide))
  have hlast : (s.setStaged n l).lockLast = s.lockLast := funext fun m => congrArg _ (s.reg_setStaged_slot n l m 2 (by decide))
  simp only [State.lockOf, State.lockSlots_setStaged, hfirst, hlast]

theorem State.lockOwner_setStaged (s : State) (n : Nat) (l : List Staged) (m : Nat) : (s.setStaged n l).lockOwner m = s.lockOwner m :=
  s.reg_setStaged_slot n l m 3 (by decide)

/-- All that staging a write moves: the counts of staged objects, the staging, the start of the lease (02, R57, R60, R65). -/
theorem State.stage_eq (s : State) (n i sub off : Nat) (vals : List Word) (epoch : Option (BitVec 8)) :
    s.stage n i sub off vals epoch =
      { s with
        regs := (s.stage n i sub off vals epoch).regs
        locks := { s.locks with
          staged := (s.stage n i sub off vals epoch).locks.staged, leaseFrom := (s.stage n i sub off vals epoch).locks.leaseFrom } } := by
  rw [State.stage_eq_setStaged, State.leaseRestart, State.setStaged_eq]

theorem State.stage_regs (s : State) (n i sub off : Nat) (vals : List Word) (epoch : Option (BitVec 8)) :
    SameRegs s (s.stage n i sub off vals epoch) [odKey (0x0210 + n) 7 0, odKey 0x0200 7 0] :=
  s.setStaged_regs n (s.stagedWith n i sub off vals epoch)

/-- The start of a lease does not bear on what is staged, nor on which slot covers an object or whose it is. -/
theorem State.stagedWord_leaseRestart (s : State) (n : Nat) (src : Word) (i sub w : Nat) :
    (s.leaseRestart n).stagedWord src i sub w = s.stagedWord src i sub w := rfl

/-- A read by the owner finds each word staged (02, R57). -/
theorem State.stagedWord_stage {s : State} {n i sub off : Nat} {vals : List Word} (epoch : Option (BitVec 8)) {src : Word}
    (hl : s.lockOf i = some n) (ho : s.lockOwner n = src) {k : Nat} (hk : k < vals.length) :
    (s.stage n i sub off vals epoch).stagedWord src i sub (off + k) = some (vals.getD k 0) := by
  obtain ⟨g, old, hg, hwords⟩ := s.find?_stagedWith n i sub off vals epoch
  have hg' : (s.stagedWith n i sub off vals epoch).find? (fun g => g.idx == i && g.sub == sub) = some g := hg
  rw [State.stage_eq_setStaged, State.stagedWord_leaseRestart]
  simp [State.stagedWord, State.lockOf_setStaged, State.lockOwner_setStaged, hl, ho, hg', hwords, find?_mergeWords old off vals hk]

/-- A write that is staged under its writer's lock is answered 0x0000 and moves what staging moves (02, R57). -/
theorem State.odPerform_staged {s : State} {tx : Tx} {r : Obj} {ws : Words} {e : Env} {n : Nat} (hop : tx.op = .write)
    (hdst : tx.dst = .here) (hr : odFind tx.idx tx.sub = some r) (hf : s.firstChecks tx ws = (0, 0)) (hw : s.writeCode tx r ws e = 0)
    (hws : wordsAt tx.off tx.data = ws) (hst : s.stagesAt tx.req.src r tx.idx = some n) :
    s.odPerform tx e = some ((s.stage n tx.idx tx.sub tx.off tx.data tx.req.epoch).withReply ⟨0, 0, []⟩) := by
  simp [State.odPerform, State.entriesOf, State.headRoom, State.writePerform, State.deliver, State.withReply, hop, hdst, hws, hr, hf, hw, hst]

/-! ## The parts of O56 -/

/-- What a refused write of an object that is no COMMIT leaves: a command's status at most, and then the code, unless one still runs. -/
theorem State.writeRefused_status (s : State) (tx : Tx) {r : Obj} (ws : Words) (e : Env) {k : Nat} (ep : Nat) (hr : r.commits = false)
    (h8 : k ≠ 0x08) (h23 : k ≠ 0x23) (hB5 : k ≠ 0xB5) :
    s.writeRefused tx r ws e k ep = { s with cmdStat := (s.writeRefused tx r ws e k ep).cmdStat } ∧
      (r.acc ≠ .cmd → (s.writeRefused tx r ws e k ep).cmdStat = s.cmdStat) ∧
      (r.acc = .cmd → s.cmdBusy tx.req.src tx.idx tx.sub = false →
        (s.writeRefused tx r ws e k ep).cmdStatus tx.req.src tx.idx tx.sub = cmdStatusWord false 0 k) := by
  rw [State.writeRefused_plain s tx ws e ep hr h8 h23 hB5]
  refine ⟨?_, fun hcmd => by simp [beq_eq_false_iff_ne.mpr hcmd], fun hcmd hbusy => ?_⟩
  · unfold State.when
    split <;> rfl
  · simp [hcmd, hbusy, State.cmdStatus, State.endCmd, State.setCmd]

/-- What a refused COMMIT leaves: one journal entry with its code, and its status, unless one still runs (02, R62). -/
theorem State.writeRefused_commit_moves (s : State) (tx : Tx) {r : Obj} (ws : Words) (e : Env) {k : Nat} (ep : Nat) (hr : r.commits = true)
    (hcmd : r.acc = .cmd) (h8 : k ≠ 0x08) (h23 : k ≠ 0x23) (hB5 : k ≠ 0xB5) :
    s.writeRefused tx r ws e k ep =
        { s with
          regs := (s.writeRefused tx r ws e k ep).regs, alm := (s.writeRefused tx r ws e k ep).alm
          cmdStat := (s.writeRefused tx r ws e k ep).cmdStat } ∧
      (s.writeRefused tx r ws e k ep).alm =
        { s.alm with head := s.alm.head ++ [journalLine 3 (s.reg 0x0400 0x01) 0x0200 tx.sub k s.now tx.req.src false (word0 ws)] } ∧
      SameRegs s (s.writeRefused tx r ws e k ep) journalKeys ∧
      (s.cmdBusy tx.req.src tx.idx tx.sub = false →
        (s.writeRefused tx r ws e k ep).cmdStatus tx.req.src tx.idx tx.sub = cmdStatusWord false 0 k) := by
  rw [State.writeRefused_commit s tx ws e ep hr hcmd h8 h23 hB5]
  have heq := s.journalAt_eq 3 0x0200 tx.sub k s.now tx.req.src false (word0 ws)
  have hregs := s.journalAt_regs 3 0x0200 tx.sub k s.now tx.req.src false (word0 ws)
  generalize s.journalAt 3 0x0200 tx.sub k s.now tx.req.src false (word0 ws) = j at heq hregs
  have halm : j.alm = { s.alm with head := s.alm.head ++ [journalLine 3 (s.reg 0x0400 0x01) 0x0200 tx.sub k s.now tx.req.src false (word0 ws)] } := by
    rw [heq]
  cases s.cmdBusy tx.req.src tx.idx tx.sub with
  | true => exact ⟨by rw [heq]; rfl, halm, hregs, fun h => by cases h⟩
  | false => exact ⟨by rw [heq]; rfl, halm, hregs, fun _ => by simp [State.cmdStatus, State.endCmd, State.setCmd]⟩

section Refusals

variable {s : State} {c : Instr} {rq : Req} {i sub off : Nat} {vals : List Word} {e : Env} {t : Nat} {r : Obj}
  (hc : writeOf c = some (rq, i, sub, off, vals, e, t)) (hcar : s.carries = true) (hheld : s.alm.held = [])
  (hr : odFind i sub = some r)

include hc hcar hheld

/-- A transaction that moves no more than command statuses beside its answer. -/
theorem exec_of_status {w : State} {a : OdReply}
    (hperf : (s.at t).odPerform (mkTx rq .write i sub off vals.length vals .here) e = some (w.withReply a))
    (hw : w = { s.at t with cmdStat := w.cmdStat }) :
    exec c s = .next (w.withReply a) ∧ w.withReply a = { s.at t with cmdStat := w.cmdStat, reply := a } :=
  ⟨exec_of_odPerform hc hcar hheld hperf (by rw [State.served, hw]) (by rw [hw]; rfl), by rw [State.withReply, hw]⟩

include hr

/-- A failure of checks 1 to 6, but of the epoch, is answered and changes at most a command's status. -/
theorem exec_firstChecks_refused {k ep : Nat}
    (hf : (s.at t).firstChecks (mkTx rq .write i sub off vals.length vals .here) (wordsAt off vals) = (k, ep)) (hk : k ≠ 0) (h8 : k ≠ 8)
    (hcom : r.commits = false) :
    ∃ u, exec c s = .next u ∧ u.reply = ⟨k, ep, []⟩ ∧ u = { s.at t with cmdStat := u.cmdStat, reply := u.reply } ∧
      (r.acc ≠ .cmd → u.cmdStat = s.cmdStat) := by
  obtain ⟨h23, hB5⟩ := State.firstChecks_ne (s.at t) (mkTx rq .write i sub off vals.length vals .here) (wordsAt off vals)
  rw [hf] at h23 hB5
  obtain ⟨hframe, hstat, -⟩ := State.writeRefused_status (s.at t) (mkTx rq .write i sub off vals.length vals .here) (wordsAt off vals) e ep hcom
    h8 h23 hB5
  obtain ⟨w, hw, hperf⟩ := State.odPerform_firstChecks (e := e) rfl rfl hr hf rfl hk hcom
  have hwframe : w = { s.at t with cmdStat := w.cmdStat } ∧ (r.acc ≠ .cmd → w.cmdStat = s.cmdStat) := by
    obtain rfl | rfl := hw
    · exact ⟨rfl, fun _ => rfl⟩
    · exact ⟨hframe, hstat⟩
  obtain ⟨hu, huframe⟩ := exec_of_status hc hcar hheld hperf hwframe.1
  exact ⟨_, hu, rfl, huframe, hwframe.2⟩

variable (hf : (s.at t).firstChecks (mkTx rq .write i sub off vals.length vals .here) (wordsAt off vals) = (0, 0))

include hf

/-- A failure of checks 7 to 10 of an object that is no COMMIT, with no break to report and no collision, is answered and changes at most a
command's status, which tells the code unless the command still runs. -/
theorem exec_writeCode_refused {k : Nat}
    (hw : (s.at t).writeCode (mkTx rq .write i sub off vals.length vals .here) r (wordsAt off vals) e = k) (hk : k ≠ 0) (h8 : k ≠ 8)
    (h23 : k ≠ 0x23) (hB5 : k ≠ 0xB5) (hcom : r.commits = false) :
    ∃ u, exec c s = .next u ∧ u.reply = ⟨k, 0, []⟩ ∧ u = { s.at t with cmdStat := u.cmdStat, reply := u.reply } ∧
      (r.acc ≠ .cmd → u.cmdStat = s.cmdStat) ∧
      (r.acc = .cmd → s.cmdBusy rq.src i sub = false → u.cmdStatus rq.src i sub = cmdStatusWord false 0 k) := by
  obtain ⟨hframe, hstat, hcmd⟩ := State.writeRefused_status (s.at t) (mkTx rq .write i sub off vals.length vals .here) (wordsAt off vals) e 0
    hcom h8 h23 hB5
  have hperf := State.odPerform_writeCode rfl rfl hr hf hw rfl hk (by simp [hcom])
  obtain ⟨hu, huframe⟩ := exec_of_status hc hcar hheld hperf hframe
  exact ⟨_, hu, rfl, huframe, hstat, hcmd⟩

/-- A command that its source's previous write still runs is answered 0x0025 and changes nothing (02, R43). -/
theorem exec_busy_refused (hcmd : r.acc = .cmd) (hcom : r.commits = false) (hbusy : s.cmdBusy rq.src i sub = true)
    (hlock : ∀ n ∈ s.lockOf i, s.lockOwner n = rq.src) (hcount : r.writeCount off vals.length = 0)
    (hvals : r.valuesOk (wordsAt off vals) = true) : exec c s = .next { s.at t with reply := ⟨0x25, 0, []⟩ } := by
  have hw : (s.at t).writeCode (mkTx rq .write i sub off vals.length vals .here) r (wordsAt off vals) e = 0x25 :=
    State.writeCode_busy e hcmd hbusy hlock hcount hvals
  have hperf := State.odPerform_writeCode rfl rfl hr hf hw rfl (by decide) (by simp [hcom])
  have hsame : (s.at t).writeRefused (mkTx rq .write i sub off vals.length vals .here) r (wordsAt off vals) e 0x25 0 = s.at t := by
    have hbusy' : (s.at t).cmdBusy rq.src i sub = true := hbusy
    rw [State.writeRefused_plain _ _ _ _ _ hcom (by decide) (by decide) (by decide)]
    simp [mkTx, hbusy']
  rw [hsame] at hperf
  exact exec_of_odPerform hc hcar hheld hperf rfl rfl

/-- A refused COMMIT makes one journal entry with its code, and sets its status unless it still runs (02, R62). -/
theorem exec_commit_refused {k : Nat}
    (hw : (s.at t).writeCode (mkTx rq .write i sub off vals.length vals .here) r (wordsAt off vals) e = k) (hk : k ≠ 0) (h8 : k ≠ 8)
    (h23 : k ≠ 0x23) (hB5 : k ≠ 0xB5) (hcom : r.commits = true) (hroom : s.alm.head.length + 1 ≤ 3584) :
    ∃ u, exec c s = .next u ∧ u.reply = ⟨k, 0, []⟩ ∧
      u.alm = { s.alm with head := s.alm.head ++ [journalLine 3 (s.reg 0x0400 0x01) 0x0200 sub k (s.at t).now rq.src false (word0 (wordsAt off vals))] } ∧
      (s.cmdBusy rq.src i sub = false → u.cmdStatus rq.src i sub = cmdStatusWord false 0 k) ∧
      u = { s.at t with regs := u.regs, alm := u.alm, cmdStat := u.cmdStat, reply := u.reply } ∧ SameRegs s u journalKeys := by
  have hroom' : (s.at t).headRoom 1 = true := by
    have hlen : (s.at t).alm.head.length + 1 ≤ 3584 := hroom
    simpa [State.headRoom] using hlen
  have hperf := State.odPerform_writeCode rfl rfl hr hf hw rfl hk (fun _ => hroom')
  obtain ⟨hframe, halm, hregs, hcmd⟩ := State.writeRefused_commit_moves (s.at t) (mkTx rq .write i sub off vals.length vals .here)
    (wordsAt off vals) e 0 hcom (odFind_commits_cmd hr hcom) h8 h23 hB5
  generalize (s.at t).writeRefused (mkTx rq .write i sub off vals.length vals .here) r (wordsAt off vals) e k 0 = w at hperf hframe halm hregs hcmd
  have hu : w.withReply ⟨k, 0, []⟩ = { s.at t with regs := w.regs, alm := w.alm, cmdStat := w.cmdStat, reply := ⟨k, 0, []⟩ } := by
    rw [State.withReply, hframe]
  have hstate : w.reg 0x0100 0x00 = s.reg 0x0100 0x00 := hregs.reg _ _ _ (by decide)
  exact ⟨_, exec_of_odPerform hc hcar hheld hperf (by rw [State.served, hframe]) hstate, rfl, halm, hcmd, hu, hregs⟩

/-- A write under its writer's own lock is staged: a read by the source finds it, and no object but the two counts of staged objects
changes (02, R57, R60). -/
theorem exec_staged {n : Nat} (hw : (s.at t).writeCode (mkTx rq .write i sub off vals.length vals .here) r (wordsAt off vals) e = 0)
    (hl : s.lockOf i = some n) (ho : s.lockOwner n = rq.src) (hcmd : r.acc ≠ .cmd) :
    ∃ u, exec c s = .next u ∧ u.reply = ⟨0, 0, []⟩ ∧
      (∀ k < vals.length, u.stagedWord rq.src i sub (off + k) = some (vals.getD k 0)) ∧
      u = { s.at t with regs := u.regs, locks := { s.locks with staged := u.locks.staged, leaseFrom := u.locks.leaseFrom }, reply := u.reply } ∧
      SameRegs s u [odKey (0x0210 + n) 7 0, odKey 0x0200 7 0] := by
  have hl' : (s.at t).lockOf i = some n := hl
  have ho' : (s.at t).lockOwner n = rq.src := ho
  have hst : (s.at t).stagesAt rq.src r i = some n := by simp [State.stagesAt, hl', ho', hcmd]
  have hperf : (s.at t).odPerform (mkTx rq .write i sub off vals.length vals .here) e =
      some (((s.at t).stage n i sub off vals rq.epoch).withReply ⟨0, 0, []⟩) := State.odPerform_staged rfl rfl hr hf hw rfl hst
  have hframe := (s.at t).stage_eq n i sub off vals rq.epoch
  have hregs := (s.at t).stage_regs n i sub off vals rq.epoch
  have hword (k : Nat) (hk : k < vals.length) := (s.at t).stagedWord_stage (sub := sub) (off := off) rq.epoch hl' ho' hk
  generalize (s.at t).stage n i sub off vals rq.epoch = w at hperf hframe hregs hword
  have hu : w.withReply ⟨0, 0, []⟩ =
      { s.at t with regs := w.regs, locks := { s.locks with staged := w.locks.staged, leaseFrom := w.locks.leaseFrom }, reply := ⟨0, 0, []⟩ } := by
    rw [State.withReply, hframe]
    rfl
  have hstate : w.reg 0x0100 0x00 = s.reg 0x0100 0x00 := hregs.reg _ _ _ (by simp [odKey]; omega)
  exact ⟨_, exec_of_odPerform hc hcar hheld hperf (by rw [State.served, hframe]) hstate, rfl, hword, hu, hregs⟩

end Refusals

/-- DESCRIBE of an object answers its description and changes nothing (02, R46). -/
theorem exec_describe {s : State} {rq : Req} {idx : BitVec 16} {sub : BitVec 8} {t : Nat} {r : Obj} (hcar : s.carries = true)
    (hheld : s.alm.held = []) (hr : odFind idx.toNat sub.toNat = some r)
    (hf : (s.at t).firstChecks (mkTx rq .describe idx.toNat sub.toNat 0 0 [] .here) [] = (0, 0)) :
    exec (.describe rq idx sub t) s = .next { s.at t with reply := ⟨0, 0, s.describeWords r idx.toNat sub.toNat⟩ } := by
  have hperf : (s.at t).odPerform (mkTx rq .describe idx.toNat sub.toNat 0 0 [] .here) Env.calm =
      some ((s.at t).withReply ⟨0, 0, s.describeWords r idx.toNat sub.toNat⟩) := by
    have hwords : (s.at t).describeWords r idx.toNat sub.toNat = s.describeWords r idx.toNat sub.toNat := rfl
    rw [← hwords]
    simp only [mkTx] at hf
    simp [State.odPerform, State.deliver, State.withReply, mkTx, wordsAt, hr, hf]
  have hcar' : (s.at t).carries = true := hcar
  change execDescribe rq idx sub t s = _
  unfold execDescribe
  refine State.perform_served (u := (s.at t).withReply ⟨0, 0, s.describeWords r idx.toNat sub.toNat⟩) (t := t) ?_ rfl rfl
  simp only [State.tick_posted_nil, hcar', if_true]
  exact State.odSubmit_performed hheld hperf

/-- Settles O56: a refused write reaches `State.writeRefused` alone, which moves the command's status and, for a COMMIT, the journal; a write
under its writer's own lock reaches `State.stage` alone. -/
theorem refusalsChangeNothing : Obligations.RefusalsChangeNothing := by
  unfold Obligations.RefusalsChangeNothing
  refine ⟨?_, ?_, ?_, ?_, ?_, ?_, ?_⟩
  · intro s c rq i sub off vals e t r hc hcar hheld hr hcmd hcom hbusy hf hlock hcount hvals
    exact exec_busy_refused hc hcar hheld hr hf hcmd hcom hbusy hlock hcount hvals
  · intro s c rq i sub off vals e t r k ep hc hcar hheld hr hf hk h8 hcom
    exact exec_firstChecks_refused hc hcar hheld hr hf hk h8 hcom
  · intro s c rq i sub off vals e t r k hc hcar hheld hr hf hw hk h8 h23 _ hB5 hcom
    exact exec_writeCode_refused hc hcar hheld hr hf hw hk h8 h23 hB5 hcom
  · intro s c rq i sub off vals e t r k hc hcar hheld hr hf hw hk h8 h23 hB5 hcom hroom
    exact exec_commit_refused hc hcar hheld hr hf hw hk h8 h23 hB5 hcom hroom
  · intro s c rq i sub off vals e t hc hcar
    exact exec_of_not_carries hc hcar
  · intro s c rq i sub off vals e t r n hc hcar hheld hr hf hw hl ho hcmd
    exact exec_staged hc hcar hheld hr hf hw hl ho hcmd
  · intro s rq idx sub t r hcar hheld hr hf
    exact exec_describe hcar hheld hr hf

end Sys2Proof.Machine

namespace Sys2Proof.Machine

/-! The family of Meridian time and events (03): O6 to O10, and the two statements about every command and every step, O57 and O58. -/

/-! ## Every command answers -/

/-- What `perform` answers: the queue it found, nothing posted, LOCAL not earlier. -/
theorem State.perform_answers (s : State) (f : State → State) :
    ∃ u, s.perform f = .next u ∧ u.pending = s.pending ∧ u.posted = [] ∧ s.clock ≤ u.clock :=
  ⟨_, rfl, rfl, rfl, Nat.le_max_left ..⟩

/-- What `performReset` answers: the queue it found, nothing posted. -/
theorem State.performReset_answers (s : State) (f : State → State) :
    ∃ u, s.performReset f = .next u ∧ u.pending = s.pending ∧ u.posted = [] :=
  ⟨_, rfl, rfl, rfl⟩

/-- Settles O58: a command is one `perform`, or, when it starts LOCAL again, may be one `performReset`. -/
theorem everyCommandAnswers : Obligations.EveryCommandAnswers := by
  intro c s
  cases hr : startsAgain c with
  | false =>
    obtain ⟨f, hf⟩ := exec_performs c s hr
    obtain ⟨u, hu, hq, hp, hc⟩ := s.perform_answers f
    exact ⟨u, hf.trans hu, hq, hp, fun _ => hc⟩
  | true =>
    obtain ⟨f, hf⟩ | ⟨f, hf⟩ := exec_cases_of_startsAgain c s hr
    · obtain ⟨u, hu, hq, hp⟩ := s.performReset_answers f
      exact ⟨u, hf.trans hu, hq, hp, nofun⟩
    · obtain ⟨u, hu, hq, hp, -⟩ := s.perform_answers f
      exact ⟨u, hf.trans hu, hq, hp, nofun⟩

/-! ## Which step is served -/

/-- With nothing waiting, a step is the step of the agenda that is served. -/
theorem step_of_serve {s : State} {c : Instr} {later : List Instr} (hp : s.pending = []) (h : s.serve = some (c, later)) :
    step s = exec c { s with agenda := later } := by
  simp [step, hp, h]

/-- With nothing waiting and nothing that can be served, the block idles. -/
theorem step_of_serve_none {s : State} (hp : s.pending = []) (h : s.serve = none) : step s = .next s := by
  simp [step, hp, h]

/-- The first step of the agenda that can be served is served. -/
theorem State.serve_of_first {s : State} {n : Nat} {c : Instr} (hc : s.agenda[n]? = some c) (hs : s.servable c = true)
    (hbefore : ∀ k < n, ∀ d ∈ s.agenda[k]?, s.servable d = false) : s.serve = some (c, s.agenda.eraseIdx n) := by
  obtain ⟨hn, hget⟩ := List.getElem?_eq_some_iff.mp hc
  have hfind : s.agenda.findIdx? s.servable = some n := by
    rw [List.findIdx?_eq_some_iff_getElem]
    refine ⟨hn, by rwa [hget], fun k hk => ?_⟩
    simp [hbefore k hk _ (List.getElem?_eq_getElem (hk.trans hn))]
  simp [State.serve, hfind, hc]

theorem State.serve_none {s : State} (h : ∀ d ∈ s.agenda, s.servable d = false) : s.serve = none := by
  have hfind : s.agenda.findIdx? s.servable = none := List.findIdx?_eq_none_iff.mpr h
  simp [State.serve, hfind]

/-- A step that is no occurrence can always be served. -/
theorem State.servable_of_no_occurrence {s : State} {c : Instr} (h : occurrenceOf c = none) : s.servable c = true := by
  simp [State.servable, h]

/-- An occurrence can be served at its stamp, when none of its line with an earlier stamp waits (03, R98). -/
theorem State.servable_of_occurrence {s : State} {c : Instr} {l : Nat} {m : U80} (h : occurrenceOf c = some (l, m))
    (htime : diff80 m s.now ≤ 0 ∨ 8192 < diff80 m s.now) (hline : ∀ d ∈ s.agenda, ∀ x, occurrenceOf d = some (l, x) → 0 ≤ diff80 x m) :
    s.servable c = true := by
  simp only [State.servable, h, Bool.and_eq_true, Bool.or_eq_true, decide_eq_true_eq, List.all_eq_true]
  refine ⟨htime, fun d hd => ?_⟩
  split
  · next k x hk =>
    by_cases hkl : k = l
    · subst hkl
      simp [hline d hd x hk]
    · simp [hkl]
  · rfl

/-- Settles O57: with nothing waiting the step served is the first of the agenda that can be. -/
theorem stepRunsTheFront : Obligations.StepRunsTheFront := by
  unfold Obligations.StepRunsTheFront
  refine ⟨fun s c rest => rfl, fun s c later hp h => step_of_serve hp h, ?_, ?_, fun s hp h => step_of_serve_none hp (State.serve_none h)⟩
  · intro s c later hp ha hc
    have hfirst : s.serve = some (c, s.agenda.eraseIdx 0) :=
      State.serve_of_first (by simp [ha]) (State.servable_of_no_occurrence hc) (by simp)
    rw [step_of_serve hp hfirst, ha, List.eraseIdx_cons_zero]
  · intro s n l m c hp hn hc hbefore htime hline
    exact step_of_serve hp (State.serve_of_first hn (State.servable_of_occurrence hc htime hline) hbefore)

end Sys2Proof.Machine

namespace Sys2Proof.Machine

/-! ## What a step of time and events moves -/

/-- What a step of this family moves at most: objects, command statuses, the answer, the journal, the log, the agenda, Meridian time,
sequencers, measurement units, links. -/
def State.moves (s u : State) : Prop :=
  u = { s with
    regs := u.regs, agenda := u.agenda, cmdStat := u.cmdStat, reply := u.reply, alm := u.alm, log := u.log, sync := u.sync
    seqs := u.seqs, mea := u.mea, halo := u.halo }

/-- A step that moves no more than that, and not STATE, answers what its body makes. -/
theorem State.perform_moves {s u : State} {t : Nat} {f : State → State} (h : f { s with posted := [] } = u) (hu : (s.at t).moves u)
    (hs : u.reg 0x0100 0x00 = s.reg 0x0100 0x00) : s.perform f = .next u := by
  have hc : s.clock ≤ u.clock := by rw [hu]; exact State.tick_clock_le ({ s with posted := [] } : State) t
  exact State.perform_next h hs (by rw [hu]; rfl) (by rw [hu]; rfl) (by rw [hu]; rfl) hc

/-- As `State.perform_moves`, for the step of an occurrence, which carries no instant of its own. -/
theorem State.perform_moves_untimed {s u : State} {f : State → State} (h : f { s with posted := [] } = u)
    (hu : ({ s with posted := [] } : State).moves u) (hs : u.reg 0x0100 0x00 = s.reg 0x0100 0x00) : s.perform f = .next u :=
  State.perform_next h hs (by rw [hu]) (by rw [hu]) (by rw [hu]) (by rw [hu])

/-! ## Reading a state at an instant -/

section At

variable (s : State) (t : Nat)

@[simp] theorem State.at_regs : (s.at t).regs = s.regs := rfl
@[simp] theorem State.at_sync : (s.at t).sync = s.sync := rfl
@[simp] theorem State.at_agenda : (s.at t).agenda = s.agenda := rfl
@[simp] theorem State.at_halo : (s.at t).halo = s.halo := rfl
@[simp] theorem State.at_alm : (s.at t).alm = s.alm := rfl
@[simp] theorem State.at_regN (i j w : Nat) : (s.at t).regN i j w = s.regN i j w := rfl
@[simp] theorem State.at_regB (i j w : Nat) : (s.at t).regB i j w = s.regB i j w := rfl
@[simp] theorem State.at_reg80 (i j : Nat) : (s.at t).reg80 i j = s.reg80 i j := rfl
@[simp] theorem State.at_offset : (s.at t).offset = s.offset := rfl
@[simp] theorem State.at_ownDevice : (s.at t).ownDevice = s.ownDevice := rfl
@[simp] theorem State.at_syncMode : (s.at t).syncMode = s.syncMode := rfl
@[simp] theorem State.at_syncState : (s.at t).syncState = s.syncState := rfl
@[simp] theorem State.at_syncPort (p : Nat) : (s.at t).syncPort p = s.syncPort p := rfl
@[simp] theorem State.at_port (p : Nat) : (s.at t).port p = s.port p := rfl
@[simp] theorem State.at_linesOf (code : Nat) : (s.at t).linesOf code = s.linesOf code := rfl
@[simp] theorem State.at_teState (n : Nat) : (s.at t).teState n = s.teState n := rfl
@[simp] theorem State.at_stepPermitted : (s.at t).stepPermitted = s.stepPermitted := rfl

end At

/-! ## Objects left as they were -/

/-- What a relation between states that is kept by each step of a fold says of the whole fold. -/
theorem State.foldl_rel {α : Type} {R : State → State → Prop} (hrefl : ∀ s, R s s) (htrans : ∀ {a b c}, R a b → R b c → R a c)
    {f : State → α → State} (l : List α) (hf : ∀ x ∈ l, ∀ s, R s (f s x)) (s : State) : R s (l.foldl f s) := by
  induction l generalizing s with
  | nil => exact hrefl s
  | cons x l ih =>
    exact htrans (hf x (List.mem_cons_self ..) s) (ih (fun y hy => hf y (List.mem_cons_of_mem _ hy)) _)

theorem State.repeat_rel {R : State → State → Prop} (hrefl : ∀ s, R s s) (htrans : ∀ {a b c}, R a b → R b c → R a c)
    {f : Nat → State → State} (n : Nat) (hf : ∀ i < n, ∀ s, R s (f i s)) (s : State) : R s (s.repeat n f) :=
  State.foldl_rel (f := fun s i => f i s) hrefl htrans _ (fun i hi => hf i (List.mem_range.mp hi)) s

theorem State.when_rel {R : State → State → Prop} (hrefl : ∀ s, R s s) {f : State → State} (s : State) (b : Bool) (hf : b = true → R s (f s)) :
    R s (s.when b f) := by
  cases b with
  | false => exact hrefl s
  | true => exact hf rfl

theorem SameOutside.refl (s : State) (f : Nat → Bool) : SameOutside s s f := fun _ _ => rfl

theorem SameOutside.trans {s t u : State} {f : Nat → Bool} (h : SameOutside s t f) (h' : SameOutside t u f) : SameOutside s u f :=
  fun k hk => (h' k hk).trans (h k hk)

theorem SameOutside.mono {s t : State} {f g : Nat → Bool} (h : SameOutside s t f) (hfg : ∀ i, g i = false → f i = false) :
    SameOutside s t g := fun k hk => h k (hfg _ hk)

/-- The index in a store key. -/
theorem odKey_index {i sub w : Nat} (hsub : sub < 256) (hw : w < 134217728) : odKey i sub w / 134217728 / 256 = i := by
  unfold odKey; omega

theorem SameOutside.reg {s t : State} {f : Nat → Bool} (h : SameOutside s t f) {i sub w : Nat} (hi : f i = false) (hsub : sub < 256)
    (hw : w < 134217728) : t.reg i sub w = s.reg i sub w := h _ (by rwa [odKey_index hsub hw])

/-- Words of objects that `f` picks are the only ones to change. -/
theorem SameRegs.outside {s t : State} {ks : List Nat} {f : Nat → Bool} (h : SameRegs s t ks) (hf : ∀ k ∈ ks, f (k / 134217728 / 256) = true) :
    SameOutside s t f := fun k hk => h k (fun hm => by simp [hf k hm] at hk)

/-- A state that moved at most objects. -/
def State.regsMoved (s u : State) : Prop := u = { s with regs := u.regs }

theorem State.regsMoved.refl (s : State) : s.regsMoved s := rfl
theorem State.regsMoved.trans {s u v : State} (h : s.regsMoved u) (h' : u.regsMoved v) : s.regsMoved v := by
  unfold State.regsMoved at *
  rw [h', h]
theorem State.regsMoved.setRegW (s : State) (i j w : Nat) (v : Word) : s.regsMoved (s.setRegW i j w v) := rfl
theorem State.regsMoved.setReg (s : State) (i j : Nat) (v : Word) : s.regsMoved (s.setReg i j v) := rfl
theorem State.regsMoved.setRegN (s : State) (i j n : Nat) : s.regsMoved (s.setRegN i j n) := rfl
theorem State.regsMoved.addReg (s : State) (i j n w : Nat) : s.regsMoved (s.addReg i j n w) := rfl
theorem State.regsMoved.setReg80 (s : State) (i j : Nat) (v : U80) : s.regsMoved (s.setReg80 i j v) :=
  (State.regsMoved.setRegW s i j 0 _).trans (State.regsMoved.setRegW _ i j 1 _)

/-! ## Accepted transactions -/

/-- What the journal entry of an accepted transaction leaves (02, R54). -/
structure State.Journalled (s j : State) (kind i sub : Nat) (src v : Word) : Prop where
  alm : j.alm = { s.alm with head := s.alm.head ++ [journalLine kind (s.reg 0x0400 0x01) i sub 0 s.now src false v] }
  frame : j = { s with regs := j.regs, alm := j.alm }
  regs : SameRegs s j journalKeys
  next : j.reg 0x0400 0x01 = s.reg 0x0400 0x01 + 1

theorem State.journalAt_journalled (s : State) (kind i sub : Nat) (src v : Word) :
    s.Journalled (s.journalAt kind i sub 0 s.now src false v) kind i sub src v where
  alm := by rw [State.journalAt_eq]
  frame := by rw [State.journalAt_eq]
  regs := s.journalAt_regs kind i sub 0 s.now src false v
  next := s.journalAt_next ..

theorem State.journalWrite_journalled (s : State) (r : Obj) (src : Word) (i sub : Nat) (ws : Words) :
    ∃ kind v, s.Journalled (s.journalWrite r src i sub ws false) kind i sub src v := by
  unfold State.journalWrite
  split
  · exact ⟨_, _, s.journalAt_journalled ..⟩
  · exact ⟨_, _, s.journalAt_journalled ..⟩

/-- Of an object of one word that is no DOMAIN, the entry shows the word. -/
theorem State.journalWrite_one (s : State) {r : Obj} (src : Word) (i sub : Nat) (v : Word) (hd : r.isDomain = false) (hw : r.words = 1) :
    s.Journalled (s.journalWrite r src i sub (wordsAt 0 [v]) false) (if r.acc == .cmd then 3 else 1) i sub src v := by
  have : s.journalWrite r src i sub (wordsAt 0 [v]) false = s.journalAt (if r.acc == .cmd then 3 else 1) i sub 0 s.now src false v := by
    simp [State.journalWrite, hd, hw, wordsAt, word0]
  rw [this]
  exact s.journalAt_journalled ..

namespace State.Journalled

variable {s j : State} {kind i sub : Nat} {src v : Word} (hj : s.Journalled j kind i sub src v)

include hj

theorem sync : j.sync = s.sync := by rw [hj.frame]
theorem clock : j.clock = s.clock := by rw [hj.frame]

/-- A journal entry leaves every object but the journal's. -/
theorem reg {a b c : Nat} (ha : a ≠ 0x0400) (hb : b < 256) (hc : c < 134217728) : j.reg a b c = s.reg a b c :=
  hj.regs.reg _ _ _ (by simp [journalKeys, odKey]; omega)

theorem reg80 {a b : Nat} (ha : a ≠ 0x0400) (hb : b < 256) : j.reg80 a b = s.reg80 a b := by
  rw [State.reg80, hj.reg ha hb (by decide), hj.reg ha hb (by decide), State.reg80]

end State.Journalled

/-- An accepted transaction that moves no more than the journal's entry beside its own effect is answered as every one is. -/
theorem State.Journalled.answered {s j w : State} {t kind i sub : Nat} {src v : Word} (hj : (s.at t).Journalled j kind i sub src v)
    (halm : w.alm = j.alm) (hnext : w.reg 0x0400 0x01 = j.reg 0x0400 0x01) : s.answered (w.withReply ⟨0, 0, []⟩) kind i sub src v t :=
  ⟨rfl, halm.trans hj.alm, hnext.trans hj.next⟩

/-- What an accepted write or command does to its object and its units. -/
def State.acts (j : State) (r : Obj) (src : Word) (i sub : Nat) (ws : Words) (e : Env) : State :=
  if r.acc == .cmd then j.command r src i sub ws e else j.applyWrite r i sub ws

/-- An accepted write or command answers what its effect makes of the state with its journal entry. -/
theorem exec_of_takes {c : Instr} {rq : Req} {i sub off : Nat} {vals : List Word} {e : Env} {t : Nat} {s : State} {r : Obj} {w : State}
    (hc : writeOf c = some (rq, i, sub, off, vals, e, t)) (h : s.takes rq i sub off vals e t = true) (hr : odFind i sub = some r)
    (hw : ((s.at t).journalWrite r rq.src i sub (wordsAt off vals) false).acts r rq.src i sub (wordsAt off vals) e = w)
    (hm : (s.at t).moves w) (hs : w.reg 0x0100 0x00 = s.reg 0x0100 0x00) : exec c s = .next (w.withReply ⟨0, 0, []⟩) := by
  rw [exec_of_writeOf hc]
  refine State.perform_moves (t := t) ?_ (by rw [State.moves, hm]; rfl) hs
  rw [State.odRow_taken h hr, ← hw]
  rfl

theorem wd_toNat_of_lt {n : Nat} (h : n < 2 ^ 40) : (wd n).toNat = n := by
  simpa [wd] using h

end Sys2Proof.Machine

namespace Sys2Proof.Machine

/-! ## Timed-event slots -/

/-- All that a slot that fires moves: its STATE and FIRED_AT, and occurrences that come due (03, R107). -/
theorem State.teFireAt_eq (s : State) (n : Nat) (m : U80) :
    ∃ later : List Instr, s.teFireAt n m =
      { (s.setRegN (0x0920 + n) 0x00 2).setReg80 (0x0920 + n) 0x05 m with agenda := s.agenda ++
          (.eventOccurrence (Fin.ofNat 512 (s.regN (0x0920 + n) 0x02)) m true :: later) } := by
  have hregs := ((SameRegs.setRegN s (0x0920 + n) 0x00 2).trans (SameRegs.setReg80 _ (0x0920 + n) 0x05 m))
  have hline : ((s.setRegN (0x0920 + n) 0x00 2).setReg80 (0x0920 + n) 0x05 m).regN (0x0920 + n) 0x02 = s.regN (0x0920 + n) 0x02 :=
    congrArg _ (hregs.reg _ _ _ (by simp [odKey]; omega))
  unfold State.teFireAt
  rw [State.foldl_due, List.map_cons, hline]
  exact ⟨_, rfl⟩

theorem State.teFireAt_regs (s : State) (n : Nat) (m : U80) :
    SameRegs s (s.teFireAt n m) [odKey (0x0920 + n) 0x00 0, odKey (0x0920 + n) 0x05 0, odKey (0x0920 + n) 0x05 1] := by
  have hregs := (SameRegs.setRegN s (0x0920 + n) 0x00 2).trans (SameRegs.setReg80 _ (0x0920 + n) 0x05 m)
  obtain ⟨later, h⟩ := s.teFireAt_eq n m
  rw [h]
  exact fun k hk => hregs k (by simpa using hk)

/-- The timed-event slots, by index. -/
def isSlot (i : Nat) : Bool := 0x0920 ≤ i && i < 0x0960

/-- A state that moved at most objects of timed-event slots and the agenda. -/
def State.slotsMoved (s u : State) : Prop := u = { s with regs := u.regs, agenda := u.agenda } ∧ SameOutside s u isSlot

theorem State.slotsMoved.refl (s : State) : s.slotsMoved s := ⟨rfl, SameOutside.refl s _⟩

theorem State.slotsMoved.trans {s u v : State} (h : s.slotsMoved u) (h' : u.slotsMoved v) : s.slotsMoved v :=
  ⟨by rw [h'.1, h.1], h.2.trans h'.2⟩

theorem State.teFireAt_slotsMoved (s : State) {n : Nat} (m : U80) (hn : n < 64) : s.slotsMoved (s.teFireAt n m) := by
  obtain ⟨later, h⟩ := s.teFireAt_eq n m
  refine ⟨by rw [h]; rfl, (s.teFireAt_regs n m).outside (fun k hk => ?_)⟩
  have hk' : k / 134217728 / 256 = 0x0920 + n := by
    simp only [List.mem_cons, List.not_mem_nil, or_false] at hk
    rcases hk with rfl | rfl | rfl <;> exact odKey_index (by decide) (by decide)
  simpa [hk', isSlot] using by omega

/-- After a step of Meridian time nothing but slots and the agenda has moved (03, R109). -/
theorem State.teAfterStep_slotsMoved (s : State) : s.slotsMoved s.teAfterStep :=
  State.repeat_rel State.slotsMoved.refl State.slotsMoved.trans 64
    (fun _ hn s => State.when_rel State.slotsMoved.refl s _ (fun _ => s.teFireAt_slotsMoved s.now hn)) s

/-! ## Steps of Meridian time -/

/-- The objects that a step of Meridian time can move. -/
def movedByStep (i : Nat) : Bool := i == 0x0900 || i == 0x0500 || (0x0920 ≤ i && i < 0x0960)

/-- What a step of Meridian time to an OFFSET does: OFFSET and STEP_COUNT follow, the value OFFSET had is kept, the log and the slots
have their part (03, R90, R93, R109). -/
structure State.Stepped (s u : State) (off : U80) : Prop where
  frame : u = { s with
    regs := u.regs, agenda := u.agenda, log := u.log, sync := { s.sync with past := s.sync.past ++ [⟨s.localMt, s.offset, true⟩] } }
  offset : u.offset = off
  count : u.reg 0x0900 0x0F = s.reg 0x0900 0x0F + 1
  regs : SameOutside s u movedByStep

/-- The slots are judged after the step. -/
theorem State.Stepped.slotsMoved {s b u : State} {off : U80} (h : s.Stepped b off) (hu : b.slotsMoved u) : s.Stepped u off := by
  obtain ⟨hframe, hslots⟩ := hu
  refine ⟨by rw [hframe, h.frame], ?_, ?_, h.regs.trans (hslots.mono (by simp [movedByStep, isSlot]))⟩
  · rw [← h.offset]
    unfold State.offset State.reg80
    rw [hslots.reg (by decide) (by decide) (by decide), hslots.reg (by decide) (by decide) (by decide)]
  · rw [hslots.reg (by decide) (by decide) (by decide), h.count]

/-- The step, before the slots are judged. -/
theorem State.stepped_before (s : State) (off : U80) (d : Word) :
    s.Stepped (((s.setOffset off true).logPut 0x0302 d 0).addReg 0x0900 0x0F 1) off := by
  have hset : SameRegs s (s.setOffset off true) [odKey 0x0900 0x02 0, odKey 0x0900 0x02 1] :=
    SameRegs.setReg80 { s with sync := { s.sync with past := s.sync.past ++ [⟨s.localMt, s.offset, true⟩] } } 0x0900 0x02 off
  have hoff : (s.setOffset off true).reg80 0x0900 0x02 = off := State.reg80_setReg80_same _ 0x0900 0x02 off
  have hlog := (s.setOffset off true).logPut_regs 0x0302 d 0 false
  have hframe := (s.setOffset off true).logPut_eq 0x0302 d 0 false
  generalize (s.setOffset off true).logPut 0x0302 d 0 = b at hlog hframe
  have hadd := SameRegs.addReg b 0x0900 0x0F 1 0
  refine ⟨?_, ?_, ?_, ((hset.trans hlog).trans hadd).outside (by decide)⟩
  · rw [hframe]
    rfl
  · rw [← hoff]
    unfold State.offset State.reg80
    rw [(hlog.trans hadd).reg _ _ _ (by decide), (hlog.trans hadd).reg _ _ _ (by decide)]
  · rw [State.reg_addReg_same, (hset.trans hlog).reg _ _ _ (by decide)]
    rfl

theorem State.timeStep_stepped (s : State) (off : U80) : s.Stepped (s.timeStep off) off :=
  (s.stepped_before off _).slotsMoved (State.teAfterStep_slotsMoved _)

/-- A load of Meridian time takes effect: Meridian time is LOAD_VALUE (03, R93). -/
theorem State.now_loadTime (s : State) : s.loadTime.now = s.reg80 0x0900 0x0D := by
  have h := s.timeStep_stepped (s.reg80 0x0900 0x0D - BitVec.ofNat 80 s.localMt)
  have hclock : s.loadTime.clock = s.clock := by rw [State.loadTime, h.frame]
  have hoff : s.loadTime.offset = s.reg80 0x0900 0x0D - BitVec.ofNat 80 s.localMt := h.offset
  rw [State.now, hoff, State.localMt, hclock, BitVec.add_comm, State.localMt, BitVec.sub_add_cancel]

end Sys2Proof.Machine

namespace Sys2Proof.Machine

/-! ## MODE and loads of Meridian time (03, R83, R92, R93) -/

/-- The sync state and the objects that report it take values. -/
def State.reportSync (s : State) (state hops bound master : Nat) : State :=
  (((s.setRegN 0x0900 0x04 state).setRegN 0x0900 0x06 hops).setRegN 0x0900 0x07 bound).setRegN 0x0900 0x08 master

theorem State.reportSync_moved (s : State) (state hops bound master : Nat) : s.regsMoved (s.reportSync state hops bound master) :=
  (((State.regsMoved.setRegN s _ _ _).trans (State.regsMoved.setRegN _ _ _ _)).trans (State.regsMoved.setRegN _ _ _ _)).trans
    (State.regsMoved.setRegN _ _ _ _)

theorem State.reportSync_regs (s : State) (state hops bound master : Nat) :
    SameRegs s (s.reportSync state hops bound master) ([4, 6, 7, 8].map (fun k => odKey 0x0900 k 0)) :=
  ((((SameRegs.setRegN s 0x0900 0x04 state).trans (SameRegs.setRegN _ 0x0900 0x06 hops)).trans
    (SameRegs.setRegN _ 0x0900 0x07 bound)).trans (SameRegs.setRegN _ 0x0900 0x08 master)).mono (by decide)

theorem State.reportSync_state (s : State) (state hops bound master : Nat) :
    (s.reportSync state hops bound master).reg 0x0900 0x04 = wd state := by
  have hlater := ((SameRegs.setRegN (s.setRegN 0x0900 0x04 state) 0x0900 0x06 hops).trans
    (SameRegs.setRegN _ 0x0900 0x07 bound)).trans (SameRegs.setRegN _ 0x0900 0x08 master)
  exact (hlater.reg _ _ _ (by decide)).trans (State.reg_setRegN_same ..)

/-- MODE, and the objects that report the sync state. -/
def modeKeys : List Nat := [3, 4, 6, 7, 8].map (fun k => odKey 0x0900 k 0)

/-- All that a new MODE moves: MODE, the sync state and what reports it (03, table of sync states). -/
structure State.ModeMoved (s u : State) (v : Nat) : Prop where
  frame : u = { s with regs := u.regs, sync := u.sync }
  mode : u.reg 0x0900 0x03 = wd v
  state : u.reg 0x0900 0x04 = if v = s.syncMode then s.reg 0x0900 0x04 else wd v
  regs : SameRegs s u modeKeys

theorem State.modeTo_moved (s : State) (v : Nat) : s.ModeMoved (s.modeTo v) v := by
  have hmode := SameRegs.setRegN s 0x0900 0x03 v
  by_cases hv : v = s.syncMode
  · have hu : s.modeTo v = s.setRegN 0x0900 0x03 v := by simp [State.modeTo, hv]
    rw [hu]
    refine ⟨rfl, State.reg_setRegN_same .., ?_, hmode.mono (by decide)⟩
    rw [if_pos hv, hmode.reg _ _ _ (by decide)]
  · obtain ⟨y, hops, bound, master, hu⟩ : ∃ y hops bound master,
        s.modeTo v = ({ s.setRegN 0x0900 0x03 v with sync := y } : State).reportSync v hops bound master := by
      simp only [State.modeTo, if_neg hv]
      exact ⟨_, _, _, _, rfl⟩
    have hreport := State.reportSync_regs { s.setRegN 0x0900 0x03 v with sync := y } v hops bound master
    have hmode' : SameRegs s { s.setRegN 0x0900 0x03 v with sync := y } [odKey 0x0900 0x03 0] := hmode
    rw [hu]
    refine ⟨State.reportSync_moved .., ?_, ?_, (hmode'.trans hreport).mono (by decide)⟩
    · rw [hreport.reg _ _ _ (by decide)]
      exact State.reg_setRegN_same s 0x0900 0x03 v
    · rw [if_neg hv]
      exact State.reportSync_state ..

/-- The row of MODE. -/
theorem odFind_mode : ∃ r, odFind 0x0900 0x03 = some r ∧ r.hook = .modeWrite ∧ r.acc = .rws ∧ r.isDomain = false ∧ r.words = 1 :=
  ⟨_, rfl, rfl, rfl, rfl, rfl⟩

/-- The row of LOAD_CMD. -/
theorem odFind_loadCmd : ∃ r, odFind 0x0900 0x0E = some r ∧ r.hook = .loadCmd ∧ r.acc = .cmd ∧ r.isDomain = false ∧ r.words = 1 :=
  ⟨_, rfl, rfl, rfl, rfl, rfl⟩

/-- An accepted write of MODE (03, R83). -/
theorem exec_modeWrite {s : State} {rq : Req} {v : Word} {t : Nat} (h : s.takes rq 0x0900 0x03 0 [v] Env.calm t = true) :
    ∃ u, exec (.modeWrite rq v t) s = .next u ∧
      u.reg 0x0900 0x03 = v ∧
      (v ≠ s.reg 0x0900 0x03 → u.reg 0x0900 0x04 = v) ∧
      (v = s.reg 0x0900 0x03 → u.reg 0x0900 0x04 = s.reg 0x0900 0x04) ∧
      s.answered u 1 0x0900 0x03 rq.src v t ∧
      u = { s.at t with regs := u.regs, alm := u.alm, reply := u.reply, sync := u.sync } ∧
      SameRegs s u (modeKeys ++ journalKeys) := by
  obtain ⟨r, hr, hhook, hacc, hdom, hone⟩ := odFind_mode
  have hj := (s.at t).journalWrite_one rq.src 0x0900 0x03 v hdom hone
  simp only [hacc] at hj
  have hact := exec_of_takes (c := .modeWrite rq v t) rfl h hr (w := ((s.at t).journalWrite r rq.src 0x0900 0x03 (wordsAt 0 [v]) false).modeTo v.toNat)
    (by simp [State.acts, hacc, State.applyWrite, hhook, wordsAt, word0])
  generalize (s.at t).journalWrite r rq.src 0x0900 0x03 (wordsAt 0 [v]) false = j at hj hact
  have hm := j.modeTo_moved v.toNat
  generalize j.modeTo v.toNat = w at hm hact
  have hframe : w = { s.at t with regs := w.regs, alm := j.alm, sync := w.sync } := by rw [hm.frame, hj.frame]
  have hregs : SameRegs s w (modeKeys ++ journalKeys) := (hj.regs.trans hm.regs).mono (by decide)
  have hmode : (v.toNat = j.syncMode) ↔ v = s.reg 0x0900 0x03 := by
    rw [State.syncMode, State.regN, hj.reg (by decide) (by decide) (by decide), BitVec.toNat_inj, State.at_reg]
  have hstate := hm.state
  rw [wd_toNat, hj.reg (by decide) (by decide) (by decide), State.at_reg] at hstate
  refine ⟨_, hact (by rw [State.moves, hframe]) (hregs.reg _ _ _ (by decide)), ?_, fun hv => ?_, fun hv => ?_, ?_, ?_, hregs⟩
  · exact hm.mode.trans (wd_toNat v)
  · exact hstate.trans (if_neg (mt hmode.mp hv))
  · exact hstate.trans (if_pos (hmode.mpr hv))
  · exact hj.answered (by rw [hm.frame]) (hm.regs.reg _ _ _ (by decide))
  · rw [State.withReply, hframe]

/-- An accepted LOAD_CMD acts on the state with its journal entry. -/
theorem exec_of_loadCmd {c : Instr} {s : State} {rq : Req} {v : Word} {t : Nat}
    (hc : writeOf c = some (rq, 0x0900, 0x0E, 0, [v], Env.calm, t)) (h : s.takes rq 0x0900 0x0E 0 [v] Env.calm t = true) :
    ∃ j, (s.at t).Journalled j 3 0x0900 0x0E rq.src v ∧
      ((s.at t).moves (j.loadCommand rq.src v.toNat) → (j.loadCommand rq.src v.toNat).reg 0x0100 0x00 = s.reg 0x0100 0x00 →
        exec c s = .next ((j.loadCommand rq.src v.toNat).withReply ⟨0, 0, []⟩)) := by
  obtain ⟨r, hr, hhook, hacc, hdom, hone⟩ := odFind_loadCmd
  have hj := (s.at t).journalWrite_one rq.src 0x0900 0x0E v hdom hone
  simp only [hacc] at hj
  exact ⟨_, hj, exec_of_takes hc h hr (by simp [State.acts, hacc, State.command, hhook, wordsAt, word0])⟩

/-- LOAD_CMD 1 arms a load for the next edge of SYNC_IN (03, R93). -/
theorem exec_loadCmdAtSyncIn {s : State} {rq : Req} {t : Nat} (h : s.takes rq 0x0900 0x0E 0 [1] Env.calm t = true) :
    ∃ u, exec (.loadCmdAtSyncIn rq t) s = .next u ∧
      s.answered u 3 0x0900 0x0E rq.src 1 t ∧
      u = { (s.at t).setCmd rq.src 0x0900 0x0E cmdRunning with
        regs := u.regs, alm := u.alm, reply := u.reply
        sync := { s.sync with loads := s.sync.loads ++ [(rq.src, (s.at t).clock)] } } ∧
      SameRegs s u journalKeys := by
  obtain ⟨j, hj, hexec⟩ := exec_of_loadCmd (c := .loadCmdAtSyncIn rq t) rfl h
  have hframe : j.loadCommand rq.src (1 : Word).toNat =
      { (s.at t).setCmd rq.src 0x0900 0x0E cmdRunning with
        regs := j.regs, alm := j.alm, sync := { s.sync with loads := s.sync.loads ++ [(rq.src, (s.at t).clock)] } } := by
    rw [hj.frame]
    rfl
  rw [hframe] at hexec
  refine ⟨_, hexec rfl (hj.reg (by decide) (by decide) (by decide)), hj.answered rfl rfl, rfl, hj.regs⟩

/-- LOAD_CMD 2 makes Meridian time LOAD_VALUE at once (03, R93). -/
theorem exec_loadCmdNow {s : State} {rq : Req} {t : Nat} (h : s.takes rq 0x0900 0x0E 0 [2] Env.calm t = true) :
    ∃ u, exec (.loadCmdNow rq t) s = .next u ∧
      u.now = s.reg80 0x0900 0x0D ∧
      u.reg 0x0900 0x0F = s.reg 0x0900 0x0F + 1 ∧
      s.answered u 3 0x0900 0x0E rq.src 2 t ∧
      u = { (s.at t).endCmd rq.src 0x0900 0x0E 0 0 with
        regs := u.regs, alm := u.alm, reply := u.reply, log := u.log, agenda := u.agenda, sync := { s.sync with past := u.sync.past } } ∧
      SameOutside s u (fun i => i == 0x0900 || i == 0x0400 || i == 0x0500 || (0x0920 ≤ i && i < 0x0960)) := by
  obtain ⟨j, hj, hexec⟩ := exec_of_loadCmd (c := .loadCmdNow rq t) rfl h
  have hcmd : j.loadCommand rq.src (2 : Word).toNat = j.loadTime.endCmd rq.src 0x0900 0x0E 0 0 := rfl
  have hnow := j.now_loadTime
  have hstep : j.Stepped j.loadTime _ := j.timeStep_stepped _
  rw [hcmd] at hexec
  generalize j.loadTime = w at hexec hnow hstep
  have hframe : w = { s.at t with
      regs := w.regs, alm := j.alm, agenda := w.agenda, log := w.log, sync := { s.sync with past := w.sync.past } } := by
    rw [hstep.frame, hj.frame]
    rfl
  have houtside : SameOutside s w (fun i => i == 0x0900 || i == 0x0400 || i == 0x0500 || (0x0920 ≤ i && i < 0x0960)) :=
    SameOutside.trans (t := j) (SameRegs.outside hj.regs (by decide)) (hstep.regs.mono (by simp [movedByStep]; omega))
  refine ⟨_, hexec (by rw [State.moves, hframe]; rfl) ?_, ?_, ?_, ?_, ?_, houtside⟩
  · exact houtside.reg (by decide) (by decide) (by decide)
  · exact hnow.trans (hj.reg80 (by decide) (by decide))
  · exact hstep.count.trans (congrArg (· + 1) (hj.reg (by decide) (by decide) (by decide)))
  · exact hj.answered (by rw [hframe]; rfl) (hstep.regs.reg (by decide) (by decide) (by decide))
  · rw [hframe]
    rfl

/-! ## SYNC_IN (03, R92, R93) -/

/-- Commands that end together, each with the same result and code, beside their source. -/
def State.endAll (s : State) (loads : List (Word × Nat)) (code : Nat) : State := loads.foldl (fun s e => s.endCmd e.1 0x0900 0x0E 0 code) s

theorem State.endAll_eq (s : State) (loads : List (Word × Nat)) (code : Nat) :
    s.endAll loads code = { s with cmdStat := (s.endAll loads code).cmdStat } :=
  State.foldl_rel (R := fun s u => u = { s with cmdStat := u.cmdStat }) (fun _ => rfl) (fun h h' => by rw [h', h]) loads (fun _ _ _ => rfl) s

theorem State.cmdStatus_endCmd_same (s : State) (src : Word) (i sub result code : Nat) :
    (s.endCmd src i sub result code).cmdStatus src i sub = cmdStatusWord false result code := SMap.get_set_same ..

/-- Each of the sources finds the command ended with the code. -/
theorem State.endAll_status (s : State) (loads : List (Word × Nat)) (code : Nat) {e : Word × Nat}
    (he : e ∈ loads ∨ s.cmdStatus e.1 0x0900 0x0E = cmdStatusWord false 0 code) :
    (s.endAll loads code).cmdStatus e.1 0x0900 0x0E = cmdStatusWord false 0 code := by
  induction loads generalizing s with
  | nil => exact he.resolve_left (by simp)
  | cons x loads ih =>
    refine ih (s.endCmd x.1 0x0900 0x0E 0 code) ?_
    rcases he with he | he
    · rcases List.mem_cons.mp he with rfl | he
      · exact .inr (State.cmdStatus_endCmd_same ..)
      · exact .inl he
    · right
      have hset : (s.endCmd x.1 0x0900 0x0E 0 code).cmdStatus e.1 0x0900 0x0E =
          if cmdKey x.1 0x0900 0x0E = cmdKey e.1 0x0900 0x0E then cmdStatusWord false 0 code else s.cmdStatus e.1 0x0900 0x0E :=
        SMap.get_set ..
      rw [hset, he, ite_self]

/-- SYNC_IN_LAST takes the present Meridian time, and source 0x2008 occurs. -/
def State.stampSyncIn (s : State) : State := (s.setReg80 0x0900 0x10 s.now).raiseEvent 0x2008 s.now

theorem State.stampSyncIn_eq (s : State) :
    s.stampSyncIn = { s.setReg80 0x0900 0x10 s.now with
      agenda := s.agenda ++ (s.linesOf 0x2008).map (fun n => .eventOccurrence (Fin.ofNat 512 n) s.now false) } := by
  have hlines : (s.setReg80 0x0900 0x10 s.now).linesOf 0x2008 = s.linesOf 0x2008 := by
    unfold State.setReg80
    rw [State.linesOf_setRegW _ _ _ _ _ _ (by decide) (by decide) (by decide), State.linesOf_setRegW _ _ _ _ _ _ (by decide) (by decide) (by decide)]
  rw [State.stampSyncIn, State.raiseEvent_eq, hlines]
  rfl

theorem State.stampSyncIn_moved (s : State) : s.stampSyncIn = { s with regs := s.stampSyncIn.regs, agenda := s.stampSyncIn.agenda } := by
  rw [State.stampSyncIn_eq]
  rfl

theorem State.stampSyncIn_regs (s : State) : SameRegs s s.stampSyncIn [odKey 0x0900 0x10 0, odKey 0x0900 0x10 1] := by
  rw [State.stampSyncIn_eq]
  exact SameRegs.setReg80 s 0x0900 0x10 s.now

theorem State.stampSyncIn_last (s : State) : s.stampSyncIn.reg80 0x0900 0x10 = s.now := by
  rw [State.stampSyncIn_eq]
  exact State.reg80_setReg80_same s 0x0900 0x10 s.now

theorem State.now_stampSyncIn (s : State) : s.stampSyncIn.now = s.now := by
  have hclock : s.stampSyncIn.clock = s.clock := by rw [State.stampSyncIn_moved]
  simp only [State.now, State.localMt, State.offset, State.reg80, hclock]
  rw [s.stampSyncIn_regs.reg _ _ _ (by decide), s.stampSyncIn_regs.reg _ _ _ (by decide)]

/-- No load is armed any more. -/
def State.disarm (s : State) : State := { s with sync := { s.sync with loads := [] } }

theorem State.disarm_of_nil {s : State} (h : s.sync.loads = []) : s.disarm = s := by
  unfold State.disarm
  rw [← h]

/-- An edge of SYNC_IN: loads take effect and end, then it is stamped (03, R92, R93). -/
def State.syncInEdge (s : State) : State :=
  ((s.when (!s.sync.loads.isEmpty) State.loadTime).disarm.endAll s.sync.loads 0).stampSyncIn

/-- An edge of SYNC_IN with no load armed (03, R92). -/
theorem exec_syncInEdge_unarmed {s : State} {t : Nat} (h : s.sync.loads = []) :
    ∃ u, exec (.syncInEdge t) s = .next u ∧
      u.reg80 0x0900 0x10 = (s.at t).now ∧
      u = { s.at t with regs := u.regs, agenda := s.agenda ++ (s.linesOf 0x2008).map (fun n => .eventOccurrence (Fin.ofNat 512 n) (s.at t).now false) } ∧
      SameRegs s u [odKey 0x0900 0x10 0, odKey 0x0900 0x10 1] := by
  have hframe := (s.at t).stampSyncIn_eq
  have hregs := (s.at t).stampSyncIn_regs
  refine ⟨(s.at t).stampSyncIn, ?_, (s.at t).stampSyncIn_last, by rw [hframe]; rfl, hregs⟩
  change execSyncInEdge t s = _
  refine State.perform_moves (t := t) (?_ : (s.at t).syncInEdge = _) (by rw [State.moves, hframe]; rfl) (hregs.reg _ _ _ (by decide))
  have hloads : (s.at t).sync.loads = [] := h
  simp only [State.syncInEdge, hloads, List.isEmpty_nil, Bool.not_true, State.when_false, State.disarm_of_nil hloads]
  rfl

/-- An edge of SYNC_IN steps Meridian time to LOAD_VALUE when a load is armed, and ends every armed command (03, R93). -/
theorem exec_syncInEdge_armed {s : State} {t : Nat} (h : s.sync.loads ≠ []) :
    ∃ u, exec (.syncInEdge t) s = .next u ∧
      u.now = s.reg80 0x0900 0x0D ∧
      u.reg80 0x0900 0x10 = s.reg80 0x0900 0x0D ∧
      (∀ e ∈ s.sync.loads, u.cmdStatus e.1 0x0900 0x0E = 0) ∧
      u = { s.at t with
        regs := u.regs, agenda := u.agenda, log := u.log, cmdStat := u.cmdStat, sync := { s.sync with loads := [], past := u.sync.past } } ∧
      SameOutside s u movedByStep := by
  have hnow := (s.at t).now_loadTime
  have hstep : (s.at t).Stepped (s.at t).loadTime _ := State.timeStep_stepped _ _
  have hedge : (s.at t).syncInEdge = ((s.at t).loadTime.disarm.endAll s.sync.loads 0).stampSyncIn := by
    have hloads : s.sync.loads.isEmpty = false := by simpa using h
    simp only [State.syncInEdge, State.at_sync, hloads, Bool.not_false, State.when_true]
  generalize (s.at t).loadTime = w at hnow hstep hedge
  have hend := w.disarm.endAll_eq s.sync.loads 0
  have hnow' : (w.disarm.endAll s.sync.loads 0).now = s.reg80 0x0900 0x0D := by
    rw [hend]
    exact hnow
  have hstatus {e : Word × Nat} (he : e ∈ s.sync.loads) := w.disarm.endAll_status s.sync.loads 0 (.inl he)
  generalize w.disarm.endAll s.sync.loads 0 = b at hend hnow' hstatus hedge
  have hframe : b.stampSyncIn = { s.at t with
      regs := b.stampSyncIn.regs, agenda := b.stampSyncIn.agenda, log := w.log, cmdStat := b.cmdStat
      sync := { s.sync with loads := [], past := w.sync.past } } := by
    rw [State.stampSyncIn_moved, hend, hstep.frame]
    rfl
  have hregs : SameOutside (s.at t) b movedByStep := by
    rw [hend]
    exact hstep.regs
  have houtside := hregs.trans (SameRegs.outside b.stampSyncIn_regs (by decide))
  refine ⟨b.stampSyncIn, ?_, b.now_stampSyncIn.trans hnow', b.stampSyncIn_last.trans hnow', fun e he => ?_, by rw [hframe], houtside⟩
  · change execSyncInEdge t s = _
    exact State.perform_moves (t := t) hedge (by rw [State.moves, hframe]) (houtside.reg (by decide) (by decide) (by decide))
  · rw [hframe]
    exact hstatus he

/-- A load armed for 1 s ends with 0x0053 (03, R93). -/
theorem exec_loadCmdTimeout (s : State) (t : Nat) :
    ∃ u, exec (.loadCmdTimeout t) s = .next u ∧
      (∀ e ∈ s.sync.loads, e.2 + msEt 1000 ≤ (s.at t).clock → u.cmdStatus e.1 0x0900 0x0E = cmdStatusWord false 0 0x0053) ∧
      u = { s.at t with
        cmdStat := u.cmdStat
        sync := { s.sync with loads := s.sync.loads.filter (fun e => (s.at t).clock < e.2 + msEt 1000) } } := by
  let kept : State := { s.at t with sync := { s.sync with loads := s.sync.loads.filter (fun e => (s.at t).clock < e.2 + msEt 1000) } }
  have hend := kept.endAll_eq (s.sync.loads.filter (fun e => e.2 + msEt 1000 ≤ (s.at t).clock)) 0x0053
  refine ⟨_, ?_, fun e he hdue => kept.endAll_status (s.sync.loads.filter (fun e => e.2 + msEt 1000 ≤ (s.at t).clock)) 0x0053 (.inl ?_), hend⟩
  · change execLoadCmdTimeout t s = _
    exact State.perform_moves (t := t) rfl (by rw [State.moves, hend]) (by rw [hend]; rfl)
  · simp [he, hdue]

/-- Settles O6, from a rule for each of the six steps; those that step Meridian time rest on `State.timeStep_stepped`. -/
theorem meridianModeAndLoads : Obligations.MeridianModeAndLoads := by
  unfold Obligations.MeridianModeAndLoads
  exact ⟨fun s rq v t h => exec_modeWrite h, fun s rq t h => exec_loadCmdAtSyncIn h, fun s rq t h => exec_loadCmdNow h,
    fun s t h => exec_syncInEdge_unarmed h, fun s t h => exec_syncInEdge_armed h, fun s t => exec_loadCmdTimeout s t⟩

end Sys2Proof.Machine

namespace Sys2Proof.Machine

/-! ## Frames for the ports (12) -/

/-- A state that moved at most the ports of the links. -/
def State.portsMoved (s u : State) : Prop := u = { s with halo := { s.halo with ports := u.halo.ports } }

theorem State.portsMoved.refl (s : State) : s.portsMoved s := rfl

theorem State.portsMoved.trans {s u v : State} (h : s.portsMoved u) (h' : u.portsMoved v) : s.portsMoved v := by
  unfold State.portsMoved at *
  rw [h', h]

theorem State.portsMoved.moves {s u : State} (h : s.portsMoved u) : s.moves u := by
  unfold State.portsMoved State.moves at *
  rw [h]

theorem State.portsMoved.regs {s u : State} (h : s.portsMoved u) : u.regs = s.regs := by
  rw [h]

theorem State.portsMoved.reg {s u : State} (h : s.portsMoved u) (i j w : Nat) : u.reg i j w = s.reg i j w := by
  rw [State.reg, h.regs, State.reg]

theorem State.portsMoved.sync {s u : State} (h : s.portsMoved u) : u.sync = s.sync := by
  rw [h]

theorem State.egress_portsMoved (s : State) (inp : Option Nat) (p : Nat) (f : Frame) (b : Bool) : s.portsMoved (s.egress inp p f b) := rfl

theorem State.freeBuffer_portsMoved (s : State) (p : Nat) (vc : Bool) : s.portsMoved (s.freeBuffer p vc) := rfl

/-- Forwarding a broadcast moves the ports alone (12, R363). -/
theorem State.broadcastOn_portsMoved (s : State) (inp : Option Nat) (f : Frame) : s.portsMoved (s.broadcastOn inp f) :=
  State.repeat_rel State.portsMoved.refl State.portsMoved.trans 4
    (fun p _ s => State.when_rel State.portsMoved.refl s _ (fun _ => s.egress_portsMoved inp p f _)) s

/-- On each of the first `n` ports that `c` picks a frame leaves this device. -/
def State.sendOn (s : State) (c : Nat → Bool) (g : Nat → Frame) (n : Nat) : State :=
  s.repeat n (fun p s => s.when (c p) (fun s => s.egress none p (g p)))

theorem State.repeat_succ (s : State) (n : Nat) (f : Nat → State → State) : s.repeat (n + 1) f = f n (s.repeat n f) := by
  simp [State.repeat, List.range_succ]

theorem State.sendOn_succ (s : State) (c : Nat → Bool) (g : Nat → Frame) (n : Nat) :
    s.sendOn c g (n + 1) = (s.sendOn c g n).when (c n) (fun s => s.egress none n (g n)) := s.repeat_succ n _

theorem State.sendOn_portsMoved (s : State) (c : Nat → Bool) (g : Nat → Frame) (n : Nat) : s.portsMoved (s.sendOn c g n) :=
  State.repeat_rel State.portsMoved.refl State.portsMoved.trans n
    (fun p _ s => State.when_rel State.portsMoved.refl s _ (fun _ => s.egress_portsMoved none p (g p) _)) s

/-- A loop over the ports whose choice and frames do not follow the ports. -/
theorem State.repeat_eq_sendOn {s : State} {f : Nat → State → State} {c : Nat → Bool} {g : Nat → Frame}
    (hf : ∀ p x, s.portsMoved x → f p x = x.when (c p) (fun s => s.egress none p (g p))) (n : Nat) : s.repeat n f = s.sendOn c g n := by
  induction n with
  | zero => rfl
  | succ n ih => rw [State.repeat_succ, ih, State.sendOn_succ, hf n _ (s.sendOn_portsMoved c g n)]

/-- Ports without a frame of their own are as they were. -/
theorem State.sendOn_other (s : State) (c : Nat → Bool) (g : Nat → Frame) (n : Nat) {p : Nat} (h : c p = false ∨ n ≤ p) :
    (s.sendOn c g n).port p = s.port p := by
  induction n with
  | zero => rfl
  | succ n ih =>
    rw [State.sendOn_succ]
    have hprev := ih (h.imp_right (by omega))
    cases hc : c n with
    | false => exact hprev
    | true =>
      have hne : n ≠ p := by
        rintro rfl
        rcases h with h | h
        · simp [hc] at h
        · omega
      exact (State.egress_other _ _ _ _ hne).trans hprev

/-- The VC of a frame of this device is 1 on a DATELINE port, else 0 (12, R362; log entry 78). -/
theorem State.vcFor_none (s : State) (p : Nat) (f : Frame) : s.vcFor none p f = s.regB (0x1110 + p) 0x04 := by
  unfold State.vcFor
  cases s.regB (0x1110 + p) 0x04 <;> rfl

/-- The frame that each picked port gets. -/
theorem State.sendOn_port (s : State) (c : Nat → Bool) (g : Nat → Frame) (n : Nat) {p : Nat} (hp : p < n) (hc : c p = true) :
    ((s.sendOn c g n).port p).txq =
      (s.port p).txq ++ [⟨frameClass (g p).ty.toNat, { g p with vc := s.regB (0x1110 + p) 0x04 }, none, none⟩] := by
  induction n with
  | zero => omega
  | succ n ih =>
    rw [State.sendOn_succ]
    by_cases hpn : p = n
    · subst hpn
      rw [hc, State.when_true, State.egress_port, State.vcFor_none, s.sendOn_other c g p (.inr le_rfl), s.sendOn_portsMoved c g p]
      rfl
    · refine Eq.trans ?_ (ih (by omega))
      cases c n with
      | false => rfl
      | true => exact congrArg _ (State.egress_other _ _ _ _ (Ne.symm hpn))

/-! ## Sync frames and pulses (03, R83, R87, R94) -/

/-- Whether a port can carry time frames depends on the objects alone. -/
theorem State.syncPort_of_regs {s u : State} (h : u.regs = s.regs) (p : Nat) : u.syncPort p = s.syncPort p := by
  have hu : u.syncPort p = ({ s with regs := u.regs } : State).syncPort p := rfl
  rw [hu, h]

/-- The next SYNC or DELAY sequence number is taken. -/
def State.nextSeq (s : State) : State := { s with sync := { s.sync with seq := s.sync.seq + 1 } }

/-- The SYNC frame that a master sends next. -/
def State.nextSync (s : State) : Frame :=
  mkFrame 6 0xFFFFFE s.ownDevice [wd (s.ownDevice * 65536), 0, 0, 0, wd (s.sync.seq + 1).toNat]

/-- A master sends SYNC on every sync port (03, R83). -/
theorem exec_syncSend {s : State} {t : Nat} (h : s.syncMode = 1) :
    ∃ u, exec (.syncSend t) s = .next u ∧
      (∀ p < 4, s.syncPort p = true → (u.port p).txq = (s.port p).txq ++
        [⟨2, { mkFrame 6 0xFFFFFE s.ownDevice [wd (s.ownDevice * 65536), 0, 0, 0, wd (s.sync.seq + 1).toNat] with vc := s.regB (0x1110 + p) 0x04 }, none, none⟩]) ∧
      (∀ p < 4, s.syncPort p = false → u.port p = s.port p) ∧
      u = { s.at t with sync := { s.sync with seq := s.sync.seq + 1 }, halo := u.halo } := by
  have hmoved := (s.at t).nextSeq.sendOn_portsMoved s.syncPort (fun _ => s.nextSync) 4
  refine ⟨(s.at t).nextSeq.sendOn s.syncPort (fun _ => s.nextSync) 4, ?_, fun p hp hs => ?_, fun p _ hs => ?_, ?_⟩
  · change execSyncSend t s = _
    refine State.perform_moves (t := t) ?_ hmoved.moves (hmoved.reg _ _ _)
    rw [State.tick_posted_nil]
    simp only [State.at_syncMode, h, ne_eq, not_true_eq_false, if_false]
    refine State.repeat_eq_sendOn (s := (s.at t).nextSeq) (fun p x hx => ?_) 4
    have hport : x.syncPort p = s.syncPort p := State.syncPort_of_regs hx.regs p
    have hown : x.ownDevice = s.ownDevice := congrArg BitVec.toNat (hx.reg _ _ _)
    have hseq : x.sync.seq = s.sync.seq + 1 := congrArg SyncSt.seq hx.sync
    simp only [State.when, hport, hown, hseq, State.nextSync]
  · exact (s.at t).nextSeq.sendOn_port s.syncPort (fun _ => s.nextSync) 4 hp hs
  · exact (s.at t).nextSeq.sendOn_other _ _ 4 (.inl hs)
  · rw [hmoved]
    rfl

/-- A frame of this device on one port. -/
theorem State.egress_own_port (s : State) (p : Nat) (f : Frame) :
    ((s.egress none p f).port p).txq = (s.port p).txq ++ [⟨frameClass f.ty.toNat, { f with vc := s.regB (0x1110 + p) 0x04 }, none, none⟩] := by
  rw [State.egress_port, State.vcFor_none]
  rfl

/-- A port asks for its delay (03, R87). -/
theorem exec_delayReqSend {s : State} {p : Fin 4} {t : Nat} (h : s.syncPort p = true) :
    ∃ u, exec (.delayReqSend p t) s = .next u ∧
      (u.port p).txq = (s.port p).txq ++
        [⟨2, { mkFrame 7 0xFFFFFE s.ownDevice [wd (s.sync.seq + 1).toNat, 0, 0] with vc := s.regB (0x1110 + p) 0x04 }, none, none⟩] ∧
      (∀ q, q ≠ p.val → u.port q = s.port q) ∧
      u = { s.at t with sync := { s.sync with seq := s.sync.seq + 1 }, halo := u.halo } := by
  let b : State := { s.at t with sync := { s.sync with seq := s.sync.seq + 1 } }
  let f : Frame := mkFrame 7 0xFFFFFE s.ownDevice [wd (s.sync.seq + 1).toNat, 0, 0]
  refine ⟨b.egress none p f, ?_, b.egress_own_port p f, fun q hq => b.egress_other none f false (Ne.symm hq), rfl⟩
  change execDelayReqSend p t s = _
  refine State.perform_moves (t := t) ?_ rfl rfl
  rw [State.tick_posted_nil]
  simp only [State.at_syncPort, h, if_true]
  rfl

/-- A port answers a delay request (03, R87). -/
theorem exec_delayReqRx {s : State} {p : Fin 4} {f : Frame} {t : Nat} (h : s.syncPort p = true) (hf : f.ty = 7) :
    ∃ u, exec (.delayReqRx p f t) s = .next u ∧
      (u.port p).txq = (s.port p).txq ++
        [⟨2, { mkFrame 8 0xFFFFFE s.ownDevice [fpay f 0, loWord (s.at t).now, hiWord (s.at t).now, 0, 0] with vc := s.regB (0x1110 + p) 0x04 }, none, none⟩] ∧
      (∀ q, q ≠ p.val → u.port q = s.port q) ∧
      u = { s.at t with halo := u.halo } := by
  let r : Frame := mkFrame 8 0xFFFFFE s.ownDevice [fpay f 0, loWord (s.at t).now, hiWord (s.at t).now, 0, 0]
  refine ⟨(s.at t).egress none p r, ?_, (s.at t).egress_own_port p r, fun q hq => (s.at t).egress_other none r false (Ne.symm hq), rfl⟩
  change execDelayReqRx p f t s = _
  refine State.perform_moves (t := t) ?_ rfl rfl
  rw [State.tick_posted_nil]
  simp only [State.at_syncPort, h, hf, decide_true, Bool.and_self, State.when_true]
  rfl

/-- SYNC_OUT rises at a multiple of SYNC_OUT_PERIOD that no step has just reached (03, R94). -/
theorem exec_syncOutPulse {s : State} {t : Nat} (hp : s.regN 0x0900 0x11 ≠ 0) (hm : (s.at t).now.toNat % s.regN 0x0900 0x11 = 0)
    (hl : s.sync.past.any (fun e => e.step && e.till == (s.at t).localMt) = false) :
    exec (.syncOutPulse t) s = .next { s.at t with sync := { s.sync with syncOut := some ((s.at t).clock + 1280 * 32) } } := by
  change execSyncOutPulse t s = _
  refine State.perform_moves (t := t) ?_ rfl rfl
  have hl' : (s.at t).sync.past.any (fun e => e.step && decide (e.till = (s.at t).localMt)) = false := hl
  rw [State.tick_posted_nil]
  simp only [State.at_regN, hl', hp, hm, ne_eq, not_false_eq_true, and_self, if_true]
  rfl

/-- SYNC_OUT falls when its pulse has lasted (03, R94). -/
theorem exec_syncOutPulseEnd {s : State} {t e : Nat} (he : s.sync.syncOut = some e) (hd : e ≤ (s.at t).clock) :
    exec (.syncOutPulseEnd t) s = .next { s.at t with sync := { s.sync with syncOut := none } } := by
  change execSyncOutPulseEnd t s = _
  refine State.perform_moves (t := t) ?_ rfl rfl
  rw [State.tick_posted_nil]
  simp only [State.at_sync, he, if_pos hd]

/-- Settles O7, from a rule for each step; a master's frames on all ports rest on `State.repeat_eq_sendOn`. -/
theorem syncFramesAndPulses : Obligations.SyncFramesAndPulses := by
  unfold Obligations.SyncFramesAndPulses
  exact ⟨fun s t h => exec_syncSend h, fun s p t h => exec_delayReqSend h, fun s p f t h hf => exec_delayReqRx h hf,
    fun s t hp hm hl => exec_syncOutPulse hp hm hl, fun s t e he hd => exec_syncOutPulseEnd he hd⟩

end Sys2Proof.Machine

namespace Sys2Proof.Machine

/-! ## A slave and its master (03, R83 to R90) -/

section Follow

variable (s : State) (p : Nat) (f : Frame) (est : U80)

/-- HOPS and MASTER_DEVICE follow a frame (03, R88). -/
def State.reportFrame : State :=
  (s.setRegN 0x0900 0x06 (min 255 (fld (fpay f 0) 8 8 + 1))).setRegN 0x0900 0x08 (fld (fpay f 0) 16 24)

theorem State.reportFrame_moved : s.regsMoved (s.reportFrame f) := (State.regsMoved.setRegN s _ _ _).trans (State.regsMoved.setRegN _ _ _ _)

theorem State.reportFrame_regs : SameRegs s (s.reportFrame f) [odKey 0x0900 0x06 0, odKey 0x0900 0x08 0] :=
  (SameRegs.setRegN s 0x0900 0x06 _).trans (SameRegs.setRegN _ 0x0900 0x08 _)

theorem State.reportFrame_hops : (s.reportFrame f).reg 0x0900 0x06 = wd (min 255 (fld (fpay f 0) 8 8 + 1)) :=
  ((SameRegs.setRegN _ 0x0900 0x08 _).reg _ _ _ (by decide)).trans (State.reg_setRegN_same ..)

theorem State.reportFrame_master : (s.reportFrame f).reg 0x0900 0x08 = wd (fld (fpay f 0) 16 24) := State.reg_setRegN_same ..

/-- The estimate of a frame is kept, and what the slave reports follows it. -/
def State.keepEstimate : State := ({ s with sync := { s.sync with est := est, lastSync := s.clock } } : State).reportFrame f

theorem State.keepEstimate_eq :
    s.keepEstimate f est = { s with regs := (s.keepEstimate f est).regs, sync := { s.sync with est := est, lastSync := s.clock } } :=
  State.reportFrame_moved _ f

theorem State.keepEstimate_regs : SameRegs s (s.keepEstimate f est) [odKey 0x0900 0x06 0, odKey 0x0900 0x08 0] :=
  State.reportFrame_regs { s with sync := { s.sync with est := est, lastSync := s.clock } } f

theorem State.keepEstimate_syncState : (s.keepEstimate f est).syncState = s.syncState :=
  congrArg BitVec.toNat ((s.keepEstimate_regs f est).reg _ _ _ (by decide))

theorem State.keepEstimate_hops : (s.keepEstimate f est).reg 0x0900 0x06 = wd (min 255 (fld (fpay f 0) 8 8 + 1)) := State.reportFrame_hops _ f

theorem State.keepEstimate_master : (s.keepEstimate f est).reg 0x0900 0x08 = wd (fld (fpay f 0) 16 24) := State.reportFrame_master _ f

/-- What a LOCKED slave does with an estimate within the step threshold (03, R88 to R90). -/
structure State.Follows (s u : State) (f : Frame) (est : U80) : Prop where
  frame : u = { s with regs := u.regs, sync := { s.sync with est := est, lastSync := s.clock, deferred := false } }
  hops : u.reg 0x0900 0x06 = wd (min 255 (fld (fpay f 0) 8 8 + 1))
  bound : u.reg 0x0900 0x07 = boundBelow (fpay f 3)
  master : u.reg 0x0900 0x08 = wd (fld (fpay f 0) 16 24)
  regs : SameRegs s u [odKey 0x0900 0x06 0, odKey 0x0900 0x07 0, odKey 0x0900 0x08 0]

theorem State.followFrame_locked (hst : s.syncState = 4) (hnear : (diff80 est s.offset).natAbs ≤ s.regN 0x0900 0x0B) :
    s.Follows (s.followFrame p f est) f est := by
  have hset := SameRegs.setReg (s.keepEstimate f est) 0x0900 0x07 (boundBelow (fpay f 3))
  have hregs := (s.keepEstimate_regs f est).trans hset
  have hst' := (s.keepEstimate_syncState f est).trans hst
  have hoff : ((s.keepEstimate f est).setReg 0x0900 0x07 (boundBelow (fpay f 3))).offset = s.offset := by
    unfold State.offset State.reg80
    rw [hregs.reg _ _ _ (by decide), hregs.reg _ _ _ (by decide)]
  have hthr : ((s.keepEstimate f est).setReg 0x0900 0x07 (boundBelow (fpay f 3))).regN 0x0900 0x0B = s.regN 0x0900 0x0B :=
    congrArg BitVec.toNat (hregs.reg _ _ _ (by decide))
  have hsync : ((s.keepEstimate f est).setReg 0x0900 0x07 (boundBelow (fpay f 3))).sync = { s.sync with est := est, lastSync := s.clock } :=
    congrArg State.sync (s.keepEstimate_eq f est)
  have hu : s.followFrame p f est =
      { (s.keepEstimate f est).setReg 0x0900 0x07 (boundBelow (fpay f 3)) with
        sync := { s.sync with est := est, lastSync := s.clock, deferred := false } } := by
    unfold State.followFrame
    extract_lets +onlyGivenNames hops sync s1 s2 k
    have hk : k = s.keepEstimate f est := rfl
    clear_value k
    subst hk
    simp only [hst', hoff, hthr, if_pos hnear, hsync]
    rfl
  rw [hu]
  refine ⟨?_, ?_, State.reg_setReg_same .., ?_, hregs.mono (by decide)⟩
  · rw [State.keepEstimate_eq]
    rfl
  · exact (hset.reg _ _ _ (by decide)).trans (s.keepEstimate_hops f est)
  · exact (hset.reg _ _ _ (by decide)).trans (s.keepEstimate_master f est)

/-- What an UNSYNCED slave, or one in HOLDOVER, does with its first estimate (03, table of sync states). -/
structure State.Acquires (s u : State) (p : Nat) (est : U80) : Prop where
  frame : u = { s with regs := u.regs, sync := { s.sync with
    est := est, lastSync := s.clock, ests := [est], frames := 1, upstream := some p, better := [], deferred := false } }
  state : u.syncState = 3
  bound : u.reg 0x0900 0x07 = 0xFFFFFFFFFF
  regs : SameRegs s u [odKey 0x0900 0x04 0, odKey 0x0900 0x06 0, odKey 0x0900 0x07 0, odKey 0x0900 0x08 0]

theorem State.followFrame_acquires (hst : s.syncState = 2 ∨ s.syncState = 5) : s.Acquires (s.followFrame p f est) p est := by
  have hst' := s.keepEstimate_syncState f est
  have hu : s.followFrame p f est = (s.keepEstimate f est).acquire p est := by
    unfold State.followFrame
    extract_lets +onlyGivenNames hops sync s1 s2 k
    have hk : k = s.keepEstimate f est := rfl
    clear_value k
    subst hk
    rcases hst with hst | hst <;> simp only [hst', hst]
  have hkeep := s.keepEstimate_eq f est
  have hkregs := s.keepEstimate_regs f est
  rw [hu]
  generalize s.keepEstimate f est = k at hkeep hkregs
  obtain ⟨b, hb, hacq⟩ : ∃ b : State, b = { k with sync := { k.sync with ests := [est], frames := 1, upstream := some p, better := [], deferred := false } } ∧
      k.acquire p est = (b.setRegN 0x0900 0x04 3).setRegN 0x0900 0x07 0xFFFFFFFFFF := ⟨_, rfl, rfl⟩
  have hstate := SameRegs.setRegN b 0x0900 0x04 3
  have hbound := SameRegs.setRegN (b.setRegN 0x0900 0x04 3) 0x0900 0x07 0xFFFFFFFFFF
  rw [hacq]
  refine ⟨?_, ?_, State.reg_setRegN_same .., ?_⟩
  · rw [hb, hkeep]
    rfl
  · exact congrArg BitVec.toNat ((hbound.reg _ _ _ (by decide)).trans (State.reg_setRegN_same ..))
  · exact (hkregs.trans ((SameRegs.of_eq [] (by rw [hb])).trans (hstate.trans hbound))).mono (by decide)

theorem State.forwardSync_portsMoved : s.portsMoved (s.forwardSync p f) := by
  unfold State.forwardSync
  dsimp only
  split
  · exact State.portsMoved.refl s
  · exact State.repeat_rel State.portsMoved.refl State.portsMoved.trans 4
      (fun q _ s => State.when_rel State.portsMoved.refl s _ (fun _ => s.egress_portsMoved none q _ _)) s

/-- The master of a frame. -/
def frameMaster : Nat := fld (fpay f 0) 16 24

/-- A sync frame of a port is noted: its hops, its master, and that the master is heard (03, R84, R86). -/
def State.noted : State :=
  ((s.setRegN (0x0904 + p) 0x03 (fld (fpay f 0) 8 8)).setRegN (0x0904 + p) 0x04 (frameMaster f)).hear p (frameMaster f)

/-- The objects that a noted frame moves. -/
def notedKeys : List Nat := [odKey (0x0904 + p) 0x03 0, odKey (0x0904 + p) 0x04 0]

theorem State.noted_regs : SameRegs s (s.noted p f) (notedKeys p) := by
  have h := (SameRegs.setRegN s (0x0904 + p) 0x03 (fld (fpay f 0) 8 8)).trans (SameRegs.setRegN _ (0x0904 + p) 0x04 (frameMaster f))
  exact fun k hk => h k hk

/-- A noted frame leaves the objects of Meridian time, of the port's link, and the rest of the sync port's. -/
theorem State.noted_reg {i j : Nat} (h : ¬ (i = 0x0904 + p ∧ (j = 3 ∨ j = 4))) (hj : j < 256) (w : Nat) (hw : w < 134217728) :
    (s.noted p f).reg i j w = s.reg i j w :=
  (s.noted_regs p f).reg _ _ _ (by simp [notedKeys, odKey]; omega)

theorem State.noted_syncMode : (s.noted p f).syncMode = s.syncMode :=
  congrArg BitVec.toNat (s.noted_reg p f (by omega) (by decide) 0 (by decide))

theorem State.noted_offset : (s.noted p f).offset = s.offset := by
  unfold State.offset State.reg80
  rw [s.noted_reg p f (by omega) (by decide) _ (by decide), s.noted_reg p f (by omega) (by decide) _ (by decide)]

/-- Noting a frame leaves whether its port is eligible (03, R84). -/
theorem State.noted_eligible (hp : p < 4) : (s.noted p f).eligible p = s.eligible p := by
  unfold State.eligible State.syncPort State.portState State.regB State.regN
  rw [s.noted_reg p f (by omega) (by decide) _ (by decide), s.noted_reg p f (by omega) (by decide) _ (by decide),
    s.noted_reg p f (by omega) (by decide) _ (by decide), s.noted_reg p f (by omega) (by decide) _ (by decide)]

/-- When every master heard of late is the frame's, no other master is heard (03, R86). -/
theorem State.noted_others (hm : ∀ e ∈ s.mastersHeard, e.2.1 = frameMaster f) :
    (s.noted p f).sync.heard.filter (fun e => e.2.1 ≠ frameMaster f) = [] := by
  have hreg : ((s.setRegN (0x0904 + p) 0x03 (fld (fpay f 0) 8 8)).setRegN (0x0904 + p) 0x04 (frameMaster f)).regN 0x0900 0x09 = s.regN 0x0900 0x09 :=
    congrArg BitVec.toNat (s.noted_reg p f (by omega) (by decide) 0 (by decide))
  have hheard : ((s.setRegN (0x0904 + p) 0x03 (fld (fpay f 0) 8 8)).setRegN (0x0904 + p) 0x04 (frameMaster f)).mastersHeard = s.mastersHeard := by
    unfold State.mastersHeard
    rw [hreg]
    rfl
  simp only [State.noted, State.hear, hheard, List.filter_eq_nil_iff, List.mem_append, List.mem_filter, List.mem_singleton]
  rintro e (⟨he, -⟩ | rfl)
  · simp [hm e he]
  · simp

end Follow

/-- The estimate of OFFSET that a SYNC frame of a port gives (03, R88), with the port's path delay (log entry 45). -/
def State.estimate (s : State) (p : Nat) (f : Frame) : U80 :=
  u80 (fpay f 1) (fpay f 2) + BitVec.ofNat 80 ((s.regN (0x0904 + p) 0x02 * 128 + 500) / 1000) - BitVec.ofNat 80 s.localMt

theorem State.chooseUpstream_same {s : State} {p : Nat} (h : s.sync.upstream = some p) : s.chooseUpstream p = s := by
  simp [State.chooseUpstream, h]

theorem State.chooseUpstream_none {s : State} {p : Nat} (h : s.sync.upstream = none) : s.chooseUpstream p = s.setUpstream p := by
  simp [State.chooseUpstream, h]

/-- Noting a frame leaves the estimate that the frame gives. -/
theorem State.noted_estimate (s : State) (p : Nat) (f : Frame) : (s.noted p f).estimate p f = s.estimate p f := by
  have hreg : (s.noted p f).regN (0x0904 + p) 0x02 = s.regN (0x0904 + p) 0x02 := congrArg BitVec.toNat (s.noted_reg p f (by omega) (by decide) 0 (by decide))
  rw [State.estimate, hreg]
  rfl

section Rx

variable {s : State} {p : Fin 4} {f : Frame} {t : Nat} (hty : f.ty = 6) (hport : s.syncPort p = true) (hmode : s.syncMode = 2)
  (helig : s.eligible p = true) (hm : ∀ e ∈ (s.at t).mastersHeard, e.2.1 = frameMaster f)

include hty hport hmode helig hm

/-- A SYNC frame of the slave's master on an eligible port that is followed after it (03, R84, R85). -/
theorem exec_syncRx_followed {k u : State} (hk : ((s.at t).noted p f).chooseUpstream p = k) (hup : k.sync.upstream = some p.val)
    (hu : (k.followFrame p f (k.estimate p f)).forwardSync p f = u) (hmoves : (s.at t).moves u) (hs : u.reg 0x0100 0x00 = s.reg 0x0100 0x00) :
    exec (.syncRx p f t) s = .next u := by
  change execSyncRx p f t s = _
  refine State.perform_moves (t := t) ?_ hmoves hs
  have hnoted : (((s.at t).setRegN (0x0904 + p.val) 0x03 (fld (fpay f 0) 8 8)).setRegN (0x0904 + p.val) 0x04 (fld (fpay f 0) 16 24)).hear p.val
      (fld (fpay f 0) 16 24) = (s.at t).noted p f := rfl
  have hmode' : (((s.at t).setRegN (0x0904 + p.val) 0x03 (fld (fpay f 0) 8 8)).setRegN (0x0904 + p.val) 0x04 (fld (fpay f 0) 16 24)).syncMode = 2 :=
    ((s.at t).noted_syncMode p f).trans hmode
  have helig' : ((s.at t).noted p f).eligible p = true := ((s.at t).noted_eligible p f p.isLt).trans helig
  have hothers : ((s.at t).noted p f).sync.heard.filter (fun e => e.2.1 ≠ fld (fpay f 0) 16 24) = [] := (s.at t).noted_others p f hm
  rw [State.tick_posted_nil]
  simp only [hty, State.at_syncPort, hport, hmode', hnoted, hothers, helig', hk, hup, ne_self_iff_false, Bool.not_true, Bool.false_eq_true,
    or_self, if_false, if_true, OfNat.ofNat_ne_one, List.foldl_nil, List.any_nil]
  exact hu

/-- A LOCKED slave follows a frame whose estimate is within the step threshold (03, R88 to R90). -/
theorem exec_syncRx_locked (hst : s.syncState = 4) (hup : s.sync.upstream = some p.val)
    (hnear : (diff80 ((s.at t).estimate p f) s.offset).natAbs ≤ s.regN 0x0900 0x0B) :
    ∃ u, exec (.syncRx p f t) s = .next u ∧
      u.sync.est = (s.at t).estimate p f ∧
      u.sync.lastSync = (s.at t).clock ∧
      u.reg 0x0900 0x06 = wd (min 255 (fld (fpay f 0) 8 8 + 1)) ∧
      u.reg 0x0900 0x07 = boundBelow (fpay f 3) ∧
      u.reg 0x0900 0x08 = wd (fld (fpay f 0) 16 24) ∧
      u.offset = s.offset ∧
      u.syncState = 4 ∧
      u.sync.upstream = some p.val ∧
      u = { s.at t with regs := u.regs, sync := u.sync, halo := u.halo } ∧
      SameRegs s u (notedKeys p ++ [odKey 0x0900 0x06 0, odKey 0x0900 0x07 0, odKey 0x0900 0x08 0]) := by
  have hchosen : ((s.at t).noted p f).chooseUpstream p = (s.at t).noted p f := State.chooseUpstream_same hup
  have hest := (s.at t).noted_estimate p f
  have hst' : ((s.at t).noted p f).syncState = 4 :=
    (congrArg BitVec.toNat ((s.at t).noted_reg p f (by omega) (by decide) 0 (by decide))).trans hst
  have hthr : ((s.at t).noted p f).regN 0x0900 0x0B = s.regN 0x0900 0x0B :=
    congrArg BitVec.toNat ((s.at t).noted_reg p f (by omega) (by decide) 0 (by decide))
  have hfollow := ((s.at t).noted p f).followFrame_locked p f ((s.at t).estimate p f) hst'
    (by rw [(s.at t).noted_offset, hthr]; exact hnear)
  have hsent := (((s.at t).noted p f).followFrame p f ((s.at t).estimate p f)).forwardSync_portsMoved p f
  have hexec := exec_syncRx_followed hty hport hmode helig hm hchosen hup rfl
  rw [hest] at hexec
  generalize ((s.at t).noted p f).followFrame p f ((s.at t).estimate p f) = w at hfollow hsent hexec
  generalize w.forwardSync p f = u at hsent hexec
  have hregs := (((s.at t).noted_regs p f).trans hfollow.regs).trans (SameRegs.of_eq [] hsent.regs)
  rw [List.append_nil] at hregs
  have hsync : u.sync = { ((s.at t).noted p f).sync with est := (s.at t).estimate p f, lastSync := (s.at t).clock, deferred := false } :=
    hsent.sync.trans (congrArg State.sync hfollow.frame)
  have hframe : u = { s.at t with regs := u.regs, sync := u.sync, halo := u.halo } := by
    rw [hsent, hfollow.frame]
    rfl
  refine ⟨u, hexec (by rw [State.moves, hframe]) (hregs.reg _ _ _ (by simp [notedKeys, odKey]; omega)), by rw [hsync], by rw [hsync],
    (hsent.reg _ _ _).trans hfollow.hops, (hsent.reg _ _ _).trans hfollow.bound, (hsent.reg _ _ _).trans hfollow.master, ?_, ?_, ?_, hframe, hregs⟩
  · unfold State.offset State.reg80
    rw [hregs.reg _ _ _ (by simp [notedKeys, odKey]; omega), hregs.reg _ _ _ (by simp [notedKeys, odKey]; omega)]
    rfl
  · exact (congrArg BitVec.toNat (hregs.reg _ _ _ (by simp [notedKeys, odKey]; omega))).trans hst
  · rw [hsync]
    exact hup

/-- An UNSYNCED slave, or one in HOLDOVER, begins ACQUIRING on the port of a frame (03, R84, R88). -/
theorem exec_syncRx_acquires (hst : s.syncState = 2 ∨ s.syncState = 5) (hup : s.sync.upstream = none) :
    ∃ u, exec (.syncRx p f t) s = .next u ∧
      u.sync.ests = [(s.at t).estimate p f] ∧
      u.sync.upstream = some p.val ∧
      u.syncState = 3 ∧
      u.reg 0x0900 0x07 = 0xFFFFFFFFFF ∧
      u.offset = s.offset ∧
      u = { s.at t with regs := u.regs, sync := u.sync, halo := u.halo } ∧
      SameRegs s u (notedKeys p ++ [odKey 0x0900 0x04 0, odKey 0x0900 0x06 0, odKey 0x0900 0x07 0, odKey 0x0900 0x08 0]) := by
  have hchosen : ((s.at t).noted p f).chooseUpstream p = ((s.at t).noted p f).setUpstream p := State.chooseUpstream_none hup
  have hest : (((s.at t).noted p f).setUpstream p).estimate p f = (s.at t).estimate p f := (s.at t).noted_estimate p f
  have hst' : (((s.at t).noted p f).setUpstream p).syncState = s.syncState :=
    congrArg BitVec.toNat ((s.at t).noted_reg p f (by omega) (by decide) 0 (by decide))
  have hacq := (((s.at t).noted p f).setUpstream p).followFrame_acquires p f ((s.at t).estimate p f) (by rwa [hst'])
  have hsent := ((((s.at t).noted p f).setUpstream p).followFrame p f ((s.at t).estimate p f)).forwardSync_portsMoved p f
  have hexec := exec_syncRx_followed hty hport hmode helig hm hchosen rfl rfl
  rw [hest] at hexec
  generalize (((s.at t).noted p f).setUpstream p).followFrame p f ((s.at t).estimate p f) = w at hacq hsent hexec
  generalize w.forwardSync p f = u at hsent hexec
  have hnoted : SameRegs (s.at t) (((s.at t).noted p f).setUpstream p) (notedKeys p) := (s.at t).noted_regs p f
  have hregs := (hnoted.trans hacq.regs).trans (SameRegs.of_eq [] hsent.regs)
  rw [List.append_nil] at hregs
  have hframe : u = { s.at t with regs := u.regs, sync := u.sync, halo := u.halo } := by
    rw [hsent, hacq.frame]
    rfl
  refine ⟨u, hexec (by rw [State.moves, hframe]) (hregs.reg _ _ _ (by simp [notedKeys, odKey]; omega)), ?_, ?_,
    (congrArg BitVec.toNat (hsent.reg _ _ _)).trans hacq.state, (hsent.reg _ _ _).trans hacq.bound, ?_, hframe, hregs⟩
  · rw [hsent.sync, hacq.frame]
  · rw [hsent.sync, hacq.frame]
  · unfold State.offset State.reg80
    rw [hregs.reg _ _ _ (by simp [notedKeys, odKey]; omega), hregs.reg _ _ _ (by simp [notedKeys, odKey]; omega)]
    rfl

end Rx

end Sys2Proof.Machine

namespace Sys2Proof.Machine

/-! ## Corrections, loss of sync and path delay (03, R87, R90) -/

theorem diff80_eq_zero {a b : U80} : diff80 a b = 0 ↔ a = b := by
  rw [diff80, ← BitVec.toInt_zero (w := 80), BitVec.toInt_inj]
  exact sub_eq_zero

/-- OFFSET moves by 1 mt toward the estimate when no step applies (03, R90). -/
theorem exec_offsetSlew_slews {s : State} {t : Nat} (hst : s.syncState = 4) (hne : s.sync.est ≠ s.offset)
    (hno : (diff80 s.sync.est s.offset).natAbs ≤ s.regN 0x0900 0x0B ∨ s.stepPermitted = false) :
    exec (.offsetSlew t) s = .next ((s.at t).setOffset (if 0 < diff80 s.sync.est s.offset then s.offset + 1 else s.offset - 1) false) := by
  change execOffsetSlew t s = _
  refine State.perform_moves (t := t) ?_ rfl ?_
  · have hd : diff80 s.sync.est s.offset ≠ 0 := mt diff80_eq_zero.mp hne
    have hno' : ¬ (s.regN 0x0900 0x0B < (diff80 s.sync.est s.offset).natAbs ∧ s.stepPermitted = true) := by
      rintro ⟨hfar, hper⟩
      rcases hno with h | h
      · omega
      · simp [hper] at h
    rw [State.tick_posted_nil]
    simp only [State.at_sync, State.at_offset, State.at_syncState, State.at_regN, State.at_stepPermitted, hst, ne_self_iff_false, hd, or_self,
      if_false, hno']
    rfl
  · exact (SameRegs.setReg80 _ 0x0900 0x02 _).reg _ _ _ (by decide)

/-- OFFSET takes an estimate beyond the threshold at once when a step is permitted (03, R90). -/
theorem exec_offsetSlew_steps {s : State} {t : Nat} (hst : s.syncState = 4) (hne : s.sync.est ≠ s.offset)
    (hfar : s.regN 0x0900 0x0B < (diff80 s.sync.est s.offset).natAbs) (hper : s.stepPermitted = true) :
    ∃ u, exec (.offsetSlew t) s = .next u ∧
      u.offset = s.sync.est ∧
      u.reg 0x0900 0x0F = s.reg 0x0900 0x0F + 1 ∧
      u = { s.at t with
        regs := u.regs, agenda := u.agenda, log := u.log
        sync := { s.sync with past := s.sync.past ++ [⟨(s.at t).localMt, s.offset, true⟩] } } := by
  have hd : diff80 s.sync.est s.offset ≠ 0 := mt diff80_eq_zero.mp hne
  have hstep := (s.at t).timeStep_stepped s.sync.est
  refine ⟨(s.at t).timeStep s.sync.est, ?_, hstep.offset, hstep.count, hstep.frame⟩
  change execOffsetSlew t s = _
  refine State.perform_moves (t := t) ?_ (by rw [State.moves, hstep.frame]) (hstep.regs.reg (by decide) (by decide) (by decide))
  rw [State.tick_posted_nil]
  simp only [State.at_sync, State.at_offset, State.at_syncState, State.at_regN, State.at_stepPermitted, hst, ne_self_iff_false, hd, or_self,
    if_false, hfar, hper, and_self, if_true]

/-- Without a sync frame for 3 intervals a LOCKED slave goes to HOLDOVER, an ACQUIRING one to UNSYNCED (03, table of sync states). -/
theorem exec_syncLossTimeout {s : State} {t : Nat} (hst : s.syncState = 4 ∨ s.syncState = 3)
    (hlate : s.sync.lastSync + usEt (3 * s.regN 0x0900 0x09) ≤ (s.at t).clock) :
    ∃ u, exec (.syncLossTimeout t) s = .next u ∧
      u.syncState = (if s.syncState = 4 then 5 else 2) ∧
      u = { s.at t with regs := u.regs, sync := { s.sync with upstream := none, better := [], ests := [], frames := 0 } } ∧
      SameRegs s u [odKey 0x0900 0x04 0] := by
  obtain ⟨b, hb⟩ : ∃ b : State, b = { s.at t with sync := { s.sync with upstream := none, better := [], ests := [], frames := 0 } } := ⟨_, rfl⟩
  have hframe : b.setRegN 0x0900 0x04 (if s.syncState = 4 then 5 else 2) =
      { s.at t with
        regs := (b.setRegN 0x0900 0x04 (if s.syncState = 4 then 5 else 2)).regs
        sync := { s.sync with upstream := none, better := [], ests := [], frames := 0 } } := by
    rw [hb]
    rfl
  have hregs : SameRegs s (b.setRegN 0x0900 0x04 (if s.syncState = 4 then 5 else 2)) [odKey 0x0900 0x04 0] :=
    ((SameRegs.of_eq [] (by rw [hb]; rfl)).trans (SameRegs.setRegN b 0x0900 0x04 (if s.syncState = 4 then 5 else 2))).mono (by simp)
  refine ⟨_, ?_, ?_, hframe, hregs⟩
  · change execSyncLossTimeout t s = _
    refine State.perform_moves (t := t) ?_ (by rw [State.moves, hframe]) (hregs.reg _ _ _ (by decide))
    rw [State.tick_posted_nil, hb]
    simp only [State.at_sync, State.at_regN, State.at_syncState, hlate, hst, and_self, if_true]
    rfl
  · refine (congrArg BitVec.toNat (State.reg_setRegN_same b 0x0900 0x04 _)).trans (wd_toNat_of_lt ?_)
    split <;> decide

/-- The path delay that a delay reply gives, in ps (03, R87; log entry 45). -/
def State.replyDelay (s : State) (p : Nat) (f : Frame) (t1 : Nat) : Word :=
  wdI ((((s.localMt : Int) - t1 - diff80 (u80 (fpay f 3) (fpay f 4)) (u80 (fpay f 1) (fpay f 2))) * 1000 - (s.reg (0x0904 + p) 0x01).toInt * 128) / 256)

/-- A delay reply of the awaited number gives the path delay (03, R87). -/
theorem exec_delayReplyRx {s : State} {p : Fin 4} {f : Frame} {t seq t1 : Nat} (hty : f.ty = 8) (hport : s.syncPort p = true)
    (hasked : SMap.get (fun _ => none) s.sync.asked p = some (seq, t1)) (hseq : fld (fpay f 0) 0 16 = seq) :
    ∃ u, exec (.delayReplyRx p f t) s = .next u ∧
      u.reg (0x0904 + p) 0x02 = (s.at t).replyDelay p f t1 ∧
      u.reg (0x0904 + p) 0x05 = 2 ∧
      SMap.get (fun _ => none) u.sync.asked p = none ∧
      u = { s.at t with regs := u.regs, sync := { s.sync with asked := u.sync.asked } } ∧
      SameRegs s u [odKey (0x0904 + p) 0x02 0, odKey (0x0904 + p) 0x05 0] := by
  obtain ⟨b, hb⟩ : ∃ b : State, b = { s.at t with sync := { s.sync with asked := SMap.set (fun _ => none) s.sync.asked p none } } := ⟨_, rfl⟩
  have hdelay := SameRegs.setReg b (0x0904 + p) 0x02 ((s.at t).replyDelay p f t1)
  have hstatus := SameRegs.setRegN (b.setReg (0x0904 + p) 0x02 ((s.at t).replyDelay p f t1)) (0x0904 + p) 0x05 2
  have hmoved := (State.regsMoved.setReg b (0x0904 + p) 0x02 ((s.at t).replyDelay p f t1)).trans (State.regsMoved.setRegN _ (0x0904 + p) 0x05 2)
  have hregs := (SameRegs.of_eq (s := s) [] (by rw [hb]; rfl)).trans (hdelay.trans hstatus)
  have hframe : (b.setReg (0x0904 + p) 0x02 ((s.at t).replyDelay p f t1)).setRegN (0x0904 + p) 0x05 2 =
      { s.at t with
        regs := ((b.setReg (0x0904 + p) 0x02 ((s.at t).replyDelay p f t1)).setRegN (0x0904 + p) 0x05 2).regs
        sync := { s.sync with asked := b.sync.asked } } := by
    rw [hmoved, hb]
  refine ⟨_, ?_, ?_, State.reg_setRegN_same .., ?_, hframe, hregs⟩
  · change execDelayReplyRx p f t s = _
    refine State.perform_moves (t := t) ?_ (by rw [State.moves, hframe]) (hregs.reg _ _ _ (by simp [odKey]; omega))
    rw [State.tick_posted_nil, hb]
    simp only [State.at_sync, State.at_syncPort, hasked, hty, hseq, hport, and_self, if_true]
    rfl
  · exact (hstatus.reg _ _ _ (by simp [odKey])).trans (State.reg_setReg_same ..)
  · rw [hframe, hb]
    exact SMap.get_set_same ..

/-- Settles O8, from a rule for each step. -/
theorem slaveFollowsItsMaster : Obligations.SlaveFollowsItsMaster := by
  unfold Obligations.SlaveFollowsItsMaster
  refine ⟨?_, ?_, fun s t hst hne hno => exec_offsetSlew_slews hst hne hno, fun s t hst hne hfar hper => exec_offsetSlew_steps hst hne hfar hper,
    fun s t hst hlate => exec_syncLossTimeout hst hlate, fun s p f t seq t1 hty hport ha hs => exec_delayReplyRx hty hport ha hs⟩
  · intro s p f t hty hport hmode hst helig hm hup hnear
    exact exec_syncRx_locked hty hport hmode helig hm hst hup hnear
  · intro s p f t hty hport hmode hst helig hm hup
    exact exec_syncRx_acquires hty hport hmode helig hm hst hup

end Sys2Proof.Machine

namespace Sys2Proof.Machine

/-! ## Occurrences that come due (03, R97, R103) -/

/-- Every line has the objects that the first line has (03, R104). -/
theorem odFind_line (line : Fin 512) (sub : Nat) : odFind (0x0A00 + line) sub = odFind 0x0A00 sub := by
  have hpage : (0x0A00 + line.val) / 0x1000 = 0 := by omega
  have hrows : ∀ r ∈ odPage 0, 0x0C00 ≤ r.base ∨ (0 < r.stride ∧ r.base + r.stride * r.count ≤ 0x0A00) ∨
      (r.base = 0x0A00 ∧ r.stride = 1 ∧ r.count = 512) := by decide +kernel
  unfold odFind
  rw [hpage]
  refine List.find?_congr fun r hr => ?_
  have hindex : r.hasIndex (0x0A00 + line) = r.hasIndex 0x0A00 := by
    unfold Obj.hasIndex
    rcases hrows r hr with hafter | ⟨hpos, hbefore⟩ | ⟨hbase, hstride, hcount⟩
    · simp [show ¬ r.base ≤ 0x0A00 + line.val by omega, show ¬ r.base ≤ 0x0A00 by omega]
    · have hout {i : Nat} (hi : 0x0A00 ≤ i) : ¬ (i - r.base) / r.stride < r.count := by
        rw [Nat.div_lt_iff_lt_mul hpos, Nat.mul_comm]
        omega
      simp [hout (Nat.le_add_right 0x0A00 line.val), hout (Nat.le_refl 0x0A00)]
    · simp [hbase, hstride, hcount, Nat.mod_one]
  rw [hindex]

/-- The row of PULSE, of which every line has one. -/
theorem odFind_pulse (line : Fin 512) : ∃ r, odFind (0x0A00 + line) 0x05 = some r ∧
    r.hook = .pulse ∧ r.acc = .cmd ∧ r.isDomain = false ∧ r.words = 1 ∧ r.unit (0x0A00 + line) = line := by
  obtain ⟨r, hr, hhook, hacc, hdom, hone, hbase, hstride⟩ : ∃ r, odFind 0x0A00 0x05 = some r ∧
      r.hook = .pulse ∧ r.acc = .cmd ∧ r.isDomain = false ∧ r.words = 1 ∧ r.base = 0x0A00 ∧ r.stride = 1 := ⟨_, rfl, rfl, rfl, rfl, rfl, rfl, rfl⟩
  exact ⟨r, (odFind_line line 0x05).trans hr, hhook, hacc, hdom, hone, by simp [Obj.unit, hbase, hstride]⟩

/-- PULSE brings one occurrence due on its line (03, R97). -/
theorem exec_pulse {s : State} {rq : Req} {line : Fin 512} {v : Word} {t : Nat}
    (h : s.takes rq (0x0A00 + line) 0x05 0 [v] Env.calm t = true) :
    ∃ u, exec (.pulse rq line v t) s = .next u ∧
      s.answered u 3 (0x0A00 + line) 0x05 rq.src v t ∧
      u = { (s.at t).endCmd rq.src (0x0A00 + line) 0x05 0 0 with
        regs := u.regs, alm := u.alm, reply := u.reply, agenda := s.agenda ++ [.eventOccurrence line (s.at t).now false] } ∧
      SameRegs s u journalKeys := by
  obtain ⟨r, hr, hhook, hacc, hdom, hone, hunit⟩ := odFind_pulse line
  have hj := (s.at t).journalWrite_one rq.src (0x0A00 + line) 0x05 v hdom hone
  have hexec := exec_of_takes (c := .pulse rq line v t) (w := _) rfl h hr rfl
  simp only [hacc, State.acts, State.command, hhook, State.instantCommand, hunit, beq_self_eq_true, if_true] at hj hexec
  generalize (s.at t).journalWrite r rq.src (0x0A00 + line) 0x05 (wordsAt 0 [v]) false = j at hj hexec
  have hnow : j.now = (s.at t).now := by
    rw [State.now, State.localMt, State.offset, hj.clock, hj.reg80 (by decide) (by decide)]
    rfl
  have hframe : (j.due (.eventOccurrence (Fin.ofNat 512 line) j.now false)).endCmd rq.src (0x0A00 + line) 0x05 0 0 =
      { (s.at t).endCmd rq.src (0x0A00 + line) 0x05 0 0 with
        regs := j.regs, alm := j.alm, agenda := s.agenda ++ [.eventOccurrence line (s.at t).now false] } := by
    rw [hnow, hj.frame, Fin.ofNat_val_eq_self]
    rfl
  rw [hframe] at hexec
  exact ⟨_, hexec rfl (hj.reg (by decide) (by decide) (by decide)), hj.answered rfl rfl, rfl, hj.regs⟩

/-- An edge on an EVT input (03, R103). -/
theorem exec_evtInputEdge {s : State} {ball : Fin 8} {rising : Bool} {t : Nat} (h : s.regN (0x0980 + ball) 0x00 = 0) :
    exec (.evtInputEdge ball rising t) s = .next { s.at t with agenda := s.agenda ++ (if rising = s.regB (0x0980 + ball) 0x03 then [] else
      (s.linesOf (0x2000 + ball)).map (fun n => .eventOccurrence (Fin.ofNat 512 n) (s.at t).now false)) } := by
  change execEvtInputEdge ball rising t s = _
  refine State.perform_moves (t := t) ?_ rfl rfl
  rw [State.tick_posted_nil]
  simp only [State.at_regN, State.at_regB, h, State.raiseEvent_eq]
  by_cases hactive : rising = s.regB (0x0980 + ball) 0x03
  · simp [hactive]
    rfl
  · rw [if_neg hactive, bne_iff_ne.mpr hactive]
    rfl

/-- An EVT output whose pulse has lasted returns to inactive (03, R103). -/
theorem exec_evtPulseEnd {s : State} {ball : Fin 8} {t e : Nat} (he : SMap.get (fun _ => none) s.sync.evtOut ball = some e)
    (hd : e ≤ (s.at t).clock) :
    ∃ u, exec (.evtPulseEnd ball t) s = .next u ∧
      SMap.get (fun _ => none) u.sync.evtOut ball = none ∧
      (∀ q, q ≠ ball.val → SMap.get (fun _ => none) u.sync.evtOut q = SMap.get (fun _ => none) s.sync.evtOut q) ∧
      u = { s.at t with sync := { s.sync with evtOut := u.sync.evtOut } } := by
  refine ⟨{ s.at t with sync := { s.sync with evtOut := SMap.set (fun _ => none) s.sync.evtOut ball none } }, ?_,
    SMap.get_set_same _ _ _ _, fun q hq => SMap.get_set_other _ _ _ (Ne.symm hq), rfl⟩
  change execEvtPulseEnd ball t s = _
  refine State.perform_moves (t := t) ?_ rfl rfl
  rw [State.tick_posted_nil]
  simp only [State.at_sync, he, if_pos hd]

end Sys2Proof.Machine

namespace Sys2Proof.Machine

/-! ## The sinks of a line (03, R98, R101) -/

/-- A key that does not read as when unlisted is listed. -/
theorem SMap.mem_of_get_ne {α : Type} {d : Nat → α} {m : SMap α} {k : Nat} (h : SMap.get d m k ≠ d k) : (k, SMap.get d m k) ∈ m := by
  induction m with
  | nil => exact absurd rfl h
  | cons e m ih =>
    obtain ⟨j, v⟩ := e
    by_cases hj : j = k
    · simp [SMap.get, hj]
    · simp only [SMap.get, hj, if_false] at h ⊢
      exact List.mem_cons_of_mem _ (ih h)

/-- A unit whose sink object holds a line, which is not the object's value out of reset, is among the sinks of the line. -/
theorem State.mem_sinksAt {s : State} {base stride count sub line c : Nat} (hreg : s.reg (base + stride * c) sub = wd line)
    (hdef : romDefault (odKey (base + stride * c) sub 0) ≠ wd line) (hstride : 0 < stride) (hc : c < count) (hsub : sub < 256) :
    c ∈ s.sinksAt base stride count sub line := by
  have hmem := SMap.mem_of_get_ne (d := romDefault) (m := s.regs) (k := odKey (base + stride * c) sub 0) (by rw [show SMap.get _ _ _ = _ from hreg]; exact hdef.symm)
  refine List.mem_filterMap.mpr ⟨_, hmem, ?_⟩
  have hindex : odKey (base + stride * c) sub 0 / 134217728 / 256 = base + stride * c := odKey_index hsub (by decide)
  have hsubIs : odKey (base + stride * c) sub 0 / 134217728 % 256 = sub := by unfold odKey; omega
  have hword : odKey (base + stride * c) sub 0 % 134217728 = 0 := by unfold odKey; omega
  simp only [hindex, hsubIs, hword, Nat.add_sub_cancel_left, Nat.mul_mod_right, Nat.mul_div_cancel_left c hstride]
  exact if_pos ⟨Nat.le_add_right .., trivial, hc, trivial, trivial, hreg⟩

/-- Sinks are read from the objects alone. -/
theorem State.sinksAt_of_regs {s u : State} (h : u.regs = s.regs) (base stride count sub line : Nat) :
    u.sinksAt base stride count sub line = s.sinksAt base stride count sub line := by
  rw [State.sinksAt, h, State.sinksAt]

/-- A state that an occurrence reached on its way to the sinks of its line: what comes due stays due, and no object moved. -/
structure State.Reached (s u : State) : Prop where
  frame : u = { s with agenda := u.agenda, seqs := u.seqs, mea := u.mea, sync := u.sync, halo := u.halo }
  due : s.agenda <+: u.agenda

namespace State.Reached

theorem refl (s : State) : s.Reached s := ⟨rfl, List.prefix_rfl⟩

theorem trans {s u v : State} (h : s.Reached u) (h' : u.Reached v) : s.Reached v :=
  ⟨by rw [h'.frame, h.frame], h.due.trans h'.due⟩

theorem regs {s u : State} (h : s.Reached u) : u.regs = s.regs := by
  rw [h.frame]

theorem foldl {α : Type} {f : State → α → State} (l : List α) (hf : ∀ s x, State.Reached s (f s x)) (s : State) : s.Reached (l.foldl f s) :=
  State.foldl_rel refl trans l (fun x _ s => hf s x) s

theorem single (s : State) (i : Instr) : s.Reached (s.due i) := ⟨rfl, List.prefix_append ..⟩

/-- Steps that come due one after another. -/
theorem foldl_due {α : Type} (g : α → Instr) (l : List α) (s : State) : s.Reached (l.foldl (fun s x => s.due (g x)) s) :=
  foldl l (fun s x => single s (g x)) s

/-- A step due for a sink of the line is due afterwards. -/
theorem mem_due {s u v : State} {g : Nat → Instr} {base stride count sub line c : Nat} (h : s.Reached u)
    (hv : ((u.sinksAt base stride count sub line).foldl (fun s c => s.due (g c)) u).Reached v)
    (hc : c ∈ s.sinksAt base stride count sub line) : g c ∈ v.agenda := by
  refine hv.due.subset ?_
  rw [State.foldl_due, State.sinksAt_of_regs h.regs]
  exact List.mem_append_right _ (List.mem_map_of_mem hc)

end State.Reached

theorem State.noteLine_reached (s : State) (c line : Nat) (m : U80) (timed : Bool) : s.Reached (s.noteLine c line m timed) := by
  unfold State.noteLine
  dsimp only
  split
  · exact ⟨rfl, List.prefix_rfl⟩
  · exact .refl s

theorem State.capLine_reached (s : State) (c : Nat) (m : U80) (timed : Bool) : s.Reached (s.capLine c m timed) := by
  unfold State.capLine
  dsimp only
  split
  · exact ⟨rfl, List.prefix_rfl⟩
  · exact .refl s

theorem State.ruLine_reached (s : State) (c n : Nat) (m : U80) (timed : Bool) : s.Reached (s.ruLine c n m timed) := by
  unfold State.ruLine
  dsimp only
  split
  · exact ⟨rfl, List.prefix_rfl⟩
  · exact .refl s

theorem State.evtPulse_reached (s : State) (k : Nat) : s.Reached (s.evtPulse k) := by
  unfold State.evtPulse
  split
  · exact ⟨rfl, List.prefix_rfl⟩
  · exact .refl s

/-- A broadcast of this device moves the links alone (12, R363). -/
theorem State.originate_eq (s : State) (ty : Nat) (p0 : Word) (rest : List Word) :
    s.originate ty p0 rest = { s with halo := (s.originate ty p0 rest).halo } := by
  unfold State.originate
  dsimp only
  rw [State.broadcastOn_portsMoved]

/-- An occurrence reaches the sinks of its line: of those that a unit's object names, the sequencer's start and jump lines, the level
load lines and the start lines of outputs are listed here. -/
theorem State.toSinks_reaches (s : State) (line : Nat) (m : U80) (timed : Bool) :
    s.Reached (s.toSinks line m timed) ∧
      (∀ c ∈ s.sinksAt 0x3000 0x40 48 0x05 line, Instr.startLineOccurrence (Fin.ofNat 48 c) m timed s.clock ∈ (s.toSinks line m timed).agenda) ∧
      (∀ c ∈ s.sinksAt 0x3002 0x40 48 0x01 line, Instr.jumpLineOccurrence (Fin.ofNat 48 c) m timed s.clock ∈ (s.toSinks line m timed).agenda) ∧
      (∀ c ∈ s.sinksAt 0x201F 0x40 48 0xF0 line, Instr.loadStrobe (Fin.ofNat 48 c) s.clock ∈ (s.toSinks line m timed).agenda) ∧
      (∀ n ∈ s.sinksAt 0x8000 1 32 0x0D line, Instr.asStartLine (Fin.ofNat 32 n) m timed s.clock ∈ (s.toSinks line m timed).agenda) := by
  unfold State.toSinks
  extract_lets t noted started jumped released sampled capped regressed strobed loaded played closed signalled pulsed
  have hnoted : s.Reached noted := .foldl _ (fun s c => s.noteLine_reached c line m timed) s
  have hstarted : noted.Reached started := .foldl_due _ _ _
  have hjumped : started.Reached jumped := .foldl_due _ _ _
  have hreleased : jumped.Reached released := .foldl_due _ _ _
  have hsampled : released.Reached sampled := State.repeat_rel .refl .trans 2 (fun n _ s => .foldl_due _ _ s) _
  have hcapped : sampled.Reached capped := .foldl _ (fun s c => s.capLine_reached c m timed) _
  have hregressed : capped.Reached regressed := State.repeat_rel .refl .trans 4 (fun n _ s => .foldl _ (fun s c => s.ruLine_reached c n m timed) s) _
  have hstrobed : regressed.Reached strobed := .foldl_due _ _ _
  have hloaded : strobed.Reached loaded := .foldl_due _ _ _
  have hplayed : loaded.Reached played := .foldl_due _ _ _
  have hclosed : played.Reached closed := State.when_rel .refl _ _ (fun _ => .single _ _)
  have hsignalled : closed.Reached signalled := .foldl_due _ _ _
  have hpulsed : signalled.Reached pulsed := .foldl _ (fun s k => s.evtPulse_reached k) _
  have hend : pulsed.Reached _ := .foldl_due (fun n => .eventOccurrence (Fin.ofNat 512 n) m timed) (pulsed.linesOf (0xA000 + line)) pulsed
  have fromPlayed := ((hclosed.trans hsignalled).trans hpulsed).trans hend
  have fromStrobed := (hloaded.trans hplayed).trans fromPlayed
  have fromJumped := (((hreleased.trans hsampled).trans hcapped).trans (hregressed.trans hstrobed)).trans fromStrobed
  have toRegressed := ((((hnoted.trans hstarted).trans hjumped).trans hreleased).trans (hsampled.trans hcapped)).trans hregressed
  exact ⟨toRegressed.trans (hstrobed.trans fromStrobed), fun c => hnoted.mem_due (hjumped.trans fromJumped),
    fun c => (hnoted.trans hstarted).mem_due fromJumped, fun c => toRegressed.mem_due fromStrobed,
    fun n => ((toRegressed.trans hstrobed).trans hloaded).mem_due fromPlayed⟩

end Sys2Proof.Machine

namespace Sys2Proof.Machine

/-! ## Occurrences merged and delivered (03, R98, R99) -/

theorem State.regN_eq_zero (s : State) (i j : Nat) : s.regN i j = 0 ↔ s.reg i j = 0 := BitVec.toNat_inj (y := 0)

/-- An occurrence lies less than 5 ns from the last one delivered on its line. -/
def State.meets (s : State) (line : Nat) (m : U80) : Prop :=
  (s.reg (0x0A00 + line) 0x06 ≠ 0 ∨ s.reg80 (0x0A00 + line) 0x08 ≠ 0) ∧
    ((m - s.reg80 (0x0A00 + line) 0x08).toNat < 640 ∨ (s.reg80 (0x0A00 + line) 0x08 - m).toNat < 640)

/-- One that does is merged: the last one has the earlier of the two stamps. -/
theorem State.occurs_merged {s : State} {line : Nat} {m : U80} (timed : Bool) (h : s.meets line m) :
    s.occurs line m timed = if 640 ≤ (m - s.reg80 (0x0A00 + line) 0x08).toNat
      then (s.addReg (0x0A00 + line) 0x07 1).setReg80 (0x0A00 + line) 0x08 m else s.addReg (0x0A00 + line) 0x07 1 := by
  have hnear : (s.regN (0x0A00 + line) 0x06 ≠ 0 ∨ s.reg80 (0x0A00 + line) 0x08 ≠ 0) ∧
      (decide ((m - s.reg80 (0x0A00 + line) 0x08).toNat < 640) || decide ((s.reg80 (0x0A00 + line) 0x08 - m).toNat < 640)) = true := by
    simpa [State.meets, State.regN_eq_zero] using h
  unfold State.occurs
  rw [if_pos hnear]
  by_cases hafter : 640 ≤ (m - s.reg80 (0x0A00 + line) 0x08).toNat
  · rw [if_pos hafter, decide_eq_true hafter, State.when_true]
  · rw [if_neg hafter, decide_eq_false hafter, State.when_false]

/-- The occurrence is counted, and its stamp is that of the last one delivered. -/
def State.counted (s : State) (line : Nat) (m : U80) : State := (s.addReg (0x0A00 + line) 0x06 1).setReg80 (0x0A00 + line) 0x08 m

theorem State.counted_regs (s : State) (line : Nat) (m : U80) :
    SameRegs s (s.counted line m) [odKey (0x0A00 + line) 0x06 0, odKey (0x0A00 + line) 0x08 0, odKey (0x0A00 + line) 0x08 1] :=
  (SameRegs.addReg s (0x0A00 + line) 0x06 1 0).trans (SameRegs.setReg80 _ (0x0A00 + line) 0x08 m)

theorem State.counted_moved (s : State) (line : Nat) (m : U80) : s.regsMoved (s.counted line m) :=
  (State.regsMoved.addReg s _ _ _ _).trans (State.regsMoved.setReg80 _ _ _ _)

theorem State.counted_count (s : State) (line : Nat) (m : U80) :
    (s.counted line m).reg (0x0A00 + line) 0x06 = s.reg (0x0A00 + line) 0x06 + 1 :=
  ((SameRegs.setReg80 _ (0x0A00 + line) 0x08 m).reg _ _ _ (by simp [odKey]; omega)).trans (State.reg_addReg_same ..)

theorem State.counted_stamp (s : State) (line : Nat) (m : U80) : (s.counted line m).reg80 (0x0A00 + line) 0x08 = m :=
  State.reg80_setReg80_same ..

/-- One that does not is counted, and reaches the sinks of its line. -/
theorem State.occurs_delivered {s : State} {line : Nat} {m : U80} (timed : Bool) (h : ¬ s.meets line m) :
    ((s.counted line m).toSinks line m timed).Reached (s.occurs line m timed) := by
  have hfar : ¬ ((s.regN (0x0A00 + line) 0x06 ≠ 0 ∨ s.reg80 (0x0A00 + line) 0x08 ≠ 0) ∧
      (decide ((m - s.reg80 (0x0A00 + line) 0x08).toNat < 640) || decide ((s.reg80 (0x0A00 + line) 0x08 - m).toNat < 640)) = true) := by
    simpa [State.meets, State.regN_eq_zero] using h
  have hoccurs : s.occurs line m timed = ((s.counted line m).toSinks line m timed).when (((s.counted line m).toSinks line m timed).regB (0x0A00 + line) 4)
      (fun s => s.originate 4 (at_ 32 1) [at_ 31 line, loWord m, hiWord m]) := by
    unfold State.occurs
    rw [if_neg hfar]
    rfl
  rw [hoccurs]
  generalize (s.counted line m).toSinks line m timed = k
  refine State.when_rel .refl _ _ (fun _ => ?_)
  rw [State.originate_eq]
  exact ⟨rfl, List.prefix_rfl⟩

/-- No sink object names a line out of reset. -/
theorem sinks_unset :
    (∀ c : Fin 48, romDefault (odKey (0x3000 + 0x40 * c) 0x05 0) = 65535 ∧ romDefault (odKey (0x3002 + 0x40 * c) 0x01 0) = 65535 ∧
      romDefault (odKey (0x201F + 0x40 * c) 0xF0 0) = 65535) ∧
    (∀ n : Fin 32, romDefault (odKey (0x8000 + 1 * n) 0x0D 0) = 65535) := by
  decide +kernel

/-- What an occurrence that is delivered does: it is counted, its stamp is kept, and it comes due at the sinks (03, R98, R101). -/
structure State.Delivered (s u : State) (line : Nat) (m : U80) (timed : Bool) : Prop where
  moves : s.moves u
  regs : SameRegs s u [odKey (0x0A00 + line) 0x06 0, odKey (0x0A00 + line) 0x08 0, odKey (0x0A00 + line) 0x08 1]
  alm : u.alm = s.alm
  count : u.reg (0x0A00 + line) 0x06 = s.reg (0x0A00 + line) 0x06 + 1
  stamp : u.reg80 (0x0A00 + line) 0x08 = m
  starts : ∀ c : Fin 48, s.reg (0x3000 + 0x40 * c) 0x05 = wd line → Instr.startLineOccurrence c m timed s.clock ∈ u.agenda
  jumps : ∀ c : Fin 48, s.reg (0x3002 + 0x40 * c) 0x01 = wd line → Instr.jumpLineOccurrence c m timed s.clock ∈ u.agenda
  loads : ∀ c : Fin 48, s.reg (0x201F + 0x40 * c) 0xF0 = wd line → Instr.loadStrobe c s.clock ∈ u.agenda
  plays : ∀ n : Fin 32, s.reg (0x8000 + n) 0x0D = wd line → Instr.asStartLine n m timed s.clock ∈ u.agenda

theorem State.occurs_far {s : State} {line : Nat} {m : U80} (timed : Bool) (hline : line < 512) (h : ¬ s.meets line m) :
    s.Delivered (s.occurs line m timed) line m timed := by
  have hreach := State.occurs_delivered timed h
  have hcount := s.counted_count line m
  have hstamp := s.counted_stamp line m
  have hmoved := s.counted_moved line m
  have hregs := s.counted_regs line m
  generalize s.counted line m = b at hreach hcount hstamp hmoved hregs
  generalize s.occurs line m timed = u at hreach
  obtain ⟨hto, hstart, hjump, hload, hplay⟩ := b.toSinks_reaches line m timed
  generalize b.toSinks line m timed = v at hreach hto hstart hjump hload hplay
  have hclock : b.clock = s.clock := by rw [hmoved]
  have hunset : (65535 : Word) ≠ wd line := fun hw => by
    have hn := congrArg BitVec.toNat hw
    rw [wd_toNat_of_lt (by omega)] at hn
    exact absurd hn (by simp; omega)
  have hsink {base stride count sub c : Nat} (hc : s.reg (base + stride * c) sub = wd line) (hdef : romDefault (odKey (base + stride * c) sub 0) = 65535)
      (hbase : 0x0C00 ≤ base) (hstride : 0 < stride) (hlt : c < count) (hsub : sub < 256) : c ∈ b.sinksAt base stride count sub line :=
    State.mem_sinksAt ((hregs.reg _ _ _ (by simp [odKey]; omega)).trans hc) (by rwa [hdef]) hstride hlt hsub
  have hreg (i j w : Nat) : u.reg i j w = b.reg i j w := by
    rw [State.reg, (hto.trans hreach).regs, State.reg]
  obtain ⟨hseq, hout⟩ := sinks_unset
  have hframe : u = { s with regs := u.regs, agenda := u.agenda, seqs := u.seqs, mea := u.mea, sync := u.sync, halo := u.halo } := by
    rw [(hto.trans hreach).frame, hmoved]
  refine ⟨by rw [State.moves, hframe], fun k hk => ?_, ?_, (hreg _ _ _).trans hcount, ?_, fun c hc => ?_, fun c hc => ?_, fun c hc => ?_, fun n hn => ?_⟩
  · rw [(hto.trans hreach).regs]
    exact hregs k hk
  · rw [hframe]
  · rw [← hstamp, State.reg80, hreg, hreg, State.reg80]
  · have hdue := hreach.due.subset (hstart c (hsink hc (hseq c).1 (by decide) (by decide) c.isLt (by decide)))
    rwa [hclock, Fin.ofNat_val_eq_self] at hdue
  · have hdue := hreach.due.subset (hjump c (hsink hc (hseq c).2.1 (by decide) (by decide) c.isLt (by decide)))
    rwa [hclock, Fin.ofNat_val_eq_self] at hdue
  · have hdue := hreach.due.subset (hload c (hsink hc (hseq c).2.2 (by decide) (by decide) c.isLt (by decide)))
    rwa [hclock, Fin.ofNat_val_eq_self] at hdue
  · have hdue := hreach.due.subset (hplay n (hsink (by rwa [Nat.one_mul]) (hout n) (by decide) (by decide) n.isLt (by decide)))
    rwa [hclock, Fin.ofNat_val_eq_self] at hdue

/-- The step of an occurrence answers what the occurrence makes of its line. -/
theorem exec_eventOccurrence {s x u : State} {line : Fin 512} {m : U80} {timed : Bool} (hx : { s with posted := [] } = x)
    (h : x.occurs line m timed = u) (hu : x.moves u) {ks : List Nat} (hregs : SameRegs x u ks) (hks : odKey 0x0100 0x00 0 ∉ ks) :
    exec (.eventOccurrence line m timed) s = .next u := by
  subst hx
  exact State.perform_moves_untimed (f := fun s => s.occurs line m timed) h hu (hregs.reg _ _ _ hks)

/-- An occurrence that is merged. -/
theorem exec_eventOccurrence_merged {s : State} {line : Fin 512} {m : U80} (timed : Bool) (h : s.meets line m) :
    exec (.eventOccurrence line m timed) s = .next (if 640 ≤ (m - s.reg80 (0x0A00 + line) 0x08).toNat
      then ({ s with posted := [] }.addReg (0x0A00 + line) 0x07 1).setReg80 (0x0A00 + line) 0x08 m
      else { s with posted := [] }.addReg (0x0A00 + line) 0x07 1) := by
  have hmerged := State.occurs_merged (s := { s with posted := [] }) timed h
  obtain ⟨x, hx⟩ : ∃ x, { s with posted := [] } = x := ⟨_, rfl⟩
  have hstamp : x.reg80 (0x0A00 + line) 0x08 = s.reg80 (0x0A00 + line) 0x08 := by
    rw [← hx]
    rfl
  rw [hx] at hmerged ⊢
  rw [hstamp] at hmerged
  have hregs := SameRegs.addReg x (0x0A00 + line) 0x07 1 0
  refine exec_eventOccurrence hx hmerged ?_ (ks := [odKey (0x0A00 + line) 0x07 0] ++ [odKey (0x0A00 + line) 0x08 0, odKey (0x0A00 + line) 0x08 1]) ?_
    (by simp [odKey]; omega)
  · split
    · rw [State.moves, (State.regsMoved.addReg x _ _ _ _).trans (State.regsMoved.setReg80 _ _ _ _)]
    · rfl
  · split
    · exact hregs.trans (SameRegs.setReg80 _ _ _ _)
    · exact hregs.mono (by simp)

/-- An occurrence apart from the last one is delivered (03, R98). -/
theorem exec_eventOccurrence_delivered {s : State} {line : Fin 512} {m : U80} {timed : Bool} (h : ¬ s.meets line m) :
    ∃ u, exec (.eventOccurrence line m timed) s = .next u ∧ ({ s with posted := [] } : State).Delivered u line m timed := by
  have hd := State.occurs_far (s := { s with posted := [] }) timed line.isLt h
  exact ⟨_, exec_eventOccurrence rfl rfl hd.moves hd.regs (by simp [odKey]; omega), hd⟩

end Sys2Proof.Machine

namespace Sys2Proof.Machine

/-! ## Broadcast frames (12, R363) -/

/-- A broadcast frame goes on to the other open ports; the buffer of one that goes on to none is free. -/
def State.forwarded (s : State) (p : Nat) (f : Frame) : State :=
  (s.broadcastOn (some p) (frameHop f)).when (!(List.range 4).any (fun q => s.portOpen q && q ≠ p)) (fun s => s.freeBuffer p f.vc)

theorem State.forwarded_portsMoved (s : State) (p : Nat) (f : Frame) : s.portsMoved (s.forwarded p f) :=
  (s.broadcastOn_portsMoved (some p) (frameHop f)).trans
    (State.when_rel (R := State.portsMoved) State.portsMoved.refl _ _ (fun _ => State.freeBuffer_portsMoved _ p f.vc))

/-- A broadcast that is accepted is noted and goes on: of the links, the list of those seen and the ports move. -/
theorem State.acceptBroadcast_accepts {s : State} {p : Nat} {f : Frame} (h : (s.acceptBroadcast p f).1 = true) :
    ∃ seen ports, (s.acceptBroadcast p f).2 = { s with halo := { s.halo with seen := seen, ports := ports } } := by
  unfold State.acceptBroadcast at h ⊢
  dsimp only at h ⊢
  split at h
  · simp at h
  · next hnew =>
    rw [if_neg hnew]
    exact ⟨_, _, State.forwarded_portsMoved _ p f⟩

/-- A copy is dropped; copies seen long ago are forgotten. -/
theorem State.acceptBroadcast_drops {s : State} {p : Nat} {f : Frame} (h : (s.acceptBroadcast p f).1 = false) :
    ∃ seen, (s.acceptBroadcast p f).2 = ({ s with halo := { s.halo with seen := seen } } : State).dropFrame p f := by
  unfold State.acceptBroadcast at h ⊢
  dsimp only at h ⊢
  split at h
  · next hseen =>
    rw [if_pos hseen]
    exact ⟨_, rfl⟩
  · simp at h

/-! ## EVENT frames (03, R104) -/

/-- Occurrences of several sources that come due. -/
theorem State.foldl_raiseEvent (code : Nat → Nat) (m : U80) (ks : List Nat) (s : State) :
    ks.foldl (fun s k => s.raiseEvent (code k) m) s =
      { s with agenda := s.agenda ++ ks.flatMap (fun k => (s.linesOf (code k)).map (fun n => .eventOccurrence (Fin.ofNat 512 n) m false)) } := by
  induction ks generalizing s with
  | nil => simp
  | cons k ks ih =>
    rw [List.foldl_cons, ih, State.raiseEvent_eq, List.flatMap_cons, ← List.append_assoc]
    rfl

/-- The IMPORT entries that name a source of events. -/
def State.imports (s : State) (code : Nat) : List Nat := (List.range 128).filter (fun k => s.reg 0x0990 0x00 k = wd code)

/-- An occurrence of another device enters through the IMPORT entries that name its source, or is counted as unmatched (03, R104). -/
def State.importEvent (s : State) (code : Nat) (m : U80) : State :=
  if (s.imports code).isEmpty then s.addReg 0x0990 0x01 1
  else { s with agenda := s.agenda ++ (s.imports code).flatMap (fun k => (s.linesOf (0x9000 + k)).map (fun n => .eventOccurrence (Fin.ofNat 512 n) m false)) }

theorem State.importEvent_regs (s : State) (code : Nat) (m : U80) : SameRegs s (s.importEvent code m) [odKey 0x0990 0x01 0] := by
  unfold State.importEvent
  split
  · exact SameRegs.addReg s 0x0990 0x01 1 0
  · exact SameRegs.of_eq _ rfl

theorem State.importEvent_eq (s : State) (code : Nat) (m : U80) :
    s.importEvent code m = { s with regs := (s.importEvent code m).regs, agenda := (s.importEvent code m).agenda } := by
  unfold State.importEvent
  split <;> rfl

theorem State.importEvent_matched {s : State} {code k n : Nat} (m : U80) (hk : k < 128) (hcode : s.reg 0x0990 0x00 k = wd code)
    (hn : n ∈ s.linesOf (0x9000 + k)) : Instr.eventOccurrence (Fin.ofNat 512 n) m false ∈ (s.importEvent code m).agenda := by
  have hmem : k ∈ s.imports code := List.mem_filter.mpr ⟨List.mem_range.mpr hk, by simpa using hcode⟩
  unfold State.importEvent
  rw [if_neg (by simpa using List.ne_nil_of_mem hmem)]
  exact List.mem_append_right _ (List.mem_flatMap.mpr ⟨k, hmem, List.mem_map_of_mem hn⟩)

theorem State.importEvent_unmatched {s : State} {code : Nat} (m : U80) (h : ∀ k < 128, s.reg 0x0990 0x00 k ≠ wd code) :
    s.importEvent code m = s.addReg 0x0990 0x01 1 := by
  have hnone : s.imports code = [] := List.filter_eq_nil_iff.mpr (fun k hk => by simpa using h k (List.mem_range.mp hk))
  unfold State.importEvent
  rw [hnone]
  rfl

/-- An EVENT frame with one occurrence that is new (03, R104). -/
theorem exec_eventFrameRx_accepted {s : State} {p : Fin 4} {f : Frame} {t : Nat} (hty : f.ty = 4)
    (hnew : ((s.at t).acceptBroadcast p f).1 = true) (hone : fld (fpay f 0) 32 8 = 1)
    (hunknown : (f.src.toNat, fld (fpay f 1) 31 9, u80 (fpay f 2) (fpay f 3)) ∉ s.halo.events) :
    ∃ b : State, b = { s.at t with halo := b.halo } ∧
      (f.src.toNat, fld (fpay f 1) 31 9, u80 (fpay f 2) (fpay f 3)) ∈ b.halo.events ∧
      exec (.eventFrameRx p f t) s =
        .next (b.importEvent (f.src.toNat * 65536 + 512 + fld (fpay f 1) 31 9) (u80 (fpay f 2) (fpay f 3))) := by
  obtain ⟨seen, ports, haccept⟩ := State.acceptBroadcast_accepts hnew
  obtain ⟨a, ha⟩ : ∃ a, a = ((s.at t).acceptBroadcast p f).2 := ⟨_, rfl⟩
  rw [← ha] at haccept
  obtain ⟨e, he⟩ : ∃ e, e = (f.src.toNat, fld (fpay f 1) 31 9, u80 (fpay f 2) (fpay f 3)) := ⟨_, rfl⟩
  obtain ⟨b, hb⟩ : ∃ b : State, b = { a with halo := { a.halo with events := a.halo.events ++ [e] } } := ⟨_, rfl⟩
  have hevents : e ∉ a.halo.events := by
    rw [he, haccept]
    exact hunknown
  have hframe : b = { s.at t with halo := b.halo } := by
    rw [hb, haccept]
  have himport := b.importEvent_eq (f.src.toNat * 65536 + 512 + fld (fpay f 1) 31 9) (u80 (fpay f 2) (fpay f 3))
  refine ⟨b, hframe, by rw [← he, hb]; simp, ?_⟩
  change execEventFrameRx p f t s = _
  refine State.perform_moves (t := t) ?_ (by rw [State.moves, himport, hframe]) ?_
  · rw [State.tick_posted_nil]
    simp only [hty, if_true, hnew, Bool.not_true, Bool.false_eq_true, if_false, hone, ← ha]
    refine (if_neg (by rwa [he] at hevents)).trans ?_
    rw [State.importEvent, ← State.foldl_raiseEvent, hb, he]
    rfl
  · refine (SameRegs.reg (State.importEvent_regs b _ _) 0x0100 0x00 0 (by decide)).trans ?_
    rw [hframe]
    rfl

/-- An EVENT frame seen before is dropped (12, R363). -/
theorem exec_eventFrameRx_copy {s : State} {p : Fin 4} {f : Frame} {t : Nat} (hty : f.ty = 4)
    (hcopy : ((s.at t).acceptBroadcast p f).1 = false) :
    ∃ u, exec (.eventFrameRx p f t) s = .next u ∧
      u.reg (0x1110 + p) 0x10 = s.reg (0x1110 + p) 0x10 + 1 ∧
      (u.port p).ctl = (s.port p).ctl ++ [wd (2 ^ 36 + 2 ^ 32 + b2n f.vc * 2 ^ 31 + 2 ^ 24)] ∧
      (∀ q, q ≠ p.val → u.port q = s.port q) ∧
      u = { s.at t with regs := u.regs, halo := { s.halo with seen := u.halo.seen, ports := u.halo.ports } } ∧
      SameRegs s u [odKey (0x1110 + p) 0x10 0] := by
  obtain ⟨seen, hdrop⟩ := State.acceptBroadcast_drops hcopy
  obtain ⟨b, hb⟩ : ∃ b : State, b = { s.at t with halo := { s.halo with seen := seen } } := ⟨_, rfl⟩
  have hregs : SameRegs s (b.dropFrame p f) [odKey (0x1110 + p) 0x10 0] :=
    SameRegs.trans (t := b) (ks := []) (SameRegs.of_eq [] (by rw [hb]; rfl)) (SameRegs.addReg b (0x1110 + p) 0x10 1 0)
  have hframe : b.dropFrame p f = { s.at t with
      regs := (b.dropFrame p f).regs, halo := { s.halo with seen := (b.dropFrame p f).halo.seen, ports := (b.dropFrame p f).halo.ports } } := by
    rw [hb]
    rfl
  have hword : 2 ^ 36 + 1 * 2 ^ 32 + (b2n f.vc * 2 ^ 31 + 2 ^ 24) = 2 ^ 36 + 2 ^ 32 + b2n f.vc * 2 ^ 31 + 2 ^ 24 := by omega
  refine ⟨b.dropFrame p f, ?_, ?_, ?_, fun q hq => ?_, hframe, hregs⟩
  · change execEventFrameRx p f t s = _
    refine State.perform_moves (t := t) ?_ (by rw [State.moves, hframe]) (hregs.reg _ _ _ (by simp [odKey]; omega))
    rw [State.tick_posted_nil, hb]
    simp only [hty, if_true, hcopy, Bool.not_false, hdrop]
    rfl
  · exact (State.reg_addReg_same b (0x1110 + p) 0x10 1 0).trans (by rw [hb]; rfl)
  · refine (congrArg PortSt.ctl (State.port_onPort_same ..)).trans ?_
    rw [hb, ← hword]
    rfl
  · refine (State.port_onPort_other _ _ (Ne.symm hq)).trans ?_
    rw [hb]
    rfl

/-- Settles O9, from a rule for each step; what comes due at the sinks is `State.toSinks_reaches`. -/
theorem occurrencesReachLines : Obligations.OccurrencesReachLines := by
  unfold Obligations.OccurrencesReachLines
  refine ⟨fun s rq line v t h => exec_pulse h, fun s ball rising t h => exec_evtInputEdge h, fun s ball t e he hd => exec_evtPulseEnd he hd,
    fun s line m timed hseen hnear => ?_, fun s line m timed hseen hfar hnear => ?_, fun s line m timed h => ?_,
    fun s p f t hty hnew hone hunknown => ?_, fun s p f t hty hcopy => exec_eventFrameRx_copy hty hcopy⟩
  · rw [exec_eventOccurrence_merged timed ⟨hseen, .inl hnear⟩, if_neg (Nat.not_le.mpr hnear)]
  · rw [exec_eventOccurrence_merged timed ⟨hseen, .inr hnear⟩, if_pos hfar]
  · have hfar : ¬ s.meets line m := by
      rintro ⟨hseen, hnear⟩
      rcases h with ⟨hafter, hbefore⟩ | ⟨hcount, hstamp⟩
      · omega
      · simp [hcount, hstamp] at hseen
    obtain ⟨u, hexec, hd⟩ := exec_eventOccurrence_delivered (timed := timed) hfar
    have hmoves := hd.moves
    refine ⟨u, hexec, hd.count, hd.stamp, hd.starts, hd.jumps, hd.loads, hd.plays, ?_, hd.alm, ?_, ?_, ?_, ?_⟩ <;> rw [hmoves]
  · obtain ⟨b, hb, hnoted, hexec⟩ := exec_eventFrameRx_accepted hty hnew hone hunknown
    have himport := b.importEvent_eq (f.src.toNat * 65536 + 512 + fld (fpay f 1) 31 9) (u80 (fpay f 2) (fpay f 3))
    have hregs : b.regs = s.regs := by rw [hb, State.at_regs]
    have hagenda : b.agenda = s.agenda := by rw [hb, State.at_agenda]
    have hreg (i j w : Nat) : b.reg i j w = s.reg i j w := by rw [State.reg, hregs, State.reg]
    have hlines (code : Nat) : b.linesOf code = s.linesOf code := by rw [State.linesOf, hregs, State.linesOf]
    refine ⟨_, hexec, ?_, fun k hk hcode n hn => ?_, fun hnone => ?_, ?_, ?_⟩
    · rw [himport]
      exact hnoted
    · exact State.importEvent_matched _ hk ((hreg _ _ _).trans hcode) (by rwa [hlines])
    · rw [State.importEvent_unmatched _ (fun k hk => by rw [hreg]; exact hnone k hk)]
      exact ⟨(State.reg_addReg_same ..).trans (by rw [hreg]; rfl), hagenda⟩
    · rw [himport, hb]
    · exact (SameRegs.of_eq [] hregs).trans (b.importEvent_regs _ _)

end Sys2Proof.Machine

namespace Sys2Proof.Machine

/-! ## Taking a timed-event slot (03, R106) -/

/-- A word that holds a number less than 2^40 reads as it. -/
theorem State.regN_eq_of_reg {s : State} {i j n : Nat} (h : s.reg i j = wd n) (hn : n < 2 ^ 40) : s.regN i j = n :=
  (congrArg BitVec.toNat h).trans (wd_toNat_of_lt hn)

theorem fld_lt {w : Word} {a n : Nat} (hn : n ≤ 40) : fld w a n < 2 ^ 40 := by
  unfold fld
  exact lt_of_lt_of_le (Nat.mod_lt _ (by positivity)) (Nat.pow_le_pow_right (by decide) hn)

/-- The free slot depends on the slots' states and on when they were taken. -/
theorem State.teFree_congr {s u : State} (hstate : ∀ n, u.teState n = s.teState n) (hage : u.sync.teAge = s.sync.teAge) : u.teFree = s.teFree := by
  simp only [State.teFree, hstate, hage]

/-- Meridian time depends on LOCAL and on OFFSET. -/
theorem State.now_congr {s u : State} (hclock : u.clock = s.clock) (hoffset : u.offset = s.offset) : u.now = s.now := by
  rw [State.now, State.localMt, hclock, hoffset, State.now, State.localMt]

/-- Words of a slot are the only ones to change. -/
theorem SameRegs.outside_slot {s u : State} {ks : List Nat} {n j : Nat} (h : SameRegs s u ks) (hj : j < 256)
    (hks : ∀ k ∈ ks, k = odKey (0x0920 + n) j 0 ∨ k = odKey (0x0920 + n) j 1) : SameOutside s u (fun i => i == 0x0920 + n) := by
  refine h.outside fun k hk => ?_
  rcases hks k hk with rfl | rfl
  · simp [odKey_index hj (show 0 < 134217728 by decide)]
  · simp [odKey_index hj (show 1 < 134217728 by decide)]

theorem SameOutside.slot_setRegN (s : State) (n : Nat) {j : Nat} (v : Nat) (hj : j < 256) :
    SameOutside s (s.setRegN (0x0920 + n) j v) (fun i => i == 0x0920 + n) :=
  (SameRegs.setRegN s (0x0920 + n) j v).outside_slot hj (by simp)

theorem SameOutside.slot_setReg80 (s : State) (n : Nat) {j : Nat} (v : U80) (hj : j < 256) :
    SameOutside s (s.setReg80 (0x0920 + n) j v) (fun i => i == 0x0920 + n) :=
  (SameRegs.setReg80 s (0x0920 + n) j v).outside_slot hj (by simp)

/-- The objects of a slot that is taken for an event. -/
def State.slotFor (s : State) (n origin id : Nat) (T : U80) (line : Nat) : State :=
  ((((s.setReg80 (0x0920 + n) 0x01 T).setRegN (0x0920 + n) 0x02 line).setRegN (0x0920 + n) 0x03 origin).setRegN (0x0920 + n) 0x04 id).setReg80
    (0x0920 + n) 0x05 0

/-- The slot is ARMED for an event. -/
structure State.Armed (s u : State) (n origin id : Nat) (T : U80) (line : Nat) : Prop where
  frame : u = { s with regs := u.regs, sync := u.sync }
  regs : SameOutside s u (fun i => i == 0x0920 + n)
  state : u.teState n = 1
  time : u.reg80 (0x0920 + n) 0x01 = T
  line : u.regN (0x0920 + n) 0x02 = line
  origin : u.regN (0x0920 + n) 0x03 = origin
  id : u.regN (0x0920 + n) 0x04 = id

section Slot

variable (s : State) (n origin id : Nat) (T : U80) (line : Nat)

theorem State.slotFor_moved : s.regsMoved (s.slotFor n origin id T line) :=
  ((((State.regsMoved.setReg80 s _ _ _).trans (State.regsMoved.setRegN _ _ _ _)).trans (State.regsMoved.setRegN _ _ _ _)).trans
    (State.regsMoved.setRegN _ _ _ _)).trans (State.regsMoved.setReg80 _ _ _ _)

theorem State.slotFor_regs : SameOutside s (s.slotFor n origin id T line) (fun i => i == 0x0920 + n) :=
  ((((SameOutside.slot_setReg80 s n T (by decide)).trans (SameOutside.slot_setRegN _ n line (by decide))).trans
    (SameOutside.slot_setRegN _ n origin (by decide))).trans (SameOutside.slot_setRegN _ n id (by decide))).trans
    (SameOutside.slot_setReg80 _ n 0 (by decide))

/-- Meridian time does not follow the objects of slots. -/
theorem State.now_slotFor : (s.slotFor n origin id T line).now = s.now := by
  have hregs := s.slotFor_regs n origin id T line
  have hlow : (0x0900 == 0x0920 + n) = false := beq_false_of_ne (by omega)
  refine State.now_congr (by rw [State.slotFor_moved]) ?_
  rw [State.offset, State.reg80, hregs.reg hlow (by decide) (by decide), hregs.reg hlow (by decide) (by decide), State.offset, State.reg80]

end Slot

theorem State.slotFor_armed {s : State} {n origin id : Nat} {T : U80} {line : Nat} (hline : line < 2 ^ 40) (horigin : origin < 2 ^ 40) (hid : id < 2 ^ 40) :
    s.Armed ((s.slotFor n origin id T line).setRegN (0x0920 + n) 0x00 1) n origin id T line := by
  have hT := SameRegs.setReg80 s (0x0920 + n) 0x01 T
  have hT' := State.reg80_setReg80_same s (0x0920 + n) 0x01 T
  have hmoved := (s.slotFor_moved n origin id T line).trans (State.regsMoved.setRegN _ (0x0920 + n) 0x00 1)
  have hout := (s.slotFor_regs n origin id T line).trans (SameOutside.slot_setRegN _ n (j := 0x00) 1 (by decide))
  unfold State.slotFor at hmoved hout ⊢
  generalize s.setReg80 (0x0920 + n) 0x01 T = s1 at hT hT' hmoved hout ⊢
  have hl := SameRegs.setRegN s1 (0x0920 + n) 0x02 line
  have hl' := State.reg_setRegN_same s1 (0x0920 + n) 0x02 line
  generalize s1.setRegN (0x0920 + n) 0x02 line = s2 at hl hl' hmoved hout ⊢
  have ho := SameRegs.setRegN s2 (0x0920 + n) 0x03 origin
  have ho' := State.reg_setRegN_same s2 (0x0920 + n) 0x03 origin
  generalize s2.setRegN (0x0920 + n) 0x03 origin = s3 at ho ho' hmoved hout ⊢
  have hi := SameRegs.setRegN s3 (0x0920 + n) 0x04 id
  have hi' := State.reg_setRegN_same s3 (0x0920 + n) 0x04 id
  generalize s3.setRegN (0x0920 + n) 0x04 id = s4 at hi hi' hmoved hout ⊢
  have hrest := (SameRegs.setReg80 s4 (0x0920 + n) 0x05 0).trans (SameRegs.setRegN _ (0x0920 + n) 0x00 1)
  have hstate := State.reg_setRegN_same (s4.setReg80 (0x0920 + n) 0x05 0) (0x0920 + n) 0x00 1
  generalize (s4.setReg80 (0x0920 + n) 0x05 0).setRegN (0x0920 + n) 0x00 1 = u at hrest hstate hmoved hout ⊢
  have fromId := hi.trans hrest
  have fromOrigin := ho.trans fromId
  have fromLine := hl.trans fromOrigin
  refine ⟨by rw [hmoved], hout, State.regN_eq_of_reg hstate (by decide), ?_, ?_, ?_, ?_⟩
  · rw [← hT', State.reg80, fromLine.reg _ _ _ (by simp [odKey]; omega), fromLine.reg _ _ _ (by simp [odKey]; omega), State.reg80]
  · exact State.regN_eq_of_reg ((fromOrigin.reg _ _ _ (by simp [odKey]; omega)).trans hl') hline
  · exact State.regN_eq_of_reg ((fromId.reg _ _ _ (by simp [odKey]; omega)).trans ho') horigin
  · exact State.regN_eq_of_reg ((hrest.reg _ _ _ (by simp [odKey]; omega)).trans hi') hid

/-- A free slot is taken and ARMED for an event at least 1 µs ahead (03, R106). -/
theorem State.teTake_arms {s : State} {n origin id : Nat} {T : U80} {line : Nat} {late : Bool} (hfree : s.teFree = some n)
    (hahead : s.now.toNat + 128000 ≤ T.toNat) (hline : line < 2 ^ 40) (horigin : origin < 2 ^ 40) (hid : id < 2 ^ 40) :
    (s.teTake origin id T line late).1 = n ∧ s.Armed (s.teTake origin id T line late).2 n origin id T line := by
  obtain ⟨b, hb⟩ : ∃ b : State, b = { s with sync := { s.sync with
    teAge := SMap.set (fun _ => 0) s.sync.teAge n s.sync.teNext, teNext := s.sync.teNext + 1 } } := ⟨_, rfl⟩
  have harmed := State.slotFor_armed (s := b) (n := n) (T := T) hline horigin hid
  have hnow : (b.slotFor n origin id T line).now = s.now := by
    rw [State.now_slotFor, hb]
    rfl
  have htake : s.teTake origin id T line late = (n, (b.slotFor n origin id T line).setRegN (0x0920 + n) 0x00 1) := by
    have hahead' := hahead
    rw [← hnow] at hahead'
    unfold State.teTake
    rw [hfree]
    dsimp only
    rw [← hb]
    exact if_pos hahead'
  rw [htake]
  refine ⟨rfl, ?_, ?_, harmed.state, harmed.time, harmed.line, harmed.origin, harmed.id⟩
  · have hframe := harmed.frame
    rw [hb] at hframe ⊢
    exact hframe
  · have hregs := harmed.regs
    rw [hb] at hregs ⊢
    exact hregs

end Sys2Proof.Machine

namespace Sys2Proof.Machine

/-! ## ISSUE and CANCEL (03, R105, R110) -/

/-- The row of ISSUE. -/
theorem odFind_issue : ∃ r, odFind 0x0910 0x00 = some r ∧ r.hook = .issue ∧ r.acc = .cmd := ⟨_, rfl, rfl, rfl⟩

/-- The row of CANCEL. -/
theorem odFind_cancel : ∃ r, odFind 0x0910 0x01 = some r ∧ r.hook = .cancel ∧ r.acc = .cmd := ⟨_, rfl, rfl, rfl⟩

/-- A state whose slots and clock are those of another one: it may differ in the journal, the links and the answers. -/
structure State.SameSlots (s u : State) : Prop where
  slots : ∀ n j w, j < 256 → w < 134217728 → u.reg (0x0920 + n) j w = s.reg (0x0920 + n) j w
  sync : u.sync = s.sync
  now : u.now = s.now
  own : u.ownDevice = s.ownDevice

namespace State.SameSlots

variable {s u : State} (h : s.SameSlots u)
include h

theorem regN (n : Nat) {j : Nat} (hj : j < 256) : u.regN (0x0920 + n) j = s.regN (0x0920 + n) j :=
  congrArg BitVec.toNat (h.slots n j 0 hj (by decide))

theorem teFree : u.teFree = s.teFree := State.teFree_congr (fun n => h.regN n (by decide)) (by rw [h.sync])

theorem teFind (origin id : Nat) (sel : Nat → Bool) : u.teFind origin id sel = s.teFind origin id sel := by
  simp only [State.teFind, State.teState, h.regN _ (show 0x00 < 256 by decide), h.regN _ (show 0x03 < 256 by decide), h.regN _ (show 0x04 < 256 by decide)]

end State.SameSlots

theorem State.Journalled.sameSlots {s j : State} {kind i sub : Nat} {src v : Word} (hj : s.Journalled j kind i sub src v) : s.SameSlots j where
  slots _ _ _ hb hc := hj.reg (by omega) hb hc
  sync := hj.sync
  now := State.now_congr hj.clock (hj.reg80 (by decide) (by decide))
  own := congrArg BitVec.toNat (hj.reg (by decide) (by decide) (by decide))

/-- A journal entry moves the journal's objects alone. -/
theorem State.Journalled.outside {s j : State} {kind i sub : Nat} {src v : Word} (hj : s.Journalled j kind i sub src v) {f : Nat → Bool}
    (hf : f 0x0400 = true) : SameOutside s j f :=
  hj.regs.outside (by simpa [journalKeys, odKey] using hf)

theorem State.sameSlots_halo (s : State) (halo : HaloSt) : s.SameSlots { s with halo := halo } := ⟨fun _ _ _ _ _ => rfl, rfl, rfl, rfl⟩

/-- The words of a transaction. -/
theorem map_snd_wordsAt (off : Nat) (vals : List Word) : (wordsAt off vals).map (fun e => e.2) = vals := by
  rw [wordsAt, List.map_map]
  exact List.zipIdx_map_fst 0 vals

section Commands

variable {j : State} (src : Word) {a b c d : Word}

/-- ISSUE to this device, or to all, takes a slot; the links get the event. -/
theorem State.issueEvent_own (h : fld c 16 24 = 0xFFFFFF ∨ fld c 16 24 = j.ownDevice) {x : Nat × State}
    (hx : j.teTake j.ownDevice (fld d 0 16) (u80 a b) (fld c 0 9) (bit c 9) = x) :
    ∃ halo, j.issueEvent src [a, b, c, d] = ({ x.2 with halo := halo } : State).endCmd src 0x0910 0x00 x.1 0 := by
  unfold State.issueEvent
  simp only [List.getD_cons_zero, List.getD_cons_succ, if_pos h, hx]
  rw [State.originate_eq]
  exact ⟨_, rfl⟩

/-- ISSUE to another device leaves this one's slots. -/
theorem State.issueEvent_other (h : ¬ (fld c 16 24 = 0xFFFFFF ∨ fld c 16 24 = j.ownDevice)) :
    ∃ halo, j.issueEvent src [a, b, c, d] = ({ j with halo := halo } : State).endCmd src 0x0910 0x00 0xFF 0 := by
  unfold State.issueEvent
  simp only [List.getD_cons_zero, List.getD_cons_succ, if_neg h]
  rw [State.originate_eq]
  exact ⟨_, rfl⟩

/-- CANCEL to this device, or to all, cancels the slot of the event. -/
theorem State.cancelEvent_own {w : Word} (h : fld w 16 24 = 0xFFFFFF ∨ fld w 16 24 = j.ownDevice) {x : State}
    (hx : j.teCancel j.ownDevice (fld w 0 16) = x) :
    ∃ halo, j.cancelEvent src w = ({ x with halo := halo } : State).endCmd src 0x0910 0x01 0 0 := by
  unfold State.cancelEvent
  simp only [if_pos h, hx]
  rw [State.originate_eq]
  exact ⟨_, rfl⟩

end Commands

/-- An ARMED slot is cancelled (03, R110). -/
theorem State.teCancel_armed {s : State} {origin id n : Nat} (h : s.teFind origin id (fun st => st = 1) = some n) :
    s.teCancel origin id = s.setRegN (0x0920 + n) 0x00 3 := by
  unfold State.teCancel
  rw [h]

/-- ISSUE to this device, or to all (03, R105, R106). -/
theorem exec_issue_own {s : State} {rq : Req} {a b c d : Word} {t n : Nat} (h : s.takes rq 0x0910 0x00 0 [a, b, c, d] Env.calm t = true)
    (htarget : fld c 16 24 = 0xFFFFFF ∨ fld c 16 24 = s.ownDevice) (hfree : s.teFree = some n)
    (hahead : (s.at t).now.toNat + 128000 ≤ (u80 a b).toNat) :
    ∃ u, exec (.issue rq 0 [a, b, c, d] t) s = .next u ∧
      u.teState n = 1 ∧
      u.reg80 (0x0920 + n) 0x01 = u80 a b ∧
      u.regN (0x0920 + n) 0x02 = fld c 0 9 ∧
      u.regN (0x0920 + n) 0x03 = s.ownDevice ∧
      u.regN (0x0920 + n) 0x04 = fld d 0 16 ∧
      u.cmdStatus rq.src 0x0910 0x00 = cmdStatusWord false n 0 ∧
      u = { s.at t with regs := u.regs, alm := u.alm, reply := u.reply, cmdStat := u.cmdStat, sync := u.sync, halo := u.halo } ∧
      SameOutside s u (fun i => i == 0x0920 + n || i == 0x0400) := by
  obtain ⟨r, hr, hhook, hacc⟩ := odFind_issue
  obtain ⟨kind, v, hj⟩ := (s.at t).journalWrite_journalled r rq.src 0x0910 0x00 (wordsAt 0 [a, b, c, d])
  have hexec := exec_of_takes (c := .issue rq 0 [a, b, c, d] t) (w := _) rfl h hr rfl
  simp only [hacc, State.acts, State.command, hhook, beq_self_eq_true, if_true, map_snd_wordsAt] at hexec
  generalize (s.at t).journalWrite r rq.src 0x0910 0x00 (wordsAt 0 [a, b, c, d]) false = j at hj hexec
  have hsame := hj.sameSlots
  have htarget' : fld c 16 24 = 0xFFFFFF ∨ fld c 16 24 = j.ownDevice := by rwa [hsame.own]
  obtain ⟨hslot, harmed⟩ := State.teTake_arms (s := j) (origin := j.ownDevice) (id := fld d 0 16) (T := u80 a b) (line := fld c 0 9) (late := bit c 9)
    (hsame.teFree.trans hfree) (by rwa [hsame.now]) (fld_lt (by decide)) (BitVec.isLt _) (fld_lt (by decide))
  obtain ⟨halo, hissue⟩ := State.issueEvent_own rq.src htarget' (x := j.teTake j.ownDevice (fld d 0 16) (u80 a b) (fld c 0 9) (bit c 9)) rfl
  rw [hissue, hslot] at hexec
  generalize (j.teTake j.ownDevice (fld d 0 16) (u80 a b) (fld c 0 9) (bit c 9)).2 = w at harmed hexec
  have hframe : w = { s.at t with regs := w.regs, alm := w.alm, sync := w.sync } := by
    rw [harmed.frame, hj.frame]
  have hregs : SameOutside (s.at t) w (fun i => i == 0x0920 + n || i == 0x0400) := 
    (hj.outside (by simp)).trans (harmed.regs.mono (fun _ hi => (Bool.or_eq_false_iff.mp hi).1))
  refine ⟨_, hexec ?_ ?_, harmed.state, harmed.time, harmed.line, harmed.origin.trans hsame.own, harmed.id, State.cmdStatus_endCmd_same .., ?_, hregs⟩
  · rw [hframe]
    rfl
  · exact hregs.reg (by simp; omega) (by decide) (by decide)
  · rw [hframe]
    rfl

/-- ISSUE to another device (03, R105). -/
theorem exec_issue_other {s : State} {rq : Req} {a b c d : Word} {t : Nat} (h : s.takes rq 0x0910 0x00 0 [a, b, c, d] Env.calm t = true)
    (hall : fld c 16 24 ≠ 0xFFFFFF) (hown : fld c 16 24 ≠ s.ownDevice) :
    ∃ u, exec (.issue rq 0 [a, b, c, d] t) s = .next u ∧
      u = { (s.at t).endCmd rq.src 0x0910 0x00 0xFF 0 with regs := u.regs, alm := u.alm, reply := u.reply, halo := u.halo } ∧
      SameRegs s u journalKeys := by
  obtain ⟨r, hr, hhook, hacc⟩ := odFind_issue
  obtain ⟨kind, v, hj⟩ := (s.at t).journalWrite_journalled r rq.src 0x0910 0x00 (wordsAt 0 [a, b, c, d])
  have hexec := exec_of_takes (c := .issue rq 0 [a, b, c, d] t) (w := _) rfl h hr rfl
  simp only [hacc, State.acts, State.command, hhook, beq_self_eq_true, if_true, map_snd_wordsAt] at hexec
  generalize (s.at t).journalWrite r rq.src 0x0910 0x00 (wordsAt 0 [a, b, c, d]) false = j at hj hexec
  have hother : ¬ (fld c 16 24 = 0xFFFFFF ∨ fld c 16 24 = j.ownDevice) := by
    rw [hj.sameSlots.own]
    exact not_or.mpr ⟨hall, hown⟩
  obtain ⟨halo, hissue⟩ := State.issueEvent_other rq.src hother (a := a) (b := b) (d := d)
  rw [hissue] at hexec
  refine ⟨_, hexec ?_ (hj.reg (by decide) (by decide) (by decide)), ?_, hj.regs⟩
  · rw [hj.frame]
    rfl
  · rw [hj.frame]
    rfl

/-- CANCEL to this device, or to all, of an event whose slot is ARMED (03, R110). -/
theorem exec_cancel_own {s : State} {rq : Req} {w : Word} {t n : Nat} (h : s.takes rq 0x0910 0x01 0 [w] Env.calm t = true)
    (htarget : fld w 16 24 = 0xFFFFFF ∨ fld w 16 24 = s.ownDevice)
    (hfind : s.teFind s.ownDevice (fld w 0 16) (fun st => st = 1) = some n) :
    ∃ u, exec (.cancel rq 0 [w] t) s = .next u ∧
      u.teState n = 3 ∧
      u = { (s.at t).endCmd rq.src 0x0910 0x01 0 0 with regs := u.regs, alm := u.alm, reply := u.reply, halo := u.halo } ∧
      SameRegs s u (odKey (0x0920 + n) 0x00 0 :: journalKeys) := by
  obtain ⟨r, hr, hhook, hacc⟩ := odFind_cancel
  obtain ⟨kind, v, hj⟩ := (s.at t).journalWrite_journalled r rq.src 0x0910 0x01 (wordsAt 0 [w])
  have hexec := exec_of_takes (c := .cancel rq 0 [w] t) (w := _) rfl h hr rfl
  have hword : word0 (wordsAt 0 [w]) = w := by simp [wordsAt, word0]
  simp only [hacc, State.acts, State.command, hhook, beq_self_eq_true, if_true, hword] at hexec
  generalize (s.at t).journalWrite r rq.src 0x0910 0x01 (wordsAt 0 [w]) false = j at hj hexec
  have hsame := hj.sameSlots
  have hcancel := State.teCancel_armed ((hsame.teFind j.ownDevice (fld w 0 16) (fun st => st = 1)).trans (by rw [hsame.own]; exact hfind))
  obtain ⟨halo, hissue⟩ := State.cancelEvent_own rq.src (w := w) (by rwa [hsame.own]) hcancel
  rw [hissue] at hexec
  have hset := SameRegs.setRegN j (0x0920 + n) 0x00 3
  have hregs : SameRegs s (j.setRegN (0x0920 + n) 0x00 3) (odKey (0x0920 + n) 0x00 0 :: journalKeys) :=
    (SameRegs.trans (t := j) hj.regs hset).mono (fun _ hk => List.mem_cons.mpr ((List.mem_append.mp hk).symm.imp_left List.mem_singleton.mp))
  have hframe : j.setRegN (0x0920 + n) 0x00 3 = { s.at t with regs := (j.setRegN (0x0920 + n) 0x00 3).regs, alm := j.alm } := by
    rw [hj.frame]
    rfl
  have hstate : (j.setRegN (0x0920 + n) 0x00 3).teState n = 3 := State.regN_eq_of_reg (State.reg_setRegN_same ..) (by decide)
  generalize j.setRegN (0x0920 + n) 0x00 3 = x at hexec hregs hframe hstate
  refine ⟨_, hexec ?_ (hregs.reg _ _ _ ?_), hstate, ?_, hregs⟩
  · rw [hframe]
    rfl
  · simp [journalKeys, odKey]
    omega
  · rw [hframe]
    rfl

end Sys2Proof.Machine

namespace Sys2Proof.Machine

/-! ## Timed events that arrive and fire (03, R106, R107, R110) -/

/-- A broadcast that is accepted leaves slots and clock. -/
theorem State.acceptBroadcast_sameSlots {s : State} {p : Nat} {f : Frame} (h : (s.acceptBroadcast p f).1 = true) :
    s.SameSlots (s.acceptBroadcast p f).2 := by
  obtain ⟨seen, ports, haccept⟩ := State.acceptBroadcast_accepts h
  rw [haccept]
  exact s.sameSlots_halo _

/-- An ARMED slot whose T is reached fires, stamped T (03, R107). -/
theorem exec_teFire {s : State} {slot : Fin 64} {t : Nat} (harmed : s.teState slot = 1)
    (hdue : (s.reg80 (0x0920 + slot) 0x01).toNat ≤ (s.at t).now.toNat) :
    ∃ u, exec (.teFire slot t) s = .next u ∧
      u.teState slot = 2 ∧
      u.reg80 (0x0920 + slot) 0x05 = s.reg80 (0x0920 + slot) 0x01 ∧
      Instr.eventOccurrence (Fin.ofNat 512 (s.regN (0x0920 + slot) 0x02)) (s.reg80 (0x0920 + slot) 0x01) true ∈ u.agenda ∧
      s.agenda <+: u.agenda ∧
      u = { s.at t with regs := u.regs, agenda := u.agenda } ∧
      SameRegs s u [odKey (0x0920 + slot) 0x00 0, odKey (0x0920 + slot) 0x05 0, odKey (0x0920 + slot) 0x05 1] := by
  obtain ⟨T, hT⟩ : ∃ T, s.reg80 (0x0920 + slot) 0x01 = T := ⟨_, rfl⟩
  rw [hT] at hdue ⊢
  obtain ⟨later, hfires⟩ := (s.at t).teFireAt_eq slot T
  have hregs := (s.at t).teFireAt_regs slot T
  have hstate := (SameRegs.setReg80 ((s.at t).setRegN (0x0920 + slot) 0x00 2) (0x0920 + slot) 0x05 T).reg (0x0920 + slot) 0x00 0 (by simp [odKey]; omega)
  have hat := State.reg80_setReg80_same ((s.at t).setRegN (0x0920 + slot) 0x00 2) (0x0920 + slot) 0x05 T
  have hmoved := (State.regsMoved.setRegN (s.at t) (0x0920 + slot) 0x00 2).trans (State.regsMoved.setReg80 _ (0x0920 + slot) 0x05 T)
  rw [State.reg_setRegN_same] at hstate
  generalize ((s.at t).setRegN (0x0920 + slot) 0x00 2).setReg80 (0x0920 + slot) 0x05 T = b at hfires hstate hat hmoved
  have hframe : (s.at t).teFireAt slot T = { s.at t with regs := ((s.at t).teFireAt slot T).regs, agenda := ((s.at t).teFireAt slot T).agenda } := by
    rw [hfires, hmoved]
  refine ⟨(s.at t).teFireAt slot T, ?_, ?_, ?_, ?_, ?_, hframe, hregs⟩
  · change execTeFire slot t s = _
    refine State.perform_moves (t := t) ?_ (by rw [State.moves, hframe]) (hregs.reg _ _ _ (by simp [odKey]; omega))
    rw [State.tick_posted_nil]
    simp only [State.at_reg80, State.at_teState, hT, harmed, hdue, decide_true, Bool.and_self, State.when_true]
  · rw [hfires]
    exact State.regN_eq_of_reg hstate (by decide)
  · rw [hfires]
    exact hat
  · rw [hfires]
    exact List.mem_append_right _ (List.mem_cons_self ..)
  · rw [hfires]
    exact List.prefix_append ..

/-- A received ISSUE for this device arms a slot (03, R106). -/
theorem exec_teIssueRx {s : State} {p : Fin 4} {f : Frame} {t n : Nat} (hty : f.ty = 5) (hkind : fld (fpay f 1) 36 4 = 1)
    (hnew : ((s.at t).acceptBroadcast p f).1 = true) (htarget : fld (fpay f 0) 16 24 = 0xFFFFFF ∨ fld (fpay f 0) 16 24 = s.ownDevice)
    (hunknown : s.teFind f.src.toNat (fld (fpay f 1) 0 16) (fun st => st ≠ 0) = none) (hfree : s.teFree = some n)
    (hahead : (s.at t).now.toNat + 128000 ≤ (u80 (fpay f 2) (fpay f 3)).toNat) :
    ∃ u, exec (.teIssueRx p f t) s = .next u ∧
      u.teState n = 1 ∧
      u.reg80 (0x0920 + n) 0x01 = u80 (fpay f 2) (fpay f 3) ∧
      u.regN (0x0920 + n) 0x02 = fld (fpay f 1) 16 9 ∧
      u.regN (0x0920 + n) 0x03 = f.src.toNat ∧
      u.regN (0x0920 + n) 0x04 = fld (fpay f 1) 0 16 ∧
      u = { s.at t with regs := u.regs, sync := u.sync, halo := u.halo } ∧
      SameOutside s u (fun i => i == 0x0920 + n) := by
  obtain ⟨seen, ports, haccept⟩ := State.acceptBroadcast_accepts hnew
  have hsame := State.acceptBroadcast_sameSlots hnew
  obtain ⟨a, ha⟩ : ∃ a, ((s.at t).acceptBroadcast p f).2 = a := ⟨_, rfl⟩
  rw [ha] at haccept hsame
  obtain ⟨-, harmed⟩ := State.teTake_arms (s := a) (origin := f.src.toNat) (id := fld (fpay f 1) 0 16) (T := u80 (fpay f 2) (fpay f 3))
    (line := fld (fpay f 1) 16 9) (late := bit (fpay f 1) 35) (hsame.teFree.trans hfree) (by rwa [hsame.now]) (fld_lt (by decide))
    (lt_trans f.src.isLt (by decide)) (fld_lt (by decide))
  have hgoes : (fld (fpay f 0) 16 24 = 0xFFFFFF ∨ fld (fpay f 0) 16 24 = a.ownDevice) ∧
      a.teFind f.src.toNat (fld (fpay f 1) 0 16) (fun st => st ≠ 0) = none := by
    rw [hsame.own, hsame.teFind]
    exact ⟨htarget, hunknown⟩
  obtain ⟨w, hw⟩ : ∃ w, (a.teTake f.src.toNat (fld (fpay f 1) 0 16) (u80 (fpay f 2) (fpay f 3)) (fld (fpay f 1) 16 9) (bit (fpay f 1) 35)).2 = w := ⟨_, rfl⟩
  rw [hw] at harmed
  have hframe : w = { s.at t with regs := w.regs, sync := w.sync, halo := w.halo } := by
    rw [harmed.frame, haccept]
  have hregs : SameOutside (s.at t) w (fun i => i == 0x0920 + n) := by
    have h := harmed.regs
    rw [haccept] at h
    exact h
  refine ⟨w, ?_, harmed.state, harmed.time, harmed.line, harmed.origin, harmed.id, hframe, hregs⟩
  change execTeIssueRx p f t s = _
  refine State.perform_moves (t := t) ?_ (by rw [State.moves, hframe]) (hregs.reg (by simp; omega) (by decide) (by decide))
  rw [State.tick_posted_nil]
  simp only [hty, hkind, and_self, if_true, hnew, ha, Bool.not_true, Bool.false_eq_true, if_false]
  exact (if_pos hgoes).trans hw

/-- A received CANCEL for this device cancels an ARMED slot (03, R110). -/
theorem exec_teCancelRx {s : State} {p : Fin 4} {f : Frame} {t n : Nat} (hty : f.ty = 5) (hkind : fld (fpay f 1) 36 4 = 2)
    (hnew : ((s.at t).acceptBroadcast p f).1 = true) (htarget : fld (fpay f 0) 16 24 = 0xFFFFFF ∨ fld (fpay f 0) 16 24 = s.ownDevice)
    (hfind : s.teFind f.src.toNat (fld (fpay f 1) 0 16) (fun st => st = 1) = some n) :
    ∃ u, exec (.teCancelRx p f t) s = .next u ∧
      u.teState n = 3 ∧
      u = { s.at t with regs := u.regs, halo := u.halo } ∧
      SameRegs s u [odKey (0x0920 + n) 0x00 0] := by
  obtain ⟨seen, ports, haccept⟩ := State.acceptBroadcast_accepts hnew
  have hsame := State.acceptBroadcast_sameSlots hnew
  obtain ⟨a, ha⟩ : ∃ a, ((s.at t).acceptBroadcast p f).2 = a := ⟨_, rfl⟩
  rw [ha] at haccept hsame
  have hgoes : fld (fpay f 0) 16 24 = 0xFFFFFF ∨ fld (fpay f 0) 16 24 = a.ownDevice := by
    rwa [hsame.own]
  have hcancel : a.teCancel f.src.toNat (fld (fpay f 1) 0 16) = a.setRegN (0x0920 + n) 0x00 3 :=
    State.teCancel_armed ((hsame.teFind _ _ _).trans hfind)
  have hregs : SameRegs (s.at t) (a.setRegN (0x0920 + n) 0x00 3) [odKey (0x0920 + n) 0x00 0] :=
    (SameRegs.of_eq [] (by rw [haccept])).trans (SameRegs.setRegN a (0x0920 + n) 0x00 3)
  refine ⟨a.setRegN (0x0920 + n) 0x00 3, ?_, State.regN_eq_of_reg (State.reg_setRegN_same ..) (by decide), ?_, hregs⟩
  · change execTeCancelRx p f t s = _
    refine State.perform_moves (t := t) ?_ (by rw [haccept]; rfl) (hregs.reg _ _ _ (by simp [odKey]; omega))
    rw [State.tick_posted_nil]
    simp only [hty, hkind, and_self, if_true, hnew, ha, Bool.not_true, Bool.false_eq_true, if_false, if_pos hgoes, hcancel]
  · rw [haccept]
    rfl

/-- Settles O10, from a rule for each step; slots that are armed rest on `State.teTake_arms`. -/
theorem timedEventsArmAndFire : Obligations.TimedEventsArmAndFire := by
  unfold Obligations.TimedEventsArmAndFire
  exact ⟨fun s rq a b c d t n h htarget hfree hahead => exec_issue_own h htarget hfree hahead,
    fun s rq a b c d t h hall hown => exec_issue_other h hall hown,
    fun s rq w t n h htarget hfind => exec_cancel_own h htarget hfind,
    fun s slot t harmed hdue => exec_teFire harmed hdue,
    fun s p f t n hty hkind hnew htarget hunknown hfree hahead => exec_teIssueRx hty hkind hnew htarget hunknown hfree hahead,
    fun s p f t n hty hkind hnew htarget hfind => exec_teCancelRx hty hkind hnew htarget hfind⟩

end Sys2Proof.Machine

namespace Sys2Proof.Machine

/-! The family of edge timing (05): O11.

## A play can write to HBM

Each play first releases the fail items of the vector before (05, R166). When their queue is full and ends in a QUEUE_GAP cell that has
moved to the pool, the drop is added to that cell where it stands (10, R318): a write to HBM. Statements that let a play move queues but
not memory fail there. -/

/-- A cycle that leaves what `State.played` says leaves memory. -/
theorem State.played.hbm {s u : State} {c : Nat} {v : Vec} (h : s.played u c v) : u.hbm = s.hbm := by
  obtain ⟨-, -, -, -, -, hframe⟩ := h
  exact (congrArg State.hbm hframe).trans rfl

theorem State.played.line {s u : State} {c : Nat} {v : Vec} (h : s.played u c v) (a : Nat) : u.line a = s.line a := by
  simp only [State.line, State.hbmRaw, h.hbm]

/-- The line of the pool at which the last cell of queue 7 stands in `dropDue`. -/
def gapAt : Nat := 0x40000000

/-- Queue 7 holds one cell, a QUEUE_GAP cell that has moved to the pool, and its LIMIT is 1. -/
def gapInPool : State :=
  { (((readyDevice.setRegW 0x7010 0 7 (setBit 0 39 true)).setRegW 0x7011 0 7 1).setQueue 7
      { QState.empty with cells := [⟨0, true, true, none, 5, false, 0, gapAt⟩] }) with
    hbm := Memory.putLine [] gapAt (gapLine 1 1 1 0 0) }

/-- Cluster 5 is in RUN with the vector `v` due at address 16, and one fail item of the vector before waits for queue 7. -/
def dropDue (v : Vec) : State :=
  ((gapInPool.setRegN 0x0100 0x00 4).setRegN (seqIdx 0 5) 0 3).onSq 5 fun q =>
    { q with
      ctl := Ctl.at 16
      due := 70000
      fetch := ⟨Ctl.at 17, false, [(16, v)]⟩
      failRec := some ⟨[(2, 0)], 15, 1, 0, 0, none, 7, []⟩ }

/-- An ADV that drives no lane. -/
def idleAdv : Vec := ⟨0, 0, 0, false⟩

/-- The items that the gap cell of queue 7 counts (10, table QUEUE_GAP cell). -/
def State.gapItems (s : State) : Nat := fld (lineWord (s.line gapAt) 0) 0 36

theorem gapItems_dropDue : (dropDue idleAdv).gapItems = 1 := by decide +kernel

/-- The play adds the dropped item to the gap cell, in HBM (10, R318). -/
theorem adv_dropDue_gapItems : ∃ u, exec (.adv 5 ⟨0, 0⟩) (dropDue idleAdv) = .next u ∧ u.gapItems = 2 :=
  ⟨_, rfl, by decide +kernel⟩

/-- Refutes O11: its clauses leave memory as it was, but the ADV played in `dropDue` releases a fail item into a full queue, whose gap cell
in the pool is rewritten in HBM. -/
theorem not_vectorsPlay : ¬ Obligations.VectorsPlay := by
  unfold Obligations.VectorsPlay
  rintro ⟨hadv, -⟩
  obtain ⟨u, hu, -, hplayed⟩ := hadv (dropDue idleAdv) 5 ⟨0, 0⟩ idleAdv (by decide +kernel) (by decide +kernel)
  have hkept : u.gapItems = 1 := by rw [State.gapItems, hplayed.line, ← State.gapItems, gapItems_dropDue]
  obtain ⟨w, hw, hadded⟩ := adv_dropDue_gapItems
  obtain rfl : u = w := Host.Outcome.next.inj (hu.symm.trans hw)
  omega

end Sys2Proof.Machine

namespace Sys2Proof.Machine

/-! The family of vector programs (06, 07): O12 and O14 to O17.

## What writes to HBM where the frames say nothing does

As for O11: an item of the sequencer that is dropped at a full queue is added to the queue's last gap cell, which may have moved to the pool
in HBM (10, R318). Plays release such items, the end of a run and a WAIT that times out enqueue their own. -/

/-- The gap cell of queue 7 stands in memory alone. -/
theorem State.gapItems_of_hbm {s u : State} (h : u.hbm = s.hbm) : u.gapItems = s.gapItems := by
  simp only [State.gapItems, State.line, State.hbmRaw, h]

/-- A step that leaves memory cannot be one that adds an item to the gap cell. -/
theorem false_of_gapItems_added {k : Instr} {s u : State} (hu : exec k s = .next u) (hhbm : u.hbm = s.hbm) (hbefore : s.gapItems = 1)
    (hadds : ∃ w, exec k s = .next w ∧ w.gapItems = 2) : False := by
  have hkept : u.gapItems = 1 := (State.gapItems_of_hbm hhbm).trans hbefore
  obtain ⟨w, hw, hadded⟩ := hadds
  obtain rfl : u = w := Host.Outcome.next.inj (hu.symm.trans hw)
  omega

theorem State.at_hbm (s : State) (t : Nat) : (s.at t).hbm = s.hbm := rfl

/-- A JMP to entry 0 of JUMP_TABLE that drives no lane. -/
def idleJmp : Vec := ⟨0, 0, 0x0A * 2 ^ 21, false⟩

theorem jmp_dropDue_gapItems : ∃ u, exec (.jmp 5 ⟨0, 0⟩) (dropDue idleJmp) = .next u ∧ u.gapItems = 2 :=
  ⟨_, rfl, by decide +kernel⟩

/-- Refutes O12: its clauses leave memory as it was, but the JMP played in `dropDue` releases a fail item into a full queue, whose gap cell
in the pool is rewritten in HBM. -/
theorem not_controlFlowLeadsOn : ¬ Obligations.ControlFlowLeadsOn := by
  unfold Obligations.ControlFlowLeadsOn
  rintro ⟨hjmp, -⟩
  obtain ⟨u, hu, -, hplayed⟩ := hjmp (dropDue idleJmp) 5 ⟨0, 0⟩ idleJmp (by decide +kernel) (by decide +kernel)
  exact false_of_gapItems_added hu hplayed.hbm (by decide +kernel) jmp_dropDue_gapItems

theorem stopAbort_dropDue_gapItems :
    ∃ u, exec (.stopAbort ⟨0, none⟩ 5 9) (dropDue idleAdv) = .next u ∧ u.gapItems = 2 :=
  ⟨_, rfl, by decide +kernel⟩

/-- Refutes O15: its clause on STOP 2 in RUN leaves memory as it was, but the end of the run in `dropDue` releases a fail item into a full
queue, whose gap cell in the pool is rewritten in HBM. -/
theorem not_runsAreStopped : ¬ Obligations.RunsAreStopped := by
  unfold Obligations.RunsAreStopped
  rintro ⟨-, habort, -⟩
  obtain ⟨u, hu, -, -, -, -, -, -, hframe⟩ := habort (dropDue idleAdv) ⟨0, none⟩ 5 9 (by decide +kernel) (by decide +kernel)
  have hhbm : u.hbm = (dropDue idleAdv).hbm := (congrArg State.hbm hframe).trans (by simp only [State.endCmd_hbm, State.at_hbm])
  exact false_of_gapItems_added hu hhbm gapItems_dropDue stopAbort_dropDue_gapItems

/-- `dropDue` at the first vector of its segment. -/
def dropOpening : State := (dropDue idleAdv).onSq 5 (fun q => { q with opening := true })

theorem adv_dropOpening_gapItems : ∃ u, exec (.adv 5 ⟨0, 0⟩) dropOpening = .next u ∧ u.gapItems = 2 :=
  ⟨_, rfl, by decide +kernel⟩

/-- Refutes O16: its clause on the first vector of a segment leaves memory as it was, but that vector, played in `dropOpening`, releases a
fail item into a full queue, whose gap cell in the pool is rewritten in HBM. -/
theorem not_jumpsAreDecidedAtBoundaries : ¬ Obligations.JumpsAreDecidedAtBoundaries := by
  unfold Obligations.JumpsAreDecidedAtBoundaries
  rintro ⟨-, -, -, -, -, -, -, -, -, -, -, hopens, -⟩
  obtain ⟨u, hu, -, -, -, -, -, hplayed⟩ := hopens dropOpening 5 ⟨0, 0⟩ idleAdv (by decide +kernel) (by decide +kernel) rfl
  exact false_of_gapItems_added hu hplayed.hbm (by decide +kernel) adv_dropOpening_gapItems

/-- Cluster 5, with FAIL_QUEUE 7 and WAIT_TIMEOUT 100 ns, has played a WAIT on line 3 since 50; the queue is that of `gapInPool`. -/
def waitOverdue : State :=
  ((((gapInPool.setRegN 0x0100 0x00 4).setRegN (seqIdx 0 5) 0 3).setAct (seqIdx 3 5) 1 0 7).setAct (seqIdx 1 5) 8 0 100).onSq 5
    (fun q => { q with wait := some ⟨50, 3, false, none⟩, ctl := Ctl.at 33, due := 90000 })

theorem waitTimeout_waitOverdue_gapItems :
    ∃ u, exec (.waitTimeout 5 (nsEt 200)) waitOverdue = .next u ∧ u.gapItems = 2 :=
  ⟨_, rfl, by decide +kernel⟩

/-- Refutes O17: its clause on WAIT_TIMEOUT leaves memory as it was, but the item of the WAIT that times out in `waitOverdue` is dropped at
a full queue, whose gap cell in the pool is rewritten in HBM. -/
theorem not_waitsAndStreams : ¬ Obligations.WaitsAndStreams := by
  unfold Obligations.WaitsAndStreams
  rintro ⟨-, -, -, -, htimeout, -⟩
  obtain ⟨u, hu, -, -, -, -, -, hframe⟩ := htimeout waitOverdue 5 (nsEt 200) ⟨50, 3, false, none⟩ (by decide +kernel) rfl rfl
    (by decide +kernel) (by decide +kernel) (by decide +kernel)
  have hhbm : u.hbm = waitOverdue.hbm := (congrArg State.hbm hframe).trans (by simp only [State.at_hbm])
  exact false_of_gapItems_added hu hhbm (by decide +kernel) waitTimeout_waitOverdue_gapItems

end Sys2Proof.Machine
namespace Sys2Proof.Machine

/-! ## Sequencers, slices and what a step shows -/

@[simp] theorem State.sq_onSq_same (s : State) (c : Nat) (f : SeqSt → SeqSt) : (s.onSq c f).sq c = f (s.sq c) := by
  simp [State.sq, State.onSq]

theorem State.sq_onSq_other (s : State) {c d : Nat} (f : SeqSt → SeqSt) (h : d ≠ c) : (s.onSq c f).sq d = s.sq d := by
  simp [State.sq, State.onSq, SMap.get_set, h.symm]

/-- Sequencers are read from the state's sequencers alone. -/
theorem State.sq_of_seqs {s u : State} (h : u.seqs = s.seqs) (c : Nat) : u.sq c = s.sq c := by
  rw [State.sq, h, State.sq]

theorem State.slice_of_pins {s u : State} (h : u.pins = s.pins) (c n : Nat) : u.slice c n = s.slice c n := by
  rw [State.slice, h, State.slice]

theorem State.reg_of_regs {s u : State} (h : u.regs = s.regs) (i j w : Nat) : u.reg i j w = s.reg i j w := by
  rw [State.reg, h, State.reg]

/-- A change of the first slices of a cluster reaches each of them, and nothing but slices. -/
theorem State.foldl_onSlice (s : State) (c : Nat) (f : SliceSt → SliceSt) (k : Nat) :
    ∃ l, (List.range k).foldl (fun s n => s.onSlice c n f) s = { s with pins := { s.pins with slices := l } } ∧
      ∀ n, ((List.range k).foldl (fun s n => s.onSlice c n f) s).slice c n = if n < k then f (s.slice c n) else s.slice c n := by
  induction k with
  | zero => exact ⟨s.pins.slices, rfl, fun n => rfl⟩
  | succ k ih =>
    obtain ⟨l, hframe, hslice⟩ := ih
    simp only [List.range_succ, List.foldl_append, List.foldl_cons, List.foldl_nil]
    generalize (List.range k).foldl (fun s n => s.onSlice c n f) s = u at hframe hslice
    refine ⟨(u.onSlice c k f).pins.slices, by rw [hframe]; rfl, fun n => ?_⟩
    have hput : (u.onSlice c k f).slice c n = if n = k then f (u.slice c k) else u.slice c n := by
      simp only [State.slice, State.onSlice, SMap.get_set]
      exact if_congr ⟨fun h => by omega, fun h => by omega⟩ rfl rfl
    rw [hput]
    split
    · next h => simp [h, hslice]
    · next h => rw [hslice]; exact if_congr ⟨fun h => by omega, fun h => by omega⟩ rfl rfl

/-- STATE's change latches nothing outside the service port. -/
theorem State.attention_eq (s : State) (w : Word) : s.attention w = { s with svc := (s.attention w).svc } := by
  unfold State.attention
  split <;> rfl

/-- What a step's body makes is all that counts of it. -/
theorem State.perform_congr {s : State} {f g : State → State} (h : f { s with posted := [] } = g { s with posted := [] }) :
    s.perform f = s.perform g := by
  simp only [State.perform, h]

/-- A step answers objects, sequencers and slices as its body leaves them. -/
theorem State.perform_shows (s : State) (f : State → State) :
    ∃ u, s.perform f = .next u ∧ u.regs = (f { s with posted := [] }).regs ∧ u.seqs = (f { s with posted := [] }).seqs ∧
      u.pins = (f { s with posted := [] }).pins := by
  refine ⟨_, rfl, ?_⟩
  generalize f { s with posted := [] } = r
  rw [State.attention_eq]
  exact ⟨rfl, rfl, rfl⟩

end Sys2Proof.Machine

namespace Sys2Proof.Machine

/-! ## Items that enter a queue (10) -/

/-- The objects that an item on its way into a queue can move: the queues', the log's, and those of the memory it meets. -/
def movedByItem (i : Nat) : Bool := (0x7000 ≤ i && i < 0x7020) || i == 0x0500 || i == 0x0D00 || i == 0x0D01

/-- What an item on its way into a queue moves at most. -/
structure State.Queued (s u : State) : Prop where
  frame : u = { s with regs := u.regs, agenda := u.agenda, log := u.log, queues := u.queues, posted := u.posted, mem := u.mem }
  regs : SameOutside s u movedByItem

namespace State.Queued

theorem refl (s : State) : s.Queued s := ⟨rfl, SameOutside.refl s _⟩

theorem trans {s u v : State} (h : s.Queued u) (h' : u.Queued v) : s.Queued v :=
  ⟨by rw [h'.frame, h.frame], h.regs.trans h'.regs⟩

/-- A write of a word of such an object. -/
theorem setRegW (s : State) {i j w : Nat} (v : Word) (hi : movedByItem i = true) (hj : j < 256) (hw : w < 134217728) :
    s.Queued (s.setRegW i j w v) :=
  ⟨rfl, (SameRegs.setRegW s i j w v).outside (by simpa [odKey_index hj hw] using hi)⟩

/-- A step that moves the log as `State.logPut` does. -/
theorem logPut (s : State) (code : Nat) (a b : Word) : s.Queued (s.logPut code a b) :=
  ⟨by rw [State.logPut_eq], (s.logPut_regs code a b false).outside (by decide)⟩

theorem setQueue (s : State) (q : Nat) (x : QState) : s.Queued (s.setQueue q x) := ⟨rfl, SameOutside.refl s _⟩

theorem hbmPut (s : State) (a : Nat) (l : LineData) : s.Queued (s.hbmPut a l) := by
  unfold State.hbmPut
  split
  · exact ⟨rfl, SameOutside.refl s _⟩
  · exact refl s

theorem due (s : State) (i : Instr) : s.Queued (s.due i) := ⟨rfl, SameOutside.refl s _⟩

theorem setMem (s : State) (m : MemSt) : s.Queued { s with mem := m } := ⟨rfl, SameOutside.refl s _⟩

/-- A line found with bad parity is poisoned where it stands, listed, logged and raised (01, R23). -/
theorem hbmRead (s : State) (a reader : Nat) : s.Queued (s.hbmRead a reader).2 := by
  unfold State.hbmRead
  split
  · exact refl s
  dsimp only
  split
  · split
    · exact refl s
    · have hlisted : s.Queued ((s.hbmPut a (poisoned (s.hbmRaw a))).addReg 0x0D00 0x04 1) :=
        (hbmPut s _ _).trans (setRegW _ _ (by decide) (by decide) (by decide))
      generalize (s.hbmPut a (poisoned (s.hbmRaw a))).addReg 0x0D00 0x04 1 = x at hlisted
      refine (hlisted.trans ?_).trans ((logPut _ _ _ _).trans (due _ _))
      split
      · exact refl x
      · exact ((setMem x _).trans (setRegW _ _ (by decide) (by decide) (by decide))).trans (setRegW _ _ (by decide) (by decide) (by omega))
  · exact refl s

theorem qNotify (s : State) {q : Nat} (before : Nat) (hq : q < 134217728) : s.Queued (s.qNotify q before) := by
  unfold State.qNotify
  dsimp only
  split
  · exact (setRegW s _ (by decide) (by decide) (by omega)).trans (State.when_rel refl _ _ fun _ => due _ _)
  · exact refl s

theorem qPut (s : State) {q : Nat} (pos : Nat) (cs : List QCell) (hq : q < 134217728) : s.Queued (s.qPut q pos cs) := by
  unfold State.qPut
  exact ((setQueue s q _).trans (setRegW _ _ (by decide) (by decide) hq)).trans (qNotify _ _ hq)

theorem qRewrite (s : State) (q num : Nat) (f : LineData → LineData) : s.Queued (s.qRewrite q num f) := by
  unfold State.qRewrite
  dsimp only
  split
  · exact refl s
  · split
    · exact setQueue s q _
    · exact (hbmRead s _ _).trans (hbmPut _ _ _)

theorem newGap (s : State) {q : Nat} (burst cause lines : Nat) (x : QState) (hq : q < 134217728) :
    s.Queued (State.qDrop.newGap q burst cause lines s x).2 := by
  unfold State.qDrop.newGap
  split
  · exact ((setQueue s q _).trans (qPut _ _ _ hq)).trans (logPut _ _ _ _)
  · exact logPut s _ _ _

theorem qDrop (s : State) {q : Nat} (burst cause lines : Nat) (hq : q < 134217728) : s.Queued (s.qDrop q burst cause lines).2 := by
  have hcount : s.Queued (s.addReg 0x7019 0 1 q) := setRegW s _ (by decide) (by decide) hq
  unfold State.qDrop
  dsimp only
  generalize s.addReg 0x7019 0 1 q = x at hcount
  split
  · split
    · exact hcount.trans ((qRewrite x q _ _).trans (logPut _ _ _ _))
    · exact hcount.trans (newGap x burst cause lines _ hq)
  · exact hcount.trans (newGap x burst cause lines _ hq)

theorem qTakeReserve (s : State) (q : Nat) : s.Queued (s.qTakeReserve q) := by
  unfold State.qTakeReserve
  dsimp only
  split
  · exact setQueue s q _
  · exact refl s

/-- An item is appended or dropped whole (10, R317). -/
theorem qItem (s : State) {q : Nat} (burst : Nat) (ls : List LineData) (hq : q < 134217728) : s.Queued (s.qItem q burst ls) := by
  unfold State.qItem
  split
  · exact setRegW s _ (by decide) (by decide) hq
  · dsimp only
    split
    · exact (qTakeReserve s q).trans (qDrop _ _ _ _ hq)
    · exact (qTakeReserve s q).trans (qPut _ _ _ hq)

end State.Queued

/-- What an item of a cluster's sequencer moves: it enters the fail queue, or waits behind the fail items that wait (05, R166; 06, R213). -/
structure State.ItemSent (s u : State) (c : Nat) : Prop where
  frame : u = { s with regs := u.regs, agenda := u.agenda, log := u.log, queues := u.queues, posted := u.posted, mem := u.mem, seqs := u.seqs }
  regs : SameOutside s u movedByItem
  own : u.sq c = { s.sq c with failRec := (u.sq c).failRec }
  others : ∀ d, d ≠ c → u.sq d = s.sq d

theorem State.ItemSent.refl (s : State) (c : Nat) : s.ItemSent s c := ⟨rfl, SameOutside.refl s _, rfl, fun _ _ => rfl⟩

theorem State.failItem_sent (s : State) (c : Nat) (ls : List LineData) : s.ItemSent (s.failItem c ls) c := by
  unfold State.failItem
  dsimp only
  split
  · exact State.ItemSent.refl s c
  · next hq =>
    split
    · exact ⟨rfl, SameOutside.refl s _, by rw [State.sq_onSq_same], fun d hd => State.sq_onSq_other s _ hd⟩
    · have hitem := State.Queued.qItem s c ls (q := s.failQueue c) (by omega)
      have hseqs : (s.qItem (s.failQueue c) c ls).seqs = s.seqs := by rw [hitem.frame]
      have hsq (d : Nat) := State.sq_of_seqs hseqs d
      exact ⟨by rw [hitem.frame], hitem.regs, by rw [hsq], fun d _ => hsq d⟩

end Sys2Proof.Machine

namespace Sys2Proof.Machine

/-! ## Arming (06, R214; 07, R224, R225) -/

/-- Subindices cleared one after the other. -/
theorem State.foldl_setReg_zero (s : State) (i : Nat) (ks : List Nat) :
    s.regsMoved (ks.foldl (fun s k => s.setReg i k 0) s) ∧
      SameRegs s (ks.foldl (fun s k => s.setReg i k 0) s) (ks.map (fun k => odKey i k 0)) ∧
      ∀ k ∈ ks, (ks.foldl (fun s k => s.setReg i k 0) s).reg i k = 0 := by
  induction ks generalizing s with
  | nil => exact ⟨rfl, SameRegs.refl s _, nofun⟩
  | cons k ks ih =>
    obtain ⟨hmoved, hregs, hzero⟩ := ih (s.setReg i k 0)
    refine ⟨(State.regsMoved.setReg s i k 0).trans hmoved, (SameRegs.setReg s i k 0).trans hregs, fun m hm => ?_⟩
    by_cases hlater : m ∈ ks
    · exact hzero m hlater
    · obtain rfl : m = k := by simpa [hlater] using hm
      refine (hregs.reg i m 0 ?_).trans (State.reg_setReg_same s i m 0)
      simp only [List.mem_map, odKey, not_exists, not_and]
      exact fun n hn heq => hlater (by rwa [show m = n by omega])

/-- The objects that belong to a cluster's sequencer (06, 07). -/
def ofSequencer (c i : Nat) : Bool := seqIdx 0 c ≤ i && i < seqIdx 0x40 c

theorem ofSequencer_seqIdx {obj : Nat} (c : Nat) (h : obj < 0x40) : ofSequencer c (seqIdx obj c) = true := by
  simp [ofSequencer, seqIdx, h]

/-- A write of a word of the sequencer's objects. -/
theorem SameOutside.sequencer_setReg (s : State) (c : Nat) {obj j : Nat} (v : Word) (ho : obj < 0x40) (hj : j < 256) :
    SameOutside s (s.setReg (seqIdx obj c) j v) (ofSequencer c) :=
  (SameRegs.setReg s (seqIdx obj c) j v).outside (by simpa [odKey_index hj] using ofSequencer_seqIdx c ho)

theorem SameOutside.sequencer_setReg80 (s : State) (c : Nat) {obj j : Nat} (v : U80) (ho : obj < 0x40) (hj : j < 256) :
    SameOutside s (s.setReg80 (seqIdx obj c) j v) (ofSequencer c) :=
  (SameRegs.setReg80 s (seqIdx obj c) j v).outside (by simpa [odKey_index hj] using ofSequencer_seqIdx c ho)

/-- The objects that Starfix of a cluster moves when a run or a pass is aborted (16, R474). -/
def ofStarfix (c i : Nat) : Bool := i == calIdx c || i == 0x0800

theorem State.calAbort_moved (s : State) (c : Nat) :
    s.calAbort c = { s with regs := (s.calAbort c).regs, therm := (s.calAbort c).therm } ∧
      SameRegs s (s.calAbort c) [odKey (calIdx c) 0 0, odKey 0x0800 5 0] := by
  unfold State.calAbort
  dsimp only
  split
  · exact ⟨rfl, (SameRegs.setRegN (s.onCal c _) (calIdx c) 0 1).trans (SameRegs.addReg _ 0x0800 5 1 0)⟩
  · exact ⟨rfl, SameRegs.refl s _⟩

/-- The target store is loaded from the objects: nothing but the cluster's store and its targets moves (07, R225). -/
theorem State.loadStore_eq (s : State) (c : Nat) (all : Bool) :
    ∃ store targets, s.loadStore c all = s.onSq c (fun q => { q with store := store, targets := targets }) := ⟨_, _, rfl⟩

theorem State.loadStore_regs (s : State) (c : Nat) (all : Bool) : (s.loadStore c all).regs = s.regs := rfl

/-- RESIDENT follows the open loops and block (07, R221). -/
theorem State.showResident_eq (s : State) (c : Nat) : ∃ n, s.showResident c = s.setRegN (seqIdx 0x20 c) 3 n := ⟨_, rfl⟩

/-- The counters and JUMP_STATUS objects that ARM clears (06, R214). -/
def armCounters (c : Nat) : List (Nat × Nat) :=
  [(seqIdx 3 c, 4), (seqIdx 3 c, 5), (seqIdx 3 c, 8), (seqIdx 3 c, 9), (seqIdx 2 c, 3), (seqIdx 2 c, 7)]

/-- What arming a sequencer at an address leaves. -/
structure State.ArmedAt (s u : State) (c addr : Nat) : Prop where
  frame : u = { s with regs := u.regs, seqs := u.seqs, therm := u.therm }
  state : u.reg (seqIdx 0 c) 0 = wd 1
  ctl : (u.sq c).ctl = Ctl.at addr
  start : (u.sq c).start = none
  others : ∀ d, d ≠ c → u.sq d = s.sq d
  counters : ∀ e ∈ armCounters c, u.reg e.1 e.2 = 0
  regs : SameOutside s u (fun i => ofSequencer c i || ofStarfix c i)

/-- The objects that ARM clears. -/
def State.armCleared (s : State) (c : Nat) : State :=
  let s := ([4, 5, 6, 8, 9].foldl (fun s k => s.setReg (seqIdx 3 c) k 0) s).setReg80 (seqIdx 3 c) 7 0
  let s := [3, 4, 5, 6, 7, 8].foldl (fun s k => s.setReg (seqIdx 2 c) k 0) s
  let s := [4, 5, 7].foldl (fun s k => s.setReg (seqIdx 0x20 c) k 0) s
  s.setRegN (seqIdx 0 c) 0x0F 0

theorem State.armCleared_moved (s : State) (c : Nat) : s.regsMoved (s.armCleared c) :=
  ((((State.foldl_setReg_zero s (seqIdx 3 c) _).1.trans (State.regsMoved.setReg80 _ _ _ _)).trans (State.foldl_setReg_zero _ (seqIdx 2 c) _).1).trans
    (State.foldl_setReg_zero _ (seqIdx 0x20 c) _).1).trans (State.regsMoved.setRegN _ _ _ _)

theorem State.armCleared_regs (s : State) (c : Nat) : SameOutside s (s.armCleared c) (ofSequencer c) := by
  have hclear (s : State) {obj : Nat} (ho : obj < 0x40) (ks : List Nat) (hk : ∀ k ∈ ks, k < 256) :
      SameOutside s (ks.foldl (fun s k => s.setReg (seqIdx obj c) k 0) s) (ofSequencer c) :=
    State.foldl_rel (R := fun s u => SameOutside s u (ofSequencer c)) (fun s => SameOutside.refl s _) SameOutside.trans ks
      (fun k h s => SameOutside.sequencer_setReg s c 0 ho (hk k h)) s
  exact ((((hclear s (by decide) _ (by decide)).trans (SameOutside.sequencer_setReg80 _ c 0 (by decide) (by decide))).trans
    (hclear _ (by decide) _ (by decide))).trans (hclear _ (by decide) _ (by decide))).trans (SameOutside.sequencer_setReg _ c _ (by decide) (by decide))

/-- What read 0 still reads 0. -/
def State.ZerosKept (s u : State) : Prop := ∀ i j, s.reg i j = 0 → u.reg i j = 0

theorem State.ZerosKept.trans {s u v : State} (h : s.ZerosKept u) (h' : u.ZerosKept v) : s.ZerosKept v :=
  fun i j hz => h' i j (h i j hz)

theorem State.ZerosKept.setRegW_zero (s : State) (i j w : Nat) : s.ZerosKept (s.setRegW i j w 0) := by
  intro a b hz
  rw [State.reg_setRegW]
  split
  · rfl
  · exact hz

theorem State.ZerosKept.foldl_setReg_zero (s : State) (i : Nat) (ks : List Nat) :
    s.ZerosKept (ks.foldl (fun s k => s.setReg i k 0) s) :=
  State.foldl_rel (R := State.ZerosKept) (fun _ _ _ hz => hz) State.ZerosKept.trans ks (fun k _ s => State.ZerosKept.setRegW_zero s i k 0) s

theorem State.armCleared_counters (s : State) (c : Nat) : ∀ e ∈ armCounters c, (s.armCleared c).reg e.1 e.2 = 0 := by
  obtain ⟨-, -, hfails⟩ := State.foldl_setReg_zero s (seqIdx 3 c) [4, 5, 6, 8, 9]
  unfold State.armCleared
  generalize [4, 5, 6, 8, 9].foldl (fun s k => s.setReg (seqIdx 3 c) k 0) s = s1 at hfails
  have htime : s1.ZerosKept (s1.setReg80 (seqIdx 3 c) 7 0) :=
    (State.ZerosKept.setRegW_zero s1 _ _ _).trans (State.ZerosKept.setRegW_zero _ _ _ _)
  generalize s1.setReg80 (seqIdx 3 c) 7 0 = s2 at htime
  obtain ⟨-, -, hjumps⟩ := State.foldl_setReg_zero s2 (seqIdx 2 c) [3, 4, 5, 6, 7, 8]
  have hfailsKept := htime.trans (State.ZerosKept.foldl_setReg_zero s2 (seqIdx 2 c) [3, 4, 5, 6, 7, 8])
  dsimp only
  generalize [3, 4, 5, 6, 7, 8].foldl (fun s k => s.setReg (seqIdx 2 c) k 0) s2 = s3 at hfailsKept hjumps
  have hlast := (State.ZerosKept.foldl_setReg_zero s3 (seqIdx 0x20 c) [4, 5, 7]).trans (State.ZerosKept.setRegW_zero _ (seqIdx 0 c) 0x0F 0)
  have hfail (k : Nat) (hk : k ∈ [4, 5, 6, 8, 9]) := hlast _ _ (hfailsKept _ _ (hfails k hk))
  have hjump (k : Nat) (hk : k ∈ [3, 4, 5, 6, 7, 8]) := hlast _ _ (hjumps k hk)
  simpa [armCounters] using ⟨hfail 4 (by decide), hfail 5 (by decide), hfail 8 (by decide), hfail 9 (by decide), hjump 3 (by decide), hjump 7 (by decide)⟩

/-- The sequencer goes to ARMING at an address, with its store loaded from the objects. -/
def State.armPlaced (s : State) (c addr : Nat) : State :=
  let s := s.onSq c (fun q => { SeqSt.idle with
    ctl := Ctl.at addr, fetch := Fetch.start (Ctl.at addr), segFrom := q.segFrom, lineTargets := q.lineTargets })
  ((s.showResident c).setRegN (seqIdx 0 c) 0 1).loadStore c true

/-- ARM in three parts. -/
theorem State.armSeq_eq (s : State) (c addr : Nat) : s.armSeq c addr = ((s.armCleared c).armPlaced c addr).calAbort c := rfl

theorem State.armPlaced_frame (s : State) (c addr : Nat) :
    s.armPlaced c addr = { s with regs := (s.armPlaced c addr).regs, seqs := (s.armPlaced c addr).seqs } := rfl

theorem State.armPlaced_own (s : State) (c addr : Nat) :
    ((s.armPlaced c addr).sq c).ctl = Ctl.at addr ∧ ((s.armPlaced c addr).sq c).start = none := by
  simp only [State.armPlaced, State.loadStore, State.sq_onSq_same]
  simp only [State.showResident, State.setRegN, State.sq_of_seqs (State.setRegW_seqs ..), State.sq_onSq_same]
  exact ⟨trivial, rfl⟩

theorem State.armPlaced_others (s : State) {c d : Nat} (addr : Nat) (hd : d ≠ c) : (s.armPlaced c addr).sq d = s.sq d := by
  simp only [State.armPlaced, State.loadStore, State.sq_onSq_other _ _ hd]
  simp only [State.showResident, State.setRegN, State.sq_of_seqs (State.setRegW_seqs ..), State.sq_onSq_other _ _ hd]

theorem State.armPlaced_state (s : State) (c addr : Nat) : (s.armPlaced c addr).reg (seqIdx 0 c) 0 = wd 1 := by
  unfold State.armPlaced
  rw [State.reg_of_regs (State.loadStore_regs ..), State.reg_setRegN_same]

theorem State.armPlaced_regs (s : State) (c addr : Nat) :
    SameRegs s (s.armPlaced c addr) [odKey (seqIdx 0x20 c) 3 0, odKey (seqIdx 0 c) 0 0] := by
  have hset (x : State) (n : Nat) := (SameRegs.setRegN x (seqIdx 0x20 c) 3 n).trans (SameRegs.setRegN _ (seqIdx 0 c) 0 1)
  exact (SameRegs.of_eq [] rfl).trans ((hset (s.onSq c _) _).trans (SameRegs.of_eq [] (State.loadStore_regs ..)))

/-- A sequencer is armed (06, R214; 07, R224). -/
theorem State.armSeq_armedAt (s : State) (c addr : Nat) : s.ArmedAt (s.armSeq c addr) c addr := by
  have hmoved := s.armCleared_moved c
  have hout := s.armCleared_regs c
  have hzero := s.armCleared_counters c
  rw [State.armSeq_eq]
  generalize s.armCleared c = b at hmoved hout hzero
  have hplaced := b.armPlaced_frame c addr
  obtain ⟨hctl, hstart⟩ := b.armPlaced_own c addr
  have hothers := fun {d} => b.armPlaced_others (c := c) (d := d) addr
  have hstate := b.armPlaced_state c addr
  have hregs := b.armPlaced_regs c addr
  generalize b.armPlaced c addr = x at hplaced hctl hstart hothers hstate hregs
  obtain ⟨habort, habregs⟩ := x.calAbort_moved c
  have hlater := hregs.trans habregs
  have hseqs (d : Nat) : (x.calAbort c).sq d = x.sq d := State.sq_of_seqs (by rw [habort]) d
  refine ⟨by rw [habort, hplaced, hmoved], ?_, (congrArg _ (hseqs c)).trans hctl, (congrArg _ (hseqs c)).trans hstart, ?_, ?_, ?_⟩
  · exact (habregs.reg _ _ _ (by simp [odKey, seqIdx, calIdx]; omega)).trans hstate
  · intro d hd
    exact (hseqs d).trans ((hothers hd).trans (State.sq_of_seqs (by rw [hmoved]) d))
  · intro e he
    refine (hlater.reg _ _ _ ?_).trans (hzero e he)
    simp only [armCounters, List.mem_cons, List.not_mem_nil, or_false] at he
    rcases he with rfl | rfl | rfl | rfl | rfl | rfl <;> simp [odKey, seqIdx, calIdx] <;> omega
  · refine (hout.mono fun i hi => (Bool.or_eq_false_iff.mp hi).1).trans (hlater.outside ?_)
    simp [odKey_index, ofSequencer, ofStarfix, seqIdx]

end Sys2Proof.Machine

namespace Sys2Proof.Machine

/-! ## ARM, START and the steps before a run (06, R214, R215; 07, R224) -/

/-- As `exec_of_takes`, for an effect that may move any unit but the queue of commands, memory and LOCAL. -/
theorem exec_of_takes_next {c : Instr} {rq : Req} {i sub off : Nat} {vals : List Word} {e : Env} {t : Nat} {s : State} {r : Obj} {w : State}
    (hc : writeOf c = some (rq, i, sub, off, vals, e, t)) (h : s.takes rq i sub off vals e t = true) (hr : odFind i sub = some r)
    (hw : ((s.at t).journalWrite r rq.src i sub (wordsAt off vals) false).acts r rq.src i sub (wordsAt off vals) e = w)
    (hs : w.reg 0x0100 0x00 = s.reg 0x0100 0x00) (hp : w.posted = []) (hq : w.pending = s.pending) (hh : w.hbm = s.hbm)
    (hclock : w.clock = (s.at t).clock) : exec c s = .next (w.withReply ⟨0, 0, []⟩) := by
  rw [exec_of_writeOf hc]
  refine State.perform_next ?_ hs hp hq hh ?_
  · rw [State.odRow_taken h hr, ← hw]
    rfl
  · exact (State.tick_clock_le ({ s with posted := [] } : State) t).trans (le_of_eq hclock.symm)

/-- What the row of an object says that a command of it needs: its action, access, size and unit. -/
def rowSays (i sub : Nat) : Option (Hook × Acc × Bool × Nat × Nat) :=
  (odFind i sub).map (fun r => (r.hook, r.acc, r.isDomain, r.words, r.unit i))

/-- The row of a command of one word that is one of a unit's. -/
theorem odFind_of_rowSays {i sub u : Nat} {hook : Hook} (h : rowSays i sub = some (hook, .cmd, false, 1, u)) :
    ∃ r, odFind i sub = some r ∧ r.hook = hook ∧ r.acc = .cmd ∧ r.isDomain = false ∧ r.words = 1 ∧ r.unit i = u := by
  obtain ⟨r, hr, hsays⟩ := Option.map_eq_some_iff.mp h
  simp only [Prod.mk.injEq] at hsays
  exact ⟨r, hr, hsays⟩

theorem rowSays_arm : ∀ c : Fin 48, rowSays (seqIdx 0 c) 1 = some (.arm, .cmd, false, 1, c.val) := by decide +kernel
theorem rowSays_start : ∀ c : Fin 48, rowSays (seqIdx 0 c) 2 = some (.start, .cmd, false, 1, c.val) := by decide +kernel

section Commands

variable {s : State} {rq : Req} {c : Fin 48} {v : Word} {t : Nat}

/-- A journal entry leaves the sequencers and their objects. -/
theorem State.Journalled.sq {s j : State} {kind i sub : Nat} {src v : Word} (hj : s.Journalled j kind i sub src v) (c : Nat) :
    j.sq c = s.sq c := State.sq_of_seqs (by rw [hj.frame]) c

/-- ARM (06, R214). -/
theorem exec_arm (h : s.takes rq (seqIdx 0 c) 1 0 [v] Env.calm t = true) :
    ∃ u, exec (.arm rq c v t) s = .next u ∧
      u.seqState c = 1 ∧
      (u.sq c).ctl = Ctl.at (s.regN (seqIdx 0 c) 4) ∧
      (u.sq c).start = none ∧
      u.reg (seqIdx 3 c) 4 = 0 ∧
      u.reg (seqIdx 3 c) 5 = 0 ∧
      u.reg (seqIdx 3 c) 8 = 0 ∧
      u.reg (seqIdx 3 c) 9 = 0 ∧
      u.reg (seqIdx 2 c) 3 = 0 ∧
      u.reg (seqIdx 2 c) 7 = 0 ∧
      (∀ d < 48, d ≠ c.val → u.sq d = s.sq d) ∧
      s.answered u 3 (seqIdx 0 c) 1 rq.src v t ∧
      u = { (s.at t).endCmd rq.src (seqIdx 0 c) 1 0 0 with regs := u.regs, alm := u.alm, reply := u.reply, seqs := u.seqs, therm := u.therm } ∧
      SameOutside s u (fun i => i == 0x0400 || (seqIdx 0 c ≤ i && i < seqIdx 0x40 c) || i == calIdx c || i == 0x0800) := by
  obtain ⟨r, hr, hhook, hacc, hdom, hone, hunit⟩ := odFind_of_rowSays (rowSays_arm c)
  have hj := (s.at t).journalWrite_one rq.src (seqIdx 0 c) 1 v hdom hone
  have hexec := exec_of_takes_next (c := .arm rq c v t) (w := _) rfl h hr rfl
  simp only [hacc, State.acts, State.command, hhook, State.instantCommand, hunit, beq_self_eq_true, if_true] at hj hexec
  generalize (s.at t).journalWrite r rq.src (seqIdx 0 c) 1 (wordsAt 0 [v]) false = j at hj hexec
  have haddr : j.regN (seqIdx 0 c) 4 = s.regN (seqIdx 0 c) 4 :=
    congrArg BitVec.toNat (hj.reg (by simp [seqIdx]; omega) (by decide) (by decide))
  rw [haddr] at hexec
  have harm := j.armSeq_armedAt c (s.regN (seqIdx 0 c) 4)
  generalize j.armSeq c (s.regN (seqIdx 0 c) 4) = w at hexec harm
  have hregs : SameOutside (s.at t) w (fun i => i == 0x0400 || (seqIdx 0 c ≤ i && i < seqIdx 0x40 c) || i == calIdx c || i == 0x0800) := by
    refine (hj.outside (by simp)).trans (harm.regs.mono fun i hi => ?_)
    simp only [Bool.or_eq_false_iff] at hi
    obtain ⟨⟨⟨-, hseq⟩, hcal⟩, hstarfix⟩ := hi
    simp only [ofSequencer, ofStarfix, hseq, hcal, hstarfix, Bool.or_self]
  have hjournal (k : Nat) (hk : k < 256) : w.reg 0x0400 k = j.reg 0x0400 k :=
    harm.regs.reg (by simp [ofSequencer, ofStarfix, seqIdx, calIdx]; omega) hk (by decide)
  have halm : w.alm = j.alm := by rw [harm.frame]
  have hcounter := harm.counters
  simp only [armCounters, List.forall_mem_cons, List.not_mem_nil, false_imp_iff, implies_true, and_true] at hcounter
  obtain ⟨h4, h5, h8, h9, h3, h7⟩ := hcounter
  have hframe : w.endCmd rq.src (seqIdx 0 c) 1 0 0 = { (s.at t).endCmd rq.src (seqIdx 0 c) 1 0 0 with
      regs := w.regs, alm := w.alm, seqs := w.seqs, therm := w.therm } := by
    rw [harm.frame, hj.frame]
    rfl
  refine ⟨_, hexec ?_ (by rw [hframe]; rfl) (by rw [hframe]; rfl) (by rw [hframe]; rfl) (by rw [hframe]; rfl), ?_, harm.ctl, harm.start,
    h4, h5, h8, h9, h3, h7, ?_, ?_, ?_, hregs⟩
  · exact hregs.reg (by simp [seqIdx, calIdx]; omega) (by decide) (by decide)
  · exact State.regN_eq_of_reg harm.state (by decide)
  · exact fun d _ hd => (harm.others d hd).trans (hj.sq d)
  · exact hj.answered halm (hjournal 1 (by decide))
  · rw [hframe]
    rfl

/-- START fixes its instant: the command's (06, R215). -/
theorem exec_start (h : s.takes rq (seqIdx 0 c) 2 0 [v] Env.calm t = true) :
    ∃ u, exec (.start rq c v t) s = .next u ∧
      u.sq c = { s.sq c with start := some ((s.at t).clock, false) } ∧
      (∀ d < 48, d ≠ c.val → u.sq d = s.sq d) ∧
      s.answered u 3 (seqIdx 0 c) 2 rq.src v t ∧
      u = { (s.at t).endCmd rq.src (seqIdx 0 c) 2 0 0 with regs := u.regs, alm := u.alm, reply := u.reply, seqs := u.seqs } ∧
      SameRegs s u journalKeys := by
  obtain ⟨r, hr, hhook, hacc, hdom, hone, hunit⟩ := odFind_of_rowSays (rowSays_start c)
  have hj := (s.at t).journalWrite_one rq.src (seqIdx 0 c) 2 v hdom hone
  have hexec := exec_of_takes (c := .start rq c v t) (w := _) rfl h hr rfl
  simp only [hacc, State.acts, State.command, hhook, State.instantCommand, hunit, beq_self_eq_true, if_true] at hj hexec
  generalize (s.at t).journalWrite r rq.src (seqIdx 0 c) 2 (wordsAt 0 [v]) false = j at hj hexec
  obtain ⟨w, hw⟩ : ∃ w, j.onSq c (fun q => { q with start := some (j.clock, false) }) = w := ⟨_, rfl⟩
  have hown : w.sq c = { s.sq c with start := some ((s.at t).clock, false) } := by
    rw [← hw, State.sq_onSq_same, hj.sq, hj.clock]
    rfl
  have hothers (d : Nat) (hd : d ≠ c.val) : w.sq d = s.sq d := by
    rw [← hw, State.sq_onSq_other _ _ hd]
    exact hj.sq d
  have hwj : w = { j with seqs := w.seqs } := by rw [← hw]; rfl
  rw [hw] at hexec
  have hframe : w.endCmd rq.src (seqIdx 0 c) 2 0 0 = { (s.at t).endCmd rq.src (seqIdx 0 c) 2 0 0 with
      regs := w.regs, alm := w.alm, seqs := w.seqs } := by
    rw [hwj, hj.frame]
    rfl
  have hregs : w.regs = j.regs := by rw [hwj]
  have halm : w.alm = j.alm := by rw [hwj]
  refine ⟨_, hexec (by rw [hframe]; rfl) ?_, hown, fun d _ hd => hothers d hd, hj.answered halm (State.reg_of_regs hregs ..), ?_, ?_⟩
  · exact (State.reg_of_regs hregs ..).trans (hj.reg (by decide) (by decide) (by decide))
  · rw [hframe]
    rfl
  · exact hj.regs.trans (SameRegs.of_eq (t := w) [] hregs)

end Commands

section Steps

variable {s : State} {c : Fin 48} {t : Nat}

/-- A sequencer's start fails: ERROR with a cause at an address (06, table of sequencer states). -/
def State.startFails (s : State) (c cause addr : Nat) : State :=
  ((s.setRegN (seqIdx 0 c) 0 6).setRegN (seqIdx 0 c) 7 cause).setRegN (seqIdx 0 c) 8 addr

/-- The objects that it moves. -/
def startFailKeys (c : Nat) : List Nat := [odKey (seqIdx 0 c) 0 0, odKey (seqIdx 0 c) 7 0, odKey (seqIdx 0 c) 8 0]

theorem State.startFails_moved (s : State) (c cause addr : Nat) : s.regsMoved (s.startFails c cause addr) :=
  ((State.regsMoved.setRegN s _ _ _).trans (State.regsMoved.setRegN _ _ _ _)).trans (State.regsMoved.setRegN _ _ _ _)

theorem State.startFails_regs (s : State) (c cause addr : Nat) : SameRegs s (s.startFails c cause addr) (startFailKeys c) :=
  ((SameRegs.setRegN s _ _ _).trans (SameRegs.setRegN _ _ _ _)).trans (SameRegs.setRegN _ _ _ _)

theorem State.startFails_state (s : State) (c cause addr : Nat) : (s.startFails c cause addr).seqState c = 6 := by
  have hlater := (SameRegs.setRegN (s.setRegN (seqIdx 0 c) 0 6) (seqIdx 0 c) 7 cause).trans (SameRegs.setRegN _ (seqIdx 0 c) 8 addr)
  exact State.regN_eq_of_reg ((hlater.reg _ _ _ (by simp [odKey])).trans (State.reg_setRegN_same ..)) (by decide)

theorem State.startFails_cause (s : State) (c cause addr : Nat) : (s.startFails c cause addr).reg (seqIdx 0 c) 7 = wd cause := by
  have hlater := SameRegs.setRegN ((s.setRegN (seqIdx 0 c) 0 6).setRegN (seqIdx 0 c) 7 cause) (seqIdx 0 c) 8 addr
  exact (hlater.reg _ _ _ (by simp [odKey])).trans (State.reg_setRegN_same ..)

theorem State.startFails_addr (s : State) (c cause addr : Nat) : (s.startFails c cause addr).reg (seqIdx 0 c) 8 = wd addr :=
  State.reg_setRegN_same ..

theorem State.armed_unmapped (s : State) {c : Nat} (hst : s.seqState c = 1) (h : s.unmapped (s.sq c).ctl.pc = true) :
    s.armed c = (s.detach c 2).startFails c 22 (s.sq c).ctl.pc := by
  simp only [State.armed, hst, h, ne_eq, not_true_eq_false, if_false, if_true, State.startFails]

theorem State.armed_poisoned (s : State) {c a : Nat} {v : Vec} {l : List (Nat × Vec)} (hst : s.seqState c = 1)
    (h : s.unmapped (s.sq c).ctl.pc = false) (hahead : (s.sq c).fetch.ahead = (a, v) :: l) (hv : v.poison = true) :
    s.armed c = (s.detach c 2).startFails c 21 (s.sq c).ctl.pc := by
  simp only [State.armed, hst, h, hahead, hv, ne_eq, not_true_eq_false, if_false, if_true, State.startFails, Bool.false_eq_true]

theorem State.armed_loaded (s : State) {c : Nat} (hst : s.seqState c = 1) (hmapped : s.unmapped (s.sq c).ctl.pc = false)
    (hstream : s.fetchDone 2048 (s.sq c).fetch = true) (hstore : (s.sq c).store.all (s.fetchDone 512) = true)
    (hsound : ∀ e ∈ (s.sq c).fetch.ahead, e.2.poison = false) : s.armed c = s.setRegN (seqIdx 0 c) 0 2 := by
  simp only [State.armed, hst, hmapped, hstream, hstore, ne_eq, not_true_eq_false, if_false, if_true, Bool.false_eq_true, Bool.and_self]
  split
  · next e l hahead => simp [hsound e (by simp [hahead])]
  · rfl

/-- What a member that leaves its group's stream moves (07, R234). -/
def detachKeys (c g : Nat) : List Nat :=
  [odKey (seqIdx 0x20 c) 9 0, odKey (0x3C00 + g) 6 (c / 40), odKey 0x0500 0x06 0, odKey 0x0500 0x07 0, odKey (0x3C00 + g) 4 0]

theorem State.detach_of_not_attached (s : State) {c : Nat} (reason : Nat) (h : s.attached c = false) : s.detach c reason = s := by
  simp [State.detach, h]

/-- A state that moved objects, the log and broadcast groups, objects by the given keys. -/
def State.GroupMoved (s u : State) (ks : List Nat) : Prop :=
  u = { s with regs := u.regs, log := u.log, groups := u.groups } ∧ SameRegs s u ks

theorem State.GroupMoved.trans {s u v : State} {ks ls : List Nat} (h : s.GroupMoved u ks) (h' : u.GroupMoved v ls) : s.GroupMoved v (ks ++ ls) :=
  ⟨by rw [h'.1, h.1], h.2.trans h'.2⟩

theorem State.GroupMoved.setRegW (s : State) (i j w : Nat) (v : Word) : s.GroupMoved (s.setRegW i j w v) [odKey i j w] :=
  ⟨rfl, SameRegs.setRegW s i j w v⟩

theorem State.GroupMoved.logPut (s : State) (code : Nat) (a b : Word) :
    s.GroupMoved (s.logPut code a b) [odKey 0x0500 0x06 0, odKey 0x0500 0x07 0] :=
  ⟨by rw [State.logPut_eq], s.logPut_regs code a b false⟩

/-- An attached member leaves: it is attached no more, and nothing but the group, its objects and the log moves (07, R234). -/
theorem State.detach_attached (s : State) {c : Nat} (reason : Nat) (hc : c < 48) (h : s.attached c = true) :
    s.GroupMoved (s.detach c reason) (detachKeys c (s.bcastGroup c)) ∧ (s.detach c reason).reg (seqIdx 0x20 c) 9 = wd 2 := by
  have hoff := State.GroupMoved.setRegW s (seqIdx 0x20 c) 9 0 (wd 2)
  have hoff' := State.reg_setRegN_same s (seqIdx 0x20 c) 9 2
  unfold State.detach
  rw [if_pos h]
  generalize s.bcastGroup c = g
  dsimp only
  unfold State.setRegN at hoff' ⊢
  generalize s.setRegW (seqIdx 0x20 c) 9 0 (wd 2) = s1 at hoff hoff'
  have hmap : s1.GroupMoved (s1.markMember (0x3C00 + g) 6 c true) [odKey (0x3C00 + g) 6 (c / 40)] := State.GroupMoved.setRegW ..
  have hlog := hmap.trans (State.GroupMoved.logPut _ 0x0503 (wd (c * 2 ^ 34 + g * 2 ^ 28 + reason)) 0)
  generalize (s1.markMember (0x3C00 + g) 6 c true).logPut 0x0503 (wd (c * 2 ^ 34 + g * 2 ^ 28 + reason)) 0 = s2 at hlog
  obtain ⟨u, hu, hlast⟩ : ∃ u, (if (s2.attachedTo g).isEmpty = true then (s2.setGrp g ⟨0, none⟩).setRegW (0x3C00 + g) 4 0 (wd 0) else s2) = u ∧
      s2.GroupMoved u [odKey (0x3C00 + g) 4 0] := by
    refine ⟨_, rfl, ?_⟩
    split
    · exact ⟨rfl, SameRegs.setRegW (s2.setGrp g ⟨0, none⟩) _ _ _ _⟩
    · exact ⟨rfl, SameRegs.refl s2 _⟩
  rw [hu]
  have hlater := hlog.trans hlast
  refine ⟨hoff.trans hlater, (hlater.2.reg _ _ _ ?_).trans hoff'⟩
  simp [odKey, seqIdx]
  omega

/-- SEQ_ARMED of an ARMING sequencer whose start is sound, with its stream and its store loaded (07, R224). -/
theorem exec_seqArmed_loaded (hst : s.seqState c = 1) (hmapped : s.unmapped (s.sq c).ctl.pc = false)
    (hstream : s.fetchDone 2048 (s.sq c).fetch = true) (hstore : (s.sq c).store.all (s.fetchDone 512) = true)
    (hsound : ∀ e ∈ (s.sq c).fetch.ahead, e.2.poison = false) :
    exec (.seqArmed c t) s = .next ((s.at t).setRegN (seqIdx 0 c) 0 2) := by
  change execSeqArmed c t s = _
  exact State.perform_moves (t := t) ((s.at t).armed_loaded hst hmapped hstream hstore hsound) rfl
    ((SameRegs.setRegN (s.at t) (seqIdx 0 c) 0 2).reg _ _ _ (by simp [odKey, seqIdx]; omega))

/-- SEQ_ARMED of a sequencer on its own stream, whose start fails with a cause (06, table of sequencer states). -/
theorem exec_seqArmed_fails {cause : Nat} (hown : s.attached c = false)
    (hfails : (s.at t).armed c = ((s.at t).detach c 2).startFails c cause (s.sq c).ctl.pc) :
    ∃ u, exec (.seqArmed c t) s = .next u ∧
      u.seqState c = 6 ∧
      u.reg (seqIdx 0 c) 7 = wd cause ∧
      u.reg (seqIdx 0 c) 8 = wd (s.sq c).ctl.pc ∧
      u = { s.at t with regs := u.regs } ∧
      SameRegs s u (startFailKeys c) := by
  rw [State.detach_of_not_attached (s.at t) 2 hown] at hfails
  have hmoved := (s.at t).startFails_moved c cause (s.sq c).ctl.pc
  have hregs := (s.at t).startFails_regs c cause (s.sq c).ctl.pc
  refine ⟨_, ?_, State.startFails_state .., State.startFails_cause .., State.startFails_addr .., hmoved, hregs⟩
  change execSeqArmed c t s = _
  exact State.perform_moves (t := t) hfails (by rw [State.moves, hmoved]) (hregs.reg _ _ _ (by simp [startFailKeys, odKey, seqIdx]; omega))

/-- SEQ_ARMED of an attached member whose start is unmapped: it leaves its group too (07, R224, R234). -/
theorem exec_seqArmed_unmapped_member (hst : s.seqState c = 1) (hmember : s.attached c = true)
    (hunmapped : s.unmapped (s.sq c).ctl.pc = true) :
    ∃ u, exec (.seqArmed c t) s = .next u ∧
      u.seqState c = 6 ∧
      u.reg (seqIdx 0 c) 7 = 22 ∧
      u.attached c = false ∧
      u = { s.at t with regs := u.regs, log := u.log, groups := u.groups } := by
  obtain ⟨⟨hframe, hkeys⟩, hleft⟩ := (s.at t).detach_attached 2 c.isLt hmember
  have hfails := (s.at t).armed_unmapped hst hunmapped
  generalize (s.at t).detach c 2 = x at hframe hkeys hleft hfails
  have hmoved := x.startFails_moved c 22 (s.sq c).ctl.pc
  have hregs := x.startFails_regs c 22 (s.sq c).ctl.pc
  have hattached : (x.startFails c 22 (s.sq c).ctl.pc).reg (seqIdx 0x20 c) 9 = wd 2 :=
    (hregs.reg _ _ _ (by simp [startFailKeys, odKey, seqIdx]; omega)).trans hleft
  have hstate : (x.startFails c 22 (s.sq c).ctl.pc).reg 0x0100 0 = s.reg 0x0100 0 :=
    (hkeys.trans hregs).reg _ _ _ (by simp [detachKeys, startFailKeys, odKey, seqIdx]; omega)
  refine ⟨x.startFails c 22 (s.sq c).ctl.pc, ?_, x.startFails_state c 22 _, x.startFails_cause c 22 _, ?_, by rw [hmoved, hframe]⟩
  · change execSeqArmed c t s = _
    exact State.perform_next hfails hstate (by rw [hmoved, hframe]; rfl) (by rw [hmoved, hframe]; rfl) (by rw [hmoved, hframe]; rfl)
      (by rw [hmoved, hframe]; exact State.tick_clock_le ({ s with posted := [] } : State) t)
  · simp [State.attached, State.regN_eq_of_reg hattached]

/-- The first START_LINE occurrence of an ARMED sequencer fixes its start instant (06, R215). -/
theorem exec_startLineOccurrence_starts {stamp : U80} {timed : Bool} (hst : s.seqState c = 2) (hnone : (s.sq c).start = none)
    (hdev : s.devState ≠ 7) :
    ∃ u, exec (.startLineOccurrence c stamp timed t) s = .next u ∧
      u.sq c = { s.sq c with start := some (s.localOf stamp * 32 + (if timed then 0 else nsEt 64), true) } ∧
      (∀ d < 48, d ≠ c.val → u.sq d = s.sq d) ∧
      u = { s.at t with seqs := u.seqs } := by
  refine ⟨(s.at t).onSq c (fun q => { q with start := some (s.releaseAt stamp timed, true) }), ?_, State.sq_onSq_same .., ?_, rfl⟩
  · change execStartLineOccurrence c stamp timed t s = _
    refine State.perform_moves (t := t) ?_ rfl rfl
    exact (if_neg hdev).trans (if_pos ⟨hst, hnone⟩)
  · exact fun d _ hd => State.sq_onSq_other (s.at t) _ hd

/-- A START_LINE occurrence in any other case only counts START_MISSED and is logged (06, R215). -/
theorem exec_startLineOccurrence_missed {stamp : U80} {timed : Bool} (hmiss : s.seqState c ≠ 2 ∨ (s.sq c).start ≠ none)
    (hdev : s.devState ≠ 7) :
    ∃ u, exec (.startLineOccurrence c stamp timed t) s = .next u ∧
      u.reg (seqIdx 3 c) 0x0A = s.reg (seqIdx 3 c) 0x0A + 1 ∧
      u = { s.at t with regs := u.regs, log := u.log } ∧
      SameRegs s u [odKey (seqIdx 3 c) 0x0A 0, odKey 0x0500 6 0, odKey 0x0500 7 0] := by
  have hcount := SameRegs.addReg (s.at t) (seqIdx 3 c) 0x0A 1 0
  have hcount' := State.reg_addReg_same (s.at t) (seqIdx 3 c) 0x0A 1 0
  have hmoved := State.regsMoved.addReg (s.at t) (seqIdx 3 c) 0x0A 1 0
  obtain ⟨x, hx⟩ : ∃ x, (s.at t).addReg (seqIdx 3 c) 0x0A 1 = x := ⟨_, rfl⟩
  rw [hx] at hcount hcount' hmoved
  have hlog := x.logPut_regs 0x0501 (wd c) (s.reg (seqIdx 0 c) 5) false
  have hframe := x.logPut_eq 0x0501 (wd c) (s.reg (seqIdx 0 c) 5) false
  obtain ⟨u, hu⟩ : ∃ u, x.logPut 0x0501 (wd c) (s.reg (seqIdx 0 c) 5) = u := ⟨_, rfl⟩
  rw [hu] at hlog hframe
  rw [hmoved] at hframe
  have hregs := hcount.trans hlog
  refine ⟨u, ?_, (hlog.reg _ _ _ (by simp [odKey, seqIdx]; omega)).trans hcount', hframe, hregs⟩
  change execStartLineOccurrence c stamp timed t s = _
  refine State.perform_moves (t := t) ?_ (by rw [State.moves, hframe]) (hregs.reg _ _ _ (by simp [odKey, seqIdx]; omega))
  rw [State.tick_posted_nil, ← hu, ← hx]
  exact (if_neg hdev).trans (if_neg fun h => hmiss.elim (· h.1) (· h.2))

end Steps

end Sys2Proof.Machine

namespace Sys2Proof.Machine

/-! ## A run begins (05, R159, R167, R169; 06, R215; 07, R240) -/

/-- A state that moved objects other than STATE, and what Starfix keeps beside its objects. -/
def State.CalMoved (s u : State) : Prop := u = { s with regs := u.regs, therm := u.therm } ∧ u.reg 0x0100 0 = s.reg 0x0100 0

namespace State.CalMoved

theorem refl (s : State) : s.CalMoved s := ⟨rfl, rfl⟩

theorem trans {s u v : State} (h : s.CalMoved u) (h' : u.CalMoved v) : s.CalMoved v := ⟨by rw [h'.1, h.1], h'.2.trans h.2⟩

theorem setRegW (s : State) {i : Nat} (j w : Nat) (v : Word) (hi : 0x0100 < i) : s.CalMoved (s.setRegW i j w v) :=
  ⟨rfl, (SameRegs.setRegW s i j w v).reg _ _ _ (by simp [odKey]; omega)⟩

theorem setReg80 (s : State) {i : Nat} (j : Nat) (v : U80) (hi : 0x0100 < i) : s.CalMoved (s.setReg80 i j v) :=
  (setRegW s j 0 _ hi).trans (setRegW _ j 1 _ hi)

theorem onCal (s : State) (c : Nat) (f : CalSt → CalSt) : s.CalMoved (s.onCal c f) := ⟨rfl, rfl⟩

theorem calMark (s : State) (c : Nat) : s.CalMoved (s.calMark c) := by
  have hi : 0x0100 < calIdx c := by unfold calIdx; omega
  unfold State.calMark
  dsimp only
  split
  · exact (setRegW s _ _ _ hi).trans (setReg80 _ _ _ hi)
  · split
    · exact refl s
    · exact setRegW s _ _ _ hi

theorem calRestore (s : State) (c : Nat) (ws : List Word) : s.CalMoved (s.calRestore c ws) := by
  have hi : 0x0100 < calIdx c := by unfold calIdx; omega
  have hwords : s.CalMoved (ws.zipIdx.foldl (fun s e => s.setRegW (calIdx c) 7 e.2 e.1) s) :=
    State.foldl_rel refl trans _ (fun e _ s => setRegW s 7 e.2 e.1 hi) s
  unfold State.calRestore
  dsimp only
  generalize ws.zipIdx.foldl (fun s e => s.setRegW (calIdx c) 7 e.2 e.1) s = x at hwords
  exact (((((hwords.trans (onCal _ _ _)).trans (setRegW _ _ _ _ hi)).trans (setRegW _ _ _ _ hi)).trans (setReg80 _ _ _ hi)).trans
    (State.when_rel refl _ _ fun _ => setRegW _ _ _ _ hi)).trans (calMark _ c)

theorem calBoundary (s : State) (c close : Nat) : s.CalMoved (s.calBoundary c close) := by
  unfold State.calBoundary
  split
  · split
    · exact calRestore s c _
    · exact refl s
  · exact refl s

end State.CalMoved

/-- What a run start makes active: the written values, a restored calibration set, the modelled band. -/
def State.runValues (s : State) (c : Nat) : State :=
  let s := s.activateKeys (boundaryKey c)
  (s.calBoundary c (s.clock + 1)).adoptBand c

theorem State.runValues_keeps (s : State) (c : Nat) : (s.runValues c).seqs = s.seqs ∧ (s.runValues c).reg 0x0100 0 = s.reg 0x0100 0 := by
  obtain ⟨hframe, hstate⟩ := (State.CalMoved.calBoundary (s.activateKeys (boundaryKey c)) c (s.clock + 1)).trans
    (State.CalMoved.setRegW _ 0xF2 0 ((State.calBoundary (s.activateKeys (boundaryKey c)) c (s.clock + 1)).reg 0x0701 0x05 c)
      (i := peIdx 0x29 c) (by unfold peIdx; omega))
  exact ⟨(congrArg State.seqs hframe).trans rfl, hstate⟩

/-- STATE is RUN and the slices of the cluster rest. -/
def State.runRests (s : State) (c : Nat) : State :=
  (List.range 25).foldl (fun s n => s.onSlice c n (fun x => { x with drive := 0, data := false })) (s.setRegN (seqIdx 0 c) 0 3)

/-- The run's counts are 0, its start is noted. -/
def State.runCounts (s : State) (c r : Nat) : State :=
  let s := (s.setReg80 (seqIdx 0 c) 0x0A 0).setReg (seqIdx 0 c) 0x0B 0
  s.setReg80 (seqIdx 0 c) 0x0C (s.mAt r)

/-- The sequencer plays from an instant. -/
def SeqSt.runFrom (q : SeqSt) (r : Nat) : SeqSt :=
  { q with
    due := r, phase := .play, opening := true, segFrom := r, tb := r, ts := r, start := none, plays := 0, prev := none, writes := []
    history := [], seen := [] }

/-- The sequencer plays from an instant; its store and its APG are loaded. -/
def State.runPlaced (s : State) (c r : Nat) : State :=
  ((s.onSq c (fun q => q.runFrom r)).loadStore c false).apgStart c

/-- A run start in its parts. -/
theorem State.runStarts_eq (s : State) (c r : Nat) :
    s.runStarts c r = ((((((s.runValues c).runRests c).runCounts c r).runPlaced c r).segmentEvents c r).segmentItem c 0 r r).deviceRuns := rfl

/-- What the first steps of a run start leave: STATE RUN, slices at rest. -/
theorem State.runRests_spec (s : State) (c : Nat) (hc : c < 48) :
    (s.runRests c).seqs = s.seqs ∧ (s.runRests c).reg (seqIdx 0 c) 0 = wd 3 ∧ (s.runRests c).reg 0x0100 0 = s.reg 0x0100 0 ∧
      ∀ n < 25, ((s.runRests c).slice c n).drive = 0 ∧ ((s.runRests c).slice c n).data = false := by
  have hstate := State.reg_setRegN_same s (seqIdx 0 c) 0 3
  have hdevice := (SameRegs.setRegN s (seqIdx 0 c) 0 3).reg 0x0100 0 0 (by simp [odKey, seqIdx]; omega)
  have hseqs : (s.setRegN (seqIdx 0 c) 0 3).seqs = s.seqs := rfl
  unfold State.runRests
  generalize s.setRegN (seqIdx 0 c) 0 3 = x at hstate hdevice hseqs
  obtain ⟨l, hframe, hslice⟩ := x.foldl_onSlice c (fun y => { y with drive := 0, data := false }) 25
  generalize (List.range 25).foldl (fun s n => s.onSlice c n (fun y => { y with drive := 0, data := false })) x = y at hframe hslice
  have hregs : y.regs = x.regs := by rw [hframe]
  refine ⟨by rw [hframe, ← hseqs], (State.reg_of_regs hregs ..).trans hstate, (State.reg_of_regs hregs ..).trans hdevice, fun n hn => ?_⟩
  rw [hslice, if_pos hn]
  exact ⟨rfl, rfl⟩

/-- The words of the run's counts and of its start. -/
def runCountKeys (c : Nat) : List Nat :=
  [odKey (seqIdx 0 c) 0x0A 0, odKey (seqIdx 0 c) 0x0A 1, odKey (seqIdx 0 c) 0x0B 0, odKey (seqIdx 0 c) 0x0C 0, odKey (seqIdx 0 c) 0x0C 1]

theorem State.runCounts_moved (s : State) (c r : Nat) : s.regsMoved (s.runCounts c r) ∧ SameRegs s (s.runCounts c r) (runCountKeys c) :=
  ⟨((State.regsMoved.setReg80 s _ _ _).trans (State.regsMoved.setReg _ _ _ _)).trans (State.regsMoved.setReg80 _ _ _ _),
    ((SameRegs.setReg80 s _ _ _).trans (SameRegs.setReg _ _ _ _)).trans (SameRegs.setReg80 _ _ _ _)⟩

/-- The APG's registers X, Y and D. -/
def apgKeys (c : Nat) : List Nat := [odKey (seqIdx 0x25 c) 0 0, odKey (seqIdx 0x25 c) 1 0, odKey (seqIdx 0x25 c) 2 0]

theorem State.apgStart_moved (s : State) (c : Nat) : s.regsMoved (s.apgStart c) ∧ SameRegs s (s.apgStart c) (apgKeys c) :=
  ⟨((State.regsMoved.setRegN s _ _ _).trans (State.regsMoved.setRegN _ _ _ _)).trans (State.regsMoved.setRegN _ _ _ _),
    ((SameRegs.setRegN s _ _ _).trans (SameRegs.setRegN _ _ _ _)).trans (SameRegs.setRegN _ _ _ _)⟩

/-- What placing the sequencer at its start leaves. -/
structure State.RunPlaced (s u : State) (c r : Nat) : Prop where
  frame : u = { s with regs := u.regs, seqs := u.seqs }
  regs : SameRegs s u (apgKeys c)
  due : (u.sq c).due = r
  start : (u.sq c).start = none
  plays : (u.sq c).plays = 0
  ctl : (u.sq c).ctl = (s.sq c).ctl
  others : ∀ d, d ≠ c → u.sq d = s.sq d

theorem State.runPlaced_spec (s : State) (c r : Nat) : s.RunPlaced (s.runPlaced c r) c r := by
  obtain ⟨store, targets, hstore⟩ := (s.onSq c (fun q => q.runFrom r)).loadStore_eq c false
  obtain ⟨x, hx⟩ : ∃ x, (s.onSq c (fun q => q.runFrom r)).loadStore c false = x := ⟨_, rfl⟩
  have hown : x.sq c = { (s.sq c).runFrom r with store := store, targets := targets } := by
    rw [← hx, hstore, State.sq_onSq_same, State.sq_onSq_same]
  have hothers (d : Nat) (hd : d ≠ c) : x.sq d = s.sq d := by
    rw [← hx, hstore, State.sq_onSq_other _ _ hd, State.sq_onSq_other _ _ hd]
  have hframe : x = { s with seqs := x.seqs } := by rw [← hx]; rfl
  obtain ⟨hmoved, hregs⟩ := x.apgStart_moved c
  unfold State.runPlaced
  rw [hx]
  have hsq (d : Nat) : (x.apgStart c).sq d = x.sq d := State.sq_of_seqs rfl d
  refine ⟨by rw [hmoved, hframe], ?_, ?_, ?_, ?_, ?_, fun d hd => (hsq d).trans (hothers d hd)⟩
  · exact (SameRegs.of_eq (t := x) [] (by rw [hframe])).trans hregs
  all_goals rw [hsq, hown]; rfl

/-- READY and RUN follow the sequencers: nothing but the device state moves (19, table of device states). -/
theorem State.deviceRuns_moved (s : State) : s.regsMoved s.deviceRuns ∧ SameRegs s s.deviceRuns [odKey 0x0100 0 0] := by
  unfold State.deviceRuns
  split
  · exact ⟨rfl, SameRegs.setRegN s _ _ _⟩
  · split
    · exact ⟨rfl, SameRegs.setRegN s _ _ _⟩
    · exact ⟨rfl, SameRegs.refl s _⟩

/-- READY becomes RUN with a sequencer in RUN. -/
theorem State.deviceRuns_run (s : State) (hready : s.devState = 3) (hrun : s.anyRun = true) : s.deviceRuns.devState = 4 := by
  unfold State.deviceRuns
  rw [if_pos ⟨hready, hrun⟩]
  exact State.regN_eq_of_reg (State.reg_setRegN_same ..) (by decide)

/-- No sequencer is in RUN out of reset. -/
theorem romDefault_seqState : ∀ c : Fin 48, romDefault (odKey (seqIdx 0 c) 0 0) ≠ wd 3 := by decide +kernel

/-- Some sequencer is in RUN when one is. -/
theorem State.anyRun_of_seqState (s : State) (c : Fin 48) (h : s.reg (seqIdx 0 c) 0 = wd 3) : s.anyRun = true := by
  have hmem : c.val ∈ s.seqsIn 3 := State.mem_sinksAt (base := 0x3000) (stride := 0x40) (c := c) h (romDefault_seqState c) (by decide) c.isLt (by decide)
  simpa [State.anyRun] using List.ne_nil_of_mem hmem

/-- Step 3's occurrences only come due (06, R211). -/
theorem State.segmentEvents_due (s : State) (c tb : Nat) : s.segmentEvents c tb = { s with agenda := (s.segmentEvents c tb).agenda } := by
  have hraise (s : State) (code : Nat) (m : U80) : s.raiseEvent code m = { s with agenda := (s.raiseEvent code m).agenda } := by
    rw [State.raiseEvent_eq]
  have hmany (s : State) : s.repeat 8 (fun k s => s.raiseEvent (0x1000 + 8 * c + k) (s.mAt tb)) =
      { s with agenda := (s.repeat 8 (fun k s => s.raiseEvent (0x1000 + 8 * c + k) (s.mAt tb))).agenda } :=
    State.repeat_rel (R := fun s u => u = { s with agenda := u.agenda }) (fun s => rfl) (fun h h' => by rw [h', h]) 8 (fun k _ s => hraise s _ _) s
  unfold State.segmentEvents
  dsimp only
  have hone := hraise s (0xB000 + c) (s.mAt tb)
  generalize s.raiseEvent (0xB000 + c) (s.mAt tb) = x at hone
  split
  · rw [hmany x, hone]
  · exact hone

theorem State.segmentItem_sent (s : State) (c count tb ts : Nat) : s.ItemSent (s.segmentItem c count tb ts) c := by
  unfold State.segmentItem State.when
  split
  · exact s.failItem_sent c _
  · exact State.ItemSent.refl s c

/-- What a run start leaves. -/
structure State.RunStarted (s u : State) (c r : Nat) : Prop where
  state : u.seqState c = 3
  due : (u.sq c).due = r
  start : (u.sq c).start = none
  plays : (u.sq c).plays = 0
  ctl : (u.sq c).ctl = (s.sq c).ctl
  device : s.devState = 3 → u.devState = 4
  slices : ∀ n < 25, (u.slice c n).drive = 0 ∧ (u.slice c n).data = false
  others : ∀ d, d ≠ c → u.sq d = s.sq d

/-- The run starts at its instant (06, R215). -/
theorem State.runStarts_started (s : State) (c : Fin 48) (r : Nat) : s.RunStarted (s.runStarts c r) c r := by
  rw [State.runStarts_eq]
  obtain ⟨hvseqs, hvdevice⟩ := s.runValues_keeps c
  generalize s.runValues c = v at hvseqs hvdevice
  obtain ⟨hrseqs, hrstate, hrdevice, hrslices⟩ := v.runRests_spec c c.isLt
  generalize v.runRests c = a at hrseqs hrstate hrdevice hrslices
  obtain ⟨hcmoved, hcregs⟩ := a.runCounts_moved c r
  generalize a.runCounts c r = b at hcmoved hcregs
  have hplaced := b.runPlaced_spec c r
  generalize b.runPlaced c r = p at hplaced
  have hevents := p.segmentEvents_due c r
  generalize p.segmentEvents c r = e at hevents
  have hitem := e.segmentItem_sent c 0 r r
  generalize e.segmentItem c 0 r r = i at hitem
  obtain ⟨hdmoved, hdregs⟩ := i.deviceRuns_moved
  have hbegun (d : Nat) : b.sq d = s.sq d := State.sq_of_seqs (by rw [hcmoved, ← hvseqs, ← hrseqs]) d
  have hevsq (d : Nat) : e.sq d = p.sq d := State.sq_of_seqs (by rw [hevents]) d
  have hevregs : e.regs = p.regs := by rw [hevents]
  have hdsq (d : Nat) : i.deviceRuns.sq d = i.sq d := State.sq_of_seqs (by rw [hdmoved]) d
  have hown : i.deviceRuns.sq c = { p.sq c with failRec := (i.sq c).failRec } := by rw [hdsq, hitem.own, hevsq]
  have hstate : i.reg (seqIdx 0 c) 0 = wd 3 := by
    rw [hitem.regs.reg (by simp [movedByItem, seqIdx]; omega) (by decide) (by decide), State.reg_of_regs hevregs,
      hplaced.regs.reg _ _ _ (by simp [apgKeys, odKey, seqIdx]; omega), hcregs.reg _ _ _ (by simp [runCountKeys, odKey]; omega), hrstate]
  have hdevice : i.reg 0x0100 0 = s.reg 0x0100 0 := by
    rw [hitem.regs.reg (by decide) (by decide) (by decide), State.reg_of_regs hevregs,
      hplaced.regs.reg _ _ _ (by simp [apgKeys, odKey, seqIdx]; omega), hcregs.reg _ _ _ (by simp [runCountKeys, odKey, seqIdx]; omega), hrdevice, hvdevice]
  have hpins : i.deviceRuns.pins = a.pins := by rw [hdmoved, hitem.frame, hevents, hplaced.frame, hcmoved]
  refine ⟨?_, ?_, ?_, ?_, ?_, fun hready => ?_, fun n hn => ?_, fun d hd => ?_⟩
  · exact State.regN_eq_of_reg ((hdregs.reg _ _ _ (by simp [odKey, seqIdx]; omega)).trans hstate) (by decide)
  · exact (congrArg SeqSt.due hown).trans hplaced.due
  · exact (congrArg SeqSt.start hown).trans hplaced.start
  · exact (congrArg SeqSt.plays hown).trans hplaced.plays
  · exact (congrArg SeqSt.ctl hown).trans (hplaced.ctl.trans (congrArg _ (hbegun c)))
  · exact i.deviceRuns_run ((congrArg BitVec.toNat hdevice).trans hready) (i.anyRun_of_seqState c hstate)
  · rw [State.slice_of_pins hpins]
    exact hrslices n hn
  · rw [hdsq, hitem.others d hd, hevsq, hplaced.others d hd, hbegun]

theorem State.RunStarted.congr {s u v : State} {c r : Nat} (h : s.RunStarted u c r) (hregs : v.regs = u.regs) (hseqs : v.seqs = u.seqs)
    (hpins : v.pins = u.pins) : s.RunStarted v c r := by
  have hreg := State.reg_of_regs hregs
  have hsq := State.sq_of_seqs hseqs
  have hslice := State.slice_of_pins hpins
  refine ⟨?_, ?_, ?_, ?_, ?_, fun hready => ?_, fun n hn => ?_, fun d hd => (hsq d).trans (h.others d hd)⟩
  · exact (congrArg BitVec.toNat (hreg ..)).trans h.state
  · exact (congrArg _ (hsq c)).trans h.due
  · exact (congrArg _ (hsq c)).trans h.start
  · exact (congrArg _ (hsq c)).trans h.plays
  · exact (congrArg _ (hsq c)).trans h.ctl
  · exact (congrArg BitVec.toNat (hreg ..)).trans (h.device hready)
  · rw [hslice]
    exact h.slices n hn

/-- RUN_START at the instant that a start has fixed (06, R215). -/
theorem exec_runStart {s : State} {c : Fin 48} {t r : Nat} {exact : Bool} (hst : s.seqState c = 2)
    (hstart : (s.sq c).start = some (r, exact)) (hdue : r ≤ (s.at t).clock) :
    ∃ u, exec (.runStart c t) s = .next u ∧
      u.seqState c = 3 ∧
      (u.sq c).due = (if exact then r else min (gridUp ((s.at t).clock)) ((r + usEt 1) / 40960 * 40960)) ∧
      (u.sq c).start = none ∧
      (u.sq c).plays = 0 ∧
      (u.sq c).ctl = (s.sq c).ctl ∧
      (s.devState = 3 → u.devState = 4) ∧
      (∀ n < 25, (u.slice c n).drive = 0 ∧ (u.slice c n).data = false) ∧
      (∀ d < 48, d ≠ c.val → u.sq d = s.sq d) := by
  obtain ⟨at_, hat⟩ : ∃ at_, (if exact then r else min (gridUp ((s.at t).clock)) ((r + usEt 1) / 40960 * 40960)) = at_ := ⟨_, rfl⟩
  have hexec : exec (.runStart c t) s = s.perform fun _ => (s.at t).runStarts c at_ := by
    change execRunStart c t s = _
    refine State.perform_congr ?_
    have hstart' : ((s.at t).sq c).start = some (r, exact) := hstart
    have hgoes : ¬ ((s.at t).seqState c ≠ 2 ∨ (s.at t).clock < r) := not_or.mpr ⟨not_not.mpr hst, not_lt.mpr hdue⟩
    simp only [State.tick_posted_nil, hstart', if_neg hgoes, hat]
  obtain ⟨u, hu, hregs, hseqs, hpins⟩ := s.perform_shows fun _ => (s.at t).runStarts c at_
  have h := ((s.at t).runStarts_started c at_).congr hregs hseqs hpins
  rw [hat]
  exact ⟨u, hexec.trans hu, h.state, h.due, h.start, h.plays, h.ctl, h.device, h.slices, fun d _ hd => h.others d hd⟩

/-- Settles O14, from a rule for each step; what a run start leaves is `State.runStarts_started`, what ARM leaves
`State.armSeq_armedAt`. -/
theorem runsAreArmedAndStarted : Obligations.RunsAreArmedAndStarted := by
  unfold Obligations.RunsAreArmedAndStarted
  exact ⟨fun s rq c v t h => exec_arm h,
    fun s c t hst hmapped hstream hstore hsound => exec_seqArmed_loaded hst hmapped hstream hstore hsound,
    fun s c t hst hown hunmapped => exec_seqArmed_fails hown ((s.at t).armed_unmapped hst hunmapped),
    fun s c t a v l hst hown hmapped hahead hv => exec_seqArmed_fails hown ((s.at t).armed_poisoned hst hmapped hahead hv),
    fun s c t hst hmember hunmapped => exec_seqArmed_unmapped_member hst hmember hunmapped,
    fun s rq c v t h => exec_start h,
    fun s c stamp timed t hst hnone hdev => exec_startLineOccurrence_starts hst hnone hdev,
    fun s c stamp timed t hmiss hdev => exec_startLineOccurrence_missed hmiss hdev,
    fun s c t r exact hst hstart hdue => exec_runStart hst hstart hdue⟩

end Sys2Proof.Machine

namespace Sys2Proof.Machine

/-! The family of measurement (08): O18 to O20.

## Records that write to HBM where the frames say nothing does

As for O11: a record enters its queue as an item or as a packet (08, R262, R271), and either, when dropped at a full queue, is added to the
queue's last gap cell, which may have moved to the pool in HBM (10, R318). The first sample of a step puts the head of its packet, the close
of a capture gate its packets, the end of a regression gate its item. The frames of those clauses name the queues, but not memory. -/

/-- ADC 1 of cluster 5 is in ACQUIRE, released at 0, with the first sample of its only step due at s0 = 0; the step's SAMPLE_DIV is 10, its
DEST 1, and QUEUE is queue 7 of `gapInPool`. -/
def firstSampleDue : State :=
  ((((gapInPool.setRegN (adcIdx 5 1) 0 2).setRegN (adcIdx 5 1) 8 7).setRegW (adcIdx 5 1) 3 0 (wd (2 ^ 16 + 2 ^ 7))).setRegW (adcIdx 5 1) 3 1
    (wd (10 * 2 ^ 20))).onAdc 5 1 (fun a => { a with release := some 0, s0 := some 0 })

/-- The head of the record's packet is dropped and added to the gap cell, in HBM. -/
theorem adcSample_firstSampleDue_gapItems :
    ∃ u, exec (.adcSample 5 1 0 false 0) firstSampleDue = .next u ∧ u.gapItems = 2 :=
  ⟨_, rfl, by decide +kernel⟩

/-- Refutes O18: its clause on the first sample of a step leaves memory as it was, but the head of the record's packet that this sample opens
in `firstSampleDue` is dropped at a full queue, whose gap cell in the pool is rewritten in HBM. -/
theorem not_adcSequencesRun : ¬ Obligations.AdcSequencesRun := by
  unfold Obligations.AdcSequencesRun
  rintro ⟨-, -, -, -, -, -, -, -, hfirst, -⟩
  obtain ⟨u, hu, -, -, -, -, -, -, -, hframe⟩ := hfirst firstSampleDue 5 1 0 false 0 0 (by decide +kernel) (by decide +kernel)
    (by decide +kernel) (by decide +kernel) (by decide +kernel) (by decide +kernel) (by decide +kernel)
  have hhbm : u.hbm = firstSampleDue.hbm := (congrArg State.hbm hframe).trans (by simp only [State.at_hbm])
  exact false_of_gapItems_added hu hhbm (by decide +kernel) adcSample_firstSampleDue_gapItems

/-- The capture of lane 0 of cluster 5 has its gate open since 0; its QUEUE is queue 7 of `gapInPool`. -/
def captureOpen : State :=
  (((gapInPool.setRegN (capIdx 5) 0 2).setRegN (capIdx 5) 3 1).setRegN (capIdx 5) 8 7).onCap 5
    (fun x => { x with release := some 0, lanes := [(0, StampLane.empty)] })

/-- The lane's packet is dropped at its head and added to the gap cell, in HBM. -/
theorem stampGateClose_captureOpen_gapItems :
    ∃ u, exec (.stampGateClose 5 (nsEt 200000)) captureOpen = .next u ∧ u.gapItems = 2 :=
  ⟨_, rfl, by decide +kernel⟩

/-- Refutes O19: its clause on STAMP_GATE_CLOSE leaves memory as it was, but the record of the gate that closes in `captureOpen` is dropped
at a full queue, whose gap cell in the pool is rewritten in HBM. -/
theorem not_stampsAreCaptured : ¬ Obligations.StampsAreCaptured := by
  unfold Obligations.StampsAreCaptured
  rintro ⟨-, -, -, -, -, -, -, -, -, -, -, hclose, -⟩
  obtain ⟨u, hu, -, -, -, hframe⟩ := hclose captureOpen 5 (nsEt 200000) 0 (by decide +kernel) (by decide +kernel) (by decide +kernel)
  have hhbm : u.hbm = captureOpen.hbm := (congrArg State.hbm hframe).trans (by simp only [State.at_hbm])
  exact false_of_gapItems_added hu hhbm (by decide +kernel) stampGateClose_captureOpen_gapItems

/-- Regression unit 2 of cluster 5 has a gate open; its DEST is 1 and its QUEUE is queue 7 of `gapInPool`. -/
def regressionOpen : State :=
  ((gapInPool.setRegN (ruIdx 5 2) 0 2).setRegN (ruIdx 5 2) 9 1).setRegN (ruIdx 5 2) 0x0A 7

/-- The record of the gate that STOP 2 ends is dropped and added to the gap cell, in HBM. -/
theorem ruStopNow_regressionOpen_gapItems :
    ∃ u, exec (.ruStopNow ⟨0, none⟩ 5 2 9) regressionOpen = .next u ∧ u.gapItems = 2 :=
  ⟨_, rfl, by decide +kernel⟩

/-- Refutes O20: its clause on RU_STOP 2 leaves memory as it was, but the record of the gate that the command ends in `regressionOpen` is
dropped at a full queue, whose gap cell in the pool is rewritten in HBM. -/
theorem not_regressionUnitsMeasure : ¬ Obligations.RegressionUnitsMeasure := by
  unfold Obligations.RegressionUnitsMeasure
  rintro ⟨-, -, -, -, -, -, -, -, -, -, -, hstop⟩
  obtain ⟨u, hu, -, -, -, -, -, hframe⟩ := hstop regressionOpen ⟨0, none⟩ 5 2 9 (by decide +kernel) (.inr (by decide +kernel))
  have hhbm : u.hbm = regressionOpen.hbm := (congrArg State.hbm hframe).trans (by simp only [State.endCmd_hbm, State.at_hbm])
  exact false_of_gapItems_added hu hhbm (by decide +kernel) ruStopNow_regressionOpen_gapItems

end Sys2Proof.Machine

namespace Sys2Proof.Machine

/-! The family of reduction contexts (09): O21 and O22.

## An engine number that no engine has

There are 18 reduction engines, and ROLE_MAP names one of them for each role; but the statement is about every state, and the store holds any
word. Engine 0x35 would have its ROLE_EPOCH at 0x6045.02, which is DROP_LIST_FULL of cluster 5. That object is cleared when the last update
leaves the cluster's input, before the engine writes the context's line and takes the epoch for its tag. The takeovers, which alone
write ROLE_MAP, give roles to engines below 18: the state below is none they lead to, and what the clause lacks is that bound. -/

/-- Role 9 is given to engine 0x35. Measurement 2 of sites 0 to 3 goes to contexts 8 to 11 with parameter set 1, which is STATS; one update of
it, of site 1, is in the input of cluster 5, which has DROP_LIST_FULL set, and the live line of context 9 is in the cache. -/
def strayRole : State :=
  { (((((readyDevice.setRegW 0x6000 0x09 9 (wd 0x35)).setRegN 0x6045 0x02 1).setRegW 0x6003 0 4 (wd (8 * 2 ^ 20 + 3 * 2 ^ 8 + 2 ^ 7))).setRegW
      0x6003 0 5 (wd (2 ^ 28))).setRegW 0x6004 0 8 (wd (2 ^ 36))) with
    red := { readyDevice.red with
      inputs := [(5, [⟨2, 5, 3, 1, 700, 0, 1, some 55, 0, 0, false⟩])]
      cache := [(9, some (mkLine 1 0 false 0 0 0 0 (wd 0x7FFFFFFFFF) (wd 0x8000000000), false))] } }

/-- ROLE_EPOCH in the tag of a context's cached live line. -/
def State.cachedEpoch (s : State) (n : Nat) : Option Nat := (s.cached n).map (fun e => lineEpoch e.1)

/-- The tag of the line written gets the epoch read once the update has left the input. -/
theorem redUpdateApply_strayRole_cachedEpoch :
    ∃ u, exec (.redUpdateApply 5 9 none [] 9) strayRole = .next u ∧ u.cachedEpoch 9 = some 0 :=
  ⟨_, rfl, by decide +kernel⟩

/-- Refutes O21: its first clause has the line written with the epoch that the context's engine shows before the step, 1 in `strayRole`;
but there the step clears the word read as that epoch, as DROP_LIST_FULL, and writes 0. -/
theorem not_updatesReduce : ¬ Obligations.UpdatesReduce := by
  unfold Obligations.UpdatesReduce
  rintro ⟨happly, -⟩
  obtain ⟨u, hu, hcached, -⟩ := happly strayRole 5 9 9 9 1 ⟨2, 5, 3, 1, 700, 0, 1, some 55, 0, 0, false⟩ []
    (mkLine 1 0 false 0 0 0 0 (wd 0x7FFFFFFFFF) (wd 0x8000000000)) false (by decide +kernel) (by decide +kernel) (by decide +kernel)
    (by decide +kernel) (by decide +kernel) (by decide +kernel) (by decide +kernel) (by decide +kernel) (by decide +kernel)
    (by decide +kernel) (by decide +kernel) (by decide +kernel) (by decide +kernel) (by decide +kernel)
  obtain ⟨v, hv, hepoch⟩ := redUpdateApply_strayRole_cachedEpoch
  obtain rfl : u = v := Host.Outcome.next.inj (hu.symm.trans hv)
  rw [State.cachedEpoch, hcached] at hepoch
  revert hepoch
  decide +kernel

end Sys2Proof.Machine

namespace Sys2Proof.Machine

/-! ## Lines of HBM once a step's writes have landed (01, R22; 15) -/

/-- The first `k` bytes of a line, put together. -/
def lineOfBytes (byte : Nat → Byte) (k : Nat) : LineData :=
  (List.range k).foldl (fun l j => l ||| ((byte j).setWidth 256 <<< (8 * j))) 0

theorem lineOfBytes_succ (byte : Nat → Byte) (k : Nat) :
    lineOfBytes byte (k + 1) = lineOfBytes byte k ||| ((byte k).setWidth 256 <<< (8 * k)) := by
  simp [lineOfBytes, List.range_succ]

theorem lineOfBytes_congr {f g : Nat → Byte} {k : Nat} (h : ∀ j < k, f j = g j) : lineOfBytes f k = lineOfBytes g k := by
  induction k with
  | zero => rfl
  | succ k ih => rw [lineOfBytes_succ, lineOfBytes_succ, ih (fun j hj => h j (by omega)), h k (by omega)]

/-- Each bit of a line is one of its bytes'. -/
theorem getLsbD_lineOfBytes (byte : Nat → Byte) {k i : Nat} (hi : i < 256) :
    (lineOfBytes byte k).getLsbD i = (decide (i < 8 * k) && (byte (i / 8)).getLsbD (i % 8)) := by
  induction k with
  | zero => simp [lineOfBytes]
  | succ k ih =>
    rw [lineOfBytes_succ, BitVec.getLsbD_or, ih, BitVec.getLsbD_shiftLeft, BitVec.getLsbD_setWidth]
    by_cases hlow : i < 8 * k
    · simp [hlow, show i < 8 * (k + 1) by omega]
    · by_cases hbyte : i < 8 * (k + 1)
      · obtain ⟨hq, hr⟩ : i / 8 = k ∧ i - 8 * k = i % 8 := by omega
        simp [hi, hlow, hbyte, hq, hr, show i % 8 < 256 by omega]
      · simp [hlow, hbyte, BitVec.getLsbD_of_ge _ (i - 8 * k) (show 8 ≤ i - 8 * k by omega)]

/-- A line is made of its bytes. -/
theorem lineOfBytes_extract (l : LineData) : lineOfBytes (fun j => l.extractLsb' (8 * j) 8) 32 = l := by
  refine BitVec.eq_of_getLsbD_eq fun i hi => ?_
  rw [getLsbD_lineOfBytes _ hi, BitVec.getLsbD_extractLsb']
  simp [hi, show i % 8 < 8 by omega, show 8 * (i / 8) + i % 8 = i by omega]

/-- The line that memory holds at an address. -/
def Memory.lineAt (m : Memory) (a : Nat) : LineData := lineOfBytes (fun j => SMap.get Memory.dflt m (32 * a + j)) 32

theorem State.hbmRaw_eq (s : State) (a : Nat) : s.hbmRaw a = ((s.posted.find? (fun e => e.1 = a)).map (·.2)).getD (s.hbm.lineAt a) := by
  unfold State.hbmRaw
  cases s.posted.find? (fun e => e.1 = a) <;> rfl

/-- Bytes written under distinct keys are read back. -/
theorem Memory.get_foldl_set_same (m : Memory) (key : Nat → Nat) (v : Nat → Byte) (hkey : Function.Injective key) {l : List Nat} {j : Nat}
    (hj : j ∈ l) : SMap.get Memory.dflt (l.foldl (fun m j => SMap.set Memory.dflt m (key j) (v j)) m) (key j) = v j := by
  induction l using List.reverseRecOn with
  | nil => cases hj
  | append_singleton l i ih =>
    rw [List.foldl_append, List.foldl_cons, List.foldl_nil, SMap.get_set]
    split
    · next h => rw [hkey h]
    · next h =>
      refine ih ((List.mem_append.mp hj).resolve_right fun hm => h ?_)
      rw [List.mem_singleton.mp hm]

/-- A line written is the line memory holds. -/
theorem Memory.lineAt_putLine_same (m : Memory) (a : Nat) (l : LineData) : (m.putLine a l).lineAt a = l := by
  refine (lineOfBytes_congr fun j hj => ?_).trans (lineOfBytes_extract l)
  exact Memory.get_foldl_set_same m _ _ (fun i j h => by simpa using h) (List.mem_range.mpr hj)

theorem Memory.lineAt_putLine_other (m : Memory) {a b : Nat} (l : LineData) (h : b ≠ a) : (m.putLine a l).lineAt b = m.lineAt b :=
  lineOfBytes_congr fun _ _ => Memory.get_putLine_other _ _ _ _ (by omega)

/-- Once what a step posted has landed, each line is the one the step read last. -/
theorem Memory.lineAt_land (m : Memory) (posted : List (Nat × LineData)) (a : Nat) :
    (m.land posted).lineAt a = ((posted.find? (fun e => e.1 = a)).map (·.2)).getD (m.lineAt a) := by
  induction posted with
  | nil => rfl
  | cons e posted ih =>
    rw [Memory.land_cons]
    by_cases h : e.1 = a
    · simp [h, Memory.lineAt_putLine_same]
    · rw [Memory.lineAt_putLine_other _ _ (Ne.symm h), ih]
      simp [h]

/-- A state in whose memory the lines it has posted have landed. -/
def State.landed (s : State) : State := { s with hbm := Memory.land s.hbm s.posted, posted := [] }

theorem State.landed_eq (s : State) : ∃ m, s.landed = { s with hbm := m, posted := [] } := ⟨_, rfl⟩

theorem State.line_landed (s : State) (a : Nat) : s.landed.line a = s.hbmRaw a := by
  rw [State.hbmRaw_eq]
  exact Memory.lineAt_land s.hbm s.posted a

theorem State.at_hbmRaw (s : State) (t a : Nat) : (s.at t).hbmRaw a = s.line a := rfl

/-- A step that leaves STATE, the queue of commands and memory itself alone answers what its body makes, once its lines have landed. -/
theorem State.perform_landed {s r : State} {f : State → State} (h : f { s with posted := [] } = r)
    (hs : r.reg 0x0100 0x00 = s.reg 0x0100 0x00) (hq : r.pending = s.pending) (hh : r.hbm = s.hbm) (hc : s.clock ≤ r.clock) :
    s.perform f = .next r.landed := by
  have hclock : max s.clock r.clock = r.clock := by omega
  simp only [State.perform, h, State.attention_same r _ hs, hclock]
  rw [← hq, ← hh]
  rfl

/-- LOCAL never runs back. -/
theorem State.clock_le_at (s : State) (t : Nat) : s.clock ≤ (s.at t).clock := State.tick_clock_le ({ s with posted := [] } : State) t

end Sys2Proof.Machine

namespace Sys2Proof.Machine

/-! ## The two lines of a context (09, R274, R291, R295) -/

theorem SMap.length_erase_le {α : Type} (m : SMap α) (k : Nat) : (SMap.erase m k).length ≤ m.length := List.length_filter_le ..

theorem SMap.length_place_le {α : Type} (m : SMap α) (k : Nat) (x : Option α) : (SMap.place m k x).length ≤ m.length + 1 := by
  induction m with
  | nil => cases x <;> simp [SMap.place]
  | cons e m ih =>
    simp only [SMap.place]
    split
    · cases x <;> simp
    · simpa using ih

/-- A write lists at most one more key. -/
theorem SMap.length_set_le {α : Type} [DecidableEq α] (d : Nat → α) (m : SMap α) (k : Nat) (v : α) : (SMap.set d m k v).length ≤ m.length + 1 :=
  (SMap.length_place_le _ k _).trans (Nat.add_le_add_right (SMap.length_erase_le m k) 1)

/-- A cache that holds no more than it has room for gives up no place (09, R277). -/
theorem State.cacheTrim_of_le {s : State} (h : s.red.cache.length ≤ 32768) : s.cacheTrim = s := by
  simp [State.cacheTrim, Nat.sub_eq_zero_of_le h]

/-- Both lines of context `n` are written: the result line is posted to HBM, the live line put in the cache. -/
def State.ctxPut (s : State) (n : Nat) (res live : LineData) : State :=
  { s with
    posted := (s.resultAt n, res) :: s.posted
    red := { s.red with cache := SMap.set (fun _ => none) s.red.cache n (some (live, true)) } }

/-- The result line that a close makes of a live line (09, R291). -/
def closedResult (l : LineData) : LineData :=
  repar (withWord l 0 (setFld (setBit (setBit (lineWord l 0) 25 true) 24 false) 26 14 ((ctxSeq (lineWord l 0) + 1) % 16384)))

/-- The live line that a close leaves (09, R291, R300). -/
def State.closedLive (s : State) (n : Nat) (l : LineData) : LineData :=
  ctxLine (lineFormat l) (s.ctxEpoch n) (linePoison l)
    (ctxHeader ((ctxSeq (lineWord l 0) + 1) % 16384) false false false false false (mflag 19 (bit (lineWord l 0) 19)))
    (emptyWords (lineFormat l) (s.ctxPset n (lineFormat l)) (s.imageFor n))

/-- The line of a context in the empty state of recipe 0 (09, R295). -/
def State.resetLine (s : State) (n : Nat) : LineData := mkLine 0 (s.ctxEpoch n) false 0 0 0 0 0 0

/-- A post of a line that is implemented. -/
theorem State.hbmPut_of_room (s : State) {a : Nat} (l : LineData) (h : a < 0x60000000) : s.hbmPut a l = { s with posted := (a, l) :: s.posted } :=
  if_pos h

section Contexts

variable {s : State} {n : Nat} (hroom : s.resultAt n < 0x60000000)

include hroom

theorem State.closeCtx_cached {l : LineData} {dirty : Bool} (h : s.cached n = some (l, dirty)) :
    s.closeCtx n = s.ctxPut n (closedResult l) (s.closedLive n l) := by
  unfold State.closeCtx State.liveRead
  simp only [h]
  rw [State.hbmPut_of_room s _ hroom]
  rfl

theorem State.resetCtx_eq : s.resetCtx n = s.ctxPut n (s.resetLine n) (s.resetLine n) := by
  unfold State.resetCtx
  dsimp only
  rw [State.hbmPut_of_room s _ hroom]
  rfl

end Contexts

/-! ## A step that writes both lines of one context -/

/-- A state after the two lines of context `n` are written, with the rest of the reduction and the command statuses as given. -/
def State.swept (s : State) (n : Nat) (res live : LineData) (red : RedSt) (cmds : SMap Word) : State :=
  { s.ctxPut n res live with cmdStat := cmds, red := { red with cache := (s.ctxPut n res live).red.cache } }

/-- Context `n` has its two lines, and every other line stands as it did. -/
structure State.CtxReplaced (s u : State) (n : Nat) (res live : LineData) : Prop where
  result : u.line (s.resultAt n) = res
  live : u.cached n = some (live, true)
  lines : ∀ a, a ≠ s.resultAt n → u.line a = s.line a
  others : ∀ k, k ≠ n → u.cached k = s.cached k

section Swept

variable (s : State) (n : Nat) (res live : LineData) (red : RedSt) (cmds : SMap Word)

theorem State.cached_swept (k : Nat) : (s.swept n res live red cmds).cached k = if n = k then some (live, true) else s.cached k :=
  SMap.get_set _ s.red.cache n k _

theorem State.posted_swept : (s.swept n res live red cmds).posted = (s.resultAt n, res) :: s.posted := rfl
theorem State.hbm_swept : (s.swept n res live red cmds).hbm = s.hbm := rfl

theorem State.hbmRaw_swept (a : Nat) : (s.swept n res live red cmds).hbmRaw a = if s.resultAt n = a then res else s.hbmRaw a := by
  rw [State.hbmRaw_eq, State.hbmRaw_eq, State.posted_swept, State.hbm_swept]
  by_cases h : s.resultAt n = a <;> simp [h]

theorem State.cache_swept : (s.swept n res live red cmds).red.cache = SMap.set (fun _ => none) s.red.cache n (some (live, true)) := rfl

theorem State.length_cache_swept : (s.swept n res live red cmds).red.cache.length ≤ s.red.cache.length + 1 := by
  rw [State.cache_swept]
  exact SMap.length_set_le ..

theorem State.landed_swept : (s.swept n res live red cmds).landed = { s with
    hbm := (s.swept n res live red cmds).landed.hbm
    posted := []
    cmdStat := cmds
    red := { red with cache := (s.swept n res live red cmds).landed.red.cache } } := by
  obtain ⟨m, hm⟩ := (s.swept n res live red cmds).landed_eq
  rw [hm]
  rfl

end Swept

theorem State.at_resultAt (s : State) (t n : Nat) : (s.at t).resultAt n = s.resultAt n := rfl
theorem State.at_cached (s : State) (t n : Nat) : (s.at t).cached n = s.cached n := rfl
theorem State.cached_landed (s : State) (n : Nat) : s.landed.cached n = s.cached n := rfl

/-- Once what the step posted has landed, the context has its two lines. -/
theorem State.ctxReplaced_swept (s : State) (t n : Nat) (res live : LineData) (red : RedSt) (cmds : SMap Word) :
    s.CtxReplaced ((s.at t).swept n res live red cmds).landed n res live := by
  have hline (a : Nat) : ((s.at t).swept n res live red cmds).landed.line a = if s.resultAt n = a then res else s.line a := by
    rw [State.line_landed, State.hbmRaw_swept, State.at_resultAt, State.at_hbmRaw]
  have hcached (k : Nat) : ((s.at t).swept n res live red cmds).landed.cached k = if n = k then some (live, true) else s.cached k := by
    rw [State.cached_landed, State.cached_swept, State.at_cached]
  exact
    { result := by rw [hline, if_pos rfl]
      live := by rw [hcached, if_pos rfl]
      lines := fun a ha => by rw [hline, if_neg (Ne.symm ha)]
      others := fun k hk => by rw [hcached, if_neg (Ne.symm hk)] }

/-- What a step whose body writes the two lines of one context answers. -/
theorem State.perform_swept {s : State} {f : State → State} {t n : Nat} {res live : LineData} {red : RedSt} {cmds : SMap Word}
    (h : f { s with posted := [] } = ((s.at t).swept n res live red cmds).cacheTrim) (hcache : s.red.cache.length < 32768) :
    ∃ u, s.perform f = .next u ∧ s.CtxReplaced u n res live ∧
      u = { s.at t with hbm := u.hbm, cmdStat := cmds, red := { red with cache := u.red.cache } } := by
  have hbody := h.trans (State.cacheTrim_of_le (((s.at t).length_cache_swept n res live red cmds).trans hcache))
  exact ⟨_, State.perform_landed hbody rfl rfl rfl (s.clock_le_at t), s.ctxReplaced_swept t n res live red cmds,
    (s.at t).landed_swept n res live red cmds⟩

/-! ## SWEEP_STEP (09, R291, R294, R295) -/

/-- One context of a begun line close, else of the range at the front. -/
def State.sweepOne (s : State) : State :=
  if s.red.closes.any (fun k => k.left.isSome) then s.lineSweep.cacheTrim
  else
    match s.red.sweeps with
    | w :: _ => (s.rangeSweep w).cacheTrim
    | [] => s

theorem exec_sweepStep (s : State) (t : Nat) : exec (.sweepStep [] t) s = s.perform (fun s => (s.tick t).sweepOne) := rfl

theorem State.sweepOne_range {s : State} {w : Sweep} (hcloses : s.red.closes = []) (hsweeps : s.red.sweeps = [w]) :
    s.sweepOne = (s.rangeSweep w).cacheTrim := by
  simp [State.sweepOne, hcloses, hsweeps]

theorem State.sweepOne_line {s : State} {k : LineClose} (hcloses : s.red.closes = [k]) (hbegun : k.left.isSome = true) :
    s.sweepOne = s.lineSweep.cacheTrim := by
  simp [State.sweepOne, hcloses, hbegun]

/-- The subindex of RESET, or of CLOSE. -/
abbrev sweepSub (reset : Bool) : Nat := if reset then 2 else 1

section Ranges

variable {s : State} {reset : Bool} {n k : Nat} {src : Word} {res live : LineData}

/-- A range whose next context's engine is gone keeps its place (09, R301). -/
theorem State.rangeSweep_waits {w : Sweep} (hsweeps : s.red.sweeps = [w]) (h : s.roleWaits (w.next % 16) = true) : s.rangeSweep w = s := by
  rw [State.rangeSweep, if_pos h, hsweeps, List.drop_succ_cons, List.drop_nil, List.nil_append, ← hsweeps]

variable (hserves : s.roleWaits (n % 16) = false) (hctx : (if reset then s.resetCtx n else s.closeCtx n) = s.ctxPut n res live)

include hserves hctx

/-- The command ends with the last context of its range. -/
theorem State.rangeSweep_last (hsweeps : s.red.sweeps = [⟨reset, n, 1, src⟩]) :
    s.rangeSweep ⟨reset, n, 1, src⟩ =
      s.swept n res live { s.red with sweeps := [] } (s.endCmd src 0x6000 (sweepSub reset) 0 0).cmdStat := by
  simp only [State.rangeSweep, hserves, Bool.false_eq_true, if_false, hctx, le_refl, if_true]
  simp only [State.swept, State.ctxPut, hsweeps, List.drop_succ_cons, List.drop_nil]
  rfl

/-- With contexts left the range goes on with the next. -/
theorem State.rangeSweep_more (hsweeps : s.red.sweeps = [⟨reset, n, k + 2, src⟩]) :
    s.rangeSweep ⟨reset, n, k + 2, src⟩ = s.swept n res live { s.red with sweeps := [⟨reset, n + 1, k + 1, src⟩] } s.cmdStat := by
  have hmore : ¬ k + 2 ≤ 1 := by omega
  simp only [State.rangeSweep, hserves, Bool.false_eq_true, if_false, hctx, hmore]
  simp only [State.swept, State.ctxPut, hsweeps, List.drop_succ_cons, List.drop_nil, List.nil_append]
  rfl

end Ranges

/-- With no update held none is released. -/
theorem State.releaseHeld_of_nil {s : State} (h : s.red.held = []) : s.releaseHeld = s := by
  simp only [State.releaseHeld, h, List.filter_nil, List.foldl_nil]
  rw [← h]

/-- The last context of the only line close under way is closed: its Tc is kept, and the line close is over (09, R294). -/
theorem State.lineSweep_last {s : State} {p n : Nat} {tc b : U80} {l : LineData} {dirty : Bool} (hcloses : s.red.closes = [⟨p, tc, b, some [n]⟩])
    (hheld : s.red.held = []) (hserves : s.roleWaits (n % 16) = false) (hroom : s.resultAt n < 0x60000000) (hcached : s.cached n = some (l, dirty)) :
    s.lineSweep = s.swept n (closedResult l) (s.closedLive n l)
      { s.red with closes := [], closedTc := SMap.set (fun _ => (0 : U80)) s.red.closedTc n tc } s.cmdStat := by
  have hfind : s.red.closes.find? (fun k => k.left.isSome) = some ⟨p, tc, b, some [n]⟩ := by simp [hcloses]
  rw [State.lineSweep, hfind]
  simp only [Option.getD_some, List.find?_cons, hserves, Bool.not_false, List.erase_cons_head, List.isEmpty_nil, if_true]
  rw [State.lineCloseCtx, State.closeCtx_cached hroom hcached]
  simp only [State.swept, State.ctxPut, hcloses, List.erase_cons_head]
  exact State.releaseHeld_of_nil hheld

end Sys2Proof.Machine

namespace Sys2Proof.Machine

section Sweeps

variable {s : State} {n t : Nat} {res live : LineData} (hserves : s.roleWaits (n % 16) = false) (hcache : s.red.cache.length < 32768)

include hcache in
/-- What SWEEP_STEP answers when its body writes the two lines of one context. -/
theorem exec_sweepStep_swept {red : RedSt} {cmds : SMap Word} (h : (s.at t).sweepOne = ((s.at t).swept n res live red cmds).cacheTrim) :
    ∃ u, exec (.sweepStep [] t) s = .next u ∧ s.CtxReplaced u n res live ∧
      u = { s.at t with hbm := u.hbm, cmdStat := cmds, red := { red with cache := u.red.cache } } := by
  rw [exec_sweepStep]
  exact State.perform_swept h hcache

section Ranges

variable (reset : Bool) {k : Nat} {src : Word} (hcloses : s.red.closes = [])
  (hctx : (if reset then (s.at t).resetCtx n else (s.at t).closeCtx n) = (s.at t).ctxPut n res live)

include hserves hcache hcloses hctx

/-- The last context of a CLOSE or RESET: the command ends. -/
theorem exec_sweepStep_last (hsweeps : s.red.sweeps = [⟨reset, n, 1, src⟩]) :
    ∃ u, exec (.sweepStep [] t) s = .next u ∧ s.CtxReplaced u n res live ∧ u.cmdStatus src 0x6000 (sweepSub reset) = 0 ∧
      u = { (s.at t).endCmd src 0x6000 (sweepSub reset) 0 0 with hbm := u.hbm, red := { s.red with sweeps := [], cache := u.red.cache } } := by
  have hbody := (State.sweepOne_range (s := s.at t) hcloses hsweeps).trans
    (congrArg State.cacheTrim (State.rangeSweep_last (s := s.at t) hserves hctx hsweeps))
  obtain ⟨u, hu, hlines, hframe⟩ := exec_sweepStep_swept hcache hbody
  refine ⟨u, hu, hlines, ?_, hframe⟩
  rw [hframe]
  exact State.cmdStatus_endCmd_same ..

/-- Any other context of a CLOSE or RESET: the command goes on. -/
theorem exec_sweepStep_more (hsweeps : s.red.sweeps = [⟨reset, n, k + 2, src⟩]) :
    ∃ u, exec (.sweepStep [] t) s = .next u ∧ s.CtxReplaced u n res live ∧
      u = { s.at t with hbm := u.hbm, red := { s.red with sweeps := [⟨reset, n + 1, k + 1, src⟩], cache := u.red.cache } } :=
  exec_sweepStep_swept hcache ((State.sweepOne_range (s := s.at t) hcloses hsweeps).trans
    (congrArg State.cacheTrim (State.rangeSweep_more (s := s.at t) hserves hctx hsweeps)))

end Ranges

include hserves hcache in
/-- The last context of a line close. -/
theorem exec_sweepStep_lineClose {p : Nat} {tc b : U80} {l : LineData} {dirty : Bool} (hcloses : s.red.closes = [⟨p, tc, b, some [n]⟩])
    (hheld : s.red.held = []) (hcached : s.cached n = some (l, dirty)) (hroom : s.resultAt n < 0x60000000) :
    ∃ u, exec (.sweepStep [] t) s = .next u ∧ s.CtxReplaced u n (closedResult l) (s.closedLive n l) ∧
      u = { s.at t with hbm := u.hbm, red := { s.red with
        closes := [], closedTc := SMap.set (fun _ => (0 : U80)) s.red.closedTc n tc, cache := u.red.cache } } :=
  exec_sweepStep_swept hcache ((State.sweepOne_line (s := s.at t) hcloses rfl).trans
    (congrArg State.cacheTrim (State.lineSweep_last (s := s.at t) hcloses hheld hserves hroom hcached)))

end Sweeps

/-- A step that moves nothing but the reduction beside its objects answers what its body makes. -/
theorem State.perform_red {s : State} {f : State → State} {t : Nat} {red : RedSt} (h : f { s with posted := [] } = { s.at t with red := red }) :
    s.perform f = .next { s.at t with red := red } :=
  State.perform_next h rfl rfl rfl rfl (s.clock_le_at t)

/-- A range whose next context's engine is gone waits. -/
theorem exec_sweepStep_waits {s : State} {w : Sweep} {t : Nat} (hcloses : s.red.closes = []) (hsweeps : s.red.sweeps = [w])
    (hwaits : s.roleWaits (w.next % 16) = true) (hcache : s.red.cache.length ≤ 32768) :
    exec (.sweepStep [] t) s = .next (s.at t) := by
  rw [exec_sweepStep]
  refine State.perform_red (red := s.red) ?_
  calc (s.at t).sweepOne = ((s.at t).rangeSweep w).cacheTrim := State.sweepOne_range hcloses hsweeps
    _ = (s.at t).cacheTrim := congrArg State.cacheTrim (State.rangeSweep_waits (s := s.at t) hsweeps hwaits)
    _ = s.at t := State.cacheTrim_of_le hcache

/-! ## Line closes (09, R294) -/

/-- The line close of a parameter set at a stamp: it begins CLOSE_DELAY later. -/
def State.lineCloseAt (s : State) (stamp : U80) (p : Nat) : LineClose :=
  ⟨p, stamp, stamp + BitVec.ofNat 80 (fld (s.reg 0x6004 0 (8 * p + 2)) 20 20 * 128000), none⟩

/-- A line close joins those to come. -/
def State.addClose (s : State) (k : LineClose) : State := { s with red := { s.red with closes := s.red.closes ++ [k] } }

theorem State.foldl_addClose (s : State) (stamp : U80) (ps : List Nat) :
    ps.foldl (fun s p => s.addClose (s.lineCloseAt stamp p)) s =
      { s with red := { s.red with closes := s.red.closes ++ ps.map (s.lineCloseAt stamp) } } := by
  induction ps generalizing s with
  | nil => simp
  | cons p ps ih =>
    rw [List.foldl_cons, ih]
    have hsame : (s.addClose (s.lineCloseAt stamp p)).lineCloseAt stamp = s.lineCloseAt stamp := rfl
    rw [hsame]
    simp only [State.addClose, List.map_cons, List.append_assoc, List.singleton_append]

/-- The parameter sets that close on a line. -/
def State.setsClosedBy (s : State) (line : Nat) : List Nat :=
  (s.listedWords 0x6004 0).filterMap (fun e => if e.1 % 8 = 0 ∧ fld e.2 34 2 = 2 ∧ fld e.2 25 9 = line then some (e.1 / 8) else none)

/-- A word of an object that is not what it is out of reset is listed. -/
theorem State.mem_listedWords {s : State} {i sub w : Nat} (hw : w < 134217728) (h : s.reg i sub w ≠ romDefault (odKey i sub w)) :
    (w, s.reg i sub w) ∈ s.listedWords i sub := by
  refine List.mem_filterMap.mpr ⟨_, SMap.mem_of_get_ne h, ?_⟩
  have hkey : odKey i sub w = odKey i sub 0 + w := by simp [odKey]
  generalize odKey i sub 0 = base at hkey
  simp only [hkey, State.reg]
  rw [if_pos (by omega), Nat.add_sub_cancel_left]

/-- PSETS reads 0 out of reset. -/
theorem romDefault_psets {w : Nat} (hw : w < 134217728) : romDefault (odKey 0x6004 0 w) = 0 := by
  have hi : odKey 0x6004 0 w / 134217728 / 256 = 0x6004 := odKey_index (by decide) hw
  have hs : odKey 0x6004 0 w / 134217728 % 256 = 0 := by unfold odKey; omega
  obtain ⟨r, hr, hd⟩ : ∃ r, odFind 0x6004 0 = some r ∧ r.dflt = .all 0 := ⟨_, rfl, rfl⟩
  simp [romDefault, hi, hs, hr, Obj.romDefault, hd]

theorem State.mem_setsClosedBy {s : State} {line p : Nat} (hp : p < 4096) (hkind : fld (s.reg 0x6004 0 (8 * p)) 34 2 = 2)
    (hline : fld (s.reg 0x6004 0 (8 * p)) 25 9 = line) : p ∈ s.setsClosedBy line := by
  have hne : s.reg 0x6004 0 (8 * p) ≠ romDefault (odKey 0x6004 0 (8 * p)) := by
    rw [romDefault_psets (by omega)]
    intro h
    rw [h] at hkind
    exact absurd hkind (by decide)
  refine List.mem_filterMap.mpr ⟨_, State.mem_listedWords (by omega) hne, ?_⟩
  rw [if_pos ⟨by omega, hkind, hline⟩]
  simp

/-- An occurrence of a line adds a close for each parameter set that names it. -/
theorem exec_lineCloseOccurrence (s : State) (line : Fin 512) (stamp : U80) (t : Nat) :
    exec (.lineCloseOccurrence line stamp t) s =
      .next { s.at t with red := { s.red with closes := s.red.closes ++ (s.setsClosedBy line).map (s.lineCloseAt stamp) } } :=
  State.perform_red (f := fun s => ((s.tick t).setsClosedBy line).foldl (fun s p => s.addClose (s.lineCloseAt stamp p)) (s.tick t))
    ((s.at t).foldl_addClose stamp (s.setsClosedBy line))

/-- Line closes whose delay is over begin. -/
theorem exec_lineCloseBegin (s : State) (t : Nat) :
    exec (.lineCloseBegin t) s = .next { s.at t with red := { s.red with closes := s.red.closes.map (fun k =>
      if k.left = none ∧ k.begins.toNat ≤ (s.at t).now.toNat then { k with left := some (s.contextsOf k.pset) } else k) } } := by
  change execLineCloseBegin t s = _
  exact State.perform_red (congrArg (fun closes => ({ s.at t with red := { s.red with closes := closes } } : State))
    (List.map_congr_left fun k _ => if_congr (Bool.and_eq_true_iff.trans (and_congr Option.isNone_iff_eq_none decide_eq_true_iff)) rfl rfl))

end Sys2Proof.Machine

namespace Sys2Proof.Machine

/-! ## CLOSE and RESET (09, R295) -/

theorem rowSays_sweep : ∀ reset, rowSays 0x6000 (sweepSub reset) = some (if reset then .redReset else .redClose, .cmd, false, 1, 0) := by
  decide +kernel

theorem State.command_sweep {j : State} {r : Obj} {reset : Bool} (src : Word) (i sub : Nat) (v : Word) (e : Env)
    (hhook : r.hook = if reset then .redReset else .redClose) : j.command r src i sub (wordsAt 0 [v]) e = j.sweepStart reset src v := by
  cases reset <;> simp [State.command, hhook, word0, wordsAt]

/-- The range of a CLOSE or RESET joins the sweeps, and its command runs. -/
theorem exec_sweepCommand (reset : Bool) {c : Instr} {s : State} {rq : Req} {v : Word} {t : Nat}
    (hc : writeOf c = some (rq, 0x6000, sweepSub reset, 0, [v], Env.calm, t)) (h : s.takes rq 0x6000 (sweepSub reset) 0 [v] Env.calm t = true) :
    ∃ u, exec c s = .next u ∧
      u.cmdStatus rq.src 0x6000 (sweepSub reset) = cmdRunning ∧
      s.answered u 3 0x6000 (sweepSub reset) rq.src v t ∧
      u = { (s.at t).setCmd rq.src 0x6000 (sweepSub reset) cmdRunning with
        regs := u.regs, alm := u.alm, reply := u.reply
        red := { s.red with sweeps := s.red.sweeps ++ [⟨reset, fld v 20 20, fld v 0 20 + 1, rq.src⟩] } } ∧
      SameRegs s u journalKeys := by
  obtain ⟨r, hr, hhook, hacc, hdom, hone, -⟩ := odFind_of_rowSays (rowSays_sweep reset)
  have hj := (s.at t).journalWrite_one rq.src 0x6000 (sweepSub reset) v hdom hone
  have hexec := exec_of_takes_next (w := _) hc h hr rfl
  simp only [hacc, State.acts, State.command_sweep _ _ _ _ _ hhook, beq_self_eq_true, if_true] at hj hexec
  generalize (s.at t).journalWrite r rq.src 0x6000 (sweepSub reset) (wordsAt 0 [v]) false = j at hj hexec
  have hframe : j.sweepStart reset rq.src v = { (s.at t).setCmd rq.src 0x6000 (sweepSub reset) cmdRunning with
      regs := j.regs, alm := j.alm
      red := { s.red with sweeps := s.red.sweeps ++ [⟨reset, fld v 20 20, fld v 0 20 + 1, rq.src⟩] } } := by
    rw [hj.frame]
    rfl
  rw [hframe] at hexec
  refine ⟨_, hexec ?_ rfl rfl rfl rfl, SMap.get_set_same .., hj.answered rfl rfl, rfl, hj.regs⟩
  exact hj.reg (by decide) (by decide) (by decide)

/-! ## RESULT_READ (09, R297, R298) -/

/-- A line whose parity agrees is read as it stands (01, R22). -/
theorem State.hbmRead_good {s : State} {a : Nat} (reader : Nat) (hroom : a < 0x60000000) (hgood : parityBad (s.hbmRaw a) = false) :
    s.hbmRead a reader = (s.hbmRaw a, s) := by
  simp [State.hbmRead, hroom, hgood]

/-- The result line of a context once it has been read. -/
def readLine (l : LineData) : LineData := if bit (lineWord l 0) 24 then l else withWord l 0 (setBit (lineWord l 0) 24 true)

/-- A state in which result line `l` of context `n` is marked as read. -/
def State.markRead (s : State) (n : Nat) (l : LineData) : State := if bit (lineWord l 0) 24 then s else s.hbmPut (s.resultAt n) (readLine l)

section Results

variable {s : State} {n : Nat} (hroom : s.resultAt n < 0x60000000)

include hroom

theorem State.resultSlot_good (hgood : parityBad (s.hbmRaw (s.resultAt n)) = false) :
    s.resultSlot n = (slotWords (s.hbmRaw (s.resultAt n)) (wd n), s.markRead n (s.hbmRaw (s.resultAt n))) := by
  simp only [State.resultSlot, State.resultOf, State.hbmRead_good 10 hroom hgood, State.markRead, readLine, ctxWords]
  split <;> rfl

theorem State.markRead_eq (l : LineData) : ∃ p, s.markRead n l = { s with posted := p } := by
  unfold State.markRead
  split
  · exact ⟨_, rfl⟩
  · exact ⟨_, State.hbmPut_of_room s _ hroom⟩

theorem State.hbmRaw_markRead (a : Nat) :
    (s.markRead n (s.hbmRaw (s.resultAt n))).hbmRaw a = if s.resultAt n = a then readLine (s.hbmRaw (s.resultAt n)) else s.hbmRaw a := by
  by_cases h : s.resultAt n = a
  · subst h
    rw [if_pos rfl]
    unfold State.markRead
    split
    · next hread => rw [readLine, if_pos hread]
    · exact State.hbmRaw_hbmPut_same s _ hroom
  · rw [if_neg h]
    unfold State.markRead
    split
    · rfl
    · exact State.hbmRaw_hbmPut_other s _ h

end Results

/-- The row of RESULTS. -/
theorem odFind_results : ∃ r, odFind 0x6001 0 = some r ∧ r.hook = .results ∧ r.words = 8388608 := ⟨_, rfl, rfl, rfl⟩

/-- A read that passes its checks is answered with what it reads (02, R40). -/
theorem State.odPerform_read {s : State} {tx : Tx} {r : Obj} {e : Env} (hop : tx.op = .read) (hdst : tx.dst = .here) (hdata : tx.data = [])
    (hr : odFind tx.idx tx.sub = some r) (hf : (s.firstChecks tx []).1 = 0) (hcode : s.readCode r tx = 0) :
    s.odPerform tx e = some ((s.odRead tx r e).2.withReply ⟨0, 0, (s.odRead tx r e).1⟩) := by
  have hws : wordsAt tx.off tx.data = [] := by rw [hdata]; rfl
  simp [State.odPerform, State.deliver, State.withReply, hws, hop, hdst, hr, hf, hcode]

/-- The slot of one context is within RESULTS. -/
theorem Obj.readCount_resultSlot {r : Obj} {n : Nat} (hhook : r.hook = .results) (hfits : 8 * n + 8 ≤ r.words) : r.readCount (8 * n) 8 = 0 := by
  have hwords : ¬ r.words < 8 * n + 8 := by omega
  simp [Obj.readCount, hhook, hwords]

/-- A slot of eight words is read as one. -/
theorem State.slots_one (f : State → Nat → List Word × State) (s : State) (n : Nat) : State.slots f s n 1 = f s n := by
  simp [State.slots]

section ResultSlot

variable {s : State} {r : Obj} {rq : Req} {n : Nat}

theorem State.readCode_resultSlot (hhook : r.hook = .results) (hfits : 8 * n + 8 ≤ r.words) :
    s.readCode r (mkTx rq .read 0x6001 0 (8 * n) 8 [] .here) = 0 := by
  have hcount : r.readCount (8 * n) 8 = 0 := Obj.readCount_resultSlot hhook hfits
  simp [State.readCode, mkTx, hcount, hhook]

theorem State.odRead_resultSlot (hhook : r.hook = .results) :
    s.odRead (mkTx rq .read 0x6001 0 (8 * n) 8 [] .here) r Env.calm = s.resultSlot n := by
  simp only [State.odRead, hhook, mkTx, Env.calm, State.upset, List.foldl_nil]
  rw [Nat.mul_div_cancel_left n (by decide), State.slots_one]

/-- A read of the eight words of one context that passes checks 1 to 6 answers its slot. -/
theorem State.odPerform_resultSlot (hn : n < 1048576)
    (hf : (s.firstChecks (mkTx rq .read 0x6001 0 (8 * n) 8 [] .here) []).1 = 0) :
    s.odPerform (mkTx rq .read 0x6001 0 (8 * n) 8 [] .here) Env.calm = some ((s.resultSlot n).2.withReply ⟨0, 0, (s.resultSlot n).1⟩) := by
  obtain ⟨r, hr, hhook, hwords⟩ := odFind_results
  rw [State.odPerform_read rfl rfl rfl hr hf (State.readCode_resultSlot hhook (by omega)), State.odRead_resultSlot hhook]

end ResultSlot

/-- A read of one context's result. -/
theorem exec_resultRead {s : State} {rq : Req} {n t : Nat} (hcar : s.carries = true) (hheld : s.alm.held = [])
    (hf : ((s.at t).firstChecks (mkTx rq .read 0x6001 0 (8 * n) 8 [] .here) []).1 = 0) (hn : n < 1048576) (hroom : s.resultAt n < 0x60000000)
    (hgood : parityBad (s.line (s.resultAt n)) = false) :
    ∃ u, exec (.resultRead rq (8 * n) 8 [] t) s = .next u ∧
      u.reply = ⟨0, 0, slotWords (s.line (s.resultAt n)) (wd n)⟩ ∧
      (∀ a, u.line a = if s.resultAt n = a then readLine (s.line (s.resultAt n)) else s.line a) ∧
      u = { s.at t with hbm := u.hbm, reply := u.reply } := by
  have hperf := State.odPerform_resultSlot (s := s.at t) hn hf
  rw [State.resultSlot_good (s := s.at t) hroom hgood] at hperf
  have hlines := State.hbmRaw_markRead (s := s.at t) hroom
  obtain ⟨p, hframe⟩ := State.markRead_eq (s := s.at t) hroom ((s.at t).hbmRaw ((s.at t).resultAt n))
  simp only [State.at_resultAt, State.at_hbmRaw] at hperf hlines hframe
  generalize (s.at t).markRead n (s.line (s.resultAt n)) = x at hperf hlines hframe
  have hcar' : (s.at t).carries = true := hcar
  have hsubmit := State.odSubmit_performed (s := s.at t) hheld hperf
  have hbody : execResultRead rq (8 * n) 8 [] t s = .next (x.withReply ⟨0, 0, slotWords (s.line (s.resultAt n)) (wd n)⟩).landed := by
    refine State.perform_landed ?_ ?_ ?_ ?_ ?_
    · simp only [State.tick_posted_nil, hcar', if_true]
      exact hsubmit
    all_goals rw [hframe]
    · rfl
    · rfl
    · rfl
    · exact s.clock_le_at t
  refine ⟨_, hbody, rfl, fun a => ?_, ?_⟩
  · rw [State.line_landed]
    exact hlines a
  · obtain ⟨m, hm⟩ := (x.withReply ⟨0, 0, slotWords (s.line (s.resultAt n)) (wd n)⟩).landed_eq
    rw [hm, hframe]
    rfl

/-! ## TAKEOVER_DONE (09, R301) -/

/-- A state that moved at most the log and its objects. -/
def State.Logged (s u : State) : Prop := u = { s with regs := u.regs, log := u.log } ∧ SameOutside s u (fun i => i == 0x0500)

theorem State.Logged.refl (s : State) : s.Logged s := ⟨rfl, SameOutside.refl s _⟩

theorem State.Logged.trans {s u v : State} (h : s.Logged u) (h' : u.Logged v) : s.Logged v := ⟨by rw [h'.1, h.1], h.2.trans h'.2⟩

theorem State.Logged.logPut (s : State) (code : Nat) (a b : Word) : s.Logged (s.logPut code a b) :=
  ⟨by rw [State.logPut_eq], (s.logPut_regs code a b false).outside (by decide)⟩

/-- The objects that the end of a takeover moves: the engine's STATE and TAKEOVER_TIME. -/
def State.takenOver (s : State) (e ns : Nat) : State := (s.setRegN (0x6010 + e) 0 0).setRegN (0x6010 + e) 4 ns

theorem State.takenOver_state (s : State) (e ns : Nat) : (s.takenOver e ns).reg (0x6010 + e) 0 = 0 := by
  rw [State.takenOver, (SameRegs.setRegN _ (0x6010 + e) 4 ns).reg _ _ _ (by simp [odKey]), State.reg_setRegN_same]
  rfl

theorem State.takenOver_time (s : State) (e ns : Nat) : (s.takenOver e ns).reg (0x6010 + e) 4 = wd ns := State.reg_setRegN_same ..

theorem State.takenOver_regs (s : State) (e ns : Nat) : SameRegs s (s.takenOver e ns) [odKey (0x6010 + e) 0 0, odKey (0x6010 + e) 4 0] :=
  (SameRegs.setRegN s (0x6010 + e) 0 0).trans (SameRegs.setRegN _ (0x6010 + e) 4 ns)

/-- The takeover of an engine ends: its objects follow, the log has a record for each role, and an occurrence comes due. -/
theorem State.takeoverDone_moves {s b : State} {e : Nat} {k : Takeover} (h : SMap.get (fun _ => none) s.red.takeovers e = some k)
    (hb : { s with red := { s.red with takeovers := SMap.set (fun _ => none) s.red.takeovers e none } } = b) :
    ∃ w, (b.takenOver e ((s.clock - k.at0) / 4096)).Logged w ∧ s.takeoverDone e = { w with agenda := (s.takeoverDone e).agenda } := by
  unfold State.takeoverDone
  simp only [h, hb]
  rw [State.raiseEvent_eq]
  exact ⟨_, State.foldl_rel State.Logged.refl State.Logged.trans k.roles (fun _ _ s => State.Logged.logPut s ..) _, rfl⟩

/-- The engine of a takeover that is done serves again. -/
theorem exec_takeoverDone {s : State} {e : Fin 18} {t : Nat} {k : Takeover} (h : SMap.get (fun _ => none) s.red.takeovers e = some k) :
    ∃ u, exec (.takeoverDone e t) s = .next u ∧
      u.reg (0x6010 + e) 0 = 0 ∧
      u.reg (0x6010 + e) 4 = wd (((s.at t).clock - k.at0) / 4096) ∧
      SMap.get (fun _ => none) u.red.takeovers e = none ∧
      u = { s.at t with regs := u.regs, agenda := u.agenda, log := u.log, red := { s.red with takeovers := u.red.takeovers } } := by
  obtain ⟨b, hb⟩ : ∃ b, ({ s.at t with red := { s.red with takeovers := SMap.set (fun _ => none) s.red.takeovers e none } } : State) = b :=
    ⟨_, rfl⟩
  obtain ⟨w, ⟨hw, hregs⟩, hdone⟩ := State.takeoverDone_moves (s := s.at t) h hb
  have hbregs : b.regs = s.regs := by rw [← hb]; rfl
  have hmoved := State.takenOver_regs b e (((s.at t).clock - k.at0) / 4096)
  have hstate := State.takenOver_state b e (((s.at t).clock - k.at0) / 4096)
  have htime := State.takenOver_time b e (((s.at t).clock - k.at0) / 4096)
  have hframe : (s.at t).takeoverDone e = { s.at t with
      regs := w.regs, agenda := ((s.at t).takeoverDone e).agenda, log := w.log
      red := { s.red with takeovers := SMap.set (fun _ => none) s.red.takeovers e none } } := by
    rw [hdone, hw, ← hb]
    rfl
  have hreg (j : Nat) (hj : j < 256) : w.reg (0x6010 + e) j = (b.takenOver e (((s.at t).clock - k.at0) / 4096)).reg (0x6010 + e) j :=
    hregs.reg (by simp; omega) hj (by decide)
  have hdev : w.reg 0x0100 0 = s.reg 0x0100 0 :=
    (hregs.reg (by decide) (by decide) (by decide)).trans
      ((hmoved.reg _ _ _ (by simp [odKey]; omega)).trans (State.reg_of_regs hbregs ..))
  refine ⟨(s.at t).takeoverDone e, ?_, ?_, ?_, ?_, ?_⟩
  · change execTakeoverDone e t s = _
    refine State.perform_next (r := (s.at t).takeoverDone e) rfl ?_ ?_ ?_ ?_ ?_
    all_goals rw [hframe]
    · exact hdev
    · rfl
    · rfl
    · rfl
    · exact s.clock_le_at t
  · rw [hframe]
    exact (hreg 0 (by decide)).trans hstate
  · rw [hframe]
    exact (hreg 4 (by decide)).trans htime
  · rw [hframe]
    exact SMap.get_set_same ..
  · rw [hframe]

/-- Settles O22: each step of a sweep writes the two lines of one context at most; commands, line closes, reads and the end of a takeover
move what their rules name. -/
theorem contextsCloseAndAreRead : Obligations.ContextsCloseAndAreRead := by
  unfold Obligations.ContextsCloseAndAreRead
  refine ⟨?_, ?_, ?_, ?_, ?_, ?_, ?_, ?_, ?_, ?_, ?_⟩
  · exact fun s rq v t h => exec_sweepCommand false rfl h
  · exact fun s rq v t h => exec_sweepCommand true rfl h
  · intro s n t src l dirty hcloses hsweeps hserves hcached hroom hcache
    obtain ⟨u, hu, hctx, hends, hframe⟩ := exec_sweepStep_last hserves hcache false hcloses (State.closeCtx_cached (s := s.at t) hroom hcached) hsweeps
    exact ⟨u, hu, hctx.result, hctx.live, hends, hctx.lines, hctx.others, hframe⟩
  · intro s n t src hcloses hsweeps hserves hroom hcache
    obtain ⟨u, hu, hctx, hends, hframe⟩ := exec_sweepStep_last hserves hcache true hcloses (State.resetCtx_eq (s := s.at t) hroom) hsweeps
    exact ⟨u, hu, hctx.result, hctx.live, hends, hctx.lines, hctx.others, hframe⟩
  · intro s n k t src l dirty hcloses hsweeps hserves hcached hroom hcache
    obtain ⟨u, hu, hctx, hframe⟩ := exec_sweepStep_more hserves hcache false hcloses (State.closeCtx_cached (s := s.at t) hroom hcached) hsweeps
    exact ⟨u, hu, hctx.result, hctx.live, hctx.lines, hctx.others, hframe⟩
  · intro s n p t tc b l dirty hcloses hheld hserves hcached hroom hcache
    obtain ⟨u, hu, hctx, hframe⟩ := exec_sweepStep_lineClose (t := t) hserves hcache hcloses hheld hcached hroom
    have hred : u.red = { s.red with closes := [], closedTc := SMap.set (fun _ => (0 : U80)) s.red.closedTc n tc, cache := u.red.cache } := by
      rw [hframe]
    refine ⟨u, hu, hctx.result, hctx.live, ?_, ?_, hctx.lines, hctx.others, ?_⟩
    · rw [hred]
      exact SMap.get_set_same ..
    · rw [hred]
    · rw [hframe]
  · exact fun s n k t reset src hcloses hsweeps hwaits hcache => exec_sweepStep_waits hcloses hsweeps hwaits hcache
  · intro s line stamp t
    exact ⟨_, exec_lineCloseOccurrence s line stamp t, List.prefix_append .., fun p hp hkind hline =>
      List.mem_append_right _ (List.mem_map_of_mem (State.mem_setsClosedBy hp hkind hline)), rfl⟩
  · exact exec_lineCloseBegin
  · rintro s rq n t l hcar hheld hf hn hroom rfl hgood
    obtain ⟨u, hu, hreply, hlines, hframe⟩ := exec_resultRead hcar hheld hf hn hroom hgood
    refine ⟨u, hu, hreply, ?_, fun a ha => ?_, hframe⟩
    · rw [hlines, if_pos rfl, readLine]
    · rw [hlines, if_neg (Ne.symm ha)]
  · exact fun s e t k h => exec_takeoverDone h

end Sys2Proof.Machine


namespace Sys2Proof.Machine

/-! The family of result queues (10): O24.

## A FLUSH that asks for nothing

Each word of FLUSH is a request of its own: 1 flushes its queue, 0 asks for no action, and both are accepted (02, R586; 10, R324 and table
of queue objects). Of the statement's two clauses on FLUSH, the one on a calm link says that the word is 1; the one on a link found broken
takes any word that is accepted, and so claims that 0 empties the queue too. -/

/-- The row of FLUSH. -/
theorem odFind_flush : ∃ r, odFind 0x7016 0x00 = some r ∧ r.hook = .flush ∧ r.acc = .cmd := ⟨_, rfl, rfl, rfl⟩

/-- A word 0 of FLUSH picks no queue: the command only ends. -/
theorem State.command_flush_zero {j : State} {r : Obj} (src : Word) (q : Nat) (e : Env) (hhook : r.hook = .flush) :
    j.command r src 0x7016 0x00 (wordsAt q [0]) e = j.endCmd src 0x7016 0x00 0 0 := by
  simp [State.command, State.instantCommand, hhook, wordsAt]

/-- An accepted FLUSH of word 0 leaves every queue, whatever the link it would have met. -/
theorem exec_flush_zero {s : State} {rq : Req} {q : Fin 65536} {broken : Option Nat} {t : Nat}
    (h : s.takes rq 0x7016 0x00 q [0] { Env.calm with broken := broken } t = true) :
    ∃ u, exec (.flush rq q 0 broken t) s = .next u ∧ u.queues = s.queues := by
  obtain ⟨r, hr, hhook, hacc⟩ := odFind_flush
  obtain ⟨kind, v, hj⟩ := (s.at t).journalWrite_journalled r rq.src 0x7016 0x00 (wordsAt q [0])
  have hexec := exec_of_takes (c := .flush rq q 0 broken t) (w := _) rfl h hr rfl
  simp only [State.acts, hacc, beq_self_eq_true, if_true, State.command_flush_zero _ _ _ hhook] at hexec
  generalize (s.at t).journalWrite r rq.src 0x7016 0x00 (wordsAt q [0]) false = j at hj hexec
  refine ⟨_, hexec ?_ ?_, ?_⟩
  · rw [hj.frame]
    rfl
  · exact hj.reg (by decide) (by decide) (by decide)
  · rw [hj.frame]
    rfl

/-- Refutes O24: its clause on a FLUSH that finds a link broken does not say that the word written is 1; a write of 0 to word 7 is accepted
in `gapInPool` and asks for no action, so queue 7 still holds its cell. -/
theorem not_queuesAreReadAndRuled : ¬ Obligations.QueuesAreReadAndRuled := by
  unfold Obligations.QueuesAreReadAndRuled
  rintro ⟨-, -, -, -, -, hbroken, -⟩
  have htakes : gapInPool.takes ⟨0, none⟩ 0x7016 0x00 (7 : Fin 65536) [0] { Env.calm with broken := some 0 } 9 = true := by decide +kernel
  obtain ⟨u, hu, hempty, -⟩ := hbroken gapInPool ⟨0, none⟩ 7 0 0 9 htakes
  obtain ⟨w, hw, hqueues⟩ := exec_flush_zero htakes
  obtain rfl : u = w := Host.Outcome.next.inj (hu.symm.trans hw)
  have hholds : (gapInPool.queue 7).cells ≠ [] := by decide +kernel
  rw [State.queue, hqueues] at hempty
  exact hholds hempty

end Sys2Proof.Machine

namespace Sys2Proof.Machine

/-! The family of the analogue stimulus outputs (11): O25 and O26.

## A bit of a word -/

/-- A bit of a word after one was set or cleared. -/
theorem bit_setBit (w : Word) {i : Nat} (b : Bool) {k : Nat} (hi : i < 40) : bit (setBit w i b) k = if i = k then b else bit w k := by
  have hone : (at_ i 1).getLsbD k = decide (i = k) := by
    simp only [at_, BitVec.getLsbD_ofNat, Nat.shiftLeft_eq, one_mul, Nat.testBit_two_pow]
    by_cases h : i = k <;> simp [h]
    omega
  by_cases hik : i = k
  · subst hik
    cases b <;> simp [setBit, bit, hone]
  · cases b with
    | false => simpa [setBit, bit, hone, hik] using BitVec.lt_of_getLsbD
    | true => simp [setBit, bit, hone, hik]

/-! ## What a LOAD strobe makes active (02, R52; 11, R331) -/

/-- Of two maps that are read with other defaults, a key that reads the same unlisted reads the same. -/
theorem SMap.get_default {α : Type} {d d' : Nat → α} (m : SMap α) {k : Nat} (h : d k = d' k) : SMap.get d m k = SMap.get d' m k := by
  induction m with
  | nil => exact h
  | cons e m ih =>
    rw [SMap.get, SMap.get, ih]

/-- A map of which only the keys that `sel` picks are kept. -/
theorem SMap.get_filter {α : Type} (d : Nat → α) (m : SMap α) (sel : Nat → Bool) (k : Nat) :
    SMap.get d (m.filter fun e => sel e.1) k = if sel k then SMap.get d m k else d k := by
  induction m with
  | nil => simp [SMap.get]
  | cons e m ih =>
    obtain ⟨j, v⟩ := e
    by_cases hjk : j = k
    · subst hjk
      cases hj : sel j <;> simp_all [SMap.get]
    · cases hj : sel j <;> simp_all [SMap.get]

/-- Words put over a map one by one, the first of a list last: what they do not list reads as before. -/
theorem SMap.get_foldr_set {α : Type} [DecidableEq α] (d : Nat → α) (l m : SMap α) (k : Nat) :
    SMap.get d (l.foldr (fun e m => SMap.set d m e.1 e.2) m) k = SMap.get (SMap.get d m) l k := by
  induction l with
  | nil => rfl
  | cons e l ih => rw [List.foldr_cons, SMap.get_set, ih, SMap.get]

/-- The keys picked are active as they are written; every other one stays as it was. -/
theorem State.get_act_activateKeys (s : State) (sel : Nat → Bool) (k : Nat) :
    SMap.get romDefault (s.activateKeys sel).act k = if sel k then SMap.get romDefault s.regs k else SMap.get romDefault s.act k := by
  have hkept := SMap.get_filter romDefault s.act (fun k => !sel k) k
  rw [State.activateKeys, SMap.get_foldr_set, SMap.get_filter _ s.regs sel]
  cases hk : sel k with
  | false => simpa [hk] using hkept
  | true => exact SMap.get_default s.regs (by simpa [hk] using hkept)

/-! ## One output's own state and objects -/

@[simp] theorem State.out_onOut_same (s : State) (n : Nat) (f : AsSt → AsSt) : (s.onOut n f).out n = f (s.out n) := SMap.get_set_same ..

theorem State.out_onOut_other (s : State) {n k : Nat} (f : AsSt → AsSt) (h : k ≠ n) : (s.onOut n f).out k = s.out k :=
  SMap.get_set_other _ _ _ h.symm

/-- The outputs are read from the state's outputs alone. -/
theorem State.out_of_stim {s u : State} (h : u.stim = s.stim) (n : Nat) : u.out n = s.out n := by
  rw [State.out, h, State.out]

/-- The active values are read from the active set alone. -/
theorem State.actN_of_act {s u : State} (h : u.act = s.act) (i j w : Nat) : u.actN i j w = s.actN i j w := by
  rw [State.actN, State.act?, h, State.actN, State.act?]

@[simp] theorem State.out_setRegN (s : State) (i j v n : Nat) : (s.setRegN i j v).out n = s.out n := rfl
@[simp] theorem State.out_asFlag (s : State) (m b : Nat) (v : Bool) (n : Nat) : (s.asFlag m b v).out n = s.out n := rfl
@[simp] theorem State.out_at (s : State) (t n : Nat) : (s.at t).out n = s.out n := rfl
@[simp] theorem State.reg_onOut (s : State) (n : Nat) (f : AsSt → AsSt) (i j w : Nat) : (s.onOut n f).reg i j w = s.reg i j w := rfl
@[simp] theorem State.asState_onOut (s : State) (n : Nat) (f : AsSt → AsSt) (k : Nat) : (s.onOut n f).asState k = s.asState k := rfl

/-- What a step of one output moves: at most objects among `ks` and the state of the output. -/
structure State.OutMoved (s u : State) (n : Nat) (ks : List Nat) : Prop where
  frame : u = { s with regs := u.regs, stim := u.stim }
  others : ∀ k, k ≠ n → u.out k = s.out k
  regs : SameRegs s u ks

namespace State.OutMoved

variable {s u v : State} {n : Nat} {ks ls : List Nat}

theorem refl (s : State) (n : Nat) (ks : List Nat) : s.OutMoved s n ks := ⟨rfl, fun _ _ => rfl, SameRegs.refl s ks⟩

theorem trans (h : s.OutMoved u n ks) (h' : u.OutMoved v n ls) : s.OutMoved v n (ks ++ ls) :=
  ⟨by rw [h'.frame, h.frame], fun k hk => (h'.others k hk).trans (h.others k hk), h.regs.trans h'.regs⟩

theorem mono (h : s.OutMoved u n ks) (hs : ∀ k ∈ ks, k ∈ ls) : s.OutMoved u n ls := ⟨h.frame, h.others, h.regs.mono hs⟩

/-- As `trans`, over the same objects. -/
theorem andThen (h : s.OutMoved u n ks) (h' : u.OutMoved v n ks) : s.OutMoved v n ks := (h.trans h').mono (by simp)

theorem onOut (s : State) (n : Nat) (f : AsSt → AsSt) (ks : List Nat) : s.OutMoved (s.onOut n f) n ks :=
  ⟨rfl, fun _ hk => s.out_onOut_other f hk, SameRegs.of_eq _ rfl⟩

theorem setRegW (s : State) (i j w : Nat) (v : Word) (n : Nat) (hk : odKey i j w ∈ ks) : s.OutMoved (s.setRegW i j w v) n ks :=
  ⟨rfl, fun _ _ => rfl, (SameRegs.setRegW s i j w v).mono (by simpa using hk)⟩

theorem setRegN (s : State) (i j v n : Nat) (hk : odKey i j 0 ∈ ks) : s.OutMoved (s.setRegN i j v) n ks := setRegW s i j 0 _ n hk

theorem asFlag (s : State) (n b : Nat) (v : Bool) (hk : odKey (asIdx n) 0x13 0 ∈ ks) : s.OutMoved (s.asFlag n b v) n ks :=
  setRegW s _ _ 0 _ n hk

theorem act (h : s.OutMoved u n ks) : u.act = s.act := by rw [h.frame]

theorem asMode (h : s.OutMoved u n ks) : u.asMode n = s.asMode n := State.actN_of_act h.act ..

end State.OutMoved

/-- A step that moves no more than objects other than STATE, active values, the log and outputs answers what its body makes. -/
theorem State.perform_stim {s u : State} {t : Nat} {f : State → State} (h : f { s with posted := [] } = u)
    (hu : u = { s.at t with regs := u.regs, act := u.act, log := u.log, stim := u.stim }) (hs : u.reg 0x0100 0x00 = s.reg 0x0100 0x00) :
    s.perform f = .next u :=
  State.perform_next h hs (by rw [hu]; rfl) (by rw [hu]; rfl) (by rw [hu]; rfl) (by rw [hu]; exact s.clock_le_at t)

/-- As `State.perform_stim`, for a step of one output. -/
theorem State.perform_outMoved {s u : State} {t n : Nat} {ks : List Nat} {f : State → State} (h : f { s with posted := [] } = u)
    (hu : (s.at t).OutMoved u n ks) (hk : odKey 0x0100 0 0 ∉ ks) : s.perform f = .next u :=
  State.perform_stim h (by rw [hu.frame]) (hu.regs.reg _ _ _ hk)

theorem exec_of_outMoved {c : Instr} {s u : State} {t n : Nat} {ks : List Nat} {f : State → State} (hc : exec c s = s.perform f)
    (hf : f { s with posted := [] } = u) (hu : (s.at t).OutMoved u n ks) (hk : odKey 0x0100 0 0 ∉ ks) : exec c s = .next u :=
  hc.trans (State.perform_outMoved hf hu hk)

/-- The objects of an output are none of the device's. -/
theorem odKey_asIdx_ne_devState (n j w : Nat) : odKey (asIdx n) j w ≠ odKey 0x0100 0 0 := by simp only [odKey, asIdx]; omega

theorem not_mem_statusKey (n : Nat) : odKey 0x0100 0 0 ∉ [odKey (asIdx n) 0x13 0] := by
  simpa using (odKey_asIdx_ne_devState n _ _).symm

/-! ## STATUS (11, R330) -/

theorem State.bit_asFlag (s : State) (n : Nat) {b : Nat} (v : Bool) (k : Nat) (hb : b < 40) :
    bit ((s.asFlag n b v).reg (asIdx n) 0x13) k = if b = k then v else bit (s.reg (asIdx n) 0x13) k := by
  rw [State.asFlag, State.reg_setReg_same, bit_setBit _ _ hb]

/-- An output that takes what it aims at sets CLIPPED at most. -/
theorem State.asApply_cases (s : State) (n : Nat) : s.asApply n = s ∨ s.asApply n = s.asFlag n 2 true := by
  unfold State.asApply
  split
  · cases (asCode (s.out n).range _ _).2 with
    | false => exact .inl rfl
    | true => exact .inr rfl
  · exact .inl rfl

theorem State.asApply_moved (s : State) (n : Nat) : s.OutMoved (s.asApply n) n [odKey (asIdx n) 0x13 0] := by
  obtain h | h := s.asApply_cases n <;> rw [h]
  · exact State.OutMoved.refl s n _
  · exact State.OutMoved.asFlag s n 2 true (by simp)

@[simp] theorem State.out_asApply (s : State) (n k : Nat) : (s.asApply n).out k = s.out k := by
  obtain h | h := s.asApply_cases n <;> rw [h]
  exact State.out_asFlag ..

theorem State.bit_asApply (s : State) (n : Nat) {k : Nat} (hk : k ≠ 2) :
    bit ((s.asApply n).reg (asIdx n) 0x13) k = bit (s.reg (asIdx n) 0x13) k := by
  obtain h | h := s.asApply_cases n <;> rw [h]
  rw [State.bit_asFlag _ _ _ _ (by decide), if_neg hk.symm]

end Sys2Proof.Machine

namespace Sys2Proof.Machine

/-! ## Strobes and range changes (11, R333, R334) -/

section Output

variable (s : State) (n : Nat)

/-- The output once a strobe has made its pending values active: a new FREQ_WORD restarts the NCO's phase (11, R345). -/
def State.strobed : State :=
  (s.activateKeys (asLoadKey n)).when ((s.activateKeys (asLoadKey n)).act? (asIdx n) 9 ≠ s.act? (asIdx n) 9)
    (fun s => s.onOut n (fun x => { x with rephase := true }))

theorem State.asStrobe_eq : s.asStrobe n =
    if (s.strobed n).asHeld || ((s.strobed n).out n).change.isSome then s.strobed n
    else if (s.strobed n).actN (asIdx n) 1 ≠ ((s.strobed n).out n).range then
      (((s.strobed n).onOut n (fun x => { x with change := some (s.strobed n).clock })).asFlag n 3 true).asApply n
    else (s.strobed n).asTake n := rfl

/-- Beside the active values, all that moves is whether the phase restarts. -/
theorem State.strobed_eq : ∃ b, s.strobed n = ({ s with act := (s.activateKeys (asLoadKey n)).act } : State).when b
    (fun s => s.onOut n (fun x => { x with rephase := true })) := ⟨_, rfl⟩

theorem State.strobed_act : (s.strobed n).act = (s.activateKeys (asLoadKey n)).act := by
  obtain ⟨b, h⟩ := s.strobed_eq n
  rw [h]
  cases b <;> rfl

theorem State.strobed_frame : s.strobed n = { s with act := (s.strobed n).act, stim := (s.strobed n).stim } := by
  obtain ⟨b, h⟩ := s.strobed_eq n
  rw [h]
  cases b <;> rfl

theorem State.strobed_regs : (s.strobed n).regs = s.regs := by rw [State.strobed_frame]

theorem State.strobed_asHeld : (s.strobed n).asHeld = s.asHeld := by rw [State.strobed_frame]; rfl

theorem State.strobed_out : (s.strobed n).out n = { s.out n with rephase := ((s.strobed n).out n).rephase } := by
  obtain ⟨b, h⟩ := s.strobed_eq n
  rw [h]
  cases b with
  | false => rfl
  | true => rw [State.when_true, State.out_onOut_same]; rfl

theorem State.strobed_others {k : Nat} (hk : k ≠ n) : (s.strobed n).out k = s.out k := by
  obtain ⟨b, h⟩ := s.strobed_eq n
  rw [h]
  cases b with
  | false => rfl
  | true =>
    rw [State.when_true, State.out_onOut_other _ _ hk]
    rfl

theorem State.strobed_change : ((s.strobed n).out n).change = (s.out n).change := by rw [State.strobed_out]
theorem State.strobed_range : ((s.strobed n).out n).range = (s.out n).range := by rw [State.strobed_out]
theorem State.strobed_mode : ((s.strobed n).out n).mode = (s.out n).mode := by rw [State.strobed_out]

/-- The output stage with what it takes of the active set (11, R333, R336). -/
def State.taking : AsSt :=
  { s.out n with mode := s.asMode n, clr := (s.act? (asIdx n) 3).toInt, cleared := false,
                 clrPlay := ((s.out n).cleared || (s.out n).clrPlay) && 2 ≤ s.asMode n }

/-- STATUS shows that the output leaves its clear code. -/
def State.uncleared : State := s.when (s.out n).cleared (fun s => s.asFlag n 4 false)

theorem State.uncleared_cases : s.uncleared n = s ∨ s.uncleared n = s.asFlag n 4 false := by
  unfold State.uncleared
  cases (s.out n).cleared with
  | false => exact .inl rfl
  | true => exact .inr rfl

theorem State.uncleared_moved : s.OutMoved (s.uncleared n) n [odKey (asIdx n) 0x13 0] := by
  obtain h | h := s.uncleared_cases n <;> rw [h]
  · exact State.OutMoved.refl s n _
  · exact State.OutMoved.asFlag s n 4 false (by simp)

theorem State.uncleared_taking : (s.uncleared n).taking n = s.taking n := by
  obtain h | h := s.uncleared_cases n <;> rw [h]
  rfl

theorem State.asTake_eq : s.asTake n = ((s.uncleared n).onOut n (fun _ => (s.uncleared n).taking n)).asApply n := by
  rw [State.uncleared_taking]
  unfold State.asTake State.uncleared
  cases (s.out n).cleared <;> rfl

theorem State.asTake_out : (s.asTake n).out n = s.taking n := by
  rw [State.asTake_eq, State.out_asApply, State.out_onOut_same, State.uncleared_taking]

theorem State.asTake_moved : s.OutMoved (s.asTake n) n [odKey (asIdx n) 0x13 0] := by
  rw [State.asTake_eq]
  exact ((s.uncleared_moved n).andThen (State.OutMoved.onOut _ n _ _)).andThen (State.asApply_moved _ n)

/-- RANGING of STATUS does not follow MODE and CLR_V. -/
theorem State.bit_asTake_ranging : bit ((s.asTake n).reg (asIdx n) 0x13) 3 = bit (s.reg (asIdx n) 0x13) 3 := by
  rw [State.asTake_eq, State.bit_asApply _ _ (by decide), State.reg_onOut]
  obtain h | h := s.uncleared_cases n <;> rw [h]
  rw [State.bit_asFlag _ _ _ _ (by decide)]
  rfl

/-- The strobe of an output that is held clear, or that changes its range, changes no more than the active values. -/
theorem State.asStrobe_waits (h : s.asHeld = true ∨ (s.out n).change ≠ none) : s.asStrobe n = s.strobed n := by
  rw [State.asStrobe_eq, State.strobed_asHeld, State.strobed_change, if_pos]
  simpa [Option.isSome_iff_ne_none] using h

variable {s n} in
/-- The strobe of another output starts a range change, or the output takes the active set. -/
theorem State.asStrobe_acts (hheld : s.asHeld = false) (hchange : (s.out n).change = none) : s.asStrobe n =
    if (s.strobed n).actN (asIdx n) 1 ≠ (s.out n).range then
      (((s.strobed n).onOut n (fun x => { x with change := some s.clock })).asFlag n 3 true).asApply n
    else (s.strobed n).asTake n := by
  have hclock : (s.strobed n).clock = s.clock := by rw [State.strobed_frame]
  rw [State.asStrobe_eq, State.strobed_asHeld, State.strobed_change, State.strobed_range, hheld, hchange, hclock, if_neg (by decide)]

/-- Past the active values a strobe moves its output and STATUS at most. -/
theorem State.strobed_moved : (s.strobed n).OutMoved (s.asStrobe n) n [odKey (asIdx n) 0x13 0] := by
  rw [State.asStrobe_eq]
  split
  · exact State.OutMoved.refl _ n _
  split
  · exact ((State.OutMoved.onOut _ n _ _).andThen (State.OutMoved.asFlag _ n 3 true (by simp))).andThen (State.asApply_moved _ n)
  · exact State.asTake_moved _ n

theorem State.asStrobe_frame : s.asStrobe n = { s with regs := (s.asStrobe n).regs, act := (s.asStrobe n).act, stim := (s.asStrobe n).stim } := by
  rw [(s.strobed_moved n).frame, s.strobed_frame n]

theorem State.asStrobe_regs : SameRegs s (s.asStrobe n) [odKey (asIdx n) 0x13 0] :=
  fun k hk => by rw [(s.strobed_moved n).regs k hk, State.strobed_regs]

theorem State.asStrobe_others {k : Nat} (hk : k ≠ n) : (s.asStrobe n).out k = s.out k :=
  ((s.strobed_moved n).others k hk).trans (s.strobed_others n hk)

theorem State.get_act_asStrobe (k : Nat) : SMap.get romDefault (s.asStrobe n).act k =
    if asLoadKey n k then SMap.get romDefault s.regs k else SMap.get romDefault s.act k := by
  rw [(s.strobed_moved n).act, State.strobed_act, State.get_act_activateKeys]

end Output

/-- A strobe makes the written load objects active. -/
theorem State.act_asStrobe (s : State) (n k : Nat) (hk : asLoadKey n k = true) :
    SMap.get romDefault (s.asStrobe n).act k = SMap.get romDefault s.regs k := by
  rw [State.get_act_asStrobe, if_pos hk]

/-- A strobe of an output that is not held clear and changes no range starts a range change when RANGE is new. -/
theorem State.asStrobe_starts {s : State} {n : Nat} (hheld : s.asHeld = false) (hchange : (s.out n).change = none)
    (hrange : (s.asStrobe n).actN (asIdx n) 1 ≠ (s.out n).range) :
    ((s.asStrobe n).out n).change = some s.clock ∧ ((s.asStrobe n).out n).mode = (s.out n).mode ∧
      bit ((s.asStrobe n).reg (asIdx n) 0x13) 3 = true := by
  rw [State.actN_of_act (s.strobed_moved n).act] at hrange
  rw [State.asStrobe_acts hheld hchange, if_pos hrange]
  refine ⟨?_, ?_, ?_⟩
  · simp
  · simp [State.strobed_mode]
  · rw [State.bit_asApply _ _ (by decide), State.bit_asFlag _ _ _ _ (by decide), if_pos rfl]

/-- With the RANGE switched in, it takes MODE and CLR_V, and what was cleared no longer is. -/
theorem State.asStrobe_takes {s : State} {n : Nat} (hheld : s.asHeld = false) (hchange : (s.out n).change = none)
    (hrange : (s.asStrobe n).actN (asIdx n) 1 = (s.out n).range) :
    ((s.asStrobe n).out n).change = none ∧ ((s.asStrobe n).out n).mode = (s.asStrobe n).asMode n ∧
      ((s.asStrobe n).out n).clr = ((s.asStrobe n).act? (asIdx n) 3).toInt ∧ ((s.asStrobe n).out n).cleared = false := by
  rw [State.actN_of_act (s.strobed_moved n).act] at hrange
  rw [State.asStrobe_acts hheld hchange, if_neg (by simpa using hrange), State.asTake_out, (State.asTake_moved _ n).asMode, State.act?,
    (State.asTake_moved _ n).act]
  exact ⟨(s.strobed_change n).trans hchange, rfl, rfl, rfl⟩

/-- Step 2 of a range change (11, R334). -/
theorem State.asRangeSwitch_of_change {s : State} {n k : Nat} (h : (s.out n).change = some k) :
    s.asRangeSwitch n = (s.onOut n (fun x => { x with range := s.actN (asIdx n) 1 })).asApply n := by
  simp only [State.asRangeSwitch, h]

theorem State.asRangeSwitch_of_none {s : State} {n : Nat} (h : (s.out n).change = none) : s.asRangeSwitch n = s := by
  simp only [State.asRangeSwitch, h]

/-- The end of the range change of an output (11, R334 step 4), before the output takes the active set. -/
def State.rangeEnded (s : State) (n : Nat) : State :=
  (s.onOut n (fun x => { x with change := none, range := s.actN (asIdx n) 1 })).asFlag n 3 false

theorem State.rangeEnded_moved (s : State) (n : Nat) : s.OutMoved (s.rangeEnded n) n [odKey (asIdx n) 0x13 0] :=
  (State.OutMoved.onOut s n _ _).andThen (State.OutMoved.asFlag _ n 3 false (by simp))

theorem State.rangeEnded_out (s : State) (n : Nat) :
    (s.rangeEnded n).out n = { s.out n with change := none, range := s.actN (asIdx n) 1 } := by
  rw [State.rangeEnded, State.out_asFlag, State.out_onOut_same]

theorem State.bit_rangeEnded (s : State) (n : Nat) : bit ((s.rangeEnded n).reg (asIdx n) 0x13) 3 = false := by
  rw [State.rangeEnded, State.bit_asFlag _ _ _ _ (by decide), if_pos rfl]

theorem State.rangeEnded_asHeld (s : State) (n : Nat) : (s.rangeEnded n).asHeld = s.asHeld := by
  have hstate : (s.rangeEnded n).reg 0x0100 0 = s.reg 0x0100 0 :=
    (s.rangeEnded_moved n).regs.reg _ _ _ (not_mem_statusKey n)
  rw [State.asHeld, State.devState, State.regN, hstate]
  rfl

theorem State.asRangeDone_of_change {s : State} {n k : Nat} (h : (s.out n).change = some k) :
    s.asRangeDone n = if s.asHeld then s.rangeEnded n else (s.rangeEnded n).asTake n := by
  rw [← s.rangeEnded_asHeld n]
  simp only [State.asRangeDone, h]
  rfl

theorem State.asRangeDone_of_none {s : State} {n : Nat} (h : (s.out n).change = none) : s.asRangeDone n = s := by
  simp only [State.asRangeDone, h]

/-- Once its range has changed, the output takes what strobes made active meanwhile. -/
theorem State.rangeEnded_taking (s : State) (n : Nat) : (s.rangeEnded n).taking n =
    { s.out n with
      range := s.actN (asIdx n) 1, change := none, mode := s.asMode n, clr := (s.act? (asIdx n) 3).toInt, cleared := false
      clrPlay := ((s.rangeEnded n).taking n).clrPlay } := by
  simp only [State.taking, State.rangeEnded_out, (s.rangeEnded_moved n).asMode, State.act?, (s.rangeEnded_moved n).act]

/-! ## AS_LOAD_STROBE, AS_RANGE_SWITCH and AS_RANGE_DONE -/

section Steps

variable {s : State} {n : Fin 32} {t : Nat}

theorem exec_asLoadStrobe (s : State) (n : Fin 32) (t : Nat) : exec (.asLoadStrobe n t) s = .next ((s.at t).asStrobe n) := by
  change execAsLoadStrobe n t s = _
  refine State.perform_stim (t := t) rfl ?_ (((s.at t).asStrobe_regs n).reg _ _ _ ?_)
  · rw [State.asStrobe_frame]
  · exact not_mem_statusKey n

/-- A step of an output that moves it and STATUS at most. -/
theorem exec_of_statusMoved {c : Instr} {f : State → State} {u : State} (hc : exec c s = s.perform f)
    (hf : f { s with posted := [] } = u) (hu : (s.at t).OutMoved u n [odKey (asIdx n) 0x13 0]) : exec c s = .next u :=
  exec_of_outMoved hc hf hu (not_mem_statusKey n)

theorem exec_asRangeSwitch (s : State) (n : Fin 32) (t : Nat) :
    exec (.asRangeSwitch n t) s = s.perform (fun s => (s.tick t).asRangeSwitch n) := rfl

theorem exec_asRangeDone (s : State) (n : Fin 32) (t : Nat) :
    exec (.asRangeDone n t) s = s.perform (fun s => (s.tick t).asRangeDone n) := rfl

/-- With no range change under way, the steps of one only let time pass. -/
theorem exec_asRange_idle (h : (s.out n).change = none) :
    exec (.asRangeSwitch n t) s = .next (s.at t) ∧ exec (.asRangeDone n t) s = .next (s.at t) :=
  ⟨exec_of_statusMoved (exec_asRangeSwitch s n t) (State.asRangeSwitch_of_none (s := s.at t) h) (State.OutMoved.refl _ n _),
   exec_of_statusMoved (exec_asRangeDone s n t) (State.asRangeDone_of_none (s := s.at t) h) (State.OutMoved.refl _ n _)⟩

theorem exec_asRangeSwitch_changes {k : Nat} (h : (s.out n).change = some k) :
    ∃ u, exec (.asRangeSwitch n t) s = .next u ∧ u.out n = { s.out n with range := s.actN (asIdx n) 1 } ∧
      (s.at t).OutMoved u n [odKey (asIdx n) 0x13 0] := by
  have hbody := State.asRangeSwitch_of_change (s := s.at t) h
  have hmoved : (s.at t).OutMoved ((s.at t).asRangeSwitch n) n [odKey (asIdx n) 0x13 0] := by
    rw [hbody]
    exact (State.OutMoved.onOut _ n _ _).andThen (State.asApply_moved _ n)
  refine ⟨_, exec_of_statusMoved (exec_asRangeSwitch s n t) rfl hmoved, ?_, hmoved⟩
  rw [State.tick_posted_nil, hbody, State.out_asApply, State.out_onOut_same]
  rfl

theorem exec_asRangeDone_held {k : Nat} (h : (s.out n).change = some k) (hheld : s.asHeld = true) :
    ∃ u, exec (.asRangeDone n t) s = .next u ∧ u.out n = { s.out n with range := s.actN (asIdx n) 1, change := none } ∧
      bit (u.reg (asIdx n) 0x13) 3 = false ∧ (s.at t).OutMoved u n [odKey (asIdx n) 0x13 0] := by
  have hbody : (s.at t).asRangeDone n = (s.at t).rangeEnded n := (State.asRangeDone_of_change (s := s.at t) h).trans (if_pos hheld)
  exact ⟨_, exec_of_statusMoved (exec_asRangeDone s n t) hbody (State.rangeEnded_moved _ n), State.rangeEnded_out _ n,
    State.bit_rangeEnded _ n, State.rangeEnded_moved _ n⟩

theorem exec_asRangeDone_takes {k : Nat} (h : (s.out n).change = some k) (hheld : s.asHeld = false) :
    ∃ u, exec (.asRangeDone n t) s = .next u ∧
      u.out n = { s.out n with
        range := s.actN (asIdx n) 1, change := none, mode := s.asMode n, clr := (s.act? (asIdx n) 3).toInt, cleared := false
        clrPlay := (u.out n).clrPlay } ∧
      bit (u.reg (asIdx n) 0x13) 3 = false ∧ (s.at t).OutMoved u n [odKey (asIdx n) 0x13 0] := by
  have hbody : (s.at t).asRangeDone n = ((s.at t).rangeEnded n).asTake n :=
    (State.asRangeDone_of_change (s := s.at t) h).trans (if_neg (Bool.eq_false_iff.mp hheld))
  have hmoved := ((s.at t).rangeEnded_moved n).andThen (State.asTake_moved _ n)
  refine ⟨_, exec_of_statusMoved (exec_asRangeDone s n t) hbody hmoved, ?_, ?_, hmoved⟩
  · rw [State.asTake_out]
    exact State.rangeEnded_taking (s.at t) n
  · rw [State.bit_asTake_ranging, State.bit_rangeEnded]

end Steps

end Sys2Proof.Machine

namespace Sys2Proof.Machine

/-! ## The end of a playback (11, table of playback states) -/

/-- The objects that the end of a playback moves: STATE and END_CAUSE. -/
def endKeys (n : Nat) : List Nat := [odKey (asIdx n) 0x11 0, odKey (asIdx n) 0x12 0]

theorem State.asBusy_of_state {s : State} {n k : Nat} (h : s.asState n = k) (hk : 1 ≤ k ∧ k ≤ 4) : s.asBusy n = true := by
  simpa [State.asBusy, h] using hk

/-- What the end of a playback leaves of the output. -/
def AsSt.ending (x : AsSt) : AsSt := { x with ahead := [], table := [], stop := 0, under := false, ended := true }

theorem State.asEnd_of_busy {s : State} {n : Nat} (cause : Nat) (h : s.asBusy n = true) :
    s.asEnd n cause = ((s.setRegN (asIdx n) 0x11 6).setRegN (asIdx n) 0x12 cause).onOut n AsSt.ending := by
  rw [State.asEnd, if_pos h]
  rfl

theorem State.asEnd_moved (s : State) (n cause : Nat) : s.OutMoved (s.asEnd n cause) n (endKeys n) := by
  unfold State.asEnd
  split
  · exact ((State.OutMoved.setRegN s _ _ _ n (by simp [endKeys])).andThen (State.OutMoved.setRegN _ _ _ _ n (by simp [endKeys]))).andThen
      (State.OutMoved.onOut _ n _ _)
  · exact State.OutMoved.refl s n _

/-- A playback under way ends in STOPPED with its cause. -/
theorem State.asEnd_ended {s : State} {n : Nat} (cause : Nat) (h : s.asBusy n = true) :
    (s.asEnd n cause).asState n = 6 ∧ (s.asEnd n cause).reg (asIdx n) 0x12 = wd cause ∧
      (s.asEnd n cause).out n = (s.out n).ending := by
  rw [State.asEnd_of_busy cause h]
  refine ⟨State.regN_eq_of_reg ?_ (by decide), ?_, ?_⟩
  · rw [State.reg_onOut, (SameRegs.setRegN _ (asIdx n) 0x12 cause).reg _ _ _ (by simp [odKey]), State.reg_setRegN_same]
  · rw [State.reg_onOut, State.reg_setRegN_same]
  · rw [State.out_onOut_same]
    rfl

/-! ## ARM (11, R341) -/

/-- The objects that ARM moves: STATE, END_CAUSE, STATUS, UNDERRUN_SAMPLES and ENTRY. -/
def asArmKeys (n : Nat) : List Nat := [0x11, 0x12, 0x13, 0x14, 0x15].map (fun k => odKey (asIdx n) k 0)

/-- The objects of an output as ARM leaves them. -/
def State.armedObjects (s : State) (n : Nat) : State :=
  let s' := (s.setRegN (asIdx n) 0x11 1).setRegN (asIdx n) 0x12 0
  ((s'.setReg (asIdx n) 0x13 (s'.reg (asIdx n) 0x13 &&& 0x18#40)).setRegN (asIdx n) 0x14 0).setRegN (asIdx n) 0x15 (s.regN (asIdx n) 8)

/-- An output that is armed at entry `e`: nothing is prefetched, and prefetch begins there. -/
def AsSt.arming (x : AsSt) (e : Nat) : AsSt :=
  { x with rep := 0, pos := 0, fetch := (e, 0, 0), ended := false, ahead := [], skip := 0, table := [], stop := 0, under := false }

theorem State.asArmed_eq (s : State) (n : Nat) : s.asArmed n = (s.armedObjects n).onOut n (fun x => x.arming (s.regN (asIdx n) 8)) := by
  unfold State.asArmed State.armedObjects AsSt.arming
  rfl

theorem State.asArmed_out (s : State) (n : Nat) : (s.asArmed n).out n = (s.out n).arming (s.regN (asIdx n) 8) := by
  rw [State.asArmed_eq, State.out_onOut_same]
  rfl

theorem State.asArmed_moved (s : State) (n : Nat) : s.OutMoved (s.asArmed n) n (asArmKeys n) := by
  have hset (x : State) (k v : Nat) (hk : k ∈ [0x11, 0x12, 0x13, 0x14, 0x15]) : x.OutMoved (x.setRegN (asIdx n) k v) n (asArmKeys n) :=
    State.OutMoved.setRegN x _ _ _ n (List.mem_map_of_mem hk)
  have hstatus (x : State) (v : Word) : x.OutMoved (x.setReg (asIdx n) 0x13 v) n (asArmKeys n) :=
    State.OutMoved.setRegW x _ _ 0 _ n (by simp [asArmKeys])
  rw [State.asArmed_eq]
  exact (((((hset s 0x11 1 (by decide)).andThen (hset _ 0x12 0 (by decide))).andThen (hstatus _ _)).andThen
    (hset _ 0x14 0 (by decide))).andThen (hset _ 0x15 _ (by decide))).andThen (State.OutMoved.onOut _ n _ _)

/-- An output that is armed is ARMING, with no cause, no underruns, and FIRST_ENTRY to play. -/
theorem State.asArmed_objects (s : State) (n : Nat) :
    (s.asArmed n).asState n = 1 ∧ (s.asArmed n).reg (asIdx n) 0x12 = 0 ∧ (s.asArmed n).reg (asIdx n) 0x14 = 0 ∧
      (s.asArmed n).reg (asIdx n) 0x15 = s.reg (asIdx n) 8 := by
  have hstate : (s.armedObjects n).reg (asIdx n) 0x11 = wd 1 := by
    simp [State.armedObjects, State.setRegN, State.setReg, State.reg_setRegW, odKey]
  simp only [State.asArmed_eq, State.asState_onOut, State.reg_onOut]
  refine ⟨State.regN_eq_of_reg hstate (by decide), ?_, ?_, ?_⟩
  · simp [State.armedObjects, State.setRegN, State.setReg, State.reg_setRegW, odKey, wd]
  · simp [State.armedObjects, State.setRegN, State.setReg, State.reg_setRegW, odKey, wd]
  · simp [State.armedObjects, State.regN, wd_toNat]

/-! ## STOP (11, R341) -/

theorem State.asStop_of_run {s : State} {n : Nat} (v : Nat) (h : s.asState n = 3) : s.asStop n v = s.onOut n (fun x => { x with stop := v }) :=
  if_pos h

theorem State.asStop_of_waiting {s : State} {n : Nat} (v : Nat) (h : s.asState n ≠ 3) : s.asStop n v = s.asEnd n 2 := if_neg h

/-! ## LOAD_NOW (11, R333) -/

/-- What a step of the stimulus outputs moves: at most objects among `ks`, active values and outputs. -/
structure State.StimMoved (s u : State) (ks : List Nat) : Prop where
  frame : u = { s with regs := u.regs, act := u.act, stim := u.stim }
  regs : SameRegs s u ks

theorem State.StimMoved.refl (s : State) (ks : List Nat) : s.StimMoved s ks := ⟨rfl, SameRegs.refl s ks⟩

theorem State.StimMoved.trans {s u v : State} {ks : List Nat} (h : s.StimMoved u ks) (h' : u.StimMoved v ks) : s.StimMoved v ks :=
  ⟨by rw [h'.frame, h.frame], (h.regs.trans h'.regs).mono (by simp)⟩

theorem State.OutMoved.stimMoved {s u : State} {n : Nat} {ks : List Nat} (h : s.OutMoved u n ks) : s.StimMoved u ks :=
  ⟨by rw [h.frame], h.regs⟩

/-- Every written load object of an output is active. -/
def State.LoadsActive (s : State) (n : Nat) : Prop :=
  ∀ k, asLoadKey n k = true → SMap.get romDefault s.act k = SMap.get romDefault s.regs k

/-- STATUS is no load object. -/
theorem ne_status_of_asLoadKey {n m k : Nat} (h : asLoadKey n k = true) : k ≠ odKey (asIdx m) 0x13 0 := by
  rintro rfl
  have hsub : odKey (asIdx m) 0x13 0 / 134217728 % 256 = 0x13 := by unfold odKey; omega
  simp [asLoadKey, asLoadSub, hsub] at h

/-- The objects of the journal are no load objects. -/
theorem not_mem_journalKeys_of_asLoadKey {n k : Nat} (h : asLoadKey n k = true) : k ∉ journalKeys := by
  have hidx : k / 134217728 / 256 = asIdx n := by
    simp only [asLoadKey, Bool.and_eq_true, decide_eq_true_eq] at h
    exact h.1
  simp only [asIdx] at hidx
  simp only [journalKeys, List.mem_cons, List.not_mem_nil, or_false, odKey]
  omega

/-- A strobe leaves the written load objects of every output. -/
theorem State.get_regs_asStrobe (s : State) (m : Nat) {n k : Nat} (hk : asLoadKey n k = true) :
    SMap.get romDefault (s.asStrobe m).regs k = SMap.get romDefault s.regs k :=
  s.asStrobe_regs m k (by simpa using ne_status_of_asLoadKey hk)

theorem State.loadsActive_asStrobe (s : State) (n : Nat) : (s.asStrobe n).LoadsActive n := fun k hk => by
  rw [s.act_asStrobe n k hk, s.get_regs_asStrobe n hk]

/-- The strobe of any output leaves active what is. -/
theorem State.LoadsActive.asStrobe {s : State} {n : Nat} (h : s.LoadsActive n) (m : Nat) : (s.asStrobe m).LoadsActive n := fun k hk => by
  rw [s.get_regs_asStrobe m hk, State.get_act_asStrobe, h k hk, ite_self]

/-- What one step of a fold makes true, and each keeps, holds after the fold. -/
theorem State.foldl_of_step {α : Type} {P : State → Prop} {f : State → α → State} {x : α} (hx : ∀ s, P (f s x))
    (hkeep : ∀ s y, P s → P (f s y))
    {l : List α} (h : x ∈ l) (s : State) : P (l.foldl f s) := by
  induction l generalizing s with
  | nil => cases h
  | cons y l ih =>
    rw [List.foldl_cons]
    rcases List.mem_cons.mp h with rfl | h
    · exact List.foldlRecOn l f (hx s) (fun s hs y _ => hkeep s y hs)
    · exact ih h _

/-- A strobe of each output whose bit is set. -/
def State.strobeAll (s : State) (w : Word) : State := (List.range 32).foldl (fun s n => s.when (bit w n) (fun s => s.asStrobe n)) s

/-- The STATUS objects of all outputs. -/
def statusKeys : List Nat := (List.range 32).map (fun n => odKey (asIdx n) 0x13 0)

theorem State.strobeAll_moved (s : State) (w : Word) : s.StimMoved (s.strobeAll w) statusKeys := by
  refine State.foldl_rel (R := fun a b => State.StimMoved a b statusKeys) (fun s => State.StimMoved.refl s _) State.StimMoved.trans _
    (fun n hn s => ?_) s
  refine State.when_rel (R := fun a b => State.StimMoved a b statusKeys) (fun s => State.StimMoved.refl s _) s _
    (fun _ => ⟨s.asStrobe_frame n, (s.asStrobe_regs n).mono ?_⟩)
  simpa [statusKeys] using ⟨n, List.mem_range.mp hn, rfl⟩

theorem State.strobeAll_other (s : State) {w : Word} {n : Nat} (h : bit w n = false) : (s.strobeAll w).out n = s.out n := by
  refine State.foldl_rel (R := fun a b => b.out n = a.out n) (fun _ => rfl) (fun h h' => h'.trans h) _ (fun m _ s => ?_) s
  refine State.when_rel (R := fun a b => b.out n = a.out n) (fun _ => rfl) s _ (fun hm => s.asStrobe_others m ?_)
  rintro rfl
  rw [h] at hm
  cases hm

theorem State.loadsActive_strobeAll (s : State) {w : Word} {n : Nat} (hn : n < 32) (h : bit w n = true) : (s.strobeAll w).LoadsActive n := by
  refine State.foldl_of_step (P := fun s => s.LoadsActive n) (x := n) (fun s => ?_) (fun s m hs => ?_) (List.mem_range.mpr hn) s
  · rw [h]
    exact s.loadsActive_asStrobe n
  · cases bit w m with
    | false => exact hs
    | true => exact hs.asStrobe m

/-! ## The commands -/

theorem rowSays_asArm : ∀ n : Fin 32, rowSays (asIdx n) 0x0E = some (.asArm, .cmd, false, 1, n.val) := by decide +kernel
theorem rowSays_asStop : ∀ n : Fin 32, rowSays (asIdx n) 0x0F = some (.asStop, .cmd, false, 1, n.val) := by decide +kernel
theorem rowSays_asLoadNow : rowSays 0x8020 0 = some (.asLoadNow, .cmd, false, 1, 0) := by decide +kernel

/-- A command of one word by which at most stimulus outputs move, once its entry is in the journal. -/
theorem exec_stimCommand {c : Instr} {s : State} {rq : Req} {i sub u : Nat} {hook : Hook} {v : Word} {t : Nat} {g : State → State} {ks : List Nat}
    (hc : writeOf c = some (rq, i, sub, 0, [v], Env.calm, t)) (h : s.takes rq i sub 0 [v] Env.calm t = true)
    (hrow : rowSays i sub = some (hook, .cmd, false, 1, u))
    (hg : ∀ (r : Obj) (j : State), r.hook = hook → r.unit i = u →
      j.command r rq.src i sub (wordsAt 0 [v]) Env.calm = (g j).endCmd rq.src i sub 0 0)
    (hmoved : ∀ j : State, (s.at t).Journalled j 3 i sub rq.src v → j.StimMoved (g j) ks)
    (hdev : odKey 0x0100 0 0 ∉ ks) (hseq : odKey 0x0400 1 0 ∉ ks) :
    ∃ j w, (s.at t).Journalled j 3 i sub rq.src v ∧ exec c s = .next w ∧
      w.regs = (g j).regs ∧ w.act = (g j).act ∧ w.stim = (g j).stim ∧
      s.answered w 3 i sub rq.src v t ∧
      w = { (s.at t).endCmd rq.src i sub 0 0 with regs := w.regs, act := w.act, alm := w.alm, reply := w.reply, stim := w.stim } ∧
      SameRegs s w (ks ++ journalKeys) := by
  obtain ⟨r, hr, hhook, hacc, hdom, hone, hunit⟩ := odFind_of_rowSays hrow
  have hj := (s.at t).journalWrite_one rq.src i sub v hdom hone
  have hexec := exec_of_takes_next (w := _) hc h hr rfl
  simp only [hacc, State.acts, beq_self_eq_true, if_true, hg r _ hhook hunit] at hj hexec
  generalize (s.at t).journalWrite r rq.src i sub (wordsAt 0 [v]) false = j at hj hexec
  obtain ⟨hframe, hregs⟩ := hmoved j hj
  obtain ⟨w, hw⟩ : ∃ w, g j = w := ⟨_, rfl⟩
  rw [hw] at hexec hframe hregs
  have halm : w.alm = j.alm := by rw [hframe]
  have hend : w.endCmd rq.src i sub 0 0 = { (s.at t).endCmd rq.src i sub 0 0 with
      regs := w.regs, act := w.act, alm := w.alm, stim := w.stim } := by
    rw [hframe, hj.frame]
    rfl
  have hstate : w.reg 0x0100 0 = s.reg 0x0100 0 :=
    (hregs.reg _ _ _ hdev).trans (hj.reg (by decide) (by decide) (by decide))
  refine ⟨j, _, hj, hexec hstate ?_ ?_ ?_ ?_, by rw [hw]; rfl, by rw [hw]; rfl, by rw [hw]; rfl, hj.answered halm (hregs.reg _ _ _ hseq), ?_,
    (hj.regs.trans hregs).mono (by simp [or_comm])⟩
  all_goals
    rw [hend]
    rfl

end Sys2Proof.Machine

namespace Sys2Proof.Machine

section StimCommands

variable {s : State} {rq : Req} {n : Fin 32} {v : Word} {t : Nat}

/-- An output once its command is in the journal is as it was. -/
theorem State.Journalled.out {j : State} {kind i sub : Nat} {src w : Word} (hj : (s.at t).Journalled j kind i sub src w) (k : Nat) :
    j.out k = s.out k := State.out_of_stim (by rw [hj.frame]; rfl) k

/-- The objects of an output once its command is in the journal are as they were. -/
theorem State.Journalled.reg_asIdx {j : State} {kind i sub : Nat} {src w : Word} (hj : (s.at t).Journalled j kind i sub src w) {k : Nat}
    (hk : k < 256) : j.reg (asIdx n) k = s.reg (asIdx n) k := hj.reg (by simp [asIdx]; omega) hk (by decide)

/-- The objects of an output are none of the device's or the journal's. -/
theorem not_mem_asIdx_map (n : Nat) (ks : List Nat) {i j w : Nat} (hi : i < 0x8000) (hj : j < 256) (hw : w < 134217728) :
    odKey i j w ∉ ks.map (fun k => odKey (asIdx n) k 0) := by
  simp only [List.mem_map, not_exists, not_and]
  intro k _
  simp only [odKey, asIdx]
  omega

/-- AS_LOAD_NOW strobes the outputs whose bits are set. -/
theorem exec_asLoadNow (h : s.takes rq 0x8020 0 0 [v] Env.calm t = true) :
    ∃ u, exec (.asLoadNow rq v t) s = .next u ∧
      (∀ n < 32, bit v n = true → ∀ k, asLoadKey n k = true → SMap.get romDefault u.act k = SMap.get romDefault s.regs k) ∧
      (∀ n < 32, bit v n = false → u.out n = s.out n) ∧
      s.answered u 3 0x8020 0 rq.src v t ∧
      u = { (s.at t).endCmd rq.src 0x8020 0 0 0 with regs := u.regs, act := u.act, alm := u.alm, reply := u.reply, stim := u.stim } ∧
      SameRegs s u (statusKeys ++ journalKeys) := by
  obtain ⟨j, u, hj, hu, hregs, hact, hstim, hanswered, hframe, hsame⟩ := exec_stimCommand (c := .asLoadNow rq v t) (g := fun j => j.strobeAll v)
    (ks := statusKeys) rfl h rowSays_asLoadNow
    (fun r j hhook _ => by simp [State.command, State.instantCommand, hhook, word0, wordsAt, State.strobeAll])
    (fun j _ => j.strobeAll_moved v) (by decide) (by decide)
  refine ⟨u, hu, fun n hn hbit k hk => ?_, fun n _ hbit => ?_, hanswered, hframe, hsame⟩
  · have hactive := j.loadsActive_strobeAll hn hbit k hk
    rw [← hact, ← hregs] at hactive
    refine hactive.trans (hsame k ?_)
    simp only [List.mem_append, not_or]
    exact ⟨by simpa [statusKeys] using fun m _ => (ne_status_of_asLoadKey (m := m) hk).symm, not_mem_journalKeys_of_asLoadKey hk⟩
  · rw [State.out_of_stim hstim, State.strobeAll_other j hbit, hj.out]

/-- AS_ARM: the output is ARMING at FIRST_ENTRY. -/
theorem exec_asArm (h : s.takes rq (asIdx n) 0x0E 0 [v] Env.calm t = true) :
    ∃ u, exec (.asArm rq n v t) s = .next u ∧
      u.asState n = 1 ∧ u.reg (asIdx n) 0x12 = 0 ∧ u.reg (asIdx n) 0x14 = 0 ∧ u.reg (asIdx n) 0x15 = s.reg (asIdx n) 8 ∧
      u.out n = (s.out n).arming (s.regN (asIdx n) 8) ∧
      (∀ k, k ≠ n.val → u.out k = s.out k) ∧
      s.answered u 3 (asIdx n) 0x0E rq.src v t ∧
      u = { (s.at t).endCmd rq.src (asIdx n) 0x0E 0 0 with regs := u.regs, alm := u.alm, reply := u.reply, stim := u.stim } ∧
      SameRegs s u (asArmKeys n ++ journalKeys) := by
  obtain ⟨j, u, hj, hu, hregs, hact, hstim, hanswered, hframe, hsame⟩ := exec_stimCommand (c := .asArm rq n v t) (g := fun j => j.asArmed n)
    (ks := asArmKeys n) rfl h (rowSays_asArm n) (fun r j hhook hunit => by simp only [State.command, State.instantCommand, hhook, hunit])
    (fun j _ => (j.asArmed_moved n).stimMoved) (not_mem_asIdx_map n _ (by decide) (by decide) (by decide))
    (not_mem_asIdx_map n _ (by decide) (by decide) (by decide))
  obtain ⟨hstate, hcause, hunderruns, hentry⟩ := j.asArmed_objects n
  have hreg (k : Nat) : u.reg (asIdx n) k = (j.asArmed n).reg (asIdx n) k := State.reg_of_regs hregs ..
  have hfirst : j.reg (asIdx n) 8 = s.reg (asIdx n) 8 := hj.reg_asIdx (by decide)
  have hact' : u.act = s.act := by rw [hact, (j.asArmed_moved n).act, hj.frame]; rfl
  refine ⟨u, hu, ?_, by rw [hreg, hcause], by rw [hreg, hunderruns], by rw [hreg, hentry, hfirst], ?_, fun k hk => ?_, hanswered, ?_, hsame⟩
  · rw [← hstate, State.asState, State.regN, hreg, State.asState, State.regN]
  · rw [State.out_of_stim hstim, State.asArmed_out, hj.out, State.regN, hfirst, State.regN]
  · rw [State.out_of_stim hstim, (j.asArmed_moved n).others k hk, hj.out]
  · rw [hact'] at hframe
    exact hframe

/-- An output's state once its command is in the journal is as it was. -/
theorem State.Journalled.asState {j : State} {kind i sub : Nat} {src w : Word} (hj : (s.at t).Journalled j kind i sub src w) :
    j.asState n = s.asState n := congrArg BitVec.toNat (hj.reg_asIdx (by decide))

/-- An accepted STOP moves what STOP does of the state with its journal entry. -/
theorem exec_asStop {c : Instr} {ks : List Nat} (hc : writeOf c = some (rq, asIdx n, 0x0F, 0, [v], Env.calm, t))
    (h : s.takes rq (asIdx n) 0x0F 0 [v] Env.calm t = true)
    (hmoved : ∀ j : State, (s.at t).Journalled j 3 (asIdx n) 0x0F rq.src v →
      j.OutMoved (j.asStop n v.toNat) n (ks.map (fun k => odKey (asIdx n) k 0))) :
    ∃ j u, (s.at t).Journalled j 3 (asIdx n) 0x0F rq.src v ∧ exec c s = .next u ∧
      u.regs = (j.asStop n v.toNat).regs ∧ u.out n = (j.asStop n v.toNat).out n ∧
      (∀ k < 32, k ≠ n.val → u.out k = s.out k) ∧
      s.answered u 3 (asIdx n) 0x0F rq.src v t ∧
      u = { (s.at t).endCmd rq.src (asIdx n) 0x0F 0 0 with regs := u.regs, alm := u.alm, reply := u.reply, stim := u.stim } ∧
      SameRegs s u (ks.map (fun k => odKey (asIdx n) k 0) ++ journalKeys) := by
  obtain ⟨j, u, hj, hu, hregs, hact, hstim, hanswered, hframe, hsame⟩ := exec_stimCommand (g := fun j => j.asStop n v.toNat) hc h
    (rowSays_asStop n)
    (fun r j hhook hunit => by simp [State.command, State.instantCommand, hhook, hunit, word0, wordsAt]) (fun j hj => (hmoved j hj).stimMoved)
    (not_mem_asIdx_map n _ (by decide) (by decide) (by decide)) (not_mem_asIdx_map n _ (by decide) (by decide) (by decide))
  have hact' : u.act = s.act := by rw [hact, (hmoved j hj).act, hj.frame]; rfl
  refine ⟨j, u, hj, hu, hregs, State.out_of_stim hstim n, fun k _ hk => ?_, hanswered, ?_, hsame⟩
  · rw [State.out_of_stim hstim, (hmoved j hj).others k hk, hj.out]
  · rw [hact'] at hframe
    exact hframe

/-- STOP of an output in RUN is remembered (11, R341). -/
theorem exec_asStop_run {c : Instr} (hc : writeOf c = some (rq, asIdx n, 0x0F, 0, [v], Env.calm, t))
    (h : s.takes rq (asIdx n) 0x0F 0 [v] Env.calm t = true) (hrun : s.asState n = 3) :
    ∃ u, exec c s = .next u ∧
      u.out n = { s.out n with stop := v.toNat } ∧
      (∀ k < 32, k ≠ n.val → u.out k = s.out k) ∧
      s.answered u 3 (asIdx n) 0x0F rq.src v t ∧
      u = { (s.at t).endCmd rq.src (asIdx n) 0x0F 0 0 with regs := u.regs, alm := u.alm, reply := u.reply, stim := u.stim } ∧
      SameRegs s u journalKeys := by
  have hstop (j : State) (hj : (s.at t).Journalled j 3 (asIdx n) 0x0F rq.src v) := State.asStop_of_run v.toNat (hj.asState.trans hrun)
  obtain ⟨j, u, hj, hu, -, hout, hothers, hanswered, hframe, hsame⟩ := exec_asStop (ks := []) hc h fun j hj => by
    rw [hstop j hj]
    exact State.OutMoved.onOut j n _ _
  refine ⟨u, hu, ?_, hothers, hanswered, hframe, hsame⟩
  rw [hout, hstop j hj, State.out_onOut_same, hj.out]

/-- STOP of an output before RUN, or between entries, ends its playback at once (11, table of playback states). -/
theorem exec_asStop_waiting {c : Instr} (hc : writeOf c = some (rq, asIdx n, 0x0F, 0, [v], Env.calm, t))
    (h : s.takes rq (asIdx n) 0x0F 0 [v] Env.calm t = true) (hwaits : s.asState n = 1 ∨ s.asState n = 2 ∨ s.asState n = 4) :
    ∃ u, exec c s = .next u ∧
      u.asState n = 6 ∧ u.reg (asIdx n) 0x12 = 2 ∧ u.out n = (s.out n).ending ∧
      (∀ k < 32, k ≠ n.val → u.out k = s.out k) ∧
      s.answered u 3 (asIdx n) 0x0F rq.src v t ∧
      u = { (s.at t).endCmd rq.src (asIdx n) 0x0F 0 0 with regs := u.regs, alm := u.alm, reply := u.reply, stim := u.stim } ∧
      SameRegs s u (endKeys n ++ journalKeys) := by
  have hstop (j : State) (hj : (s.at t).Journalled j 3 (asIdx n) 0x0F rq.src v) : j.asStop n v.toNat = j.asEnd n 2 :=
    State.asStop_of_waiting v.toNat (by rw [hj.asState]; omega)
  obtain ⟨j, u, hj, hu, hregs, hout, hothers, hanswered, hframe, hsame⟩ := exec_asStop (ks := [0x11, 0x12]) hc h fun j hj => by
    rw [hstop j hj]
    exact j.asEnd_moved n 2
  rw [hstop j hj] at hregs hout
  have hbusy : j.asBusy n = true := State.asBusy_of_state hj.asState (by omega)
  obtain ⟨hstate, hcause, hended⟩ := State.asEnd_ended 2 hbusy
  refine ⟨u, hu, ?_, ?_, by rw [hout, hended, hj.out], hothers, hanswered, hframe, hsame⟩
  · rw [← hstate, State.asState, State.regN, State.reg_of_regs hregs, State.asState, State.regN]
  · exact (State.reg_of_regs hregs ..).trans hcause

end StimCommands

/-- Settles O25: a strobe makes the written load objects active and then leaves the output, starts a range change or lets it take the
active set; the other steps and commands move the one output and objects of its own. -/
theorem outputsTakeTheirTargets : Obligations.OutputsTakeTheirTargets := by
  unfold Obligations.OutputsTakeTheirTargets
  refine ⟨?_, ?_, ?_, ?_, ?_, ?_, ?_, ?_, ?_, ?_, ?_, ?_⟩
  · intro s n t hheld hchange
    exact ⟨_, exec_asLoadStrobe s n t, fun e _ he => State.act_asStrobe _ n e.1 he, fun hrange => State.asStrobe_starts hheld hchange hrange,
      fun hrange => State.asStrobe_takes hheld hchange hrange, fun k _ hk => State.asStrobe_others _ n hk, State.asStrobe_frame _ n,
      State.asStrobe_regs _ n⟩
  · intro s n t hwaits
    have hstrobed := State.asStrobe_waits (s.at t) n hwaits
    refine ⟨_, exec_asLoadStrobe s n t, fun e _ he => State.act_asStrobe _ n e.1 he, ?_, fun k _ hk => State.asStrobe_others _ n hk, ?_⟩
    all_goals rw [hstrobed]
    · exact State.strobed_out (s.at t) n
    · exact State.strobed_frame (s.at t) n
  · intro s n t k hk
    obtain ⟨u, hu, hout, hmoved⟩ := exec_asRangeSwitch_changes hk
    exact ⟨u, hu, hout, fun k _ hk => hmoved.others k hk, hmoved.frame, hmoved.regs⟩
  · exact fun s n t h => (exec_asRange_idle h).1
  · intro s n t k hk hheld
    obtain ⟨u, hu, hout, hranging, hmoved⟩ := exec_asRangeDone_takes hk hheld
    exact ⟨u, hu, hout, hranging, fun k _ hk => hmoved.others k hk, hmoved.frame, hmoved.regs⟩
  · intro s n t k hk hheld
    obtain ⟨u, hu, hout, hranging, hmoved⟩ := exec_asRangeDone_held hk hheld
    exact ⟨u, hu, hout, hranging, fun k _ hk => hmoved.others k hk, hmoved.frame, hmoved.regs⟩
  · exact fun s n t h => (exec_asRange_idle h).2
  · intro s rq v t h
    obtain ⟨u, hu, hactive, hothers, hanswered, hframe, hregs⟩ := exec_asLoadNow h
    exact ⟨u, hu, fun n hn hbit e _ he => hactive n hn hbit e.1 he, hothers, hanswered, hframe, hregs⟩
  · intro s rq n v t h
    obtain ⟨u, hu, hstate, hcause, hunderruns, hentry, hout, hothers, hanswered, hframe, hregs⟩ := exec_asArm h
    exact ⟨u, hu, hstate, hcause, hunderruns, hentry, by rw [hout, AsSt.arming], by rw [hout, AsSt.arming], by rw [hout, AsSt.arming],
      fun k _ hk => hothers k hk, hanswered, hframe, hregs⟩
  · exact fun s rq n t h hrun => exec_asStop_run (c := .asStopAfterRepeat rq n t) rfl h hrun
  · exact fun s rq n t h hrun => exec_asStop_run (c := .asStopNow rq n t) rfl h hrun
  · intro s rq n t h hwaits
    obtain ⟨u, hu, hstate, hcause, hout, hothers, hanswered, hframe, hregs⟩ := exec_asStop_waiting (c := .asStopNow rq n t) rfl h hwaits
    exact ⟨u, hu, hstate, hcause, by rw [hout, AsSt.ending], hothers, hanswered, hframe, hregs⟩

end Sys2Proof.Machine

namespace Sys2Proof.Machine

/-! ## A loaded output (11, table of playback states) -/

section Ready

variable {s : State} {n : Nat}

theorem State.asReady_of_not_arming (h : s.asState n ≠ 1) : s.asReady n = s := if_pos h

/-- A waveform output with samples on hand: the first of them decides. -/
theorem State.asReady_of_samples {e : Int × Option Nat} {r : List (Int × Option Nat)} (hst : s.asState n = 1) (hmode : s.asMode n = 2)
    (hahead : (s.out n).ahead = e :: r) : s.asReady n = if e.2.isNone then s.setRegN (asIdx n) 0x11 2 else s.asEnd n 5 := by
  obtain ⟨v, bad⟩ := e
  cases bad <;> simp [State.asReady, hst, hmode, hahead]

/-- An NCO output whose table is sound keeps it. -/
theorem State.asReady_of_table {tb : List Int} (hst : s.asState n = 1) (hmode : s.asMode n = 3) (htb : s.ncoTable n = (some tb, s)) :
    s.asReady n = (s.onOut n (fun x => { x with table := tb })).setRegN (asIdx n) 0x11 2 := by
  simp [State.asReady, hst, hmode, htb]

end Ready

theorem not_mem_endKeys (n : Nat) : odKey 0x0100 0 0 ∉ endKeys n := not_mem_asIdx_map n [0x11, 0x12] (by decide) (by decide) (by decide)

theorem State.OutMoved.armed (s : State) (n : Nat) : s.OutMoved (s.setRegN (asIdx n) 0x11 2) n (endKeys n) :=
  State.OutMoved.setRegN s _ _ _ n (by simp [endKeys])

theorem exec_asArmed_eq (s : State) (n : Fin 32) (t : Nat) :
    exec (.asArmed n [] t) s = s.perform (fun s => ((s.tick t).upset []).asReady n) := rfl

/-- AS_ARMED makes of the state what the load leaves. -/
theorem exec_asArmed {s u : State} {n : Fin 32} {t : Nat} (h : (s.at t).asReady n = u) (hu : (s.at t).OutMoved u n (endKeys n)) :
    exec (.asArmed n [] t) s = .next u :=
  exec_of_outMoved (exec_asArmed_eq s n t) h hu (not_mem_endKeys n)

/-! ## START_LINE (11, R339, R340) -/

section Start

variable {s : State} {n : Nat} {stamp : U80} {timed : Bool}

theorem State.asStart_idle (h : (s.asState n ≠ 2 ∧ s.asState n ≠ 4) ∨ (s.asState n = 4 ∧ s.localOf stamp * 32 < (s.out n).lastEnd)) :
    s.asStart n stamp timed = s := by
  unfold State.asStart
  dsimp only
  split
  · omega
  · exact if_neg (by omega)
  · rfl

/-- What a start leaves of an armed output. -/
def AsSt.starting (x : AsSt) (at_ ph : Nat) : AsSt := { x with next := at_, clrPlay := false, phase := ph, rephase := false }

/-- The objects of an armed output as a start at an instant leaves them. -/
def State.startedObjects (s : State) (n at_ : Nat) : State :=
  (s.setRegN (asIdx n) 0x11 3).setReg80 (asIdx n) 0x16 (s.meridianOf (at_ / 32))

theorem State.asStart_armed (h : s.asState n = 2) : s.asStart n stamp timed =
    (s.startedObjects n (s.asStartAt stamp timed)).onOut n (fun x => x.starting (s.asStartAt stamp timed) (s.actN (asIdx n) 0x0A)) := by
  simp only [State.asStart, h, AsSt.starting, State.startedObjects]

theorem State.asStart_waiting (h : s.asState n = 4) (hend : (s.out n).lastEnd ≤ s.localOf stamp * 32) : s.asStart n stamp timed =
    (s.setRegN (asIdx n) 0x11 3).onOut n (fun x => { x with next := s.asStartAt stamp timed }) := by
  simp only [State.asStart, h, if_pos hend]

end Start

/-- The objects that a start moves: STATE and START_TIME. -/
def startKeys (n : Nat) : List Nat := [odKey (asIdx n) 0x11 0, odKey (asIdx n) 0x16 0, odKey (asIdx n) 0x16 1]

theorem State.startedObjects_moved (s : State) (n at_ : Nat) : s.OutMoved (s.startedObjects n at_) n (startKeys n) :=
  ((State.OutMoved.setRegN _ _ _ _ _ (by simp [startKeys])).andThen (State.OutMoved.setRegW _ _ _ 0 _ _ (by simp [startKeys]))).andThen
    (State.OutMoved.setRegW _ _ _ 1 _ _ (by simp [startKeys]))

theorem State.startedObjects_state (s : State) (n at_ : Nat) : (s.startedObjects n at_).asState n = 3 := by
  refine State.regN_eq_of_reg ?_ (by decide)
  rw [State.startedObjects, (SameRegs.setReg80 _ (asIdx n) 0x16 _).reg _ _ _ (by simp [odKey]; omega), State.reg_setRegN_same]

theorem State.startedObjects_time (s : State) (n at_ : Nat) : (s.startedObjects n at_).reg80 (asIdx n) 0x16 = s.meridianOf (at_ / 32) :=
  State.reg80_setReg80_same ..

theorem not_mem_startKeys (n : Nat) : odKey 0x0100 0 0 ∉ startKeys n := by
  simp only [startKeys, List.mem_cons, List.not_mem_nil, or_false, odKey, asIdx]
  omega

theorem exec_asStartLine_eq (s : State) (n : Fin 32) (stamp : U80) (timed : Bool) (t : Nat) :
    exec (.asStartLine n stamp timed t) s = s.perform (fun s => (s.tick t).asStart n stamp timed) := rfl

theorem exec_asStartLine {s u : State} {n : Fin 32} {stamp : U80} {timed : Bool} {t : Nat} {ks : List Nat}
    (h : (s.at t).asStart n stamp timed = u) (hu : (s.at t).OutMoved u n ks) (hk : odKey 0x0100 0 0 ∉ ks) :
    exec (.asStartLine n stamp timed t) s = .next u :=
  exec_of_outMoved (exec_asStartLine_eq s n stamp timed t) h hu hk

/-- ARMED goes to RUN: the first sample plays at the instant that the occurrence gives, and START_TIME tells it. -/
theorem exec_asStartLine_armed {s : State} {n : Fin 32} {stamp : U80} {timed : Bool} {t : Nat} (h : s.asState n = 2) :
    ∃ u, exec (.asStartLine n stamp timed t) s = .next u ∧ u.asState n = 3 ∧ (u.out n).next = s.asStartAt stamp timed ∧
      u.reg80 (asIdx n) 0x16 = s.meridianOf ((u.out n).next / 32) ∧ (s.at t).OutMoved u n (startKeys n) := by
  have hbody := State.asStart_armed (s := s.at t) (stamp := stamp) (timed := timed) h
  obtain ⟨u, hu⟩ : ∃ u, (s.at t).startedObjects n ((s.at t).asStartAt stamp timed) = u := ⟨_, rfl⟩
  have hmoved := (s.at t).startedObjects_moved n ((s.at t).asStartAt stamp timed)
  have hstate := (s.at t).startedObjects_state n ((s.at t).asStartAt stamp timed)
  have htime := (s.at t).startedObjects_time n ((s.at t).asStartAt stamp timed)
  rw [hu] at hbody hmoved hstate htime
  have hmoved' := hmoved.andThen (State.OutMoved.onOut u n (fun x => x.starting ((s.at t).asStartAt stamp timed) ((s.at t).actN (asIdx n) 0x0A)) _)
  refine ⟨_, exec_asStartLine hbody hmoved' (not_mem_startKeys n), hstate, ?_, ?_, hmoved'⟩
  all_goals rw [State.out_onOut_same, AsSt.starting]
  · rfl
  · exact htime

/-- WAITING goes on to RUN when the occurrence is not earlier than the end of the entry before (11, R340). -/
theorem exec_asStartLine_waiting {s : State} {n : Fin 32} {stamp : U80} {timed : Bool} {t : Nat} (h : s.asState n = 4)
    (hend : (s.out n).lastEnd ≤ s.localOf stamp * 32) :
    ∃ u, exec (.asStartLine n stamp timed t) s = .next u ∧ u.asState n = 3 ∧ (u.out n).next = s.asStartAt stamp timed ∧
      (s.at t).OutMoved u n [odKey (asIdx n) 0x11 0] := by
  have hmoved := (State.OutMoved.setRegN (s.at t) (asIdx n) 0x11 3 n (ks := [odKey (asIdx n) 0x11 0]) (by simp)).andThen
    (State.OutMoved.onOut _ n (fun x => { x with next := s.asStartAt stamp timed }) _)
  refine ⟨_, exec_asStartLine (State.asStart_waiting (s := s.at t) h hend) hmoved ?_, ?_, ?_, hmoved⟩
  · simpa using (odKey_asIdx_ne_devState n 0x11 0).symm
  · rw [State.asState_onOut]
    exact State.regN_eq_of_reg (State.reg_setRegN_same ..) (by decide)
  · rw [State.out_onOut_same]
    rfl

end Sys2Proof.Machine

namespace Sys2Proof.Machine

/-! ## Playback goes on (11, R340, R341) -/

section Advance

variable {s : State} {n : Nat}

/-- The objects by which a playback goes on: STATE, END_CAUSE and ENTRY. -/
def advanceKeys (n : Nat) : List Nat := [0x11, 0x12, 0x15].map (fun k => odKey (asIdx n) k 0)

/-- The output at the start of an entry. -/
def State.entered (s : State) (n e : Nat) : State := (s.setRegN (asIdx n) 0x15 e).onOut n (fun x => { x with pos := 0, rep := 0 })

/-- An entry with WAIT keeps the output waiting for an occurrence not before the end of the entry before (11, R340). -/
def State.waitsAt (s : State) (n e : Nat) : State :=
  s.when (bit (s.asEntry n e 2) 30) (fun s => (s.setRegN (asIdx n) 0x11 4).onOut n (fun x => { x with lastEnd := x.next }))

theorem State.asAdvance_eq (s : State) (n : Nat) : s.asAdvance n =
    if (s.out n).pos + 1 < s.asLength n (s.regN (asIdx n) 0x15) then s.onOut n (fun x => { x with pos := x.pos + 1 })
    else if (s.out n).stop = 1 then s.asEnd n 2
    else if (s.out n).rep + 1 < fld (s.asEntry n (s.regN (asIdx n) 0x15) 1) 0 16 then s.onOut n (fun x => { x with pos := 0, rep := x.rep + 1 })
    else if bit (s.asEntry n (s.regN (asIdx n) 0x15) 2) 31 then (s.setRegN (asIdx n) 0x11 5).setRegN (asIdx n) 0x12 1
    else (s.entered n (fld (s.asEntry n (s.regN (asIdx n) 0x15) 2) 32 8)).waitsAt n (fld (s.asEntry n (s.regN (asIdx n) 0x15) 2) 32 8) := rfl

theorem State.OutMoved.advance (s : State) (n v : Nat) {k : Nat} (hk : k ∈ [0x11, 0x12, 0x15]) :
    s.OutMoved (s.setRegN (asIdx n) k v) n (advanceKeys n) := State.OutMoved.setRegN s _ _ _ n (List.mem_map_of_mem hk)

theorem State.entered_moved (s : State) (n e : Nat) : s.OutMoved (s.entered n e) n (advanceKeys n) :=
  (State.OutMoved.advance s n e (by decide)).andThen (State.OutMoved.onOut _ n _ _)

theorem State.waitsAt_moved (s : State) (n e : Nat) : s.OutMoved (s.waitsAt n e) n (advanceKeys n) :=
  State.when_rel (R := fun a b => State.OutMoved a b n (advanceKeys n)) (fun s => State.OutMoved.refl s n _) s _
    (fun _ => (State.OutMoved.advance s n 4 (by decide)).andThen (State.OutMoved.onOut _ n _ _))

theorem State.asAdvance_moved (s : State) (n : Nat) : s.OutMoved (s.asAdvance n) n (advanceKeys n) := by
  rw [State.asAdvance_eq]
  split
  · exact State.OutMoved.onOut s n _ _
  split
  · exact (s.asEnd_moved n 2).mono (by simp [endKeys, advanceKeys])
  split
  · exact State.OutMoved.onOut s n _ _
  split
  · exact (State.OutMoved.advance s n 5 (by decide)).andThen (State.OutMoved.advance _ n 1 (by decide))
  · exact (s.entered_moved n _).andThen (State.waitsAt_moved _ n _)

/-- Waiting for an occurrence leaves where the playback stands. -/
theorem State.waitsAt_out (s : State) (n e : Nat) : (s.waitsAt n e).out n = { s.out n with lastEnd := ((s.waitsAt n e).out n).lastEnd } := by
  unfold State.waitsAt
  cases bit (s.asEntry n e 2) 30 with
  | false => rfl
  | true => rw [State.when_true, State.out_onOut_same]; rfl

theorem State.waitsAt_entry (s : State) (n e : Nat) : (s.waitsAt n e).reg (asIdx n) 0x15 = s.reg (asIdx n) 0x15 := by
  unfold State.waitsAt
  cases bit (s.asEntry n e 2) 30 with
  | false => rfl
  | true => exact (SameRegs.setRegN s (asIdx n) 0x11 4).reg _ _ _ (by simp [odKey])

theorem State.entered_out (s : State) (n e : Nat) : (s.entered n e).out n = { s.out n with pos := 0, rep := 0 } := by
  rw [State.entered, State.out_onOut_same, State.out_setRegN]

theorem State.entered_entry (s : State) (n e : Nat) : (s.entered n e).reg (asIdx n) 0x15 = wd e := State.reg_setRegN_same ..

/-- Without STOP 1 the playback keeps its samples and its next instant. -/
theorem State.asAdvance_keeps (hstop : (s.out n).stop = 0) : (s.asAdvance n).out n =
    { s.out n with
      pos := ((s.asAdvance n).out n).pos, rep := ((s.asAdvance n).out n).rep, lastEnd := ((s.asAdvance n).out n).lastEnd } := by
  rw [State.asAdvance_eq]
  split
  · rw [State.out_onOut_same]
  split
  · omega
  split
  · rw [State.out_onOut_same]
  split
  · rfl
  · rw [State.waitsAt_out, State.entered_out]

/-- Within an entry the next sample follows. -/
theorem State.asAdvance_within (h : (s.out n).pos + 1 < s.asLength n (s.regN (asIdx n) 0x15)) :
    s.asAdvance n = s.onOut n (fun x => { x with pos := x.pos + 1 }) := if_pos h

variable (hlast : s.asLength n (s.regN (asIdx n) 0x15) ≤ (s.out n).pos + 1) (hstop : (s.out n).stop = 0)

include hlast hstop

/-- The last sample of a repeat that is not the last starts the next one. -/
theorem State.asAdvance_repeats (hrep : (s.out n).rep + 1 < fld (s.asEntry n (s.regN (asIdx n) 0x15) 1) 0 16) :
    s.asAdvance n = s.onOut n (fun x => { x with pos := 0, rep := x.rep + 1 }) := by
  rw [State.asAdvance_eq, if_neg (by omega), if_neg (by omega), if_pos hrep]

variable (hrep : fld (s.asEntry n (s.regN (asIdx n) 0x15) 1) 0 16 ≤ (s.out n).rep + 1)

include hrep

/-- The last sample of the last entry ends the playback. -/
theorem State.asAdvance_done (hend : bit (s.asEntry n (s.regN (asIdx n) 0x15) 2) 31 = true) :
    (s.asAdvance n).asState n = 5 ∧ (s.asAdvance n).reg (asIdx n) 0x12 = 1 := by
  rw [State.asAdvance_eq, if_neg (by omega), if_neg (by omega), if_neg (by omega), if_pos hend]
  refine ⟨State.regN_eq_of_reg ?_ (by decide), State.reg_setRegN_same ..⟩
  rw [(SameRegs.setRegN _ (asIdx n) 0x12 1).reg _ _ _ (by simp [odKey]), State.reg_setRegN_same]

/-- The last sample of another entry leads to the entry that it names. -/
theorem State.asAdvance_next (hend : bit (s.asEntry n (s.regN (asIdx n) 0x15) 2) 31 = false) :
    (s.asAdvance n).regN (asIdx n) 0x15 = fld (s.asEntry n (s.regN (asIdx n) 0x15) 2) 32 8 ∧ ((s.asAdvance n).out n).pos = 0 ∧
      ((s.asAdvance n).out n).rep = 0 := by
  rw [State.asAdvance_eq, if_neg (by omega), if_neg (by omega), if_neg (by omega), if_neg (by simp [hend])]
  refine ⟨State.regN_eq_of_reg ?_ (fld_lt (by decide)), ?_, ?_⟩
  · rw [State.waitsAt_entry, State.entered_entry]
  all_goals rw [State.waitsAt_out, State.entered_out]

end Advance

/-! ## A sample instant (11, R339, R344) -/

/-- Time that comes in two steps. -/
theorem State.at_tick (s : State) (t k : Nat) : (s.at t).tick k = s.at (max t k) := by
  have hon : (s.at t).localOn = s.localOn := rfl
  have hclock : ((s.at t).tick k).clock = (s.at (max t k)).clock := by
    rw [State.tick_clock, State.at_clock, State.at_clock, hon]
    split <;> omega
  have htimer : ((s.at t).tick k).start.timer = (s.at (max t k)).start.timer := by
    have htimer (x : State) (i : Nat) : (x.tick i).start.timer = if x.localOn then x.start.timer else max x.start.timer i := rfl
    have htimer' (i : Nat) : (s.at i).start.timer = if s.localOn then s.start.timer else max s.start.timer i := rfl
    rw [htimer, htimer', htimer', hon]
    split <;> omega
  calc (s.at t).tick k
    _ = { s.at t with clock := ((s.at t).tick k).clock, start := { s.start with timer := ((s.at t).tick k).start.timer } } := rfl
    _ = { s.at t with clock := (s.at (max t k)).clock, start := { s.start with timer := (s.at (max t k)).start.timer } } := by
      rw [hclock, htimer]
    _ = s.at (max t k) := rfl

section Sample

variable {s : State} {n : Nat}

/-- The output with its next sample instant SAMPLE_DIV ticks later. -/
def State.toNext (s : State) (n : Nat) : State := s.onOut n (fun x => { x with next := x.next + s.regN (asIdx n) 6 * 5120 })

/-- An underrun is shown, counted, and for the device counted once while it goes on (11, R343). -/
def State.underrun (s : State) (n : Nat) (goesOn : Bool) : State :=
  ((s.asFlag n 1 true).addReg (asIdx n) 0x14 1).when (!goesOn) (fun s => s.addReg 0x8020 2 1)

/-- What an instant makes of the output whose prefetch holds these samples, before its playback goes on: an underrun, a sample of a poisoned
line left out, or a sample played (11, R342, R343). -/
def State.plays (s : State) (n : Nat) (goesOn : Bool) : List (Int × Option Nat) → State
  | [] => ((s.underrun n goesOn).logPut 0x0701 (wd n) 0).onOut n (fun x => { x with under := true, skip := x.skip + 1 })
  | (_, some line) :: rest =>
    ((s.onOut n (fun x => { x with ahead := rest, under := false })).asFlag n 0 true).logPut 0x0702 (wd n) (wd line)
  | (v, none) :: rest =>
    ((s.onOut n (fun x => { x with ahead := rest, under := false })).onOut n (fun x => { x with sample := some (v * 65536) })).asApply n

theorem State.asSample_idle (h : s.asState n ≠ 3) : s.asSample n = s := if_pos h

variable (hst : s.asState n = 3)

include hst

theorem State.asSample_stops (hstop : (s.out n).stop = 2 ∨ ((s.out n).stop = 1 ∧ s.asMode n = 3)) :
    s.asSample n = (s.tick (s.out n).next).asEnd n 2 := by
  have hstop' : (s.out n).stop = 2 ∨ ((s.out n).stop = 1 ∧ (s.tick (s.out n).next).asMode n = 3) := hstop
  unfold State.asSample
  dsimp only
  rw [if_neg (by simpa using hst), if_pos hstop']

variable (hstop : (s.out n).stop = 0)

include hstop

/-- Without a STOP the next instant is fixed, and the NCO steps or what was prefetched plays. -/
theorem State.asSample_of_run : s.asSample n =
    if s.asMode n = 3 then ((s.tick (s.out n).next).toNext n).ncoStep n
    else (((s.tick (s.out n).next).toNext n).plays n (s.out n).under (s.out n).ahead).asAdvance n := by
  have hmode : ((s.tick (s.out n).next).toNext n).asMode n = s.asMode n := rfl
  unfold State.asSample
  dsimp only
  rw [if_neg (by simpa using hst), if_neg (by omega)]
  split
  · next h => rw [if_pos (hmode.symm.trans h)]; rfl
  · next h =>
    rw [if_neg (fun h' => h (hmode.trans h'))]
    split
    · next hahead => rw [hahead]; rfl
    · next v bad rest hahead =>
      rw [hahead]
      cases bad <;> rfl

end Sample

end Sys2Proof.Machine

namespace Sys2Proof.Machine

/-! ## What plays -/

/-- What a step of one output that logs moves: objects other than STATE, the log and the output. -/
structure State.OutLogged (s u : State) (n : Nat) : Prop where
  frame : u = { s with regs := u.regs, log := u.log, stim := u.stim }
  others : ∀ k, k ≠ n → u.out k = s.out k
  device : u.reg 0x0100 0 = s.reg 0x0100 0

theorem State.OutLogged.trans {s u v : State} {n : Nat} (h : s.OutLogged u n) (h' : u.OutLogged v n) : s.OutLogged v n :=
  ⟨by rw [h'.frame, h.frame], fun k hk => (h'.others k hk).trans (h.others k hk), h'.device.trans h.device⟩

theorem State.OutMoved.logged {s u : State} {n : Nat} {ks : List Nat} (h : s.OutMoved u n ks) (hk : odKey 0x0100 0 0 ∉ ks) : s.OutLogged u n :=
  ⟨by rw [h.frame], h.others, h.regs.reg _ _ _ hk⟩

theorem State.stim_logPut (s : State) (code : Nat) (a b : Word) : (s.logPut code a b).stim = s.stim := by rw [State.logPut_eq]

/-- A record in the log leaves every output. -/
@[simp] theorem State.out_logPut (s : State) (code : Nat) (a b : Word) (n : Nat) : (s.logPut code a b).out n = s.out n :=
  State.out_of_stim (s.stim_logPut code a b) n

/-- A record in the log leaves the objects of the outputs. -/
theorem State.reg_logPut (s : State) (code : Nat) (a b : Word) {i j : Nat} (hi : 0x8000 ≤ i) (hj : j < 256) :
    (s.logPut code a b).reg i j = s.reg i j := (s.logPut_regs code a b false).reg _ _ _ (by simp [odKey]; omega)

theorem State.OutLogged.logPut (s : State) (code : Nat) (a b : Word) (n : Nat) : s.OutLogged (s.logPut code a b) n :=
  ⟨by rw [State.logPut_eq], fun k _ => s.out_logPut code a b k, (s.logPut_regs code a b false).reg _ _ _ (by decide)⟩

section Plays

variable (s : State) (n : Nat) (goesOn : Bool) (v : Int) (line : Nat) (rest : List (Int × Option Nat))

theorem State.plays_sound_moved : s.OutMoved (s.plays n goesOn ((v, none) :: rest)) n [odKey (asIdx n) 0x13 0] :=
  ((State.OutMoved.onOut s n _ _).andThen (State.OutMoved.onOut _ n _ _)).andThen (State.asApply_moved _ n)

theorem State.plays_sound_out : (s.plays n goesOn ((v, none) :: rest)).out n =
    { s.out n with ahead := rest, under := false, sample := some (v * 65536) } := by
  rw [State.plays, State.out_asApply, State.out_onOut_same, State.out_onOut_same]

theorem State.plays_poisoned_out : (s.plays n goesOn ((v, some line) :: rest)).out n = { s.out n with ahead := rest, under := false } := by
  rw [State.plays, State.out_logPut, State.out_asFlag, State.out_onOut_same]

theorem State.plays_poisoned_status : bit ((s.plays n goesOn ((v, some line) :: rest)).reg (asIdx n) 0x13) 0 = true := by
  rw [State.plays, State.reg_logPut _ _ _ _ (by simp [asIdx]) (by decide), State.bit_asFlag _ _ _ _ (by decide), if_pos rfl]

theorem State.plays_poisoned_logged : s.OutLogged (s.plays n goesOn ((v, some line) :: rest)) n :=
  (((State.OutMoved.onOut s n _ _).andThen (State.OutMoved.asFlag _ n 0 true (by simp))).logged (not_mem_statusKey n)).trans
    (State.OutLogged.logPut _ _ _ _ n)

/-- The objects of an underrun: STATUS and UNDERRUN_SAMPLES of the output, UNDERRUNS of the device. -/
def underrunKeys (n : Nat) : List Nat := [odKey (asIdx n) 0x13 0, odKey (asIdx n) 0x14 0, odKey 0x8020 2 0]

theorem State.underrun_moved : s.OutMoved (s.underrun n goesOn) n (underrunKeys n) :=
  ((State.OutMoved.asFlag s n 1 true (by simp [underrunKeys])).andThen (State.OutMoved.setRegW _ _ _ 0 _ n (by simp [underrunKeys]))).andThen
    (State.when_rel (R := fun a b => State.OutMoved a b n (underrunKeys n)) (fun s => State.OutMoved.refl s n _) _ _
      (fun _ => State.OutMoved.setRegW _ _ _ 0 _ n (by simp [underrunKeys])))

/-- An underrun is shown in STATUS and counted in UNDERRUN_SAMPLES, and one that begins in UNDERRUNS. -/
theorem State.underrun_counts :
    (s.underrun n goesOn).reg (asIdx n) 0x14 = s.reg (asIdx n) 0x14 + 1 ∧ bit ((s.underrun n goesOn).reg (asIdx n) 0x13) 1 = true ∧
      (s.underrun n goesOn).reg 0x8020 2 = s.reg 0x8020 2 + (if goesOn then 0 else 1) := by
  have hdevice : odKey 0x8020 2 0 ≠ odKey (asIdx n) 0x13 0 ∧ odKey 0x8020 2 0 ≠ odKey (asIdx n) 0x14 0 := by
    simp only [odKey, asIdx]
    omega
  obtain ⟨h13, h14⟩ := hdevice
  obtain ⟨u, hu⟩ : ∃ u, (s.asFlag n 1 true).addReg (asIdx n) 0x14 1 = u := ⟨_, rfl⟩
  have hsamples : u.reg (asIdx n) 0x14 = s.reg (asIdx n) 0x14 + 1 := by
    rw [← hu, State.reg_addReg_same, State.asFlag, (SameRegs.setReg s (asIdx n) 0x13 _).reg _ _ _ (by simp [odKey])]
    rfl
  have hstatus : bit (u.reg (asIdx n) 0x13) 1 = true := by
    rw [← hu, (SameRegs.addReg _ (asIdx n) 0x14 1 0).reg _ _ _ (by simp [odKey]), State.bit_asFlag _ _ _ _ (by decide), if_pos rfl]
  have hcount : u.reg 0x8020 2 = s.reg 0x8020 2 := by
    rw [← hu, (SameRegs.addReg _ (asIdx n) 0x14 1 0).reg _ _ _ (by simpa using h14), State.asFlag,
      (SameRegs.setReg s (asIdx n) 0x13 _).reg _ _ _ (by simpa using h13)]
  rw [State.underrun, hu]
  cases goesOn with
  | true => exact ⟨hsamples, hstatus, by simpa using hcount⟩
  | false =>
    have hset := SameRegs.addReg u 0x8020 2 1 0
    refine ⟨(hset.reg _ _ _ (by simpa using h14.symm)).trans hsamples, ?_, ?_⟩
    · rw [← hstatus]
      exact congrArg (bit · 1) (hset.reg _ _ _ (by simpa using h13.symm))
    · exact (State.reg_addReg_same ..).trans (by rw [hcount]; rfl)

theorem State.plays_none_out : (s.plays n goesOn []).out n = { s.out n with under := true, skip := (s.out n).skip + 1 } := by
  have hout : (s.underrun n goesOn).out n = s.out n := by
    unfold State.underrun
    cases goesOn <;> rfl
  rw [State.plays, State.out_onOut_same, State.out_logPut, hout]

theorem State.plays_none_reg {i j : Nat} (hi : 0x8000 ≤ i) (hj : j < 256) : (s.plays n goesOn []).reg i j = (s.underrun n goesOn).reg i j := by
  rw [State.plays, State.reg_onOut, State.reg_logPut _ _ _ _ hi hj]

theorem State.plays_none_logged : s.OutLogged (s.plays n goesOn []) n := by
  have hunder := (s.underrun_moved n goesOn).logged (by simp only [underrunKeys, List.mem_cons, List.not_mem_nil, or_false, odKey, asIdx]; omega)
  rw [State.plays]
  exact (hunder.trans (State.OutLogged.logPut _ _ _ _ n)).trans ((State.OutMoved.onOut _ n _ []).logged (by simp))

theorem State.plays_logged (l : List (Int × Option Nat)) : s.OutLogged (s.plays n goesOn l) n := by
  match l with
  | [] => exact s.plays_none_logged n goesOn
  | (v, some line) :: rest => exact s.plays_poisoned_logged n goesOn v line rest
  | (v, none) :: rest => exact (s.plays_sound_moved n goesOn v rest).logged (not_mem_statusKey n)

end Plays

/-! ## AS_SAMPLE -/

theorem not_mem_advanceKeys (n : Nat) : odKey 0x0100 0 0 ∉ advanceKeys n := not_mem_asIdx_map n _ (by decide) (by decide) (by decide)

theorem State.toNext_moved (s : State) (n : Nat) (ks : List Nat) : s.OutMoved (s.toNext n) n ks := State.OutMoved.onOut s n _ ks

theorem State.toNext_out (s : State) (n : Nat) : (s.toNext n).out n = { s.out n with next := (s.out n).next + s.regN (asIdx n) 6 * 5120 } :=
  State.out_onOut_same ..

section Samples

variable {s : State} {n : Fin 32} {t : Nat}

theorem exec_asSample_eq (s : State) (n : Fin 32) (t : Nat) : exec (.asSample n t) s = s.perform (fun s => (s.tick t).asSample n) := rfl

/-- The state as a sample instant finds it, with the next instant fixed. -/
def State.atSample (s : State) (n t : Nat) : State := (s.at (max t (s.out n).next)).toNext n

theorem State.atSample_out (s : State) (n t : Nat) :
    (s.atSample n t).out n = { s.out n with next := (s.out n).next + s.regN (asIdx n) 6 * 5120 } := State.toNext_out ..

/-- The state in which a sample instant has played, before playback goes on. -/
def State.afterSample (s : State) (n t : Nat) : State := (s.atSample n t).plays n (s.out n).under (s.out n).ahead

/-- A sample instant of a waveform in RUN that no STOP ends. -/
theorem exec_asSample_wave (hst : s.asState n = 3) (hmode : s.asMode n = 2) (hstop : (s.out n).stop = 0) :
    exec (.asSample n t) s = .next ((s.afterSample n t).asAdvance n) ∧
      (s.at (max t (s.out n).next)).OutLogged ((s.afterSample n t).asAdvance n) n := by
  have hbody : (s.at t).asSample n = (s.afterSample n t).asAdvance n := by
    have hmode' : (s.at t).asMode n ≠ 3 := by
      have : (s.at t).asMode n = 2 := hmode
      omega
    rw [State.asSample_of_run (s := s.at t) hst hstop, if_neg hmode', State.at_tick]
    rfl
  have hlogged := (((State.toNext_moved _ n []).logged (by simp)).trans (State.plays_logged _ n _ _)).trans
    ((State.asAdvance_moved (s.afterSample n t) n).logged (not_mem_advanceKeys n))
  exact ⟨(exec_asSample_eq s n t).trans (State.perform_stim hbody (by rw [hlogged.frame]) hlogged.device), hlogged⟩

/-- The NCO steps without moving anything beside the output and STATUS. -/
theorem State.ncoStep_moved (s : State) (n : Nat) : s.OutMoved (s.ncoStep n) n [odKey (asIdx n) 0x13 0] :=
  (State.OutMoved.onOut s n _ _).andThen (State.asApply_moved _ n)

/-- The sample of an NCO at a phase: the table's, with the fraction of the step to the next one (11, R344); times 65,536 is the model's choice
(log entry 95). -/
def ncoSample (table : List Int) (p : Nat) : Int :=
  table.getD (p >>> 28) 0 * 65536 + (table.getD ((p >>> 28 + 1) % 4096) 0 - table.getD (p >>> 28) 0) * (((p >>> 12) % 65536 : Nat) : Int)

theorem State.ncoStep_out {s : State} {n : Nat} (h : (s.out n).rephase = false) : (s.ncoStep n).out n =
    { s.out n with
      sample := some (ncoSample (s.out n).table (s.out n).phase), phase := ((s.out n).phase + s.actN (asIdx n) 9) % 1099511627776
      rephase := false } := by
  simp [State.ncoStep, h, ncoSample]

/-- A sample instant of an NCO in RUN that no STOP ends. -/
theorem exec_asSample_nco (hst : s.asState n = 3) (hmode : s.asMode n = 3) (hstop : (s.out n).stop = 0) :
    exec (.asSample n t) s = .next ((s.atSample n t).ncoStep n) ∧
      (s.at (max t (s.out n).next)).OutMoved ((s.atSample n t).ncoStep n) n [odKey (asIdx n) 0x13 0] := by
  have hbody : (s.at t).asSample n = (s.atSample n t).ncoStep n := by
    rw [State.asSample_of_run (s := s.at t) hst hstop, if_pos (show (s.at t).asMode n = 3 from hmode), State.at_tick]
    rfl
  have hmoved := (State.toNext_moved (s.at (max t (s.out n).next)) n _).andThen (State.ncoStep_moved (s.atSample n t) n)
  exact ⟨exec_of_outMoved (exec_asSample_eq s n t) hbody hmoved (not_mem_statusKey n), hmoved⟩
end Samples

end Sys2Proof.Machine

namespace Sys2Proof.Machine

section Samples

variable {s : State} {n : Fin 32} {t : Nat} {v : Int} {rest : List (Int × Option Nat)}

/-- What a wave's playback leaves of the output past a sample instant: all but where it stands and what the instant itself made. -/
theorem State.afterSample_advances (h : ((s.afterSample n t).out n).stop = 0) :
    (((s.afterSample n t).asAdvance n).out n).sample = ((s.afterSample n t).out n).sample ∧
      (((s.afterSample n t).asAdvance n).out n).ahead = ((s.afterSample n t).out n).ahead ∧
      (((s.afterSample n t).asAdvance n).out n).next = ((s.afterSample n t).out n).next := by
  rw [State.asAdvance_keeps h]
  exact ⟨rfl, rfl, rfl⟩

/-- What a sound sample leaves of the output. -/
theorem State.afterSample_sound_out (hahead : (s.out n).ahead = (v, none) :: rest) : (s.afterSample n t).out n =
    { s.out n with next := (s.out n).next + s.regN (asIdx n) 6 * 5120, ahead := rest, under := false, sample := some (v * 65536) } := by
  rw [State.afterSample, hahead, State.plays_sound_out, State.atSample_out]

/-- It moves at most STATUS and the output, so that the playback stands where it stood. -/
theorem State.afterSample_sound_moved (hahead : (s.out n).ahead = (v, none) :: rest) :
    (s.at (max t (s.out n).next)).OutMoved (s.afterSample n t) n [odKey (asIdx n) 0x13 0] := by
  rw [State.afterSample, hahead]
  exact (State.toNext_moved _ n _).andThen (State.plays_sound_moved _ n _ v rest)

/-- Lengths, repeats and links of the entries, and the entry that plays, do not follow STATUS: words 1 and 2 of an entry lie at no key of
another object's first word, whatever entry it is. -/
theorem State.asEntry_of_statusMoved {a b : State} {n : Nat} (h : SameRegs a b [odKey (asIdx n) 0x13 0]) :
    b.regN (asIdx n) 0x15 = a.regN (asIdx n) 0x15 ∧ ∀ e, b.asEntry n e 1 = a.asEntry n e 1 ∧ b.asEntry n e 2 = a.asEntry n e 2 := by
  refine ⟨congrArg BitVec.toNat (h.reg _ _ _ (by simp [odKey])), fun e => ⟨h.reg _ _ _ ?_, h.reg _ _ _ ?_⟩⟩
  all_goals
    simp only [List.mem_singleton, odKey]
    omega

/-- A sample instant of a waveform that has a sound sample on hand: the sample plays, and the playback goes on from where it stood. -/
theorem exec_asSample_sound (hst : s.asState n = 3) (hmode : s.asMode n = 2) (hstop : (s.out n).stop = 0)
    (hahead : (s.out n).ahead = (v, none) :: rest) :
    ∃ a : State, exec (.asSample n t) s = .next (a.asAdvance n) ∧
      a.out n = { s.out n with next := (s.out n).next + s.regN (asIdx n) 6 * 5120, ahead := rest, under := false, sample := some (v * 65536) } ∧
      a.asState n = 3 ∧ a.regN (asIdx n) 0x15 = s.regN (asIdx n) 0x15 ∧
      (∀ e, a.asEntry n e 1 = s.asEntry n e 1 ∧ a.asEntry n e 2 = s.asEntry n e 2) ∧
      (s.at (max t (s.out n).next)).OutMoved (a.asAdvance n) n (odKey (asIdx n) 0x13 0 :: advanceKeys n) := by
  have hmoved := State.afterSample_sound_moved (t := t) hahead
  obtain ⟨hentry, hentries⟩ := State.asEntry_of_statusMoved hmoved.regs
  have hstate : (s.afterSample n t).asState n = 3 := by
    rw [← hst]
    exact congrArg BitVec.toNat (hmoved.regs.reg _ _ _ (by simp [odKey]))
  exact ⟨_, (exec_asSample_wave hst hmode hstop).1, State.afterSample_sound_out hahead, hstate, hentry, hentries,
    hmoved.trans (State.asAdvance_moved _ n)⟩

/-- The next sample of a playback in RUN. -/
theorem State.asAdvance_run {a : State} {n : Nat} (h : (a.out n).pos + 1 < a.asLength n (a.regN (asIdx n) 0x15)) :
    (a.asAdvance n).asState n = a.asState n ∧ ((a.asAdvance n).out n).pos = (a.out n).pos + 1 := by
  rw [State.asAdvance_within h, State.asState_onOut, State.out_onOut_same]
  exact ⟨rfl, rfl⟩

/-- The next repeat of a playback in RUN. -/
theorem State.asAdvance_repeat {a : State} {n : Nat} (hlast : a.asLength n (a.regN (asIdx n) 0x15) ≤ (a.out n).pos + 1) (hstop : (a.out n).stop = 0)
    (hrep : (a.out n).rep + 1 < fld (a.asEntry n (a.regN (asIdx n) 0x15) 1) 0 16) :
    (a.asAdvance n).asState n = a.asState n ∧ ((a.asAdvance n).out n).pos = 0 ∧ ((a.asAdvance n).out n).rep = (a.out n).rep + 1 := by
  rw [State.asAdvance_repeats hlast hstop hrep, State.asState_onOut, State.out_onOut_same]
  exact ⟨rfl, rfl, rfl⟩

/-- STATUS and UNDERRUN_SAMPLES do not follow how a playback goes on, nor does UNDERRUNS. -/
theorem State.reg_asAdvance (a : State) (n : Nat) {i j : Nat} (h : i = asIdx n ∧ (j = 0x13 ∨ j = 0x14) ∨ i = 0x8020 ∧ j = 2) :
    (a.asAdvance n).reg i j = a.reg i j := by
  refine (a.asAdvance_moved n).regs.reg _ _ _ ?_
  simp only [advanceKeys, List.map_cons, List.map_nil, List.mem_cons, List.not_mem_nil, or_false, odKey]
  simp only [asIdx] at h ⊢
  omega

/-- A sample of a poisoned line on hand: it is left out, and STATUS shows it (11, R343). -/
theorem exec_asSample_poisoned {line : Nat} (hst : s.asState n = 3) (hmode : s.asMode n = 2) (hstop : (s.out n).stop = 0)
    (hahead : (s.out n).ahead = (v, some line) :: rest) :
    ∃ u, exec (.asSample n t) s = .next u ∧ (u.out n).sample = (s.out n).sample ∧ (u.out n).ahead = rest ∧
      bit (u.reg (asIdx n) 0x13) 0 = true ∧
      (u.out n).next = (s.out n).next + s.regN (asIdx n) 6 * 5120 ∧ (s.at (max t (s.out n).next)).OutLogged u n := by
  obtain ⟨hexec, hlogged⟩ := exec_asSample_wave (t := t) hst hmode hstop
  have hout : (s.afterSample n t).out n =
      { s.out n with next := (s.out n).next + s.regN (asIdx n) 6 * 5120, ahead := rest, under := false } := by
    rw [State.afterSample, hahead, State.plays_poisoned_out, State.atSample_out]
  have hstatus : bit ((s.afterSample n t).reg (asIdx n) 0x13) 0 = true := by
    rw [State.afterSample, hahead, State.plays_poisoned_status]
  obtain ⟨hsample, hleft, hnext⟩ := State.afterSample_advances (s := s) (n := n) (t := t) (by rw [hout]; exact hstop)
  rw [hout] at hsample hleft hnext
  exact ⟨_, hexec, hsample, hleft, by rw [State.reg_asAdvance _ _ (by simp), hstatus], hnext, hlogged⟩

/-- No sample on hand: an underrun, shown and counted (11, R343). -/
theorem exec_asSample_underrun (hst : s.asState n = 3) (hmode : s.asMode n = 2) (hstop : (s.out n).stop = 0) (hahead : (s.out n).ahead = []) :
    ∃ u, exec (.asSample n t) s = .next u ∧ (u.out n).sample = (s.out n).sample ∧ u.reg (asIdx n) 0x14 = s.reg (asIdx n) 0x14 + 1 ∧
      bit (u.reg (asIdx n) 0x13) 1 = true ∧ u.reg 0x8020 2 = s.reg 0x8020 2 + (if (s.out n).under then 0 else 1) ∧
      (u.out n).next = (s.out n).next + s.regN (asIdx n) 6 * 5120 ∧ (s.at (max t (s.out n).next)).OutLogged u n := by
  obtain ⟨hexec, hlogged⟩ := exec_asSample_wave (t := t) hst hmode hstop
  have hout : (s.afterSample n t).out n =
      { s.out n with next := (s.out n).next + s.regN (asIdx n) 6 * 5120, under := true, skip := (s.out n).skip + 1 } := by
    rw [State.afterSample, hahead, State.plays_none_out, State.atSample_out]
  have hreg {i j : Nat} (hi : 0x8000 ≤ i) (hj : j < 256) :
      (s.afterSample n t).reg i j = ((s.atSample n t).underrun n (s.out n).under).reg i j := by
    rw [State.afterSample, hahead, State.plays_none_reg _ _ _ hi hj]
  obtain ⟨hsamples, hstatus, hcount⟩ := State.underrun_counts (s.atSample n t) n (s.out n).under
  obtain ⟨hsample, -, hnext⟩ := State.afterSample_advances (s := s) (n := n) (t := t) (by rw [hout]; exact hstop)
  rw [hout] at hsample hnext
  have hidx : 0x8000 ≤ asIdx n := by simp [asIdx]
  refine ⟨_, hexec, hsample, ?_, ?_, ?_, hnext, hlogged⟩
  · rw [State.reg_asAdvance _ _ (by simp), hreg hidx (by decide), hsamples]
    rfl
  · rw [State.reg_asAdvance _ _ (by simp), hreg hidx (by decide), hstatus]
  · rw [State.reg_asAdvance _ _ (by simp), hreg (by decide) (by decide), hcount]
    rfl

/-- STOP 2, or STOP 1 of an NCO, ends the playback at the next sample instant (11, R341; the latter is the model's choice, log entry 95). -/
theorem exec_asSample_stops (hst : s.asState n = 3) (hstop : (s.out n).stop = 2 ∨ ((s.out n).stop = 1 ∧ s.asMode n = 3)) :
    ∃ u, exec (.asSample n t) s = .next u ∧ u.asState n = 6 ∧ u.reg (asIdx n) 0x12 = 2 ∧ u.out n = (s.out n).ending ∧
      (s.at (max t (s.out n).next)).OutMoved u n (endKeys n) := by
  have hbody : (s.at t).asSample n = (s.at (max t (s.out n).next)).asEnd n 2 := by
    rw [State.asSample_stops (s := s.at t) hst hstop, State.at_tick]
    rfl
  have hbusy : (s.at (max t (s.out n).next)).asBusy n = true := State.asBusy_of_state (s := s.at _) hst (by decide)
  obtain ⟨hstate, hcause, hout⟩ := State.asEnd_ended 2 hbusy
  have hmoved := State.asEnd_moved (s.at (max t (s.out n).next)) n 2
  exact ⟨_, exec_of_outMoved (exec_asSample_eq s n t) hbody hmoved (not_mem_endKeys n), hstate, hcause, hout, hmoved⟩

end Samples

/-! ## AS_PREFETCH (11, R342) -/

theorem length_lineSamples (a : Nat) (bad : Bool) (l : LineData) : (lineSamples a bad l).length = 12 := by simp [lineSamples]

/-- A read line leaves the queues. -/
theorem State.queues_hbmRead (s : State) (a reader : Nat) : (s.hbmRead a reader).2.queues = s.queues := by
  have hput (x : State) (l : LineData) : (x.hbmPut a l).queues = x.queues := by
    unfold State.hbmPut
    split <;> rfl
  unfold State.hbmRead
  split
  · rfl
  dsimp only
  split
  · split
    · rfl
    · rw [State.raiseFault_queues, State.logPut_eq]
      split
      · exact hput s _
      · exact hput s _
  · rfl

/-- A waveform line is 12 samples; reading it moves what a read of memory moves. -/
theorem State.waveRead_reads (s : State) (a : Nat) :
    (s.waveRead a).1.length = 12 ∧ s.Queued (s.waveRead a).2.2 ∧ (s.waveRead a).2.2.queues = s.queues := by
  unfold State.waveRead
  split
  · exact ⟨length_lineSamples .., State.Queued.refl s, rfl⟩
  · exact ⟨length_lineSamples .., State.Queued.hbmRead s a 2, s.queues_hbmRead a 2⟩

/-- The address of the waveform line that the prefetch of an output reads next. -/
def State.waveLine (s : State) (n : Nat) : Nat := fld (s.asEntry n (s.out n).fetch.1 0) 0 31 + (s.out n).fetch.2.2 / 12

/-- The samples of it that belong to the entry. -/
def State.waveGot (s : State) (n : Nat) : List (Int × Option Nat) :=
  (s.waveRead (s.waveLine n)).1.take (max 1 (s.asLength n (s.out n).fetch.1) - (s.out n).fetch.2.2)

/-- Nothing is prefetched for an output that is not busy with a waveform, whose prefetch has ended, or that has no room for a line. -/
theorem State.asFetch_idle {s : State} {n : Nat}
    (h : 4084 < (s.out n).ahead.length ∨ s.asBusy n = false ∨ s.asMode n ≠ 2 ∨ (s.out n).ended = true) : s.asFetch n = s := by
  refine if_pos ?_
  simp only [Bool.or_eq_true, Bool.not_eq_true', decide_eq_true_eq]
  tauto

/-- The next line of the waveform is read, and its samples go to the end of the prefetch, but for those to be skipped. -/
theorem State.asFetch_reads {s : State} {n : Nat} (hbusy : s.asBusy n = true) (hmode : s.asMode n = 2) (hended : (s.out n).ended = false)
    (hroom : (s.out n).ahead.length ≤ 4084) :
    ∃ g : AsSt → AsSt, s.asFetch n = (s.waveRead (s.waveLine n)).2.2.onOut n g ∧ ∀ x, (g x).ahead = x.ahead ++ (s.waveGot n).drop x.skip := by
  refine ⟨_, if_neg ?_, fun x => rfl⟩
  simp [hbusy, hmode, hended, hroom]

/-- A line holds at least one sample of the entry while the prefetch stands within it, and 12 at most. -/
theorem State.length_waveGot {s : State} {n : Nat} (h : (s.out n).fetch.2.2 < s.asLength n (s.out n).fetch.1) :
    0 < (s.waveGot n).length ∧ (s.waveGot n).length ≤ 12 := by
  obtain ⟨hlength, -, -⟩ := s.waveRead_reads (s.waveLine n)
  rw [State.waveGot, List.length_take, hlength]
  omega

/-- AS_PREFETCH with room in the prefetch and no samples to skip adds those of one line. -/
theorem exec_asPrefetch_adds {s : State} {n : Fin 32} {t : Nat} (hbusy : s.asBusy n = true) (hmode : s.asMode n = 2)
    (hended : (s.out n).ended = false) (hroom : (s.out n).ahead.length ≤ 4084) (hskip : (s.out n).skip = 0) :
    ∃ u, exec (.asPrefetch n [] t) s = .next u ∧ (u.out n).ahead = (s.out n).ahead ++ (s.at t).waveGot n ∧
      (∀ k, k ≠ n.val → u.out k = s.out k) ∧
      u = { s.at t with hbm := u.hbm, regs := u.regs, agenda := u.agenda, log := u.log, mem := u.mem, stim := u.stim } := by
  obtain ⟨g, hfetch, hahead⟩ := State.asFetch_reads (s := s.at t) hbusy hmode hended hroom
  obtain ⟨-, hread, hqueues⟩ := (s.at t).waveRead_reads ((s.at t).waveLine n)
  generalize ((s.at t).waveRead ((s.at t).waveLine n)).2.2 = w at hfetch hread hqueues
  have hframe : w = { s.at t with regs := w.regs, agenda := w.agenda, log := w.log, posted := w.posted, mem := w.mem } := by
    rw [hread.frame, hqueues]
  have hout (k : Nat) : w.out k = s.out k := State.out_of_stim (by rw [hframe]; rfl) k
  have hbody : exec (.asPrefetch n [] t) s = .next (w.onOut n g).landed := by
    refine State.perform_landed (f := fun s => ((s.tick t).upset []).asFetch n) hfetch ?_ ?_ ?_ ?_
    · exact hread.regs.reg (by decide) (by decide) (by decide)
    all_goals rw [hframe]
    · rfl
    · rfl
    · exact s.clock_le_at t
  refine ⟨_, hbody, ?_, fun k hk => ?_, ?_⟩
  · calc ((w.onOut n g).out n).ahead
      _ = (g (w.out n)).ahead := by rw [State.out_onOut_same]
      _ = (s.out n).ahead ++ (s.at t).waveGot n := by rw [hahead, hout, hskip, List.drop_zero]
  · exact (State.out_onOut_other w g hk).trans (hout k)
  · obtain ⟨m, hm⟩ := (w.onOut n g).landed_eq
    rw [hm, hframe]
    rfl

/-- Where nothing is prefetched only time passes. -/
theorem exec_asPrefetch_idle {s : State} {n : Fin 32} {t : Nat}
    (h : 4084 < (s.out n).ahead.length ∨ s.asBusy n = false ∨ s.asMode n ≠ 2 ∨ (s.out n).ended = true) :
    exec (.asPrefetch n [] t) s = .next (s.at t) :=
  State.perform_outMoved (f := fun s => ((s.tick t).upset []).asFetch n) (State.asFetch_idle (s := s.at t) h) (State.OutMoved.refl _ n []) (by simp)

/-- Settles O26: an occurrence starts a loaded output, and a sample instant is a step of its own for a sound sample, a poisoned one, none on
hand and the NCO; each moves the one output, and past a waveform's sample its playback goes on. -/
theorem outputsPlay : Obligations.OutputsPlay := by
  unfold Obligations.OutputsPlay
  refine ⟨?_, ?_, ?_, ?_, ?_, ?_, ?_, ?_, ?_, ?_, ?_, ?_, ?_, ?_, ?_⟩
  · intro s n t v r hst hmode hahead
    exact exec_asArmed (State.asReady_of_samples (s := s.at t) hst hmode hahead) (State.OutMoved.armed _ n)
  · intro s n t v a r hst hmode hahead
    have hmoved := (s.at t).asEnd_moved n 5
    obtain ⟨hstate, hcause, -⟩ := State.asEnd_ended (s := s.at t) 5 (State.asBusy_of_state hst (by decide))
    exact ⟨_, exec_asArmed (State.asReady_of_samples (s := s.at t) hst hmode hahead) hmoved, hstate, hcause, fun k _ hk => hmoved.others k hk,
      hmoved.frame⟩
  · intro s n t tb hst hmode htb
    exact exec_asArmed (State.asReady_of_table (s := s.at t) hst hmode htb) ((State.OutMoved.onOut _ n _ _).andThen (State.OutMoved.armed _ n))
  · exact fun s n t h => exec_asArmed (State.asReady_of_not_arming (s := s.at t) h) (State.OutMoved.refl _ n _)
  · exact fun s n stamp timed t h => exec_asStartLine (ks := []) (State.asStart_idle (s := s.at t) h) (State.OutMoved.refl _ n _) (by simp)
  · intro s n stamp timed t h
    obtain ⟨u, hu, hstate, hnext, htime, hmoved⟩ := exec_asStartLine_armed h
    exact ⟨u, hu, hstate, hnext, htime, fun k _ hk => hmoved.others k hk, hmoved.frame, hmoved.regs⟩
  · intro s n stamp timed t h hend
    obtain ⟨u, hu, hstate, hnext, hmoved⟩ := exec_asStartLine_waiting h hend
    exact ⟨u, hu, hstate, hnext, fun k _ hk => hmoved.others k hk, hmoved.frame, hmoved.regs⟩
  · intro s n t v r hst hmode hstop hahead
    obtain ⟨a, hu, hout, hstate, hentry, hentries, hmoved⟩ := exec_asSample_sound (t := t) hst hmode hstop hahead
    have hstop' : (a.out n).stop = 0 := by rw [hout]; exact hstop
    have hkeeps := State.asAdvance_keeps hstop'
    have hpos : (a.out n).pos = (s.out n).pos := by rw [hout]
    have hrep : (a.out n).rep = (s.out n).rep := by rw [hout]
    obtain ⟨h1, h2⟩ := hentries (s.regN (asIdx n) 0x15)
    have hlength : a.asLength n (a.regN (asIdx n) 0x15) = s.asLength n (s.regN (asIdx n) 0x15) := by
      rw [hentry, State.asLength, h1, State.asLength]
    rw [← hpos, ← hrep, ← hlength, ← h1, ← h2, ← hentry]
    refine ⟨_, hu, ?_, ?_, ?_, fun hwithin => ?_, fun hlast hreps hend => State.asAdvance_done hlast hstop' hreps hend,
      fun hlast hreps => ?_, fun hlast hreps hend => State.asAdvance_next hlast hstop' hreps hend, fun k _ hk => hmoved.others k hk, hmoved.frame⟩
    · rw [hkeeps, hout]
    · rw [hkeeps, hout]
    · rw [hkeeps, hout]
    · rw [← hstate]
      exact State.asAdvance_run hwithin
    · rw [← hstate]
      exact State.asAdvance_repeat hlast hstop' hreps
  · intro s n t v a r hst hmode hstop hahead
    obtain ⟨u, hu, hsample, hleft, hstatus, hnext, hlogged⟩ := exec_asSample_poisoned (t := t) hst hmode hstop hahead
    exact ⟨u, hu, hsample, hleft, hstatus, hnext, fun k _ hk => hlogged.others k hk, hlogged.frame⟩
  · exact fun s n t h =>
      exec_of_outMoved (ks := []) (exec_asSample_eq s n t) (State.asSample_idle (s := s.at t) h) (State.OutMoved.refl _ n _) (by simp)
  · intro s n t hst hmode hstop hahead
    obtain ⟨u, hu, hsample, hsamples, hstatus, hcount, hnext, hlogged⟩ := exec_asSample_underrun (t := t) hst hmode hstop hahead
    exact ⟨u, hu, hsample, hsamples, hstatus, hcount, hnext, fun k _ hk => hlogged.others k hk, hlogged.frame⟩
  · intro s n t hst hmode hstop hrephase
    obtain ⟨hu, hmoved⟩ := exec_asSample_nco (t := t) hst hmode hstop
    have hout := State.ncoStep_out (s := s.atSample n t) (n := n) (by rw [State.atSample_out]; exact hrephase)
    rw [State.atSample_out] at hout
    exact ⟨_, hu, by rw [hout]; rfl, by rw [hout]; rfl, fun k _ hk => hmoved.others k hk, hmoved.frame⟩
  · intro s n t hst hstop
    obtain ⟨u, hu, hstate, hcause, hout, hmoved⟩ := exec_asSample_stops (t := t) hst hstop
    exact ⟨u, hu, hstate, hcause, by rw [hout, AsSt.ending], fun k _ hk => hmoved.others k hk, hmoved.frame, hmoved.regs⟩
  · intro s n t hbusy hmode hended hroom hskip hwithin
    obtain ⟨u, hu, hahead, hothers, hframe⟩ := exec_asPrefetch_adds (t := t) hbusy hmode hended hroom hskip
    obtain ⟨hsome, hline⟩ := State.length_waveGot (s := s.at t) (n := n) hwithin
    refine ⟨u, hu, ?_, ?_, ?_, fun k _ hk => hothers k hk, hframe⟩
    all_goals rw [hahead]
    · exact List.prefix_append ..
    all_goals rw [List.length_append]; omega
  · exact fun s n t h => exec_asPrefetch_idle h

end Sys2Proof.Machine

namespace Sys2Proof.Machine

/-! ## The links at an instant (12) -/

section At

variable (s : State) (t p : Nat)

@[simp] theorem State.at_portState : (s.at t).portState p = s.portState p := rfl
@[simp] theorem State.at_portLink : (s.at t).portLink p = s.portLink p := rfl
@[simp] theorem State.at_ringLink : (s.at t).ringLink p = s.ringLink p := rfl
@[simp] theorem State.at_linkBroken (b : Nat) : (s.at t).linkBroken b = s.linkBroken b := rfl
@[simp] theorem State.at_wideWithout (m : Nat) : (s.at t).wideWithout p m = s.wideWithout p m := rfl
@[simp] theorem State.at_route (inp : Option Nat) : (s.at t).route inp p = s.route inp p := rfl
@[simp] theorem State.at_sendable : (s.at t).sendable p = s.sendable p := rfl

end At

/-- The ports are read from the state's ports alone. -/
theorem State.port_of_ports {s u : State} (h : u.halo.ports = s.halo.ports) (p : Nat) : u.port p = s.port p := by
  rw [State.port, h, State.port]

theorem State.port_of_halo {s u : State} (h : u.halo = s.halo) (p : Nat) : u.port p = s.port p := State.port_of_ports (by rw [h]) p

@[simp] theorem State.port_setRegN (s : State) (i j v p : Nat) : (s.setRegN i j v).port p = s.port p := rfl

/-- A linked port is UP or ISOLATED. -/
theorem State.portLink_iff (s : State) (p : Nat) : s.portLink p = true ↔ s.portState p = 3 ∨ s.portState p = 4 := by
  simp [State.portLink]

theorem State.portLink_eq_false (s : State) (p : Nat) : s.portLink p = false ↔ s.portState p ≠ 3 ∧ s.portState p ≠ 4 := by
  simp [State.portLink]

theorem State.portState_of_reg {s : State} {p n : Nat} (h : s.reg (0x1110 + p) 7 = wd n) (hn : n < 2 ^ 40) : s.portState p = n :=
  State.regN_eq_of_reg h hn

/-- A listed entry is one of the 8 words. -/
theorem State.linkBroken_iff (s : State) (b : Nat) :
    s.linkBroken b = true ↔ ∃ i < 8, bit (s.reg 0x1102 0x02 i) 24 = true ∧ fld (s.reg 0x1102 0x02 i) 0 24 = b := by
  simp [State.linkBroken]

/-- Meridian time follows LOCAL and OFFSET alone (03). -/
theorem SameRegs.now {s u : State} {ks : List Nat} (h : SameRegs s u ks) (hclock : u.clock = s.clock) (hlo : odKey 0x0900 2 0 ∉ ks)
    (hhi : odKey 0x0900 2 1 ∉ ks) : u.now = s.now :=
  State.now_congr hclock (by rw [State.offset, State.reg80, h.reg _ _ _ hlo, h.reg _ _ _ hhi]; rfl)

/-! ## Objects that describe the ring and its ports -/

/-- The objects that LINK_INFO, the checks of R357, routes and the ring read: the device's number, the ring, what is set of a port. -/
def isWiring (i j : Nat) : Prop := (i = 0x1100 ∧ j = 0) ∨ (i = 0x1102 ∧ j ≤ 3) ∨ (0x1110 ≤ i ∧ 1 ≤ j ∧ j ≤ 5)

/-- Those objects read the same. -/
def State.SameWiring (s u : State) : Prop := ∀ i j w, isWiring i j → w < 134217728 → u.reg i j w = s.reg i j w

theorem SameRegs.wiring {s u : State} {ks : List Nat} (h : SameRegs s u ks)
    (hk : ∀ i j w, isWiring i j → w < 134217728 → odKey i j w ∉ ks) : s.SameWiring u :=
  fun i j w hi hw => h.reg i j w (hk i j w hi hw)

namespace State.SameWiring

theorem refl (s : State) : s.SameWiring s := fun _ _ _ _ _ => rfl

theorem of_regs {s u : State} (h : u.regs = s.regs) : s.SameWiring u := fun i j w _ _ => State.reg_of_regs h i j w

theorem trans {s u v : State} (h : s.SameWiring u) (h' : u.SameWiring v) : s.SameWiring v :=
  fun i j w hi hw => (h' i j w hi hw).trans (h i j w hi hw)

/-- At an instant they read as before it. -/
theorem of_at {s u : State} {t : Nat} (h : (s.at t).SameWiring u) : s.SameWiring u := fun i j w hi hw => h i j w hi hw

variable {s u : State} (h : s.SameWiring u)

include h

theorem ring {j : Nat} (w : Nat) (hj : j ≤ 3) (hw : w < 134217728) : u.reg 0x1102 j w = s.reg 0x1102 j w := h _ _ _ (.inr (.inl ⟨rfl, hj⟩)) hw

theorem ownPort (p : Nat) {j : Nat} (hj : 1 ≤ j ∧ j ≤ 5) : u.reg (0x1110 + p) j = s.reg (0x1110 + p) j :=
  h _ _ _ (.inr (.inr ⟨by omega, hj⟩)) (by decide)

theorem ownDevice : u.ownDevice = s.ownDevice := congrArg BitVec.toNat (h _ _ _ (.inl ⟨rfl, rfl⟩) (by decide))
theorem ringSize : u.ringSize = s.ringSize := congrArg BitVec.toNat (h.ring 0 (by decide) (by decide))
theorem ringPos : u.ringPos = s.ringPos := congrArg BitVec.toNat (h.ring 0 (by decide) (by decide))
theorem portRole (p : Nat) : u.portRole p = s.portRole p := congrArg BitVec.toNat (h.ownPort p (by decide))
theorem ringLink (p : Nat) : u.ringLink p = s.ringLink p := by
  rw [State.ringLink, h.ringPos, h.ringSize, State.ringLink]

/-- BROKEN lists the same links. -/
theorem linkBroken (b : Nat) : u.linkBroken b = s.linkBroken b := by
  rw [Bool.eq_iff_iff, State.linkBroken_iff, State.linkBroken_iff]
  refine exists_congr fun i => and_congr_right fun hi => ?_
  rw [h.ring i (by decide) (by omega)]

/-- LINK_INFO tells the same. -/
theorem linkInfo (p : Nat) : u.linkInfo p = s.linkInfo p := by
  have hrate : u.regN (0x1110 + p) 0x02 = s.regN (0x1110 + p) 0x02 := congrArg BitVec.toNat (h.ownPort p (by decide))
  have hbroken : (List.range 8).map (fun i => u.reg 0x1102 0x02 i) = (List.range 8).map (fun i => s.reg 0x1102 0x02 i) :=
    List.map_congr_left fun i hi => h.ring i (by decide) (by have := List.mem_range.mp hi; omega)
  simp only [State.linkInfo, h.ownDevice, h.ringSize, h.ringPos, h.portRole, hrate, hbroken]

/-- With the same LINK_INFO received, the checks of R357 end the same. -/
theorem portChecks {p : Nat} (hpeer : (u.port p).peer = (s.port p).peer) : u.portChecks p = s.portChecks p := by
  have hexpect : u.regN (0x1110 + p) 0x05 = s.regN (0x1110 + p) 0x05 := congrArg BitVec.toNat (h.ownPort p (by decide))
  simp only [State.portChecks, h.ownDevice, h.ringSize, h.ringPos, h.portRole, hexpect, hpeer]

end State.SameWiring

/-! ## STATE and the sync port follow a port -/

theorem State.syncPortJudge_regs (s : State) (p : Nat) : SameRegs s (s.syncPortJudge p) [odKey (0x0904 + p) 5 0] := SameRegs.setRegN s _ _ _

/-- A port takes a STATE, and its sync port is judged. -/
def State.portTo (s : State) (p st : Nat) : State := (s.setRegN (0x1110 + p) 7 st).syncPortJudge p

theorem State.portTo_regs (s : State) (p st : Nat) : SameRegs s (s.portTo p st) [odKey (0x1110 + p) 7 0, odKey (0x0904 + p) 5 0] :=
  (SameRegs.setRegN s (0x1110 + p) 7 st).trans (State.syncPortJudge_regs _ p)

theorem State.portTo_state (s : State) {p st : Nat} (hst : st < 2 ^ 40) : (s.portTo p st).portState p = st := by
  refine State.portState_of_reg ?_ hst
  refine (SameRegs.reg (State.syncPortJudge_regs _ p) _ _ _ (by simp [odKey]; omega)).trans ?_
  exact State.reg_setRegN_same ..

end Sys2Proof.Machine

namespace Sys2Proof.Machine

/-! ## Judging a port (12, R357) -/

/-- The objects that judging a port moves: STATE, STATUS of its sync port, the log's counts. -/
def judgeKeys (p : Nat) : List Nat := [odKey (0x1110 + p) 7 0, odKey (0x0904 + p) 5 0, odKey 0x0500 6 0, odKey 0x0500 7 0]

/-- What judging port `p` leaves. -/
structure State.Judged (s u : State) (p : Nat) : Prop where
  frame : u = { s with regs := u.regs, log := u.log, halo := { s.halo with ports := u.halo.ports } }
  regs : SameRegs s u (judgeKeys p)
  state : u.portState p = if s.portChecks p = true then 3 else 4
  own : u.port p = { s.port p with since := (u.port p).since, restoring := (u.port p).restoring }
  others : ∀ q, q ≠ p → u.port q = s.port q
  calm : s.linkBroken (s.ringLink p) = false → (s.port p).restoring = false → (u.port p).restoring = false

theorem State.portTo_wiring (s : State) {p : Nat} (st : Nat) (hp : p < 4) : s.SameWiring (s.portTo p st) :=
  (s.portTo_regs p st).wiring (by simp [isWiring, odKey]; omega)

/-- A port that passes the checks is UP; since when, and whether RESTORED is due, is noted when it was not so before (R376). -/
def State.judgedUp (s : State) (p : Nat) : State :=
  (s.portTo p 3).when (s.portState p ≠ 3) (fun u => u.onPort p (fun x =>
    { x with since := u.clock, restoring := u.portRole p = 1 && p < 2 && u.ringSize ≠ 0 && u.linkBroken (u.ringLink p) }))

/-- A port that fails them is ISOLATED, which is logged when it was not so before. -/
def State.judgedApart (s : State) (p : Nat) : State :=
  (s.portTo p 4).when (s.portState p ≠ 4) (fun u => u.logPut 0x0803 (wd p) (wd (fld ((u.port p).peer.getD 0 0) 0 24)))

theorem State.judgePort_eq (s : State) (p : Nat) : s.judgePort p = if s.portChecks p then s.judgedUp p else s.judgedApart p := rfl

theorem State.judgedUp_judged (s : State) {p : Nat} (hp : p < 4) (h : s.portChecks p = true) : s.Judged (s.judgedUp p) p := by
  have hregs : SameRegs s (s.portTo p 3) (judgeKeys p) := (s.portTo_regs p 3).mono (by simp [judgeKeys])
  have hstate : (s.portTo p 3).portState p = if s.portChecks p = true then 3 else 4 := by
    rw [if_pos h, State.portTo_state s (by decide)]
  unfold State.judgedUp
  cases decide (s.portState p ≠ 3) with
  | false => exact ⟨rfl, hregs, hstate, rfl, fun _ _ => rfl, fun _ hr => hr⟩
  | true =>
    refine ⟨rfl, hregs, hstate, ?_, fun q hq => ?_, fun hb _ => ?_⟩
    · rw [State.when_true, State.port_onPort_same]
      rfl
    · rw [State.when_true, State.port_onPort_other _ _ (Ne.symm hq)]
      rfl
    · have hw := s.portTo_wiring 3 hp
      rw [State.when_true, State.port_onPort_same, hw.ringLink, hw.linkBroken, hb, Bool.and_false]

theorem State.judgedApart_judged (s : State) {p : Nat} (h : s.portChecks p = false) : s.Judged (s.judgedApart p) p := by
  have hregs : SameRegs s (s.portTo p 4) (judgeKeys p) := (s.portTo_regs p 4).mono (by simp [judgeKeys])
  have hstate : (s.portTo p 4).portState p = if s.portChecks p = true then 3 else 4 := by
    rw [h, if_neg Bool.false_ne_true, State.portTo_state s (by decide)]
  unfold State.judgedApart
  cases decide (s.portState p ≠ 4) with
  | false => exact ⟨rfl, hregs, hstate, rfl, fun _ _ => rfl, fun _ hr => hr⟩
  | true =>
    have hlog := State.logPut_eq (s.portTo p 4) 0x0803 (wd p) (wd (fld (((s.portTo p 4).port p).peer.getD 0 0) 0 24)) false
    have hlogregs := State.logPut_regs (s.portTo p 4) 0x0803 (wd p) (wd (fld (((s.portTo p 4).port p).peer.getD 0 0) 0 24)) false
    rw [State.when_true]
    generalize State.logPut (s.portTo p 4) _ _ _ = u at hlog hlogregs
    have hport (q : Nat) : u.port q = s.port q := State.port_of_halo (by rw [hlog]; rfl) q
    refine ⟨by rw [hlog]; rfl, (hregs.trans hlogregs).mono (by simp [judgeKeys]), ?_, by rw [hport], fun q _ => hport q, fun _ hr => by rwa [hport]⟩
    exact (congrArg BitVec.toNat (hlogregs.reg _ _ _ (by simp [odKey]; omega))).trans hstate

/-- Judging a port (12, R357). -/
theorem State.judgePort_judged (s : State) {p : Nat} (hp : p < 4) : s.Judged (s.judgePort p) p := by
  rw [State.judgePort_eq]
  cases h : s.portChecks p with
  | true => exact s.judgedUp_judged hp h
  | false => exact s.judgedApart_judged h

/-! ## All ports told and judged (12, R374, R357) -/

/-- The objects that judging every port moves. -/
def judgedKeys : List Nat := (List.range 4).flatMap judgeKeys

theorem not_mem_judgedKeys {i j w : Nat} (hj : j < 256) (hw : w < 134217728)
    (h : ¬ ((0x1110 ≤ i ∧ i < 0x1114 ∧ j = 7) ∨ (0x0904 ≤ i ∧ i < 0x0908 ∧ j = 5) ∨ (i = 0x0500 ∧ (j = 6 ∨ j = 7)))) : odKey i j w ∉ judgedKeys := by
  simp only [judgedKeys, judgeKeys, List.mem_flatMap, List.mem_range, List.mem_cons, List.not_mem_nil, or_false, odKey, not_exists, not_and]
  omega

/-- What telling and judging every port moves: no frame that waits is lost, no port that is not linked changes its STATE, and RESTORED comes
due on no port whose link is whole. -/
structure State.Rejudged (s u : State) : Prop where
  frame : u = { s with regs := u.regs, log := u.log, halo := { s.halo with ports := u.halo.ports } }
  regs : SameRegs s u judgedKeys
  down : ∀ q, s.portState q < 2 → u.portState q = s.portState q
  waiting : ∀ q, (s.port q).txq <+: (u.port q).txq
  calm : ∀ q, s.linkBroken (s.ringLink q) = false → (s.port q).restoring = false → (u.port q).restoring = false

namespace State.Rejudged

theorem refl (s : State) : s.Rejudged s := ⟨rfl, SameRegs.refl _ _, fun _ _ => rfl, fun _ => List.prefix_rfl, fun _ _ hr => hr⟩

theorem wiring {s u : State} (h : s.Rejudged u) : s.SameWiring u :=
  h.regs.wiring fun i j w hi hw => by
    refine not_mem_judgedKeys ?_ hw ?_ <;> (unfold isWiring at hi; omega)

theorem trans {s u v : State} (h : s.Rejudged u) (h' : u.Rejudged v) : s.Rejudged v where
  frame := by rw [h'.frame, h.frame]
  regs := (h.regs.trans h'.regs).mono (by simp)
  down q hq := (h'.down q (by rwa [h.down q hq])).trans (h.down q hq)
  waiting q := (h.waiting q).trans (h'.waiting q)
  calm q hb hr := h'.calm q (by rwa [h.wiring.ringLink, h.wiring.linkBroken]) (h.calm q hb hr)

theorem judgePort {s : State} {p : Nat} (hp : p < 4) (hlink : s.portLink p = true) : s.Rejudged (s.judgePort p) := by
  have hj := s.judgePort_judged hp
  generalize s.judgePort p = u at hj
  refine ⟨hj.frame, hj.regs.mono ?_, fun q hq => ?_, fun q => ?_, fun q hb hr => ?_⟩
  · exact fun k hk => List.mem_flatMap.mpr ⟨p, List.mem_range.mpr hp, hk⟩
  · have hqp : q ≠ p := by
      rintro rfl
      have := (s.portLink_iff q).mp hlink
      omega
    exact congrArg BitVec.toNat (hj.regs.reg _ _ _ (by simp [judgeKeys, odKey]; omega))
  · by_cases hqp : q = p
    · rw [hqp, hj.own]
    · rw [hj.others q hqp]
  · by_cases hqp : q = p
    · subst hqp; exact hj.calm hb hr
    · rwa [hj.others q hqp]

theorem sendLinkInfo (s : State) (p : Nat) : s.Rejudged (s.sendLinkInfo p) := by
  refine ⟨rfl, SameRegs.of_eq _ rfl, fun _ _ => rfl, fun q => ?_, fun q _ hr => ?_⟩ <;> by_cases hqp : p = q
  · subst hqp
    rw [State.sendLinkInfo, State.port_onPort_same]
    exact List.prefix_append ..
  · rw [State.sendLinkInfo, State.port_onPort_other _ _ hqp]
  · subst hqp
    rwa [State.sendLinkInfo, State.port_onPort_same]
  · rwa [State.sendLinkInfo, State.port_onPort_other _ _ hqp]

theorem linksJudged (s : State) : s.Rejudged s.linksJudged :=
  State.repeat_rel refl trans 4 (fun _ hp s => State.when_rel refl s _ (fun hlink => judgePort hp hlink)) s

theorem linksChanged (s : State) : s.Rejudged s.linksChanged :=
  (State.repeat_rel refl trans 4 (fun p _ s => State.when_rel refl s _ (fun _ => sendLinkInfo s p)) s).trans (linksJudged _)

end State.Rejudged

/-! ## BROKEN (12, R375, R376) -/

/-- An entry of BROKEN is a change of the ring: the link enters a place that was free, and every port is told and judged; else nothing moves. -/
theorem State.addBroken_cases (s : State) (b : Nat) :
    (s.addBroken b = s ∧ (s.linkBroken b = true ∨ ∀ i < 8, bit (s.reg 0x1102 0x02 i) 24 = true)) ∨
      ∃ i < 8, bit (s.reg 0x1102 0x02 i) 24 = false ∧ s.addBroken b = (s.setRegW 0x1102 0x02 i (wd (2 ^ 24 + b))).linksChanged := by
  unfold State.addBroken
  split
  · next h => exact .inl ⟨rfl, .inl h⟩
  · split
    · next i hi =>
      have hmem := List.mem_range.mp (List.mem_of_find?_eq_some hi)
      exact .inr ⟨i, hmem, by simpa using List.find?_some hi, rfl⟩
    · next hnone =>
      exact .inl ⟨rfl, .inr fun i hi => by simpa using List.find?_eq_none.mp hnone i (List.mem_range.mpr hi)⟩

/-- Every entry of BROKEN that names a link becomes free. -/
def State.unlist (s : State) (b n : Nat) : State :=
  s.repeat n (fun i s => s.when (bit (s.reg 0x1102 0x02 i) 24 && fld (s.reg 0x1102 0x02 i) 0 24 = b) (fun s => s.setRegW 0x1102 0x02 i 0))

theorem State.dropBroken_eq (s : State) (b : Nat) : s.dropBroken b = if s.linkBroken b then (s.unlist b 8).linksChanged else s := rfl

theorem State.unlist_succ (s : State) (b n : Nat) : s.unlist b (n + 1) =
    (s.unlist b n).when (bit ((s.unlist b n).reg 0x1102 0x02 n) 24 && fld ((s.unlist b n).reg 0x1102 0x02 n) 0 24 = b)
      (fun s => s.setRegW 0x1102 0x02 n 0) := s.repeat_succ n _

theorem State.unlist_moved (s : State) (b n : Nat) : s.regsMoved (s.unlist b n) :=
  State.repeat_rel State.regsMoved.refl State.regsMoved.trans n
    (fun _ _ s => State.when_rel State.regsMoved.refl s _ (fun _ => State.regsMoved.setRegW s _ _ _ _)) s

/-- The words of BROKEN. -/
def brokenKeys : List Nat := (List.range 8).map (fun i => odKey 0x1102 2 i)

theorem State.setBroken_regs (s : State) {i : Nat} (v : Word) (hi : i < 8) : SameRegs s (s.setRegW 0x1102 2 i v) brokenKeys :=
  (SameRegs.setRegW s 0x1102 2 i v).mono fun k hk => by
    rw [List.mem_singleton.mp hk]
    exact List.mem_map_of_mem (List.mem_range.mpr hi)

theorem State.unlist_regs (s : State) (b : Nat) {n : Nat} (hn : n ≤ 8) : SameRegs s (s.unlist b n) brokenKeys :=
  State.repeat_rel (R := fun s u => SameRegs s u brokenKeys) (fun s => SameRegs.refl s _) (fun h h' => (h.trans h').mono (by simp)) n
    (fun i hi s => State.when_rel (R := fun s u => SameRegs s u brokenKeys) (fun s => SameRegs.refl s _) s _
      (fun _ => s.setBroken_regs 0 (by omega))) s

/-- An entry that was passed names the link no more. -/
theorem State.unlist_entry (s : State) (b n : Nat) {i : Nat} (hi : i < n) (hn : n ≤ 8) :
    (bit ((s.unlist b n).reg 0x1102 0x02 i) 24 && fld ((s.unlist b n).reg 0x1102 0x02 i) 0 24 = b) = false := by
  induction n with
  | zero => omega
  | succ n ih =>
    rw [State.unlist_succ]
    generalize s.unlist b n = u at ih
    by_cases hin : i = n
    · subst hin
      cases hc : (bit (u.reg 0x1102 0x02 i) 24 && fld (u.reg 0x1102 0x02 i) 0 24 = b) with
      | false => exact hc
      | true => rw [State.when_true, State.reg_setRegW_same]; rfl
    · cases (bit (u.reg 0x1102 0x02 n) 24 && fld (u.reg 0x1102 0x02 n) 0 24 = b : Bool) with
      | false => exact ih (by omega) (by omega)
      | true =>
        rw [State.when_true, State.reg_setRegW, if_neg (by simp [odKey]; omega)]
        exact ih (by omega) (by omega)

theorem State.linkBroken_unlist (s : State) (b : Nat) : (s.unlist b 8).linkBroken b = false :=
  List.any_eq_false.mpr fun i hi => by
    simpa using s.unlist_entry b 8 (List.mem_range.mp hi) le_rfl

/-- The objects that a change of BROKEN moves: its words, and what judging every port moves. -/
def ringKeys : List Nat := brokenKeys ++ judgedKeys

/-- What a change of BROKEN moves. -/
structure State.Rewired (s u : State) : Prop where
  frame : u = { s with regs := u.regs, log := u.log, halo := { s.halo with ports := u.halo.ports } }
  regs : SameRegs s u ringKeys
  down : ∀ q, s.portState q < 2 → u.portState q = s.portState q
  waiting : ∀ q, (s.port q).txq <+: (u.port q).txq

theorem State.Rewired.refl (s : State) : s.Rewired s := ⟨rfl, SameRegs.refl _ _, fun _ _ => rfl, fun _ => List.prefix_rfl⟩

/-- A change of BROKEN's words, then of the links. -/
theorem State.Rewired.of_words {s b u : State} (hmoved : s.regsMoved b) (hregs : SameRegs s b brokenKeys) (hu : b.Rejudged u) : s.Rewired u where
  frame := by rw [hu.frame, hmoved]
  regs := hregs.trans hu.regs
  down q hq := by
    have hb : b.portState q = s.portState q := congrArg BitVec.toNat (hregs.reg _ _ _ (by simp [brokenKeys, odKey]; omega))
    exact (hu.down q (by rwa [hb])).trans hb
  waiting q := by
    have hb : b.port q = s.port q := State.port_of_halo (by rw [hmoved]) q
    rw [← hb]
    exact hu.waiting q

theorem State.addBroken_rewired (s : State) (b : Nat) : s.Rewired (s.addBroken b) := by
  obtain ⟨h, -⟩ | ⟨i, hi, -, h⟩ := s.addBroken_cases b
  · rw [h]; exact .refl s
  · rw [h]
    exact .of_words (State.regsMoved.setRegW s _ _ _ _) (s.setBroken_regs _ hi) (.linksChanged _)

theorem State.dropBroken_rewired (s : State) (b : Nat) : s.Rewired (s.dropBroken b) := by
  rw [State.dropBroken_eq]
  split
  · exact .of_words (s.unlist_moved b 8) (s.unlist_regs b le_rfl) (.linksChanged _)
  · exact .refl s

/-- A link taken out of BROKEN is listed no more. -/
theorem State.linkBroken_dropBroken (s : State) (b : Nat) : (s.dropBroken b).linkBroken b = false := by
  rw [State.dropBroken_eq]
  split
  · exact ((State.Rejudged.linksChanged _).wiring.linkBroken b).trans (s.linkBroken_unlist b)
  · next h => simpa using h

/-- The entry of a link in BROKEN. -/
theorem brokenEntry {b : Nat} (hb : b < 2 ^ 24) : bit (wd (2 ^ 24 + b)) 24 = true ∧ fld (wd (2 ^ 24 + b)) 0 24 = b := by
  have hto : (wd (2 ^ 24 + b)).toNat = 2 ^ 24 + b := wd_toNat_of_lt (by omega)
  constructor
  · rw [bit, BitVec.getLsbD, hto, Nat.testBit_eq_decide_div_mod_eq]
    simp; omega
  · rw [fld, hto]
    simp; omega

/-- A link enters BROKEN when a place is free, and takes nothing else out. -/
theorem State.addBroken_lists {s : State} {b : Nat} (hb : b < 2 ^ 24) (hnew : s.linkBroken b = false)
    (hfree : ∃ i < 8, bit (s.reg 0x1102 0x02 i) 24 = false) :
    (s.addBroken b).linkBroken b = true ∧ ∀ c, s.linkBroken c = true → (s.addBroken b).linkBroken c = true := by
  obtain ⟨-, h | h⟩ | ⟨i, hi, hplace, h⟩ := s.addBroken_cases b
  · simp [hnew] at h
  · obtain ⟨i, hi, hplace⟩ := hfree
    simp [h i hi] at hplace
  · have hw := (State.Rejudged.linksChanged (s.setRegW 0x1102 0x02 i (wd (2 ^ 24 + b)))).wiring
    obtain ⟨hbit, hfld⟩ := brokenEntry hb
    rw [h]
    refine ⟨?_, fun c hc => ?_⟩
    · rw [hw.linkBroken, State.linkBroken_iff]
      exact ⟨i, hi, by rwa [State.reg_setRegW_same], by rwa [State.reg_setRegW_same]⟩
    · rw [hw.linkBroken, State.linkBroken_iff]
      obtain ⟨k, hk, hkbit, hkfld⟩ := (s.linkBroken_iff c).mp hc
      have hik : i ≠ k := by rintro rfl; simp [hplace] at hkbit
      have hother : (s.setRegW 0x1102 0x02 i (wd (2 ^ 24 + b))).reg 0x1102 0x02 k = s.reg 0x1102 0x02 k :=
        (State.reg_setRegW ..).trans (if_neg (by simp [odKey]; omega))
      exact ⟨k, hk, by rwa [hother], by rwa [hother]⟩

end Sys2Proof.Machine

namespace Sys2Proof.Machine

/-! ## Log records and faults of the links -/

/-- The log's counts. -/
def logKeys : List Nat := [odKey 0x0500 6 0, odKey 0x0500 7 0]

theorem not_mem_logKeys {i j w : Nat} (hi : i ≠ 0x0500) (hj : j < 256) (hw : w < 134217728) : odKey i j w ∉ logKeys := by
  simp [logKeys, odKey]; omega

/-- A state that moved at most the log and what is due. -/
structure State.Noted (s u : State) : Prop where
  frame : u = { s with regs := u.regs, log := u.log, agenda := u.agenda }
  regs : SameRegs s u logKeys

namespace State.Noted

theorem refl (s : State) : s.Noted s := ⟨rfl, SameRegs.refl _ _⟩

theorem trans {s u v : State} (h : s.Noted u) (h' : u.Noted v) : s.Noted v := ⟨by rw [h'.frame, h.frame], (h.regs.trans h'.regs).mono (by simp)⟩

theorem logPut (s : State) (code : Nat) (a b : Word) : s.Noted (s.logPut code a b) := ⟨by rw [State.logPut_eq], s.logPut_regs code a b false⟩

theorem raiseFault (s : State) (source cause sev : Nat) (detail : Word) : s.Noted (s.raiseFault source cause sev detail) := ⟨rfl, SameRegs.refl _ _⟩

variable {s u : State} (h : s.Noted u)

include h

theorem reg {i j : Nat} (w : Nat) (hi : i ≠ 0x0500) (hj : j < 256) (hw : w < 134217728) : u.reg i j w = s.reg i j w :=
  h.regs.reg _ _ _ (not_mem_logKeys hi hj hw)

theorem portReg (p : Nat) {j : Nat} (hj : j < 256) : u.reg (0x1110 + p) j = s.reg (0x1110 + p) j := h.reg 0 (by omega) hj (by decide)

theorem port (q : Nat) : u.port q = s.port q := State.port_of_halo (by rw [h.frame]) q

theorem clock : u.clock = s.clock := by rw [h.frame]

theorem now : u.now = s.now := h.regs.now h.clock (by decide) (by decide)

end State.Noted

theorem State.agenda_logPut (s : State) (code : Nat) (a b : Word) : (s.logPut code a b).agenda = s.agenda := by rw [State.logPut_eq]

/-! ## A frame leaves an egress (12, R351) -/

theorem State.txLeft_cases (s : State) (e : TxFrame) : s.txLeft e = s ∨ ∃ p vc, s.txLeft e = s.freeBuffer p vc := by
  unfold State.txLeft
  split
  · next p vc _ _ =>
    simp only [State.when]
    split
    · exact .inr ⟨p, vc, rfl⟩
    · exact .inl rfl
  · exact .inl rfl

theorem State.txLeft_portsMoved (s : State) (e : TxFrame) : s.portsMoved (s.txLeft e) := by
  obtain h | ⟨p, vc, h⟩ := s.txLeft_cases e <;> rw [h]
  · exact .refl s
  · exact s.freeBuffer_portsMoved p vc

/-- A frame that filled no buffer frees none. -/
theorem State.txLeft_of_owes_none (s : State) {e : TxFrame} (h : e.owes = none) : s.txLeft e = s := by
  unfold State.txLeft
  split
  · next hsome => rw [h] at hsome; cases hsome
  · rfl

/-- A frame of this device frees none. -/
theorem State.txLeft_of_inp_none (s : State) {e : TxFrame} (h : e.inp = none) : s.txLeft e = s := by
  unfold State.txLeft
  rw [h]

/-- The credit that goes back is a control word: nothing else of a port moves. -/
theorem State.txLeft_port (s : State) (e : TxFrame) (q : Nat) : (s.txLeft e).port q = { s.port q with ctl := ((s.txLeft e).port q).ctl } := by
  obtain h | ⟨p, vc, h⟩ := s.txLeft_cases e <;> rw [h]
  by_cases hq : p = q
  · subst hq
    rw [State.freeBuffer, State.control, State.port_onPort_same]
  · rw [State.freeBuffer, State.control, State.port_onPort_other _ _ hq]

theorem State.foldl_txLeft_portsMoved (s : State) (l : List TxFrame) : s.portsMoved (l.foldl (fun s e => s.txLeft e) s) :=
  State.foldl_rel State.portsMoved.refl State.portsMoved.trans l (fun e _ s => s.txLeft_portsMoved e) s

theorem State.foldl_txLeft_own (s : State) {l : List TxFrame} (h : ∀ e ∈ l, e.inp = none) : l.foldl (fun s e => s.txLeft e) s = s := by
  induction l with
  | nil => rfl
  | cons e l ih =>
    rw [List.foldl_cons, State.txLeft_of_inp_none s (h e (List.mem_cons_self ..))]
    exact ih fun d hd => h d (List.mem_cons_of_mem _ hd)

/-! ## A link is gone (12, R355) -/

/-- Frames that filled a buffer of port `p` fill none, at the egress of port `q`. -/
def State.unfill (s : State) (p q : Nat) : State :=
  s.when ((s.port q).txq.any (fun e => e.inp = some p && e.owes.isSome)) (fun s =>
    s.onPort q (fun x => { x with txq := x.txq.map (fun e => if e.inp = some p then { e with owes := none } else e) }))

theorem State.unfill_portsMoved (s : State) (p q : Nat) : s.portsMoved (s.unfill p q) :=
  State.when_rel State.portsMoved.refl s _ (fun _ => (rfl : s.portsMoved (s.onPort q _)))

theorem State.unfill_other (s : State) (p : Nat) {q k : Nat} (h : q ≠ k) : (s.unfill p q).port k = s.port k :=
  State.when_rel (R := fun s u => u.port k = s.port k) (fun _ => rfl) s _ (fun _ => State.port_onPort_other _ _ h)

/-- An egress with no frame of port `p` is as it was. -/
theorem State.unfill_none (s : State) {p q : Nat} (h : ∀ e ∈ (s.port q).txq, e.inp ≠ some p) : s.unfill p q = s := by
  have hnone : (s.port q).txq.any (fun e => e.inp = some p && e.owes.isSome) = false :=
    List.any_eq_false.mpr fun e he => by simp [h e he]
  rw [State.unfill, hnone]
  rfl

/-- As `State.unfill`, at the first `n` egresses. -/
def State.unowed (s : State) (p n : Nat) : State := s.repeat n (fun q s => s.unfill p q)

theorem State.unowed_portsMoved (s : State) (p n : Nat) : s.portsMoved (s.unowed p n) :=
  State.repeat_rel State.portsMoved.refl State.portsMoved.trans n (fun q _ s => s.unfill_portsMoved p q) s

/-- An egress with no frame of port `p` is as it was. -/
theorem State.unowed_port (s : State) (p n : Nat) {q : Nat} (h : n ≤ q ∨ ∀ e ∈ (s.port q).txq, e.inp ≠ some p) :
    (s.unowed p n).port q = s.port q := by
  induction n with
  | zero => rfl
  | succ n ih =>
    have hprev := ih (h.imp_left (by omega))
    have hsucc : s.unowed p (n + 1) = (s.unowed p n).unfill p n := s.repeat_succ n _
    rw [hsucc]
    by_cases hq : n = q
    · subst hq
      rw [State.unfill_none _ (by rw [hprev]; exact h.resolve_left (by omega)), hprev]
    · rw [State.unfill_other _ p hq, hprev]

/-- What waited for the egress of port `p` is discarded and counted, the port is idle. -/
def State.cleared (s : State) (p : Nat) : State :=
  (s.port p).txq.foldl (fun s e => s.txLeft e) (((s.discard p (s.port p).txq.length).setPort p { PortSt.idle with since := s.clock }).unowed p 4)

theorem State.portLost_eq (s : State) (p : Nat) : s.portLost p =
    ((((s.cleared p).setRegN (0x1110 + p) 7 1).setRegN (0x1110 + p) 8 0).setRegN (0x1110 + p) 9 0).syncPortJudge p := rfl

theorem State.cleared_eq (s : State) (p : Nat) : s.cleared p =
    { s.discard p (s.port p).txq.length with halo := { s.halo with ports := (s.cleared p).halo.ports } } := by
  have hunowed := ((s.discard p (s.port p).txq.length).setPort p { PortSt.idle with since := s.clock }).unowed_portsMoved p 4
  have hleft := State.foldl_txLeft_portsMoved (((s.discard p (s.port p).txq.length).setPort p { PortSt.idle with since := s.clock }).unowed p 4)
    (s.port p).txq
  exact hunowed.trans hleft

theorem State.cleared_own (s : State) {p : Nat} (h : ∀ e ∈ (s.port p).txq, e.inp = none) :
    (s.cleared p).port p = { PortSt.idle with since := s.clock } := by
  rw [State.cleared, State.foldl_txLeft_own _ h, State.unowed_port, State.port_setPort_same]
  rw [State.port_setPort_same]
  exact .inr fun e he => nomatch he

theorem State.cleared_others (s : State) {p q : Nat} (h : ∀ e ∈ (s.port p).txq, e.inp = none)
    (hfills : ∀ q < 4, ∀ e ∈ (s.port q).txq, e.inp ≠ some p) (hq : q ≠ p) : (s.cleared p).port q = s.port q := by
  have hother : ((s.discard p (s.port p).txq.length).setPort p { PortSt.idle with since := s.clock }).port q = s.port q :=
    State.port_setPort_other _ _ (Ne.symm hq)
  rw [State.cleared, State.foldl_txLeft_own _ h, State.unowed_port, hother]
  rw [hother]
  exact (Nat.lt_or_ge q 4).symm.imp_right (hfills q)

/-- The objects that the loss of a link moves: STATE, RATE, LANES, DISCARDS, STATUS of the sync port. -/
def lostKeys (p : Nat) : List Nat := [7, 8, 9, 0x10].map (fun k => odKey (0x1110 + p) k 0) ++ [odKey (0x0904 + p) 0x05 0]

/-- What the loss of the link of port `p` leaves. -/
structure State.Lost (s u : State) (p : Nat) : Prop where
  frame : u = { s with regs := u.regs, halo := { s.halo with ports := u.halo.ports } }
  regs : SameRegs s u (lostKeys p)
  state : u.portState p = 1
  discards : u.reg (0x1110 + p) 0x10 = s.reg (0x1110 + p) 0x10 + BitVec.ofNat 40 (s.port p).txq.length
  own : (∀ e ∈ (s.port p).txq, e.inp = none) → u.port p = { PortSt.idle with since := s.clock }
  others : (∀ e ∈ (s.port p).txq, e.inp = none) → (∀ q < 4, ∀ e ∈ (s.port q).txq, e.inp ≠ some p) → ∀ q, q ≠ p → u.port q = s.port q

theorem State.portLost_lost (s : State) (p : Nat) : s.Lost (s.portLost p) p := by
  have hcleared := s.cleared_eq p
  have hown := s.cleared_own (p := p)
  have hothers := fun {q} => s.cleared_others (p := p) (q := q)
  rw [State.portLost_eq]
  generalize s.cleared p = b at hcleared hown hothers
  have hcount : SameRegs s b [odKey (0x1110 + p) 0x10 0] :=
    (SameRegs.addReg s (0x1110 + p) 0x10 (s.port p).txq.length 0).trans (ls := []) (SameRegs.of_eq _ (by rw [hcleared]; rfl)) |>.mono (by simp)
  have hdown : SameRegs b (((b.setRegN (0x1110 + p) 7 1).setRegN (0x1110 + p) 8 0).setRegN (0x1110 + p) 9 0) ([7, 8, 9].map (fun k => odKey (0x1110 + p) k 0)) :=
    ((SameRegs.setRegN b (0x1110 + p) 7 1).trans (SameRegs.setRegN _ (0x1110 + p) 8 0)).trans (SameRegs.setRegN _ (0x1110 + p) 9 0)
  have hsync := State.syncPortJudge_regs (((b.setRegN (0x1110 + p) 7 1).setRegN (0x1110 + p) 8 0).setRegN (0x1110 + p) 9 0) p
  refine ⟨by rw [hcleared]; rfl, ((hcount.trans hdown).trans hsync).mono (by simp [lostKeys]), ?_, ?_, fun h => hown h, fun h hf q hq => hothers h hf hq⟩
  · refine State.portState_of_reg ((hsync.reg _ _ _ (by simp [odKey]; omega)).trans ?_) (by decide)
    rw [(SameRegs.setRegN _ (0x1110 + p) 9 0).reg _ _ _ (by simp [odKey]), (SameRegs.setRegN _ (0x1110 + p) 8 0).reg _ _ _ (by simp [odKey]),
      State.reg_setRegN_same]
  · refine ((hdown.trans hsync).reg _ _ _ (by simp [odKey]; omega)).trans ?_
    rw [hcleared]
    exact State.reg_addReg_same ..

/-! ## RING_STATE of this device (12, R363, R375, R376) -/

theorem State.portOpen_of_regs {s u : State} (h : u.regs = s.regs) (p : Nat) : u.portOpen p = s.portOpen p := by
  have hu : u.portOpen p = ({ s with regs := u.regs } : State).portOpen p := rfl
  rw [hu, h]

/-- A broadcast of this device goes to every open port. -/
theorem State.broadcastOn_own (s : State) (f : Frame) : s.broadcastOn none f = s.sendOn s.portOpen (fun _ => f) 4 :=
  State.repeat_eq_sendOn (fun p x hx => by simp [State.portOpen_of_regs hx.regs]) 4

/-- The RING_STATE frame that tells of link `b` next. -/
def State.ringFrame (s : State) (kind b : Nat) : Frame :=
  mkFrame 9 0xFFFFFF s.ownDevice [wd (kind * 2 ^ 36) ||| wd (s.halo.bseq + 1).toNat, wd b]

/-- What RING_STATE of this device moves. -/
structure State.RingTold (s u : State) (kind b : Nat) : Prop where
  frame : u = { s with halo := { s.halo with bseq := s.halo.bseq + 1, ports := u.halo.ports } }
  sent : ∀ q < 4, s.portOpen q = true →
    (u.port q).txq = (s.port q).txq ++ [⟨3, { s.ringFrame kind b with vc := s.regB (0x1110 + q) 0x04 }, none, none⟩]
  others : ∀ q, s.portOpen q = false → u.port q = s.port q
  restoring : ∀ q, (u.port q).restoring = (s.port q).restoring

theorem State.restoring_egress (s : State) (inp : Option Nat) (p : Nat) (f : Frame) (b : Bool) (q : Nat) :
    ((s.egress inp p f b).port q).restoring = (s.port q).restoring := by
  by_cases hq : p = q
  · subst hq
    rw [State.egress, State.port_onPort_same]
  · rw [State.egress_other _ _ _ _ hq]

theorem State.ringState_told (s : State) (kind b : Nat) : s.RingTold (s.ringState kind b) kind b := by
  obtain ⟨c, hc⟩ : ∃ c : State, c = { s with halo := { s.halo with bseq := s.halo.bseq + 1 } } := ⟨_, rfl⟩
  have hopen : c.portOpen = s.portOpen := funext fun q => State.portOpen_of_regs (by rw [hc]) q
  have heq : s.ringState kind b = c.broadcastOn none (s.ringFrame kind b) := by
    rw [hc]
    rfl
  have hmoved := c.sendOn_portsMoved s.portOpen (fun _ => s.ringFrame kind b) 4
  have hport (q : Nat) : c.port q = s.port q := State.port_of_ports (by rw [hc]) q
  rw [heq, State.broadcastOn_own, hopen]
  refine ⟨?_, fun q hq ho => ?_, fun q ho => ?_, fun q => ?_⟩
  · rw [hmoved, hc]
  · rw [c.sendOn_port _ _ 4 hq ho, hport, hc]
    rfl
  · rw [c.sendOn_other _ _ 4 (.inl ho), hport]
  · rw [← hport]
    exact State.repeat_rel (R := fun s u => (u.port q).restoring = (s.port q).restoring) (fun _ => rfl) (fun h h' => h'.trans h) 4
      (fun p _ s => State.when_rel (R := fun s u => (u.port q).restoring = (s.port q).restoring) (fun _ => rfl) s _
        (fun _ => s.restoring_egress none p _ false q)) c

/-! ## The ring wraps (12, R375) -/

/-- The indices of the objects of the links: ports, sync ports, log, ring. -/
def ofLinks (i : Nat) : Bool := (0x1110 ≤ i && i < 0x1114) || (0x0904 ≤ i && i < 0x0908) || i == 0x0500 || i == 0x1102

theorem SameRegs.ofLinks {s u : State} {ks : List Nat} (h : SameRegs s u ks) (hk : ∀ k ∈ ks, Machine.ofLinks (k / 134217728 / 256) = true) :
    SameOutside s u Machine.ofLinks := h.outside hk

theorem ofLinks_ringKeys : ∀ k ∈ ringKeys, ofLinks (k / 134217728 / 256) = true := by decide +kernel

theorem ofLinks_logKeys : ∀ k ∈ logKeys, ofLinks (k / 134217728 / 256) = true := by decide +kernel

theorem ofLinks_lostKeys {p : Nat} (hp : p < 4) : ∀ k ∈ lostKeys p, ofLinks (k / 134217728 / 256) = true := by
  simp [lostKeys, odKey_index, ofLinks]; omega

/-- A step that leaves words outside the links' objects leaves STATE of the device. -/
theorem SameOutside.devState {s u : State} (h : SameOutside s u ofLinks) : u.reg 0x0100 0x00 = s.reg 0x0100 0x00 :=
  h.reg (by decide) (by decide) (by decide)

/-- What a ring wrap leaves, at a device beside the broken link. -/
structure State.Wrapped (s u : State) : Prop where
  frame : u = { s with regs := u.regs, log := u.log, halo := u.halo }
  outside : SameOutside s u ofLinks
  down : ∀ q, s.portState q < 2 → u.portState q = s.portState q
  count : u.reg 0x1102 0x04 = s.reg 0x1102 0x04 + 1
  time : u.reg80 0x1102 0x05 = s.now

theorem not_mem_ringKeys {i j w : Nat} (hj : j < 256) (hw : w < 134217728)
    (h : ¬ ((0x1110 ≤ i ∧ i < 0x1114 ∧ j = 7) ∨ (0x0904 ≤ i ∧ i < 0x0908 ∧ j = 5) ∨ (i = 0x0500 ∧ (j = 6 ∨ j = 7)) ∨ (i = 0x1102 ∧ j = 2))) :
    odKey i j w ∉ ringKeys := by
  rw [ringKeys, List.mem_append, not_or]
  refine ⟨?_, not_mem_judgedKeys hj hw (by omega)⟩
  simp only [brokenKeys, List.mem_map, List.mem_range, odKey, not_exists, not_and]
  omega

/-- A wrap is counted, and its instant kept. -/
def State.countWrap (s : State) : State := (s.addReg 0x1102 0x04 1).setReg80 0x1102 0x05 s.now

theorem State.countWrap_moved (s : State) : s.regsMoved s.countWrap := (State.regsMoved.addReg s 0x1102 4 1 0).trans (State.regsMoved.setReg80 _ 0x1102 5 _)

theorem State.countWrap_regs (s : State) : SameRegs s s.countWrap [odKey 0x1102 4 0, odKey 0x1102 5 0, odKey 0x1102 5 1] :=
  (SameRegs.addReg s 0x1102 4 1 0).trans (SameRegs.setReg80 _ 0x1102 5 _)

theorem State.countWrap_count (s : State) : s.countWrap.reg 0x1102 4 = s.reg 0x1102 4 + 1 :=
  ((SameRegs.setReg80 _ 0x1102 5 _).reg _ _ _ (by decide)).trans (State.reg_addReg_same ..)

theorem State.countWrap_time (s : State) : s.countWrap.reg80 0x1102 5 = s.now := State.reg80_setReg80_same ..

theorem State.ringWrap_eq (s : State) {p : Nat} (lost : Nat) (h : s.portRole p = 1 ∧ s.ringSize ≠ 0 ∧ p < 2) : s.ringWrap p lost =
    (((s.addBroken (s.ringLink p)).ringState 1 (s.ringLink p)).logPut 0x0805 (wd (s.ringLink p)) (wd lost)).countWrap := if_pos h

theorem State.ringWrap_wrapped (s : State) {p : Nat} (lost : Nat) (hrole : s.portRole p = 1) (hsize : s.ringSize ≠ 0) (hp : p < 2) :
    s.Wrapped (s.ringWrap p lost) := by
  have hadd := s.addBroken_rewired (s.ringLink p)
  have htold := (s.addBroken (s.ringLink p)).ringState_told 1 (s.ringLink p)
  have hlog := State.Noted.logPut ((s.addBroken (s.ringLink p)).ringState 1 (s.ringLink p)) 0x0805 (wd (s.ringLink p)) (wd lost)
  rw [State.ringWrap_eq s lost ⟨hrole, hsize, hp⟩]
  have hagenda := State.agenda_logPut ((s.addBroken (s.ringLink p)).ringState 1 (s.ringLink p)) 0x0805 (wd (s.ringLink p)) (wd lost)
  generalize State.logPut _ _ _ _ = c at hlog hagenda
  generalize State.ringState _ _ _ = b at hlog htold hagenda
  generalize s.addBroken _ = a at hadd htold
  have htoldregs : b.regs = a.regs := by rw [htold.frame]
  have hregs : SameRegs s c (ringKeys ++ logKeys) :=
    hadd.regs.trans (((SameRegs.of_eq [] htoldregs).trans hlog.regs).mono (by simp))
  have hclock : c.clock = s.clock := by rw [hlog.clock, htold.frame, hadd.frame]
  have hnow : c.now = s.now := hregs.now hclock (by decide +kernel) (by decide +kernel)
  refine ⟨?_, ?_, fun q hq => ?_, ?_, ?_⟩
  · rw [c.countWrap_moved, hlog.frame, hagenda, htold.frame, hadd.frame]
  · refine (hregs.trans c.countWrap_regs).ofLinks ?_
    simp only [List.forall_mem_append]
    exact ⟨⟨ofLinks_ringKeys, ofLinks_logKeys⟩, by decide +kernel⟩
  · refine Eq.trans ?_ (hadd.down q hq)
    refine congrArg BitVec.toNat ((c.countWrap_regs.reg _ _ _ (by simp [odKey]; omega)).trans ((hlog.portReg q (by decide)).trans ?_))
    exact State.reg_of_regs htoldregs _ _ _
  · rw [State.countWrap_count, hregs.reg _ _ _ (by rw [List.mem_append, not_or]; exact ⟨not_mem_ringKeys (by decide) (by decide) (by decide), by decide⟩)]
  · exact c.countWrap_time.trans hnow

/-- Elsewhere than beside a ring link nothing wraps. -/
theorem State.ringWrap_none (s : State) {p : Nat} (lost : Nat) (h : ¬ (s.portRole p = 1 ∧ s.ringSize ≠ 0 ∧ p < 2)) : s.ringWrap p lost = s := if_neg h

/-! ## A port goes DOWN on a fault (12, R355) -/

/-- The link is lost, logged and its S2 fault due. -/
def State.linkFails (s : State) (p : Nat) : State := ((s.portLost p).logPut 0x0802 (wd p) 0).raiseFault (0x42 + p) 0x11 2 0

theorem State.portDown_eq (s : State) (p lost : Nat) : s.portDown p lost = (s.linkFails p).ringWrap p lost := rfl

/-- What the failure of a link leaves. -/
structure State.Failed (s u : State) (p : Nat) : Prop where
  frame : u = { s with regs := u.regs, halo := u.halo, log := u.log, agenda := u.agenda }
  regs : SameRegs s u (lostKeys p ++ logKeys)
  due : u.agenda = s.agenda ++ [.faultRaise (Fin.ofNat 512 (0x42 + p)) 0x11 2 0 false s.clock]
  state : u.portState p = 1
  discards : u.reg (0x1110 + p) 0x10 = s.reg (0x1110 + p) 0x10 + BitVec.ofNat 40 (s.port p).txq.length
  port : ∀ q, u.port q = (s.portLost p).port q

theorem State.linkFails_failed (s : State) (p : Nat) : s.Failed (s.linkFails p) p := by
  have hlost := s.portLost_lost p
  have hlog := State.Noted.logPut (s.portLost p) 0x0802 (wd p) 0
  have hagenda := State.agenda_logPut (s.portLost p) 0x0802 (wd p) 0
  have hfault := State.Noted.raiseFault ((s.portLost p).logPut 0x0802 (wd p) 0) (0x42 + p) 0x11 2 0
  have hnoted := hlog.trans hfault
  have hclock : ((s.portLost p).logPut 0x0802 (wd p) 0).clock = s.clock := by rw [hlog.clock, hlost.frame]
  have hdue : (s.linkFails p).agenda = s.agenda ++ [.faultRaise (Fin.ofNat 512 (0x42 + p)) 0x11 2 0 false s.clock] := by
    change (State.agenda _) ++ [Instr.faultRaise (Fin.ofNat 512 (0x42 + p)) 0x11 2 0 false (State.clock _)] = _
    rw [hclock, hagenda, hlost.frame]
  refine ⟨?_, hlost.regs.trans hnoted.regs, hdue, ?_, ?_, hnoted.port⟩
  · rw [State.linkFails, hnoted.frame, hlost.frame]
  · exact (congrArg BitVec.toNat (hnoted.portReg p (by decide))).trans hlost.state
  · exact (hnoted.portReg p (by decide)).trans hlost.discards

theorem State.Failed.role {s u : State} {p : Nat} (h : s.Failed u p) : u.portRole p = s.portRole p :=
  congrArg BitVec.toNat (h.regs.reg _ _ _ (by simp [lostKeys, logKeys, odKey]; omega))

theorem State.Failed.outside {s u : State} {p : Nat} (h : s.Failed u p) (hp : p < 4) : SameOutside s u ofLinks :=
  h.regs.ofLinks (List.forall_mem_append.mpr ⟨ofLinks_lostKeys hp, ofLinks_logKeys⟩)

theorem State.Failed.ringSize {s u : State} {p : Nat} (h : s.Failed u p) : u.ringSize = s.ringSize :=
  congrArg BitVec.toNat (h.regs.reg _ _ _ (by simp [lostKeys, logKeys, odKey]; omega))

/-- Beside no ring link a failure wraps nothing. -/
theorem State.portDown_elsewhere (s : State) {p : Nat} (lost : Nat) (h : s.portRole p ≠ 1) : s.portDown p lost = s.linkFails p := by
  rw [State.portDown_eq]
  refine State.ringWrap_none _ _ fun hring => h ?_
  rw [← (s.linkFails_failed p).role]
  exact hring.1

/-- What a port's going DOWN leaves, wherever it is. -/
structure State.Downed (s u : State) (p : Nat) : Prop where
  frame : u = { s with regs := u.regs, halo := u.halo, log := u.log, agenda := u.agenda }
  outside : SameOutside s u ofLinks
  state : u.portState p = 1

theorem State.portDown_downed (s : State) {p : Nat} (lost : Nat) (hp : p < 4) : s.Downed (s.portDown p lost) p := by
  have hfail := s.linkFails_failed p
  rw [State.portDown_eq]
  generalize s.linkFails p = b at hfail
  by_cases h : b.portRole p = 1 ∧ b.ringSize ≠ 0 ∧ p < 2
  · have hwrap := b.ringWrap_wrapped lost h.1 h.2.1 h.2.2
    exact ⟨by rw [hwrap.frame, hfail.frame], (hfail.outside hp).trans hwrap.outside,
      (hwrap.down p (by rw [hfail.state]; decide)).trans hfail.state⟩
  · rw [State.ringWrap_none _ _ h]
    exact ⟨hfail.frame, hfail.outside hp, hfail.state⟩

/-! ## Lanes that are no longer dealt to (12, R354) -/

/-- The lanes of a mask leave LANES and enter LANE_FAULTS. -/
def State.lanesWithout (s : State) (p m : Nat) : State :=
  (s.setRegN (0x1110 + p) 9 (s.regN (0x1110 + p) 9 &&& (15 ^^^ m))).setRegN (0x1110 + p) 0x11 (s.regN (0x1110 + p) 0x11 ||| m)

theorem State.lanesWithout_regs (s : State) (p m : Nat) : SameRegs s (s.lanesWithout p m) [odKey (0x1110 + p) 0x09 0, odKey (0x1110 + p) 0x11 0] :=
  (SameRegs.setRegN s (0x1110 + p) 9 _).trans (SameRegs.setRegN _ (0x1110 + p) 0x11 _)

theorem State.lanesWithout_lanes (s : State) (p m : Nat) :
    (s.lanesWithout p m).reg (0x1110 + p) 0x09 = wd (s.regN (0x1110 + p) 0x09 &&& (15 ^^^ m)) :=
  ((SameRegs.setRegN _ (0x1110 + p) 0x11 _).reg _ _ _ (by simp [odKey])).trans (State.reg_setRegN_same ..)

theorem State.lanesWithout_faults (s : State) (p m : Nat) :
    (s.lanesWithout p m).reg (0x1110 + p) 0x11 = wd (s.regN (0x1110 + p) 0x11 ||| m) := State.reg_setRegN_same ..

theorem State.wideWithout_iff (s : State) (p : Nat) {m : Nat} (hm : m < 16) :
    s.wideWithout p m = true ↔ s.regN (0x1110 + p) 0x03 ≤ lanesOf (s.regN (0x1110 + p) 0x09 &&& (15 ^^^ m)) := by
  rw [State.wideWithout, Nat.mod_eq_of_lt hm, decide_eq_true_iff]

/-- Enough lanes are left: the port stays as it is. -/
theorem State.stopLanes_wide (s : State) {p m : Nat} (hm : m < 16) (h : s.wideWithout p m = true) : s.stopLanes p m = s.lanesWithout p m := by
  have hwide := (s.wideWithout_iff p hm).mp h
  have hfaults : (s.setRegN (0x1110 + p) 9 (s.regN (0x1110 + p) 9 &&& (15 ^^^ m))).regN (0x1110 + p) 0x11 = s.regN (0x1110 + p) 0x11 :=
    congrArg BitVec.toNat ((SameRegs.setRegN s (0x1110 + p) 9 _).reg _ _ _ (by simp [odKey]))
  unfold State.stopLanes
  simp only [Nat.mod_eq_of_lt hm, Nat.not_lt.mpr hwide, if_false, hfaults]
  rfl

/-- A lane that is not dealt to any more with its log records and faults. -/
theorem State.Noted.stopLanes {s u : State} (h : s.Noted u) {p m : Nat} (hm : m < 16) (hwide : s.wideWithout p m = true) :
    u.stopLanes p m = u.lanesWithout p m :=
  u.stopLanes_wide hm (by
    rw [State.wideWithout_iff _ _ hm] at hwide ⊢
    rwa [State.regN, State.regN, h.portReg p (by decide), h.portReg p (by decide)])

end Sys2Proof.Machine

namespace Sys2Proof.Machine

/-! ## TRAINING (12, R348, R374) -/

/-- What entering TRAINING leaves of port `p`. -/
structure State.InTraining (s u : State) (p : Nat) : Prop where
  frame : u = { s with regs := u.regs, halo := u.halo }
  regs : SameRegs s u [odKey (0x1110 + p) 0x07 0]
  state : u.portState p = 2
  own : u.port p = { s.port p with
    cwHeld := [], stream := [], badCw := [], peer := [], trained := false, restoring := false, since := s.clock
    txq := (s.port p).txq ++ [⟨1, mkFrame 0xA 0xFFFFFE s.ownDevice (s.linkInfo p), none, none⟩] }
  others : ∀ q, q ≠ p → u.port q = s.port q

theorem State.startTraining_inTraining (s : State) (p : Nat) : s.InTraining (s.startTraining p) p := by
  obtain ⟨b, hb⟩ : ∃ b : State, b = (s.onPort p (fun x => { x with
    cwHeld := [], stream := [], badCw := [], peer := [], trained := false, restoring := false, since := s.clock })).setRegN (0x1110 + p) 7 2 := ⟨_, rfl⟩
  have heq : s.startTraining p = b.sendLinkInfo p := by rw [hb]; rfl
  have hregs : SameRegs s b [odKey (0x1110 + p) 7 0] := by rw [hb]; exact SameRegs.setRegN _ _ _ _
  have hwire : s.SameWiring b := hregs.wiring (by simp [isWiring, odKey]; omega)
  have hown : b.port p = { s.port p with
      cwHeld := [], stream := [], badCw := [], peer := [], trained := false, restoring := false, since := s.clock } := by
    rw [hb, State.port_setRegN, State.port_onPort_same]
  rw [heq]
  refine ⟨by rw [hb]; rfl, hregs, ?_, ?_, fun q hq => ?_⟩
  · exact State.portState_of_reg (by rw [hb]; exact State.reg_setRegN_same ..) (by decide)
  · rw [State.sendLinkInfo, State.port_onPort_same, hown, hwire.linkInfo, hwire.ownDevice]
  · rw [State.sendLinkInfo, State.port_onPort_other _ _ (Ne.symm hq), hb, State.port_setRegN,
      State.port_onPort_other _ _ (Ne.symm hq)]

/-- Signal on a DOWN port (12, R348). -/
theorem exec_signalDetect {s : State} {p : Fin 4} {lanes : BitVec 4} {t : Nat} (h : s.portState p = 1) :
    ∃ u, exec (.signalDetect p lanes t) s = .next u ∧
      (lanesOf lanes.toNat < s.regN (0x1110 + p) 0x03 → u = s.at t) ∧
      (s.regN (0x1110 + p) 0x03 ≤ lanesOf lanes.toNat → u.portState p = 2 ∧ u.port p = { s.port p with cwHeld := [], stream := [], badCw := [], peer := [], trained := false, restoring := false, since := (s.at t).clock, txq := (s.port p).txq ++ [⟨1, mkFrame 0xA 0xFFFFFE s.ownDevice (s.linkInfo p), none, none⟩] } ∧ (∀ q, q ≠ p.val → u.port q = s.port q)) ∧
      u = { s.at t with regs := u.regs, halo := u.halo } ∧
      SameRegs s u [odKey (0x1110 + p) 0x07 0] := by
  by_cases hwide : s.regN (0x1110 + p) 0x03 ≤ lanesOf lanes.toNat
  · have htrain := (s.at t).startTraining_inTraining p
    refine ⟨(s.at t).startTraining p, ?_, fun hn => absurd hwide (Nat.not_le.mpr hn), fun _ => ⟨htrain.state, htrain.own, htrain.others⟩,
      htrain.frame, htrain.regs⟩
    change execSignalDetect p lanes t s = _
    refine State.perform_moves (t := t) ?_ (by rw [State.moves, htrain.frame]) (htrain.regs.reg _ _ _ (by simp [odKey]; omega))
    rw [State.tick_posted_nil]
    simp only [State.at_portState, State.at_regN, h, hwide, decide_true, Bool.and_self, State.when_true]
  · refine ⟨s.at t, ?_, fun _ => rfl, fun hn => absurd hn hwide, rfl, SameRegs.refl _ _⟩
    change execSignalDetect p lanes t s = _
    refine State.perform_moves (t := t) ?_ rfl rfl
    rw [State.tick_posted_nil]
    simp only [State.at_portState, State.at_regN, hwide, decide_false, Bool.and_false, State.when_false]

theorem exec_signalDetect_idle {s : State} {p : Fin 4} {lanes : BitVec 4} {t : Nat} (h : s.portState p ≠ 1) :
    exec (.signalDetect p lanes t) s = .next (s.at t) := by
  change execSignalDetect p lanes t s = _
  refine State.perform_moves (t := t) ?_ rfl rfl
  rw [State.tick_posted_nil]
  simp only [State.at_portState, h, decide_false, Bool.false_and, State.when_false]

/-- A RETRAIN word (12, table of port states). -/
theorem exec_retrainWordRx {s : State} {p : Fin 4} {t : Nat} (h : s.portState p = 3 ∨ s.portState p = 4) :
    ∃ u, exec (.retrainWordRx p t) s = .next u ∧
      u.portState p = 2 ∧
      u.port p = { s.port p with cwHeld := [], stream := [], badCw := [], peer := [], trained := false, restoring := false, since := (s.at t).clock, txq := (s.port p).txq ++ [⟨1, mkFrame 0xA 0xFFFFFE s.ownDevice (s.linkInfo p), none, none⟩] } ∧
      (∀ q, q ≠ p.val → u.port q = s.port q) ∧
      u = { s.at t with regs := u.regs, halo := u.halo } ∧
      SameRegs s u [odKey (0x1110 + p) 0x07 0] := by
  have htrain := (s.at t).startTraining_inTraining p
  refine ⟨(s.at t).startTraining p, ?_, htrain.state, htrain.own, htrain.others, htrain.frame, htrain.regs⟩
  change execRetrainWordRx p t s = _
  refine State.perform_moves (t := t) ?_ (by rw [State.moves, htrain.frame]) (htrain.regs.reg _ _ _ (by simp [odKey]; omega))
  rw [State.tick_posted_nil]
  simp only [State.at_portLink, (s.portLink_iff p).mpr h, State.when_true]

/-! ## Training ends (12, R348, R357) -/

/-- RATE, LANES and LANE_FAULTS of a port that has trained. -/
def State.trainedRegs (s : State) (p rate lanes : Nat) : State :=
  ((s.setRegN (0x1110 + p) 8 rate).setRegN (0x1110 + p) 9 lanes).setRegN (0x1110 + p) 0x11 0

theorem State.trainedRegs_regs (s : State) (p rate lanes : Nat) :
    SameRegs s (s.trainedRegs p rate lanes) ([8, 9, 0x11].map (fun k => odKey (0x1110 + p) k 0)) :=
  ((SameRegs.setRegN s (0x1110 + p) 8 rate).trans (SameRegs.setRegN _ (0x1110 + p) 9 lanes)).trans (SameRegs.setRegN _ (0x1110 + p) 0x11 0)

theorem State.trainedRegs_read (s : State) (p rate lanes : Nat) : (s.trainedRegs p rate lanes).reg (0x1110 + p) 8 = wd rate ∧
    (s.trainedRegs p rate lanes).reg (0x1110 + p) 9 = wd lanes ∧ (s.trainedRegs p rate lanes).reg (0x1110 + p) 0x11 = 0 := by
  have hkey {j k : Nat} (h : k ≠ j) : ¬ odKey (0x1110 + p) k 0 = odKey (0x1110 + p) j 0 := by simp [odKey]; omega
  simp only [State.trainedRegs, State.setRegN, State.reg_setRegW, if_true, if_neg (hkey (show 9 ≠ 8 by decide)),
    if_neg (hkey (show 0x11 ≠ 8 by decide)), if_neg (hkey (show 0x11 ≠ 9 by decide))]
  exact ⟨trivial, trivial, rfl⟩

/-- A port trained at a rate on some lanes, before the checks. -/
def State.trainedAt (s : State) (p rate lanes : Nat) : State := (s.trainedRegs p rate lanes).onPort p (fun x => { x with trained := true })

/-- What training leaves. -/
structure State.Trained (s u : State) (p rate lanes : Nat) : Prop where
  frame : u = { s with regs := u.regs, halo := u.halo }
  regs : SameRegs s u ([8, 9, 0x11].map (fun k => odKey (0x1110 + p) k 0))
  rate : u.reg (0x1110 + p) 0x08 = wd rate
  lanes : u.reg (0x1110 + p) 0x09 = wd lanes
  faults : u.reg (0x1110 + p) 0x11 = 0
  own : u.port p = { s.port p with trained := true }
  others : ∀ q, q ≠ p → u.port q = s.port q

theorem State.trainedAt_trained (s : State) (p rate lanes : Nat) : s.Trained (s.trainedAt p rate lanes) p rate lanes := by
  obtain ⟨hrate, hlanes, hfaults⟩ := s.trainedRegs_read p rate lanes
  have hregs := s.trainedRegs_regs p rate lanes
  have hmoved : s.regsMoved (s.trainedRegs p rate lanes) :=
    ((State.regsMoved.setRegN s _ _ _).trans (State.regsMoved.setRegN _ _ _ _)).trans (State.regsMoved.setRegN _ _ _ _)
  unfold State.trainedAt
  generalize s.trainedRegs p rate lanes = c at hmoved hregs hrate hlanes hfaults
  have hport (q : Nat) : c.port q = s.port q := State.port_of_halo (by rw [hmoved]) q
  exact ⟨by rw [hmoved]; rfl, hregs, hrate, hlanes, hfaults, by rw [State.port_onPort_same, hport],
    fun q hq => by rw [State.port_onPort_other _ _ (Ne.symm hq), hport]⟩

section PortTrained

variable {s : State} {p : Fin 4} {rate : Nat} {lanes : BitVec 4} {t : Nat}

theorem exec_portTrained_eq : exec (.portTrained p rate lanes t) s = s.perform fun x =>
    if (x.tick t).portState p = 2 ∧ (x.tick t).trainsAt p rate = true ∧ (x.tick t).regN (0x1110 + p) 0x03 ≤ lanesOf lanes.toNat then
      ((x.tick t).trainedAt p rate lanes.toNat).when (!(((x.tick t).trainedAt p rate lanes.toNat).port p).peer.isEmpty) (fun s => s.judgePort p)
    else x.tick t := by
  change execPortTrained p rate lanes t s = _
  rfl

/-- Before the partner's LINK_INFO has come, a trained port waits for it. -/
theorem exec_portTrained_waits (h : s.portState p = 2) (hrate : s.trainsAt p rate = true) (hwide : s.regN (0x1110 + p) 0x03 ≤ lanesOf lanes.toNat)
    (hpeer : (s.port p).peer = []) :
    ∃ u, exec (.portTrained p rate lanes t) s = .next u ∧
      u.portState p = 2 ∧
      u.reg (0x1110 + p) 0x08 = wd rate ∧
      u.reg (0x1110 + p) 0x09 = wd lanes.toNat ∧
      u.reg (0x1110 + p) 0x11 = 0 ∧
      u.port p = { s.port p with trained := true } ∧
      (∀ q, q ≠ p.val → u.port q = s.port q) ∧
      u = { s.at t with regs := u.regs, halo := u.halo } ∧
      SameRegs s u ([8, 9, 0x11].map (fun k => odKey (0x1110 + p) k 0)) := by
  have htrain := (s.at t).trainedAt_trained p rate lanes.toNat
  have hnone : (!(((s.at t).trainedAt p rate lanes.toNat).port p).peer.isEmpty) = false := by
    rw [htrain.own, State.at_port, hpeer]
    rfl
  refine ⟨(s.at t).trainedAt p rate lanes.toNat, ?_, ?_, htrain.rate, htrain.lanes, htrain.faults, htrain.own, htrain.others, htrain.frame, htrain.regs⟩
  · rw [exec_portTrained_eq]
    refine State.perform_moves (t := t) ?_ (by rw [State.moves, htrain.frame]) (htrain.regs.reg _ _ _ (by simp [odKey]; omega))
    rw [State.tick_posted_nil, if_pos ⟨h, hrate, hwide⟩, hnone, State.when_false]
  · exact (congrArg BitVec.toNat (htrain.regs.reg _ _ _ (by simp [odKey]))).trans h

/-- Once it has come, the checks of R357 choose UP or ISOLATED. -/
theorem exec_portTrained_judged (h : s.portState p = 2) (hrate : s.trainsAt p rate = true) (hwide : s.regN (0x1110 + p) 0x03 ≤ lanesOf lanes.toNat)
    (hpeer : (s.port p).peer ≠ []) :
    ∃ u, exec (.portTrained p rate lanes t) s = .next u ∧
      u.portState p = (if s.portChecks p = true then 3 else 4) ∧
      u.reg (0x1110 + p) 0x08 = wd rate ∧
      u.reg (0x1110 + p) 0x09 = wd lanes.toNat ∧
      u.reg (0x1110 + p) 0x11 = 0 ∧
      (u.port p).trained = true ∧
      (∀ q, q ≠ p.val → u.port q = s.port q) ∧
      u = { s.at t with regs := u.regs, log := u.log, halo := u.halo } ∧
      SameRegs s u ([7, 8, 9, 0x11].map (fun k => odKey (0x1110 + p) k 0) ++ [odKey (0x0904 + p) 0x05 0, odKey 0x0500 0x06 0, odKey 0x0500 0x07 0]) := by
  have htrain := (s.at t).trainedAt_trained p rate lanes.toNat
  have hsome : (!(((s.at t).trainedAt p rate lanes.toNat).port p).peer.isEmpty) = true := by
    rw [htrain.own]
    simpa using hpeer
  obtain ⟨b, hb⟩ : ∃ b, (s.at t).trainedAt p rate lanes.toNat = b := ⟨_, rfl⟩
  rw [hb] at htrain hsome
  have hwire : s.SameWiring b := .of_at (htrain.regs.wiring (by simp [isWiring, odKey]; omega))
  have hjudge := b.judgePort_judged p.isLt
  obtain ⟨u, hu⟩ : ∃ u, b.judgePort p = u := ⟨_, rfl⟩
  rw [hu] at hjudge
  have hregs : SameRegs s u ([8, 9, 0x11].map (fun k => odKey (0x1110 + p) k 0) ++ judgeKeys p) := htrain.regs.trans hjudge.regs
  have hframe : u = { s.at t with regs := u.regs, log := u.log, halo := u.halo } := by rw [hjudge.frame, htrain.frame]
  have hkept {j : Nat} (hj : j ∈ [8, 9, 0x11]) : u.reg (0x1110 + p) j = b.reg (0x1110 + p) j :=
    hjudge.regs.reg _ _ _ (by simp at hj; simp [judgeKeys, odKey]; omega)
  refine ⟨u, ?_, ?_, (hkept (by simp)).trans htrain.rate, (hkept (by simp)).trans htrain.lanes, (hkept (by simp)).trans htrain.faults, ?_,
    fun q hq => (hjudge.others q hq).trans (htrain.others q hq), hframe, hregs.mono (by simp [judgeKeys])⟩
  · rw [exec_portTrained_eq]
    refine State.perform_moves (t := t) ?_ (by rw [State.moves, hframe]) (hregs.reg _ _ _ (by simp [judgeKeys, odKey]; omega))
    rw [State.tick_posted_nil, if_pos ⟨h, hrate, hwide⟩, hb, hsome, State.when_true, hu]
  · rw [hjudge.state, hwire.portChecks (by rw [htrain.own]; rfl)]
  · rw [hjudge.own, htrain.own]

theorem exec_portTrained_idle (h : s.portState p ≠ 2 ∨ s.trainsAt p rate = false ∨ lanesOf lanes.toNat < s.regN (0x1110 + p) 0x03) :
    exec (.portTrained p rate lanes t) s = .next (s.at t) := by
  change execPortTrained p rate lanes t s = _
  refine State.perform_moves (t := t) ?_ rfl rfl
  rw [State.tick_posted_nil]
  refine if_neg fun ⟨hstate, hrate, hwide⟩ => ?_
  obtain h | h | h := h
  · exact h hstate
  · exact Bool.false_ne_true (h.symm.trans hrate)
  · exact absurd hwide (Nat.not_le.mpr h)

end PortTrained

/-! ## TRAINING takes too long (12, table of port states) -/

theorem exec_trainingTimeout {s : State} {p : Fin 4} {t : Nat} (h : s.portState p = 2) (hlate : (s.port p).since + msEt 50 ≤ (s.at t).clock) :
    ∃ u, exec (.trainingTimeout p t) s = .next u ∧
      u.portState p = 1 ∧
      u.reg (0x1110 + p) 0x10 = s.reg (0x1110 + p) 0x10 + BitVec.ofNat 40 (s.port p).txq.length ∧
      ((∀ e ∈ (s.port p).txq, e.inp = none) → u.port p = { PortSt.idle with since := (s.at t).clock }) ∧
      ((∀ e ∈ (s.port p).txq, e.inp = none) → (∀ q < 4, ∀ e ∈ (s.port q).txq, e.inp ≠ some p.val) → ∀ q, q ≠ p.val → u.port q = s.port q) ∧
      u = { s.at t with regs := u.regs, halo := u.halo } ∧
      SameRegs s u ([7, 8, 9, 0x10].map (fun k => odKey (0x1110 + p) k 0) ++ [odKey (0x0904 + p) 0x05 0]) := by
  have hlost := (s.at t).portLost_lost p
  refine ⟨(s.at t).portLost p, ?_, hlost.state, hlost.discards, hlost.own, hlost.others, by rw [hlost.frame], hlost.regs⟩
  change execTrainingTimeout p t s = _
  refine State.perform_moves (t := t) ?_ (by rw [State.moves, hlost.frame]) (hlost.regs.reg _ _ _ (by simp [lostKeys, odKey]; omega))
  rw [State.tick_posted_nil]
  exact if_pos ⟨h, hlate⟩

theorem exec_trainingTimeout_idle {s : State} {p : Fin 4} {t : Nat} (h : s.portState p ≠ 2 ∨ (s.at t).clock < (s.port p).since + msEt 50) :
    exec (.trainingTimeout p t) s = .next (s.at t) := by
  change execTrainingTimeout p t s = _
  refine State.perform_moves (t := t) ?_ rfl rfl
  rw [State.tick_posted_nil]
  refine if_neg fun ⟨hstate, hlate⟩ => ?_
  exact h.elim (fun h => h hstate) (fun h => absurd hlate (Nat.not_le.mpr h))

end Sys2Proof.Machine

namespace Sys2Proof.Machine

/-! ## ENABLE and RETRAIN (12, table of port states) -/

/-- Check 9 is one of those that an accepted write passes (02, R48). -/
theorem State.valuesOk_of_takes {s : State} {rq : Req} {i sub off : Nat} {vals : List Word} {e : Env} {t : Nat} {r : Obj}
    (h : s.takes rq i sub off vals e t = true) (hr : odFind i sub = some r) : r.valuesOk (wordsAt off vals) = true := by
  simp only [State.takes, hr, Bool.and_eq_true, beq_iff_eq] at h
  obtain ⟨⟨⟨⟨⟨-, hcode⟩, -⟩, -⟩, -⟩, -⟩ := h
  by_contra hbad
  unfold State.writeCode at hcode
  simp only [Bool.not_eq_true] at hbad
  simp only [hbad, Bool.not_false, if_true] at hcode
  split_ifs at hcode with hlocked hcount
  exact hcount hcode

/-- A BOOL word is its bit 0. -/
theorem toNat_of_bool {v : Word} (h : v.toNat < 2) : v.toNat = 1 ↔ bit v 0 = true := by
  rw [bit, BitVec.getLsbD, Nat.testBit_zero, decide_eq_true_iff]
  omega

/-- The row of ENABLE, of which every port has one. -/
theorem odFind_enable (p : Fin 4) : ∃ r, odFind (0x1110 + p) 0x00 = some r ∧ r.hook = .portEnable ∧ r.acc = .rws ∧ r.isDomain = false ∧
    r.words = 1 ∧ r.ty = .bool ∧ r.eff = .imm ∧ r.unit (0x1110 + p) = p :=
  match p with
  | 0 | 1 | 2 | 3 => ⟨_, rfl, rfl, rfl, rfl, rfl, rfl, rfl, rfl⟩

theorem rowSays_retrain : ∀ p : Fin 4, rowSays (0x1110 + p) 0x06 = some (.retrain, .cmd, false, 1, p.val) := by decide +kernel

/-- A word of a port's object that acts at once takes its place. -/
theorem State.putValues_port (s : State) (r : Obj) (p : Fin 4) (v : Word) (heff : r.eff = .imm) :
    s.putValues r (0x1110 + p) 0x00 (wordsAt 0 [v]) = s.setReg (0x1110 + p) 0x00 v := by
  simp [State.putValues, heff, State.putWords, wordsAt, State.setReg]

section Commands

variable {s : State} {rq : Req} {p : Fin 4} {v : Word} {t : Nat}

/-- The state with the journal entry of a write of ENABLE and the word written. -/
structure State.Enabling (s b : State) (t : Nat) (src : Word) (p : Nat) (v : Word) : Prop where
  journal : ∃ j, (s.at t).Journalled j 1 (0x1110 + p) 0x00 src v ∧ b.alm = j.alm ∧ b.reg 0x0400 0x01 = j.reg 0x0400 0x01
  word : b.reg (0x1110 + p) 0x00 = v
  frame : b = { s.at t with regs := b.regs, alm := b.alm }
  regs : SameRegs s b (odKey (0x1110 + p) 0x00 0 :: journalKeys)

/-- Every other object reads as before. -/
theorem State.Enabling.reg {s b : State} {t p : Nat} {src v : Word} (h : s.Enabling b t src p v) {i k : Nat} (hi : i ≠ 0x0400) (hk : k < 256)
    (hik : ¬ (i = 0x1110 + p ∧ k = 0)) : b.reg i k = s.reg i k :=
  h.regs.reg _ _ _ (by simp [journalKeys, odKey]; omega)

theorem State.Enabling.portReg {s b : State} {t p : Nat} {src v : Word} (h : s.Enabling b t src p v) (q : Nat) {k : Nat} (hk : k < 256)
    (hne : k ≠ 0) : b.reg (0x1110 + q) k = s.reg (0x1110 + q) k := h.reg (by omega) hk (by omega)

/-- What moves no object of the journal is answered as the transaction is. -/
theorem State.Enabling.answered {s b w : State} {t p : Nat} {src v : Word} (h : s.Enabling b t src p v) (halm : w.alm = b.alm)
    (hseq : w.reg 0x0400 0x01 = b.reg 0x0400 0x01) : s.answered (w.withReply ⟨0, 0, []⟩) 1 (0x1110 + p) 0x00 src v t := by
  obtain ⟨j, hj, hbalm, hbseq⟩ := h.journal
  exact hj.answered (halm.trans hbalm) (hseq.trans hbseq)

/-- A write of ENABLE acts on the state with its journal entry and the word written. -/
theorem exec_enable {c : Instr} {on : Bool} (hc : writeOf c = some (rq, 0x1110 + p.val, 0x00, 0, [setBit v 0 on], Env.calm, t))
    (h : s.takes rq (0x1110 + p) 0x00 0 [setBit v 0 on] Env.calm t = true) :
    ∃ b, s.Enabling b t rq.src p (setBit v 0 on) ∧ ∀ w, b.portEnable p on = w → (s.at t).moves w → w.reg 0x0100 0x00 = s.reg 0x0100 0x00 →
      exec c s = .next (w.withReply ⟨0, 0, []⟩) := by
  obtain ⟨r, hr, hhook, hacc, hdom, hone, hty, heff, hunit⟩ := odFind_enable p
  have hj := (s.at t).journalWrite_one rq.src (0x1110 + p) 0x00 (setBit v 0 on) hdom hone
  have hexec := fun w => exec_of_takes hc h hr (w := w)
  simp only [hacc] at hj
  generalize (s.at t).journalWrite r rq.src (0x1110 + p) 0x00 (wordsAt 0 [setBit v 0 on]) false = j at hj hexec
  have hput := SameRegs.setReg j (0x1110 + p) 0x00 (setBit v 0 on)
  refine ⟨j.setReg (0x1110 + p) 0x00 (setBit v 0 on), ⟨⟨j, hj, rfl, hput.reg _ _ _ (by simp [odKey]; omega)⟩, State.reg_setReg_same .., ?_, ?_⟩,
    fun w hw => hexec w ?_⟩
  · rw [hj.frame]
    rfl
  · exact (hj.regs.trans hput).mono (by simp [or_comm])
  have hbool : (setBit v 0 on).toNat < 2 := by
    have hok := State.valuesOk_of_takes h hr
    simp only [Obj.valuesOk, wordsAt, List.zipIdx_singleton, List.map_cons, List.map_nil, List.all_cons, List.all_nil, hty, OdType.holds,
      Bool.and_eq_true, decide_eq_true_eq] at hok
    exact hok.1.1.1
  have hon : (decide ((setBit v 0 on).toNat = 1)) = on := by
    rw [Bool.eq_iff_iff, decide_eq_true_iff, toNat_of_bool hbool, bit_setBit _ _ (by decide), if_pos rfl]
  rw [← hw, State.acts, hacc, State.applyWrite, hhook]
  simp only [hunit, State.putValues_port _ r p _ heff, show (Acc.rws == Acc.cmd) = false from rfl, Bool.false_eq_true, if_false]
  exact congrArg (State.portEnable _ p) hon

/-- PORT_ENABLE. -/
theorem exec_portEnable (h : s.takes rq (0x1110 + p) 0x00 0 [setBit v 0 true] Env.calm t = true) :
    ∃ u, exec (.portEnable rq p v t) s = .next u ∧
      u.portState p = (if s.portState p = 0 ∧ s.regN 0x0100 0x04 ≠ 3 then 1 else s.portState p) ∧
      s.answered u 1 (0x1110 + p) 0x00 rq.src (setBit v 0 true) t ∧
      u.reg (0x1110 + p) 0x00 = setBit v 0 true ∧
      u = { s.at t with regs := u.regs, alm := u.alm, reply := u.reply } ∧
      SameRegs s u (odKey (0x1110 + p) 0x00 0 :: odKey (0x1110 + p) 0x07 0 :: journalKeys) := by
  obtain ⟨b, hb, hexec⟩ := exec_enable (c := .portEnable rq p v t) rfl h
  have hstate : b.portState p = s.portState p := congrArg BitVec.toNat (hb.portReg p (by decide) (by decide))
  have hstrap : b.regN 0x0100 4 = s.regN 0x0100 4 := congrArg BitVec.toNat (hb.reg (by decide) (by decide) (by omega))
  obtain ⟨w, hw⟩ : ∃ w, b.portEnable p true = w := ⟨_, rfl⟩
  have hup : w = if s.portState p = 0 ∧ s.regN 0x0100 0x04 ≠ 3 then b.setRegN (0x1110 + p) 7 1 else b := by
    rw [← hw, State.portEnable, if_pos rfl, hstate, hstrap, State.when]
    simp only [Bool.and_eq_true, decide_eq_true_eq]
  obtain ⟨hmoved, hwregs⟩ : b.regsMoved w ∧ SameRegs b w [odKey (0x1110 + p) 7 0] := by
    rw [hup]
    split
    · exact ⟨State.regsMoved.setRegN b _ _ _, SameRegs.setRegN b _ _ _⟩
    · exact ⟨State.regsMoved.refl _, SameRegs.refl _ _⟩
  have hregs : SameRegs s w (odKey (0x1110 + p) 0x00 0 :: odKey (0x1110 + p) 0x07 0 :: journalKeys) :=
    (hb.regs.trans hwregs).mono (by simp [or_comm, or_left_comm])
  have hframe : w = { s.at t with regs := w.regs, alm := w.alm } := by rw [hmoved, hb.frame]
  refine ⟨_, hexec w hw (by rw [State.moves, hframe]) (hregs.reg _ _ _ (by simp [journalKeys, odKey]; omega)), ?_,
    hb.answered (by rw [hmoved]) (hwregs.reg _ _ _ (by simp [odKey]; omega)), (hwregs.reg _ _ _ (by simp [odKey])).trans hb.word, ?_, hregs⟩
  · refine Eq.trans (show _ = w.portState p from rfl) ?_
    rw [hup]
    split
    · exact State.portState_of_reg (State.reg_setRegN_same ..) (by decide)
    · exact hstate
  · rw [State.withReply, hframe]

/-- PORT_DISABLE. -/
theorem exec_portDisable (h : s.takes rq (0x1110 + p) 0x00 0 [setBit v 0 false] Env.calm t = true) :
    ∃ u, exec (.portDisable rq p v t) s = .next u ∧
      u.portState p = 0 ∧
      (∀ q < 4, q ≠ p.val → u.portState q = s.portState q) ∧
      (s.portState p ≠ 0 → u.reg (0x1110 + p) 0x10 = s.reg (0x1110 + p) 0x10 + BitVec.ofNat 40 (s.port p).txq.length ∧ ((∀ e ∈ (s.port p).txq, e.inp = none) → u.port p = { PortSt.idle with since := (s.at t).clock }) ∧ ((∀ e ∈ (s.port p).txq, e.inp = none) → (∀ q < 4, ∀ e ∈ (s.port q).txq, e.inp ≠ some p.val) → ∀ q, q ≠ p.val → u.port q = s.port q)) ∧
      s.answered u 1 (0x1110 + p) 0x00 rq.src (setBit v 0 false) t ∧
      u = { s.at t with regs := u.regs, alm := u.alm, reply := u.reply, halo := u.halo } ∧
      SameRegs s u ([0, 7, 8, 9, 0x10].map (fun k => odKey (0x1110 + p) k 0) ++ odKey (0x0904 + p) 0x05 0 :: journalKeys) := by
  obtain ⟨b, hb, hexec⟩ := exec_enable (c := .portDisable rq p v t) rfl h
  have hstate : b.portState p = s.portState p := congrArg BitVec.toNat (hb.portReg p (by decide) (by decide))
  have hport (q : Nat) : b.port q = s.port q := State.port_of_halo (by rw [hb.frame]; rfl) q
  have hclock : b.clock = (s.at t).clock := by rw [hb.frame]
  obtain ⟨c, hc⟩ : ∃ c, b.when (s.portState p ≠ 0) (fun s => s.portLost p) = c := ⟨_, rfl⟩
  obtain ⟨hcframe, hcregs⟩ : c = { b with regs := c.regs, halo := c.halo } ∧ SameRegs b c (lostKeys p) := by
    rw [← hc]
    exact State.when_rel (R := fun b c => c = { b with regs := c.regs, halo := c.halo } ∧ SameRegs b c (lostKeys p)) (fun b => ⟨rfl, SameRegs.refl _ _⟩) b _
      (fun _ => ⟨by rw [(b.portLost_lost p).frame], (b.portLost_lost p).regs⟩)
  have hlost (hne : s.portState p ≠ 0) : b.Lost c p := by
    rw [← hc, decide_eq_true hne]
    exact b.portLost_lost p
  obtain ⟨w, hw⟩ : ∃ w, c.setRegN (0x1110 + p) 7 0 = w := ⟨_, rfl⟩
  have hoff : b.portEnable p false = w := by rw [← hw, ← hc, ← hstate]; rfl
  have hwregs : SameRegs c w [odKey (0x1110 + p) 7 0] := hw ▸ SameRegs.setRegN c _ _ _
  have hbw : SameRegs b w (lostKeys p) := (hcregs.trans hwregs).mono (by simp [lostKeys])
  have hregs : SameRegs s w ([0, 7, 8, 9, 0x10].map (fun k => odKey (0x1110 + p) k 0) ++ odKey (0x0904 + p) 0x05 0 :: journalKeys) :=
    (hb.regs.trans hbw).mono (by simp +contextual [lostKeys, or_imp])
  have hframe : w = { s.at t with regs := w.regs, alm := w.alm, halo := w.halo } := by
    rw [show c.regsMoved w from hw ▸ State.regsMoved.setRegN c _ _ _, hcframe, hb.frame]
  have hwport (q : Nat) : w.port q = c.port q := by rw [← hw]; rfl
  refine ⟨_, hexec w hoff (by rw [State.moves, hframe]) (hregs.reg _ _ _ (by simp [journalKeys, odKey]; omega)), ?_, fun q _ hq => ?_, fun hne => ?_,
    hb.answered (by rw [← hw, hcframe]; rfl) (hbw.reg _ _ _ (by simp [lostKeys, odKey]; omega)), ?_, hregs⟩
  · refine Eq.trans (show _ = w.portState p from rfl) (State.portState_of_reg ?_ (by decide))
    rw [← hw]
    exact State.reg_setRegN_same ..
  · exact congrArg BitVec.toNat (hregs.reg _ _ _ (by simp [journalKeys, odKey]; omega))
  · have hl := hlost hne
    have hown := hl.own
    have hothers := hl.others
    simp only [hport, hclock] at hown hothers
    refine ⟨?_, fun hi => (hwport p).trans (hown hi), fun hi hf q hq => (hwport q).trans (hothers hi hf q hq)⟩
    refine (hwregs.reg _ _ _ (by simp [odKey])).trans (hl.discards.trans ?_)
    rw [hport, hb.portReg p (by decide) (by decide)]
  · rw [State.withReply, hframe]

/-- RETRAIN tells the partner (12; log entry 27). -/
theorem exec_retrain (h : s.takes rq (0x1110 + p) 0x06 0 [v] Env.calm t = true) (hlink : s.portState p = 3 ∨ s.portState p = 4) :
    ∃ u, exec (.retrain rq p v t) s = .next u ∧
      u.portState p = 2 ∧
      u.port p = { s.port p with cwHeld := [], stream := [], badCw := [], peer := [], trained := false, restoring := false, since := (s.at t).clock, txq := (s.port p).txq ++ [⟨1, mkFrame 0xA 0xFFFFFE s.ownDevice (s.linkInfo p), none, none⟩], ctl := (s.port p).ctl ++ [wd (2 ^ 36 + 6 * 2 ^ 32)] } ∧
      (∀ q, q ≠ p.val → u.port q = s.port q) ∧
      s.answered u 3 (0x1110 + p) 0x06 rq.src v t ∧
      u = { (s.at t).endCmd rq.src (0x1110 + p) 0x06 0 0 with regs := u.regs, alm := u.alm, reply := u.reply, halo := u.halo } ∧
      SameRegs s u (odKey (0x1110 + p) 0x07 0 :: journalKeys) := by
  obtain ⟨r, hr, hhook, hacc, hdom, hone, hunit⟩ := odFind_of_rowSays (rowSays_retrain p)
  have hj := (s.at t).journalWrite_one rq.src (0x1110 + p) 0x06 v hdom hone
  have hexec := exec_of_takes (c := .retrain rq p v t) (w := _) rfl h hr rfl
  simp only [hacc, State.acts, State.command, hhook, State.instantCommand, hunit, beq_self_eq_true, if_true] at hj hexec
  generalize (s.at t).journalWrite r rq.src (0x1110 + p) 0x06 (wordsAt 0 [v]) false = j at hj hexec
  have hkept {k : Nat} (hk : k < 256) : j.reg (0x1110 + p) k = s.reg (0x1110 + p) k := hj.reg (by omega) hk (by decide)
  have hstate : j.portState p = s.portState p := congrArg BitVec.toNat (hkept (by decide))
  have hlinked : (j.portState p = 3 || j.portState p = 4) = true := by simpa [hstate] using hlink
  have hretrain : j.retrain p = (j.control p 6 0).startTraining p := by
    rw [State.retrain, hlinked]
    rfl
  have htrain := (j.control p 6 0).startTraining_inTraining p
  rw [hretrain] at hexec
  generalize (j.control p 6 0).startTraining p = w at hexec htrain
  have hwire : s.SameWiring (j.control p 6 0) :=
    .of_at (t := t) ((SameRegs.trans (ls := []) hj.regs (SameRegs.of_eq [] rfl)).wiring (by simp [isWiring, journalKeys, odKey]; omega))
  have hjport (q : Nat) : j.port q = s.port q := State.port_of_halo (by rw [hj.frame]; rfl) q
  have hframe : w.endCmd rq.src (0x1110 + p) 0x06 0 0 = { (s.at t).endCmd rq.src (0x1110 + p) 0x06 0 0 with regs := w.regs, alm := w.alm, halo := w.halo } := by
    rw [htrain.frame]
    change ({ j.endCmd rq.src (0x1110 + p) 0x06 0 0 with regs := _, halo := _ } : State) = _
    rw [hj.frame]
    rfl
  have hregs : SameRegs s w (odKey (0x1110 + p) 0x07 0 :: journalKeys) := by
    have hcontrol : SameRegs j w [odKey (0x1110 + p) 7 0] := htrain.regs
    exact (hj.regs.trans hcontrol).mono (by simp [or_comm])
  refine ⟨_, hexec (by rw [hframe]; rfl) (hregs.reg _ _ _ (by simp [journalKeys, odKey]; omega)), htrain.state, ?_, fun q hq => ?_, ?_, ?_, hregs⟩
  · refine Eq.trans (show _ = w.port p from rfl) (htrain.own.trans ?_)
    rw [hwire.linkInfo, hwire.ownDevice, State.control, State.port_onPort_same, hjport]
    rw [hj.frame]
    rfl
  · refine Eq.trans (show _ = w.port q from rfl) ((htrain.others q hq).trans ?_)
    rw [State.control, State.port_onPort_other _ _ (Ne.symm hq), hjport]
  · exact hj.answered (by rw [show (w.endCmd rq.src (0x1110 + p) 0x06 0 0).alm = w.alm from rfl, htrain.frame]; rfl)
      ((htrain.regs.reg _ _ _ (by simp [odKey]; omega)).trans rfl)
  · rw [hframe]
    rfl

end Commands

/-- Settles O27, from a rule for each row; training, judging and losing a link are each said once (`State.InTraining`, `State.Judged`,
`State.Lost`). -/
theorem haloPortsTrain : Obligations.HaloPortsTrain := by
  unfold Obligations.HaloPortsTrain
  exact ⟨fun s rq p v t h => exec_portEnable h, fun s rq p v t h => exec_portDisable h, fun s p lanes t h => exec_signalDetect h,
    fun s p lanes t h => exec_signalDetect_idle h, fun s p rate lanes t h hrate hwide hpeer => exec_portTrained_waits h hrate hwide hpeer,
    fun s p rate lanes t h hrate hwide hpeer => exec_portTrained_judged h hrate hwide hpeer, fun s p rate lanes t h => exec_portTrained_idle h,
    fun s p t h hlate => exec_trainingTimeout h hlate, fun s p t h => exec_trainingTimeout_idle h, fun s p t h => exec_retrainWordRx h,
    fun s rq p v t h hlink => exec_retrain h hlink⟩

end Sys2Proof.Machine

namespace Sys2Proof.Machine

/-! ## Steps of one port -/

/-- A state in which port `p` became `x` and nothing else moved. -/
structure State.PortTo (s u : State) (p : Nat) (x : PortSt) : Prop where
  frame : u = { s with halo := u.halo }
  own : u.port p = x
  others : ∀ q, q ≠ p → u.port q = s.port q

namespace State.PortTo

theorem refl (s : State) (p : Nat) : s.PortTo s p (s.port p) := ⟨rfl, rfl, fun _ _ => rfl⟩

theorem setPort (s : State) (p : Nat) (x : PortSt) : s.PortTo (s.setPort p x) p x :=
  ⟨rfl, State.port_setPort_same .., fun _ hq => State.port_setPort_other _ _ (Ne.symm hq)⟩

theorem onPort (s : State) (p : Nat) (f : PortSt → PortSt) : s.PortTo (s.onPort p f) p (f (s.port p)) := setPort s p _

/-- A control word (12, table of control words). -/
theorem control (s : State) (p kind v : Nat) :
    s.PortTo (s.control p kind v) p { s.port p with ctl := (s.port p).ctl ++ [wd (2 ^ 36 + kind * 2 ^ 32 + v)] } := onPort s p _

theorem trans {s u v : State} {p : Nat} {x y : PortSt} (h : s.PortTo u p x) (h' : u.PortTo v p y) : s.PortTo v p y :=
  ⟨by rw [h'.frame, h.frame], h'.own, fun q hq => (h'.others q hq).trans (h.others q hq)⟩

theorem regs {s u : State} {p : Nat} {x : PortSt} (h : s.PortTo u p x) : u.regs = s.regs := by rw [h.frame]

/-- A step that carries no instant of its own. -/
theorem perform_untimed {s u : State} {p : Nat} {x : PortSt} {f : State → State} (h : ({ s with posted := [] } : State).PortTo u p x)
    (hf : f { s with posted := [] } = u) : ∃ u, s.perform f = .next u ∧ u.port p = x ∧ (∀ q, q ≠ p → u.port q = s.port q) ∧
      u = { s with posted := [], halo := u.halo } :=
  ⟨u, State.perform_moves_untimed hf (by rw [State.moves, h.frame]) (by rw [h.frame]; rfl), h.own, h.others, h.frame⟩

/-- A step at an instant. -/
theorem perform {s u : State} {p t : Nat} {x : PortSt} {f : State → State} (h : (s.at t).PortTo u p x)
    (hf : f { s with posted := [] } = u) : ∃ u, s.perform f = .next u ∧ u.port p = x ∧ (∀ q, q ≠ p → u.port q = s.port q) ∧
      u = { s.at t with halo := u.halo } :=
  ⟨u, State.perform_moves (t := t) hf (by rw [State.moves, h.frame]) (by rw [h.frame]; rfl), h.own, h.others, h.frame⟩

end State.PortTo

/-! ## Credits, ACK, the repeat of NAK (12, R351, R352) -/

section Untimed

variable {s : State} {p : Fin 4}

theorem exec_creditRx (vc : Bool) (n : Nat) :
    ∃ u, exec (.creditRx p vc n) s = .next u ∧
      u.port p = (s.port p).setCredit vc ((s.port p).credit vc + n) s.clock ∧
      (∀ q, q ≠ p.val → u.port q = s.port q) ∧
      u = { s with posted := [], halo := u.halo } :=
  (State.PortTo.onPort { s with posted := [] } p (fun x => x.setCredit vc (x.credit vc + n) s.clock)).perform_untimed
    (f := fun s => s.onPort p (fun x => x.setCredit vc (x.credit vc + n) s.clock)) rfl

theorem exec_ackRx (lseq : BitVec 8) :
    ∃ u, exec (.ackRx p lseq) s = .next u ∧
      u.port p = { s.port p with replay := (s.port p).replay.drop (ackCount (s.port p).replay lseq), naks := 0 } ∧
      (∀ q, q ≠ p.val → u.port q = s.port q) ∧
      u = { s with posted := [], halo := u.halo } :=
  (State.PortTo.onPort { s with posted := [] } p (fun x => { x with replay := x.replay.drop (ackCount x.replay lseq), naks := 0 })).perform_untimed
    (f := fun s => s.onPort p (fun x => { x with replay := x.replay.drop (ackCount x.replay lseq), naks := 0 })) rfl

/-- Frames accepted since the last ACK are acknowledged. -/
theorem State.ackFrames_acks (s : State) {p : Nat} (h : (s.port p).unacked ≠ 0) : s.PortTo (s.ackFrames p) p
    { s.port p with unacked := 0, ctl := (s.port p).ctl ++ [wd (2 ^ 36 + 2 * 2 ^ 32 + ((s.port p).rxSeq - 1).toNat)] } := by
  have hzero := State.PortTo.onPort s p (fun x => { x with unacked := 0 })
  have hack := State.PortTo.control (s.onPort p (fun x => { x with unacked := 0 })) p 2 ((s.port p).rxSeq - 1).toNat
  rw [hzero.own] at hack
  unfold State.ackFrames
  rw [if_neg h]
  exact hzero.trans hack

theorem exec_ackTimer (h : (s.port p).unacked ≠ 0) :
    ∃ u, exec (.ackTimer p) s = .next u ∧
      u.port p = { s.port p with unacked := 0, ctl := (s.port p).ctl ++ [wd (2 ^ 36 + 2 * 2 ^ 32 + ((s.port p).rxSeq - 1).toNat)] } ∧
      (∀ q, q ≠ p.val → u.port q = s.port q) ∧
      u = { s with posted := [], halo := u.halo } :=
  (State.ackFrames_acks { s with posted := [] } h).perform_untimed (f := fun s => s.ackFrames p) rfl

theorem exec_nakRepeat (h : (s.port p).nakWait = true) :
    ∃ u, exec (.nakRepeat p) s = .next u ∧
      u.port p = { s.port p with ctl := (s.port p).ctl ++ [wd (2 ^ 36 + 3 * 2 ^ 32 + (s.port p).rxSeq.toNat)] } ∧
      (∀ q, q ≠ p.val → u.port q = s.port q) ∧
      u = { s with posted := [], halo := u.halo } :=
  (State.PortTo.control { s with posted := [] } p 3 (s.port p).rxSeq.toNat).perform_untimed
    (f := fun s => s.when (s.port p).nakWait (fun s => s.control p 3 (s.port p).rxSeq.toNat))
    (congrArg (fun b => State.when { s with posted := [] } b (fun s => s.control p 3 (s.port p).rxSeq.toNat)) h)

end Untimed

/-! ## NAK (12, R352) -/

/-- When a DELAY_REQ left is kept; nothing else moves. -/
theorem State.noteAsked_eq (s : State) (p : Nat) (f : Frame) : ∃ m, s.noteAsked p f = { s with sync := { s.sync with asked := m } } := by
  unfold State.noteAsked
  split <;> exact ⟨_, rfl⟩

theorem State.foldl_noteAsked_eq (s : State) (p : Nat) (l : List Held) :
    ∃ m, l.foldl (fun s h => s.noteAsked p h.frame) s = { s with sync := { s.sync with asked := m } } :=
  State.foldl_rel (R := fun s u => ∃ m, u = { s with sync := { s.sync with asked := m } }) (fun _ => ⟨_, rfl⟩)
    (fun ⟨_, h⟩ ⟨m, h'⟩ => ⟨m, by rw [h', h]⟩) l (fun h _ s => s.noteAsked_eq p h.frame) s

/-- Where the held frame that a NAK names stands. -/
def PortSt.nakAt (x : PortSt) (lseq : BitVec 8) : Nat := (x.replay.findIdx? (fun h => h.lseq = lseq)).getD x.replay.length

/-- The held frames that a NAK makes the port send again, stamped anew. -/
def PortSt.again (x : PortSt) (lseq : BitVec 8) (now : U80) : List Held :=
  (x.replay.drop (x.nakAt lseq)).map (fun (h : Held) => { h with frame := frameStamped h.frame now })

/-- How many NAKs in a row name one LSEQ. -/
def PortSt.nakCount (x : PortSt) (lseq : BitVec 8) : Nat := if x.nakSeq = lseq then x.naks + 1 else 1

/-- The port that has sent them again. -/
def PortSt.resent (x : PortSt) (lseq : BitVec 8) (now : U80) : PortSt :=
  { x with
    naks := x.nakCount lseq, nakSeq := lseq, replay := x.replay.take (x.nakAt lseq) ++ x.again lseq now
    lastTx := ((x.again lseq now).map (fun h => frameWire h.frame h.lseq)).flatten }

/-- A counter of a port does not move Meridian time. -/
theorem State.now_addReg_port (s : State) (p n : Nat) {j : Nat} (hj : j < 256) : (s.addReg (0x1110 + p) j n).now = s.now :=
  (SameRegs.addReg s (0x1110 + p) j n 0).now rfl (by simp [odKey]; omega) (by simp [odKey]; omega)

section Nak

variable {s : State} {p : Fin 4} {lseq : BitVec 8} {t : Nat}

theorem exec_nakRx_eq : exec (.nakRx p lseq t) s = s.perform fun x =>
    if (x.tick t).portState p < 2 then x.tick t
    else if 8 ≤ ((x.tick t).port p).nakCount lseq then ((x.tick t).addReg (0x1110 + p) 0x0F 1).portDown p 0
    else (((x.tick t).port p).again lseq ((x.tick t).addReg (0x1110 + p) 0x0F 1).now).foldl (fun s h => s.noteAsked p h.frame)
      (((x.tick t).addReg (0x1110 + p) 0x0F 1).setPort p (((x.tick t).port p).resent lseq ((x.tick t).addReg (0x1110 + p) 0x0F 1).now)) := rfl

theorem exec_nakRx_resends (hstate : 2 ≤ s.portState p) (hfew : (s.port p).nakCount lseq < 8) :
    ∃ u, exec (.nakRx p lseq t) s = .next u ∧
      u.port p = (s.port p).resent lseq (s.at t).now ∧
      (∀ q, q ≠ p.val → u.port q = s.port q) ∧
      u.reg (0x1110 + p) 0x0F = s.reg (0x1110 + p) 0x0F + 1 ∧
      u = { s.at t with regs := u.regs, halo := u.halo, sync := { s.sync with asked := u.sync.asked } } ∧
      SameRegs s u [odKey (0x1110 + p) 0x0F 0] := by
  obtain ⟨b, hb⟩ : ∃ b, (s.at t).addReg (0x1110 + p) 0x0F 1 = b := ⟨_, rfl⟩
  have hregs : SameRegs s b [odKey (0x1110 + p) 0x0F 0] := hb ▸ SameRegs.addReg (s.at t) _ _ _ _
  have hmoved : (s.at t).regsMoved b := hb ▸ State.regsMoved.addReg (s.at t) _ _ _ _
  have hcount : b.reg (0x1110 + p) 0x0F = s.reg (0x1110 + p) 0x0F + 1 := hb ▸ State.reg_addReg_same (s.at t) ..
  have hnow : b.now = (s.at t).now := by rw [← hb]; exact State.now_addReg_port _ p 1 (by decide)
  have hset := State.PortTo.setPort b p ((s.port p).resent lseq (s.at t).now)
  obtain ⟨m, hm⟩ := (b.setPort p ((s.port p).resent lseq (s.at t).now)).foldl_noteAsked_eq p ((s.port p).again lseq (s.at t).now)
  obtain ⟨u, hu⟩ : ∃ u, ((s.port p).again lseq (s.at t).now).foldl (fun s h => s.noteAsked p h.frame)
      (b.setPort p ((s.port p).resent lseq (s.at t).now)) = u := ⟨_, rfl⟩
  rw [hu] at hm
  have hport (q : Nat) : b.port q = s.port q := State.port_of_halo (by rw [hmoved]; rfl) q
  have huport (q : Nat) : u.port q = (b.setPort p ((s.port p).resent lseq (s.at t).now)).port q := State.port_of_halo (by rw [hm]) q
  have huregs : u.regs = b.regs := by rw [hm, hset.frame]
  have hframe : u = { s.at t with regs := u.regs, halo := u.halo, sync := { s.sync with asked := u.sync.asked } } := by
    rw [hm, hset.frame, hmoved]
    rfl
  have hall : SameRegs s u [odKey (0x1110 + p) 0x0F 0] := (hregs.trans (ls := []) (SameRegs.of_eq _ huregs)).mono (by simp)
  refine ⟨u, ?_, (huport p).trans hset.own, fun q hq => (huport q).trans ((hset.others q hq).trans (hport q)),
    (State.reg_of_regs huregs _ _ _).trans hcount, hframe, hall⟩
  rw [exec_nakRx_eq]
  refine State.perform_moves (t := t) ?_ (by rw [State.moves, hframe]) (hall.reg _ _ _ (by simp [odKey]; omega))
  rw [State.tick_posted_nil, State.at_portState, if_neg (Nat.not_lt.mpr hstate), State.at_port, if_neg (Nat.not_le.mpr hfew), hb, hnow, hu]

/-- The 8th NAK in a row takes the port DOWN. -/
theorem exec_nakRx_down (hstate : 2 ≤ s.portState p) (hsame : (s.port p).nakSeq = lseq) (hmany : 7 ≤ (s.port p).naks) :
    ∃ u, exec (.nakRx p lseq t) s = .next u ∧ u.portState p = 1 := by
  obtain ⟨b, hb⟩ : ∃ b, (s.at t).addReg (0x1110 + p) 0x0F 1 = b := ⟨_, rfl⟩
  have hregs : SameRegs s b [odKey (0x1110 + p) 0x0F 0] := hb ▸ SameRegs.addReg (s.at t) _ _ _ _
  have hmoved : (s.at t).regsMoved b := hb ▸ State.regsMoved.addReg (s.at t) _ _ _ _
  have hdown := b.portDown_downed 0 p.isLt
  have hcount : 8 ≤ (s.port p).nakCount lseq := by rw [PortSt.nakCount, if_pos hsame]; omega
  refine ⟨_, ?_, hdown.state⟩
  rw [exec_nakRx_eq]
  refine State.perform_moves (t := t) ?_ (by rw [State.moves, hdown.frame, hmoved])
    (hdown.outside.devState.trans (hregs.reg _ _ _ (by simp [odKey]; omega)))
  rw [State.tick_posted_nil, State.at_portState, if_neg (Nat.not_lt.mpr hstate), State.at_port, if_pos hcount, hb]

end Nak

/-! ## No credit for 10 ms (12, R362) -/

section Stall

variable {s : State} {p : Fin 4} {vc : Bool} {t : Nat}

theorem exec_creditStallTimeout {d : Nat} (hcredit : (s.port p).credit vc = 0) (hdry : (s.port p).dry vc = some d)
    (hlong : d + msEt 10 ≤ (s.at t).clock) (hwait : (s.port p).txq.any (fun e => e.cls ≠ 1 && e.frame.vc = vc) = true) :
    ∃ u, exec (.creditStallTimeout p vc t) s = .next u ∧
      u.reg (0x1110 + p) 0x14 = s.reg (0x1110 + p) 0x14 + 1 ∧
      u.agenda = s.agenda ++ [.faultRaise (Fin.ofNat 512 (0x42 + p)) 0x12 1 (wd (b2n vc)) false ((s.at t).clock)] ∧
      u.port p = (if vc then { s.port p with dry1 := none } else { s.port p with dry0 := none }) ∧
      (∀ q, q ≠ p.val → u.port q = s.port q) ∧
      u = { s.at t with regs := u.regs, log := u.log, agenda := u.agenda, halo := u.halo } ∧
      SameRegs s u [odKey (0x1110 + p) 0x14 0, odKey 0x0500 0x06 0, odKey 0x0500 0x07 0] := by
  obtain ⟨y, hy⟩ : ∃ y : PortSt, (if vc then { s.port p with dry1 := none } else { s.port p with dry0 := none }) = y := ⟨_, rfl⟩
  have hset := State.PortTo.setPort (s.at t) p y
  obtain ⟨a, ha⟩ : ∃ a, (s.at t).setPort p y = a := ⟨_, rfl⟩
  obtain ⟨b, hb⟩ : ∃ b, a.addReg (0x1110 + p) 0x14 1 = b := ⟨_, rfl⟩
  rw [ha] at hset
  have hmoved : a.regsMoved b := hb ▸ State.regsMoved.addReg a _ _ _ _
  have hport (q : Nat) : b.port q = a.port q := State.port_of_halo (by rw [hmoved]) q
  have hregs : SameRegs s b [odKey (0x1110 + p) 0x14 0] :=
    SameRegs.trans (t := a) (ks := []) (SameRegs.of_eq [] hset.regs) (hb ▸ SameRegs.addReg a (0x1110 + p) 0x14 1 0)
  have hcount : b.reg (0x1110 + p) 0x14 = s.reg (0x1110 + p) 0x14 + 1 := by
    rw [← hb, State.reg_addReg_same, State.reg_of_regs hset.regs, State.at_reg]
    rfl
  have hlog := State.Noted.logPut b 0x0804 (wd p) (wd (b2n vc))
  have hagenda := State.agenda_logPut b 0x0804 (wd p) (wd (b2n vc))
  obtain ⟨c, hc⟩ : ∃ c, b.logPut 0x0804 (wd p) (wd (b2n vc)) = c := ⟨_, rfl⟩
  rw [hc] at hlog hagenda
  have hnoted := hlog.trans (.raiseFault c (0x42 + p) 0x12 1 (wd (b2n vc)))
  have hall := hregs.trans hnoted.regs
  have hclock : c.clock = (s.at t).clock := by rw [hlog.clock, hmoved, hset.frame]
  have hdue : c.agenda = s.agenda := by rw [hagenda, hmoved, hset.frame]; rfl
  have hframe : c.raiseFault (0x42 + p) 0x12 1 (wd (b2n vc)) = { s.at t with
      regs := (c.raiseFault (0x42 + p) 0x12 1 (wd (b2n vc))).regs, log := (c.raiseFault (0x42 + p) 0x12 1 (wd (b2n vc))).log
      agenda := (c.raiseFault (0x42 + p) 0x12 1 (wd (b2n vc))).agenda, halo := (c.raiseFault (0x42 + p) 0x12 1 (wd (b2n vc))).halo } := by
    rw [hnoted.frame, hmoved, hset.frame]
  have hdue10 : ((s.port p).dry vc).any (fun d => d + msEt 10 ≤ (s.at t).clock) = true := by
    rw [hdry, Option.any_some]
    exact decide_eq_true hlong
  refine ⟨c.raiseFault (0x42 + p) 0x12 1 (wd (b2n vc)), ?_, (hnoted.portReg p (by decide)).trans hcount, ?_, ?_, fun q hq => ?_, hframe, hall⟩
  · change execCreditStallTimeout p vc t s = _
    refine State.perform_moves (t := t) ?_ (by rw [State.moves, hframe]) (hall.reg _ _ _ (by simp [logKeys, odKey]; omega))
    rw [State.tick_posted_nil]
    dsimp only
    rw [State.at_port, if_pos ⟨hcredit, hdue10, hwait⟩, hy, ha, hb, hc]
  · rw [← hclock, ← hdue]
    rfl
  · rw [hnoted.port, hport, hset.own, hy]
  · rw [hnoted.port, hport, hset.others q hq, State.at_port]

theorem exec_creditStallTimeout_idle (h : (s.port p).credit vc ≠ 0 ∨ (∀ d ∈ ((s.port p).dry vc).toList, (s.at t).clock < d + msEt 10) ∨
      (s.port p).txq.any (fun e => e.cls ≠ 1 && e.frame.vc = vc) = false) :
    exec (.creditStallTimeout p vc t) s = .next (s.at t) := by
  change execCreditStallTimeout p vc t s = _
  refine State.perform_moves (t := t) ?_ rfl rfl
  rw [State.tick_posted_nil]
  refine if_neg fun ⟨hcredit, hlong, hwait⟩ => ?_
  obtain h | h | h := h
  · exact h hcredit
  · obtain ⟨d, hd, hlate⟩ := (Option.any_eq_true _ _).mp hlong
    exact absurd (of_decide_eq_true hlate) (Nat.not_le.mpr (h d (by simpa using hd)))
  · exact Bool.false_ne_true (h.symm.trans hwait)

end Stall

end Sys2Proof.Machine

namespace Sys2Proof.Machine

/-! ## An arbiter at which something waits grants it (15, R444) -/

/-- A greatest value is that of an element. -/
theorem exists_mem_foldl_max {α : Type} (f : α → Nat) {l : List α} (h : l ≠ []) : ∃ e ∈ l, f e = l.foldl (fun m e => max m (f e)) 0 := by
  induction l using List.reverseRecOn with
  | nil => exact absurd rfl h
  | append_singleton l x ih =>
    rw [List.foldl_append, List.foldl_cons, List.foldl_nil]
    obtain hx | hx := Nat.le_total (l.foldl (fun m e => max m (f e)) 0) (f x)
    · exact ⟨x, by simp, (Nat.max_eq_right hx).symm⟩
    · by_cases hl : l = []
      · subst hl
        exact ⟨x, by simp, (Nat.max_eq_right (Nat.zero_le _)).symm⟩
      · obtain ⟨e, he, hmax⟩ := ih hl
        exact ⟨e, by simp [he], hmax.trans (Nat.max_eq_left hx).symm⟩

/-- The requester that is least in the order of a round. -/
def leastInRound (l : List (Nat × Nat × Nat)) : Option (Nat × Nat × Nat) :=
  l.foldl (fun (b : Option (Nat × Nat × Nat)) e => match b with
    | none => some e
    | some x => if reqKey e < reqKey x then some e else some x) none

theorem leastInRound_mem {l : List (Nat × Nat × Nat)} (h : l ≠ []) : ∃ e ∈ l, leastInRound l = some e := by
  induction l using List.reverseRecOn with
  | nil => exact absurd rfl h
  | append_singleton l x ih =>
    have hlast : leastInRound (l ++ [x]) = match leastInRound l with
        | none => some x
        | some y => if reqKey x < reqKey y then some x else some y := List.foldl_append
    rw [hlast]
    by_cases hl : l = []
    · subst hl
      exact ⟨x, by simp, rfl⟩
    · obtain ⟨e, he, hleast⟩ := ih hl
      rw [hleast]
      by_cases hkey : reqKey x < reqKey e
      · exact ⟨x, by simp, if_pos hkey⟩
      · exact ⟨e, by simp [he], if_neg hkey⟩

theorem nextInRound_eq (last : Nat) (l : List (Nat × Nat × Nat)) :
    nextInRound last l = (leastInRound (l.filter (fun e => last < reqKey e))).or (leastInRound l) := by
  change (match leastInRound (l.filter (fun e => last < reqKey e)) with
    | some e => some e
    | none => leastInRound l) = _
  cases leastInRound (l.filter (fun e => last < reqKey e)) <;> rfl

theorem nextInRound_mem (last : Nat) {l : List (Nat × Nat × Nat)} (h : l ≠ []) : ∃ e ∈ l, nextInRound last l = some e := by
  rw [nextInRound_eq]
  by_cases hafter : l.filter (fun e => last < reqKey e) = []
  · rw [hafter]
    exact leastInRound_mem h
  · obtain ⟨e, he, hleast⟩ := leastInRound_mem hafter
    rw [hleast]
    exact ⟨e, List.mem_of_mem_filter he, rfl⟩

/-- The filter to a greatest value is not empty. -/
theorem filter_foldl_max_ne_nil {α : Type} (f : α → Nat) {l : List α} (h : l ≠ []) :
    l.filter (fun e => f e = l.foldl (fun m e => max m (f e)) 0) ≠ [] := by
  obtain ⟨e, he, hmax⟩ := exists_mem_foldl_max f h
  exact List.ne_nil_of_mem (List.mem_filter.mpr ⟨he, decide_eq_true hmax⟩)

theorem ArbSt.pick_mem (x : ArbSt) {among : List (Nat × Nat × Nat)} (h : among ≠ []) : ∃ g ∈ among, x.pick among = some g := by
  have hcls := filter_foldl_max_ne_nil (fun e : Nat × Nat × Nat => reqClass e.1) h
  obtain ⟨g, hg, hpick⟩ := nextInRound_mem x.last (filter_foldl_max_ne_nil (fun e : Nat × Nat × Nat => e.2.2) hcls)
  exact ⟨g, List.mem_of_mem_filter (List.mem_of_mem_filter hg), hpick⟩

/-! ## A turn of an arbiter (15, R444) -/

/-- Arbiters are all that a state moved. -/
def State.arbsMoved (s u : State) : Prop := u = { s with mem := { s.mem with arbs := u.mem.arbs } }

theorem State.arbsMoved.refl (s : State) : s.arbsMoved s := rfl
theorem State.arbsMoved.trans {s u v : State} (h : s.arbsMoved u) (h' : u.arbsMoved v) : s.arbsMoved v := by
  unfold State.arbsMoved; rw [h', h]

theorem State.arbsMoved.setArb (s : State) (a : Nat) (x : ArbSt) : s.arbsMoved (s.setArb a x) := rfl

@[simp] theorem State.arb_setArb_same (s : State) (a : Nat) (x : ArbSt) : (s.setArb a x).arb a = x := by
  simp [State.arb, State.setArb]

theorem State.arbTurn_arbsMoved (s : State) (a : Nat) (asks : List (Nat × Nat)) (may : Nat × Nat → Bool) : s.arbsMoved (s.arbTurn a asks may) := by
  unfold State.arbTurn
  dsimp only
  split <;> exact State.arbsMoved.setArb ..

/-- What waits at an arbiter when requests have come. -/
def State.arbWaiting (s : State) (a : Nat) (asks : List (Nat × Nat)) : List (Nat × Nat × Nat) :=
  (s.arb a).waiting ++ (((asks.filter (fun e => reqAt e.1 a)).filter
    (fun e => !(s.arb a).waiting.any (fun w => w.1 = e.1 && w.2.1 = e.2))).eraseDups).map (fun e => (e.1, e.2, s.reqBase e.1))

/-- A request that goes to the arbiter waits at it. -/
theorem State.mem_arbWaiting (s : State) {a : Nat} {asks : List (Nat × Nat)} {r : Nat × Nat} (h : r ∈ asks) (hat : reqAt r.1 a = true) :
    ∃ w ∈ s.arbWaiting a asks, (w.1, w.2.1) = r := by
  cases hw : (s.arb a).waiting.any (fun w => w.1 = r.1 && w.2.1 = r.2) with
  | true =>
    obtain ⟨w, hmem, heq⟩ := List.any_eq_true.mp hw
    simp only [Bool.and_eq_true, decide_eq_true_eq] at heq
    exact ⟨w, List.mem_append_left _ hmem, Prod.ext heq.1 heq.2⟩
  | false =>
    refine ⟨(r.1, r.2, s.reqBase r.1), List.mem_append_right _ (List.mem_map.mpr ⟨r, ?_, rfl⟩), rfl⟩
    rw [List.mem_eraseDups]
    exact List.mem_filter.mpr ⟨List.mem_filter.mpr ⟨h, hat⟩, by rw [hw]; rfl⟩

/-- What waits had waited before or is asked for. -/
theorem State.asked_of_mem_arbWaiting (s : State) {a : Nat} {asks : List (Nat × Nat)} {w : Nat × Nat × Nat} (h : w ∈ s.arbWaiting a asks) :
    w ∈ (s.arb a).waiting ∨ (w.1, w.2.1) ∈ asks := by
  refine (List.mem_append.mp h).imp_right fun hfresh => ?_
  obtain ⟨r, hr, rfl⟩ := List.mem_map.mp hfresh
  rw [List.mem_eraseDups] at hr
  exact List.mem_of_mem_filter (List.mem_of_mem_filter hr)

/-- A turn with something to grant grants it. -/
theorem State.arbTurn_grants (s : State) (a : Nat) (asks : List (Nat × Nat)) (may : Nat × Nat → Bool)
    (h : (s.arbWaiting a asks).filter (fun e => may (e.1, e.2.1)) ≠ []) :
    ∃ g ∈ s.arbWaiting a asks, may (g.1, g.2.1) = true ∧
      ((s.arbTurn a asks may).arb a).grant = some (g.1, g.2.1, s.clock, s.actN 0x0C00 2) := by
  obtain ⟨g, hg, hpick⟩ := ArbSt.pick_mem { s.arb a with waiting := s.arbWaiting a asks } h
  obtain ⟨hmem, hmay⟩ := List.mem_filter.mp hg
  refine ⟨g, hmem, hmay, ?_⟩
  unfold State.arbTurn
  dsimp only
  split
  · next hnone => cases hnone.symm.trans hpick
  · next k hsome =>
    cases hsome.symm.trans hpick
    rw [State.arb_setArb_same]

/-! ## The frame that an egress sends next (12, R353) -/

/-- The first class of which an egress may send. -/
def State.firstClass (s : State) (p : Nat) : Option Nat := [1, 2, 3, 4, 5].find? (fun c => (s.sendable p).any (fun e => e.cls = c))

/-- The egress' arbiter, where only what is asked now waits on. -/
def State.egressAsked (s : State) (p : Nat) : State :=
  s.setArb (96 + p) { s.arb (96 + p) with
    waiting := (s.arb (96 + p)).waiting.filter (fun w => (w.1, w.2.1) ∈ (s.sendable p).map TxFrame.asks) }

/-- The turn of that arbiter for a class. -/
def State.egressTurn (s : State) (p c : Nat) : State :=
  (s.egressAsked p).arbTurn (96 + p) ((s.sendable p).map TxFrame.asks) (fun r => r.2 / 8 = c)

theorem State.egressTurn_arbsMoved (s : State) (p c : Nat) : s.arbsMoved (s.egressTurn p c) :=
  (State.arbsMoved.setArb s _ _).trans (State.arbTurn_arbsMoved ..)

theorem State.pickFrame_of_none {s : State} {p : Nat} (h : s.firstClass p = none) : s.pickFrame p = (none, s) := by
  rw [State.firstClass] at h
  unfold State.pickFrame
  dsimp only
  rw [h]

/-- LINK_INFO goes before every class that is arbitrated. -/
theorem State.pickFrame_linkInfo {s : State} {p : Nat} (h : s.firstClass p = some 1) :
    s.pickFrame p = ((s.sendable p).find? (fun e => e.cls = 1), s) := by
  rw [State.firstClass] at h
  unfold State.pickFrame
  dsimp only
  rw [h]
  rfl

/-- Of another class the frame that the arbiter grants goes. -/
theorem State.pickFrame_arbitrated {s : State} {p c : Nat} (hc : c ≠ 1) (h : s.firstClass p = some c) :
    s.pickFrame p = (((s.egressTurn p c).arb (96 + p)).grant.bind (fun g => (s.sendable p).find? (fun e => e.asks = (g.1, g.2.1))),
      s.egressTurn p c) := by
  rw [State.firstClass] at h
  unfold State.pickFrame
  dsimp only
  rw [h]
  split
  · next hnone => cases hnone
  · next hone => cases hone; exact absurd rfl hc
  · next k _ heq =>
    cases heq
    rw [State.egressTurn, State.egressAsked]
    split
    · next hgrant => rw [hgrant]; rfl
    · next hgrant => rw [hgrant]; rfl

theorem State.pickFrame_arbsMoved (s : State) (p : Nat) : s.arbsMoved (s.pickFrame p).2 := by
  cases h : s.firstClass p with
  | none => rw [State.pickFrame_of_none h]; exact .refl s
  | some c =>
    by_cases hc : c = 1
    · subst hc
      rw [State.pickFrame_linkInfo h]; exact .refl s
    · rw [State.pickFrame_arbitrated hc h]; exact s.egressTurn_arbsMoved p c

theorem State.pickFrame_of_sendable_nil {s : State} {p : Nat} (h : s.sendable p = []) : s.pickFrame p = (none, s) :=
  State.pickFrame_of_none (by rw [State.firstClass, h]; rfl)

end Sys2Proof.Machine

namespace Sys2Proof.Machine

/-! ## Two frames of two classes wait (12, R353) -/

theorem TxFrame.asks_class {e : TxFrame} (h : e.inp = none) : e.asks.2 / 8 = e.cls := by
  simp only [TxFrame.asks, h]
  omega

/-- What asks at an egress goes to its arbiter. -/
theorem TxFrame.reqAt_asks (e : TxFrame) {p : Nat} (hp : p < 4) : reqAt e.asks.1 (96 + p) = true := by
  have hcode : e.asks.1 = 11 ∨ e.asks.1 = 12 ∨ e.asks.1 = 13 := by
    simp only [TxFrame.asks]
    split_ifs <;> simp
  unfold reqAt
  obtain h | h | h := hcode <;> rw [h] <;> simp <;> omega

section Two

variable {s : State} {p : Nat} {d e : TxFrame}

theorem State.firstClass_two (h : s.sendable p = [d, e]) (hfirst : 1 ≤ e.cls) (hless : e.cls < d.cls) (hlast : d.cls ≤ 5) :
    s.firstClass p = some e.cls := by
  have hlist : [1, 2, 3, 4, 5] = List.range' 1 5 := rfl
  rw [State.firstClass, h, hlist, List.find?_range'_eq_some]
  refine ⟨by simp, List.mem_range'_1.mpr (by omega), fun j _ hj => ?_⟩
  simp
  omega

/-- Of two frames the one of the first class is granted. -/
theorem State.pickFrame_two (hp : p < 4) (h : s.sendable p = [d, e]) (hfirst : 1 ≤ e.cls) (hless : e.cls < d.cls) (hlast : d.cls ≤ 5)
    (hd : d.inp = none) (he : e.inp = none) : (s.pickFrame p).1 = some e := by
  have hclass := State.firstClass_two h hfirst hless hlast
  by_cases hone : e.cls = 1
  · rw [State.pickFrame_linkInfo (hclass.trans (congrArg some hone)), h]
    simp [hone, show d.cls ≠ 1 by omega]
  have hask : e.asks ∈ (s.sendable p).map TxFrame.asks := by simp [h]
  obtain ⟨w, hw, hwe⟩ := (s.egressAsked p).mem_arbWaiting hask (e.reqAt_asks hp)
  obtain ⟨g, hg, hmay, hgrant⟩ := (s.egressAsked p).arbTurn_grants (96 + p) ((s.sendable p).map TxFrame.asks) (fun r => r.2 / 8 = e.cls)
    (List.ne_nil_of_mem (List.mem_filter.mpr ⟨hw, by rw [hwe]; exact decide_eq_true (TxFrame.asks_class he)⟩))
  have hasked : (g.1, g.2.1) ∈ (s.sendable p).map TxFrame.asks := by
    refine ((s.egressAsked p).asked_of_mem_arbWaiting hg).elim (fun hwait => ?_) id
    rw [State.egressAsked, State.arb_setArb_same] at hwait
    exact of_decide_eq_true (List.mem_filter.mp hwait).2
  have hother : d.asks ≠ e.asks := fun heq => by
    have := congrArg (fun r : Nat × Nat => r.2 / 8) heq
    simp only [TxFrame.asks_class hd, TxFrame.asks_class he] at this
    omega
  have hge : (g.1, g.2.1) = e.asks := by
    rw [h] at hasked
    simp only [List.map_cons, List.map_nil, List.mem_cons, List.not_mem_nil, or_false] at hasked
    refine hasked.resolve_left fun hgd => ?_
    have hcls : g.2.1 / 8 = e.cls := of_decide_eq_true hmay
    have hdcls : g.2.1 / 8 = d.cls := (congrArg (fun r : Nat × Nat => r.2 / 8) hgd).trans (TxFrame.asks_class hd)
    omega
  rw [State.pickFrame_arbitrated hone hclass, State.egressTurn, hgrant, h]
  simp [hge, hother]

end Two

/-! ## A frame leaves a port (12, R351, R352, R372) -/

/-- The port that has sent a frame. -/
def PortSt.sent (x : PortSt) (e : TxFrame) (now : U80) (t : Nat) : PortSt :=
  { (if e.cls = 1 then x else x.setCredit e.frame.vc (x.credit e.frame.vc - 1) t) with
    txq := x.txq.erase e, replay := x.replay ++ [⟨x.txSeq, frameStamped e.frame now⟩], txSeq := x.txSeq + 1
    lastTx := frameWire (frameStamped e.frame now) x.txSeq }

theorem PortSt.credit_setCredit (x : PortSt) (vc : Bool) (n t : Nat) : (x.setCredit vc n t).credit vc = n := by
  cases vc <;> rfl

/-- LINK_INFO spends no credit, another frame one. -/
theorem PortSt.credit_sent (x : PortSt) (e : TxFrame) (now : U80) (t : Nat) :
    (x.sent e now t).credit e.frame.vc = x.credit e.frame.vc - (if e.cls = 1 then 0 else 1) := by
  by_cases h : e.cls = 1
  · simp only [PortSt.sent, h, if_true]
    rfl
  · simp only [PortSt.sent, h, if_false]
    exact x.credit_setCredit ..

/-- What sending a frame moves. -/
structure State.Sent (s u : State) (p : Nat) (e : TxFrame) : Prop where
  frame : u = { s with halo := u.halo, sync := { s.sync with asked := u.sync.asked } }
  own : u.port p = { (s.port p).sent e s.now s.clock with ctl := (u.port p).ctl }
  others : e.owes = none → ∀ q, q ≠ p → u.port q = s.port q

theorem State.sendOut_sent (s : State) (p : Nat) (e : TxFrame) : s.Sent (s.sendOut p e) p e := by
  obtain ⟨a, ha⟩ : ∃ a, s.setPort p ((s.port p).sent e s.now s.clock) = a := ⟨_, rfl⟩
  have hset := State.PortTo.setPort s p ((s.port p).sent e s.now s.clock)
  rw [ha] at hset
  obtain ⟨m, hm⟩ := a.noteAsked_eq p (frameStamped e.frame s.now)
  have hout : s.sendOut p e = (a.noteAsked p (frameStamped e.frame s.now)).txLeft e := by
    rw [← ha]
    rfl
  obtain ⟨b, hb⟩ : ∃ b, a.noteAsked p (frameStamped e.frame s.now) = b := ⟨_, rfl⟩
  rw [hout, hb]
  rw [hb] at hm
  have hport (q : Nat) : b.port q = a.port q := State.port_of_halo (by rw [hm]) q
  refine ⟨?_, ?_, fun hnone q hq => ?_⟩
  · rw [b.txLeft_portsMoved e, hm, hset.frame]
  · rw [b.txLeft_port e p, hport, hset.own]
  · rw [State.txLeft_of_owes_none b hnone, hport, hset.others q hq]

/-- A sent frame is counted. -/
theorem State.reg80_addReg80 (s : State) (i j n : Nat) : (s.addReg80 i j n).reg80 i j = s.reg80 i j + BitVec.ofNat 80 n :=
  State.reg80_setReg80_same ..

theorem SameRegs.addReg80 (s : State) (i j n : Nat) : SameRegs s (s.addReg80 i j n) [odKey i j 0, odKey i j 1] :=
  SameRegs.setReg80 s i j _

theorem State.regsMoved.addReg80 (s : State) (i j n : Nat) : s.regsMoved (s.addReg80 i j n) := State.regsMoved.setReg80 s i j _

section Send

variable {s : State} {p : Fin 4} {t : Nat}

theorem exec_frameSend_eq : exec (.frameSend p t) s = s.perform fun x =>
    if (x.tick t).portState p < 2 then x.tick t
    else match ((x.tick t).port p).ctl with
      | w :: ws => (x.tick t).setPort p { (x.tick t).port p with ctl := ws, lastTx := [w] }
      | [] =>
        if 128 ≤ ((x.tick t).port p).replay.length then x.tick t
        else match ((x.tick t).pickFrame p).1 with
          | none => ((x.tick t).pickFrame p).2
          | some e => (((x.tick t).pickFrame p).2.sendOut p e).addReg80 (0x1110 + p) 0x12 1 := rfl

theorem exec_frameSend_control {w : Word} {ws : List Word} (h : 2 ≤ s.portState p) (hctl : (s.port p).ctl = w :: ws) :
    ∃ u, exec (.frameSend p t) s = .next u ∧
      u.port p = { s.port p with ctl := ws, lastTx := [w] } ∧
      (∀ q, q ≠ p.val → u.port q = s.port q) ∧
      u = { s.at t with halo := u.halo } := by
  rw [exec_frameSend_eq]
  refine (State.PortTo.setPort (s.at t) p { s.port p with ctl := ws, lastTx := [w] }).perform ?_
  rw [State.tick_posted_nil, State.at_portState, if_neg (Nat.not_lt.mpr h), State.at_port, hctl]

theorem exec_frameSend_picked {e : TxFrame} (h : 2 ≤ s.portState p) (hctl : (s.port p).ctl = []) (hpick : ((s.at t).pickFrame p).1 = some e)
    (hfew : (s.port p).replay.length < 128) :
    ∃ u, exec (.frameSend p t) s = .next u ∧
      (u.port p).txq = (s.port p).txq.erase e ∧
      (u.port p).replay = (s.port p).replay ++ [⟨(s.port p).txSeq, frameStamped e.frame (s.at t).now⟩] ∧
      (u.port p).txSeq = (s.port p).txSeq + 1 ∧
      (u.port p).lastTx = frameWire (frameStamped e.frame (s.at t).now) (s.port p).txSeq ∧
      (u.port p).credit e.frame.vc = (s.port p).credit e.frame.vc - (if e.cls = 1 then 0 else 1) ∧
      (e.owes = none → ∀ q, q ≠ p.val → u.port q = s.port q) ∧
      u.reg80 (0x1110 + p) 0x12 = s.reg80 (0x1110 + p) 0x12 + 1 ∧
      u = { s.at t with regs := u.regs, halo := u.halo, mem := { s.mem with arbs := u.mem.arbs }, sync := { s.sync with asked := u.sync.asked } } ∧
      SameRegs s u [odKey (0x1110 + p) 0x12 0, odKey (0x1110 + p) 0x12 1] := by
  have harbs := (s.at t).pickFrame_arbsMoved p
  obtain ⟨a, ha⟩ : ∃ a, ((s.at t).pickFrame p).2 = a := ⟨_, rfl⟩
  have hsent := a.sendOut_sent p e
  obtain ⟨b, hb⟩ : ∃ b, a.sendOut p e = b := ⟨_, rfl⟩
  have hcount := State.reg80_addReg80 b (0x1110 + p) 0x12 1
  have hcountregs := SameRegs.addReg80 b (0x1110 + p) 0x12 1
  have hmoved := State.regsMoved.addReg80 b (0x1110 + p) 0x12 1
  obtain ⟨u, hu⟩ : ∃ u, b.addReg80 (0x1110 + p) 0x12 1 = u := ⟨_, rfl⟩
  rw [ha] at harbs
  rw [hb] at hsent
  rw [hu] at hcount hcountregs hmoved
  have haport (q : Nat) : a.port q = s.port q := State.port_of_halo (by rw [harbs]; rfl) q
  have haregs : a.regs = s.regs := by rw [harbs]; rfl
  have haclock : a.clock = (s.at t).clock := by rw [harbs]
  have hanow : a.now = (s.at t).now := (SameRegs.of_eq [] (show a.regs = (s.at t).regs from haregs)).now haclock (by simp) (by simp)
  have hbregs : b.regs = s.regs := by rw [hsent.frame, haregs]
  have hown : u.port p = { (s.port p).sent e (s.at t).now (s.at t).clock with ctl := (b.port p).ctl } := by
    rw [State.port_of_halo (show u.halo = b.halo by rw [hmoved]), hsent.own, haport, hanow, haclock]
  have hframe : u = { s.at t with
      regs := u.regs, halo := u.halo, mem := { s.mem with arbs := u.mem.arbs }, sync := { s.sync with asked := u.sync.asked } } := by
    rw [hmoved, hsent.frame, harbs]
    rfl
  have hregs : SameRegs s u [odKey (0x1110 + p) 0x12 0, odKey (0x1110 + p) 0x12 1] := (SameRegs.of_eq [] hbregs).trans hcountregs
  refine ⟨u, ?_, by rw [hown]; rfl, by rw [hown]; rfl, by rw [hown]; rfl, by rw [hown]; rfl, ?_, fun hnone q hq => ?_, ?_, hframe, hregs⟩
  · rw [exec_frameSend_eq]
    refine State.perform_next ?_ (hregs.reg _ _ _ (by simp [odKey]; omega)) (by rw [hframe]; rfl) (by rw [hframe]; rfl) (by rw [hframe]; rfl)
      (by rw [hframe]; exact State.tick_clock_le s t)
    rw [State.tick_posted_nil, State.at_portState, if_neg (Nat.not_lt.mpr h), State.at_port, hctl, if_neg (Nat.not_le.mpr hfew), hpick, ha]
    dsimp only
    rw [hb, hu]
  · rw [hown]
    exact PortSt.credit_sent _ _ (s.at t).now _
  · rw [State.port_of_halo (show u.halo = b.halo by rw [hmoved]), hsent.others hnone q hq, haport]
  · rw [hcount, State.reg80, State.reg80, State.reg_of_regs hbregs, State.reg_of_regs hbregs]
    rfl

theorem exec_frameSend_two {d e : TxFrame} (h : s.portState p = 3) (hctl : (s.port p).ctl = []) (htxq : (s.port p).txq = [d, e])
    (hdcredit : (s.port p).credit d.frame.vc ≠ 0) (hecredit : (s.port p).credit e.frame.vc ≠ 0) (hfirst : 1 ≤ e.cls) (hless : e.cls < d.cls)
    (hlast : d.cls ≤ 5) (hd : d.inp = none) (he : e.inp = none) (hfew : (s.port p).replay.length < 128) :
    ∃ u, exec (.frameSend p t) s = .next u ∧
      (u.port p).txq = [d] ∧
      (u.port p).replay = (s.port p).replay ++ [⟨(s.port p).txSeq, frameStamped e.frame (s.at t).now⟩] := by
  have hsendable : (s.at t).sendable p = [d, e] := by
    rw [State.at_sendable, State.sendable, htxq]
    simp [hdcredit, hecredit, h]
  obtain ⟨u, hu, hq, hheld, -⟩ := exec_frameSend_picked (by rw [h]; decide) hctl
    (State.pickFrame_two p.isLt hsendable hfirst hless hlast hd he) hfew
  have hne : d ≠ e := fun heq => by rw [heq] at hless; omega
  refine ⟨u, hu, hq.trans ?_, hheld⟩
  rw [htxq, List.erase_cons_tail (by simpa using hne), List.erase_cons_head]

theorem exec_frameSend_idle
    (h : s.portState p < 2 ∨ ((s.port p).ctl = [] ∧ (s.sendable p = [] ∨ 128 ≤ (s.port p).replay.length))) :
    exec (.frameSend p t) s = .next (s.at t) := by
  rw [exec_frameSend_eq]
  refine State.perform_moves (t := t) ?_ rfl rfl
  rw [State.tick_posted_nil, State.at_portState, State.at_port]
  by_cases hstate : s.portState p < 2
  · rw [if_pos hstate]
  obtain ⟨hctl, hnone⟩ := h.resolve_left hstate
  rw [if_neg hstate, hctl]
  by_cases hmany : 128 ≤ (s.port p).replay.length
  · exact if_pos hmany
  · refine (if_neg hmany).trans ?_
    rw [State.pickFrame_of_sendable_nil ((State.at_sendable ..).trans (hnone.resolve_right hmany))]

end Send

/-! ## A frame arrives at a port (12, R350, R352) -/

/-- The port that has discarded a frame: it awaits the expected one, and said so once. -/
def PortSt.refusing (x : PortSt) : PortSt :=
  { x with nakWait := true, ctl := x.ctl ++ (if x.nakWait = true then [] else [wd (2 ^ 36 + 3 * 2 ^ 32 + x.rxSeq.toNat)]) }

theorem State.refuseFrame_refuses (s : State) (p : Nat) : (s.discard p).PortTo (s.refuseFrame p) p ((s.discard p).port p).refusing := by
  unfold State.refuseFrame
  dsimp only
  generalize s.discard p = b
  cases hwait : (b.port p).nakWait with
  | true =>
    rw [if_pos rfl]
    have hsame : (b.port p).refusing = b.port p := by
      unfold PortSt.refusing
      rw [hwait, if_pos rfl, List.append_nil, ← hwait]
    rw [hsame]
    exact .refl b p
  | false =>
    have hset := State.PortTo.onPort b p (fun x => { x with nakWait := true })
    have hnak := State.PortTo.control (b.onPort p (fun x => { x with nakWait := true })) p 3 (b.port p).rxSeq.toNat
    rw [hset.own] at hnak
    have hsame : (b.port p).refusing = { b.port p with nakWait := true, ctl := (b.port p).ctl ++ [wd (2 ^ 36 + 3 * 2 ^ 32 + (b.port p).rxSeq.toNat)] } := by
      unfold PortSt.refusing
      rw [hwait, if_neg Bool.false_ne_true]
    rw [if_neg Bool.false_ne_true, hsame]
    exact hset.trans hnak

/-- A frame that is corrupted or not the expected one is refused. -/
theorem State.frameIn_refuses {s : State} {port : Fin 4} {ws : List Word} (h : ∀ x ∈ (parseFrame ws).toList, x.2 ≠ (s.port port).rxSeq) :
    s.frameIn port ws = s.refuseFrame port := by
  unfold State.frameIn
  split
  · rfl
  · next f lseq hparse => exact if_neg (h (f, lseq) (by simp [hparse]))

/-- A sound frame with the expected LSEQ is accepted. -/
theorem State.frameIn_takes {s : State} {port : Fin 4} {ws : List Word} {f : Frame} (h : parseFrame ws = some (f, (s.port port).rxSeq)) :
    s.frameIn port ws = s.takeFrame port f := by
  unfold State.frameIn
  rw [h]
  exact if_pos rfl

/-- The links alone moved, and the LSEQ that port `p` expects stands. -/
def State.expectsSame (p : Nat) (s u : State) : Prop := u = { s with halo := u.halo } ∧ (u.port p).rxSeq = (s.port p).rxSeq

theorem State.expectsSame.refl (p : Nat) (s : State) : State.expectsSame p s s := ⟨rfl, rfl⟩
theorem State.expectsSame.trans {p : Nat} {s u v : State} (h : State.expectsSame p s u) (h' : State.expectsSame p u v) : State.expectsSame p s v :=
  ⟨by rw [h'.1, h.1], h'.2.trans h.2⟩

theorem State.expectsSame.onPort {p : Nat} (s : State) {f : PortSt → PortSt} (h : ∀ x, (f x).rxSeq = x.rxSeq) :
    State.expectsSame p s (s.onPort p f) := ⟨rfl, by rw [State.port_onPort_same, h]⟩

theorem State.expectsSame.control {p : Nat} (s : State) (kind v : Nat) : State.expectsSame p s (s.control p kind v) :=
  ⟨rfl, by rw [State.control, State.port_onPort_same]⟩

theorem State.ackFrames_expectsSame (s : State) (p : Nat) : State.expectsSame p s (s.ackFrames p) := by
  unfold State.ackFrames
  dsimp only
  split
  · exact .refl p s
  · exact (State.expectsSame.onPort s (f := fun x => { x with unacked := 0 }) (fun _ => rfl)).trans (State.expectsSame.control ..)

theorem State.freeBuffer_expectsSame (s : State) (p : Nat) (vc : Bool) : State.expectsSame p s (s.freeBuffer p vc) :=
  State.expectsSame.control ..

/-- The state that has accepted a frame of a reserved type, but for DISCARDS. -/
def State.tookReserved (s : State) (p : Nat) (f : Frame) : State :=
  let s := (s.addReg80 (0x1110 + p) 0x13 1).onPort p (fun x => { x with rxSeq := x.rxSeq + 1, nakWait := false, unacked := x.unacked + 1 })
  (s.when (16 ≤ (s.port p).unacked) (fun s => s.ackFrames p)).when (f.ty ≠ 0xA) (fun s => s.freeBuffer p f.vc)

theorem State.takeFrame_reserved (s : State) (port : Fin 4) {f : Frame} (h : 0xB ≤ f.ty.toNat) :
    s.takeFrame port f = (s.tookReserved port f).discard port := if_pos h

theorem State.tookReserved_expects (s : State) (p : Nat) (f : Frame) :
    s.tookReserved p f = { s.addReg80 (0x1110 + p) 0x13 1 with halo := (s.tookReserved p f).halo } ∧
      ((s.tookReserved p f).port p).rxSeq = (s.port p).rxSeq + 1 := by
  have hack := fun b s => State.when_rel (State.expectsSame.refl p) (f := fun s => s.ackFrames p) s b (fun _ => s.ackFrames_expectsSame p)
  have hfree := fun b s => State.when_rel (State.expectsSame.refl p) (f := fun s => s.freeBuffer p f.vc) s b (fun _ => s.freeBuffer_expectsSame p f.vc)
  have hset := State.PortTo.onPort (s.addReg80 (0x1110 + p) 0x13 1) p
    (fun x => { x with rxSeq := x.rxSeq + 1, nakWait := false, unacked := x.unacked + 1 })
  unfold State.tookReserved
  dsimp only
  generalize State.onPort (s.addReg80 (0x1110 + p) 0x13 1) p _ = b at hset
  obtain ⟨hframe, hseq⟩ := (hack (16 ≤ (b.port p).unacked) b).trans (hfree (f.ty ≠ 0xA) _)
  exact ⟨by rw [hframe, hset.frame], hseq.trans (by rw [hset.own]; rfl)⟩

section Reserved

variable {s : State} {p : Fin 4} {words : List Word} {t : Nat}

theorem exec_reservedFrameRx_refused (h : 2 ≤ s.portState p) (hbad : ∀ x ∈ (parseFrame words).toList, x.2 ≠ (s.port p).rxSeq) :
    ∃ u, exec (.reservedFrameRx p words t) s = .next u ∧
      u.reg (0x1110 + p) 0x10 = s.reg (0x1110 + p) 0x10 + 1 ∧
      (u.port p).nakWait = true ∧
      (u.port p).ctl = (s.port p).ctl ++ (if (s.port p).nakWait = true then [] else [wd (2 ^ 36 + 3 * 2 ^ 32 + (s.port p).rxSeq.toNat)]) ∧
      (∀ q, q ≠ p.val → u.port q = s.port q) ∧
      u = { s.at t with regs := u.regs, halo := u.halo } ∧
      SameRegs s u [odKey (0x1110 + p) 0x10 0] := by
  have hrefuse := (s.at t).refuseFrame_refuses p
  have hframe : (s.at t).refuseFrame p = { s.at t with regs := ((s.at t).refuseFrame p).regs, halo := ((s.at t).refuseFrame p).halo } := by
    rw [hrefuse.frame]
    rfl
  have hcount : SameRegs s ((s.at t).discard p) [odKey (0x1110 + p) 0x10 0] := SameRegs.addReg (s.at t) _ _ _ _
  have hregs : SameRegs s ((s.at t).refuseFrame p) [odKey (0x1110 + p) 0x10 0] :=
    (hcount.trans (ls := []) (SameRegs.of_eq _ hrefuse.regs)).mono (by simp)
  refine ⟨(s.at t).refuseFrame p, ?_, ?_, by rw [hrefuse.own]; rfl, by rw [hrefuse.own]; rfl, hrefuse.others, hframe, hregs⟩
  · refine State.perform_moves (t := t) (f := fun x => (x.tick t).when (2 ≤ (x.tick t).portState p) (fun s => s.frameIn p words)) ?_
      (by rw [State.moves, hframe]) (hregs.reg _ _ _ (by simp [odKey]; omega))
    rw [State.tick_posted_nil, State.at_portState, decide_eq_true h, State.when_true, State.frameIn_refuses (s := s.at t) hbad]
  · exact (State.reg_of_regs hrefuse.regs _ _ _).trans (State.reg_addReg_same ..)

theorem exec_reservedFrameRx_idle (h : s.portState p < 2) : exec (.reservedFrameRx p words t) s = .next (s.at t) := by
  refine State.perform_moves (t := t) (f := fun x => (x.tick t).when (2 ≤ (x.tick t).portState p) (fun s => s.frameIn p words)) ?_ rfl rfl
  rw [State.tick_posted_nil, State.at_portState, decide_eq_false (Nat.not_le.mpr h), State.when_false]

theorem exec_reservedFrameRx_accepted {f : Frame} (h : 2 ≤ s.portState p) (hparse : parseFrame words = some (f, (s.port p).rxSeq))
    (hreserved : 0xB ≤ f.ty.toNat) :
    ∃ u, exec (.reservedFrameRx p words t) s = .next u ∧
      (u.port p).rxSeq = (s.port p).rxSeq + 1 ∧
      u.reg80 (0x1110 + p) 0x13 = s.reg80 (0x1110 + p) 0x13 + 1 ∧
      u.reg (0x1110 + p) 0x10 = s.reg (0x1110 + p) 0x10 + 1 ∧
      u = { s.at t with regs := u.regs, halo := u.halo } ∧
      SameRegs s u [odKey (0x1110 + p) 0x10 0, odKey (0x1110 + p) 0x13 0, odKey (0x1110 + p) 0x13 1] := by
  obtain ⟨htook, hseq⟩ := (s.at t).tookReserved_expects p f
  obtain ⟨b, hb⟩ : ∃ b, (s.at t).tookReserved p f = b := ⟨_, rfl⟩
  rw [hb] at htook hseq
  have hbregs : b.regs = ((s.at t).addReg80 (0x1110 + p) 0x13 1).regs := by rw [htook]
  have htaken : SameRegs s b [odKey (0x1110 + p) 0x13 0, odKey (0x1110 + p) 0x13 1] :=
    ((SameRegs.addReg80 (s.at t) (0x1110 + p) 0x13 1).trans (ls := []) (SameRegs.of_eq _ hbregs)).mono (by simp)
  have hdiscard : SameRegs b (b.discard p) [odKey (0x1110 + p) 0x10 0] := SameRegs.addReg b _ _ _ _
  have hmoved : b.regsMoved (b.discard p) := State.regsMoved.addReg b _ _ _ _
  have hregs : SameRegs s (b.discard p) [odKey (0x1110 + p) 0x10 0, odKey (0x1110 + p) 0x13 0, odKey (0x1110 + p) 0x13 1] :=
    (htaken.trans hdiscard).mono (by simp [or_comm, or_left_comm])
  have hframe : b.discard p = { s.at t with regs := (b.discard p).regs, halo := (b.discard p).halo } := by
    rw [hmoved, htook]
    rfl
  refine ⟨b.discard p, ?_, hseq, ?_, ?_, hframe, hregs⟩
  · refine State.perform_moves (t := t) (f := fun x => (x.tick t).when (2 ≤ (x.tick t).portState p) (fun s => s.frameIn p words)) ?_
      (by rw [State.moves, hframe]) (hregs.reg _ _ _ (by simp [odKey]; omega))
    rw [State.tick_posted_nil, State.at_portState, decide_eq_true h, State.when_true, State.frameIn_takes (s := s.at t) hparse,
      State.takeFrame_reserved _ _ hreserved, hb]
  · rw [State.reg80, hdiscard.reg _ _ _ (by simp [odKey]), hdiscard.reg _ _ _ (by simp [odKey]; omega), State.reg_of_regs hbregs, State.reg_of_regs hbregs]
    exact State.reg80_addReg80 (s.at t) ..
  · refine (State.reg_addReg_same b (0x1110 + p) 0x10 1 0).trans ?_
    rw [htaken.reg _ _ _ (by simp [odKey]; omega)]
    rfl

end Reserved

/-- Settles O28, from a rule for each row; a NAK's resending, a frame's leaving and a refusal are each said once (`PortSt.resent`, `State.Sent`,
`PortSt.refusing`). -/
theorem haloLinkProtocol : Obligations.HaloLinkProtocol := by
  unfold Obligations.HaloLinkProtocol
  exact ⟨fun s p vc n => exec_creditRx vc n, fun s p lseq => exec_ackRx lseq, fun s p lseq t h hfew => exec_nakRx_resends h hfew,
    fun s p lseq t h hsame hmany => exec_nakRx_down h hsame hmany, fun s p h => exec_ackTimer h, fun s p h => exec_nakRepeat h,
    fun s p vc t d hcredit hdry hlong hwait => exec_creditStallTimeout hcredit hdry hlong hwait,
    fun s p vc t h => exec_creditStallTimeout_idle h, fun s p w ws t h hctl => exec_frameSend_control h hctl,
    fun s p e t h hctl hpick hfew => exec_frameSend_picked h hctl hpick hfew,
    fun s p d e t h hctl htxq hdcredit hecredit hfirst hless hlast hd he hfew =>
      exec_frameSend_two h hctl htxq hdcredit hecredit hfirst hless hlast hd he hfew,
    fun s p t h => exec_frameSend_idle h, fun s p words t h hbad => exec_reservedFrameRx_refused h hbad,
    fun s p words t h => exec_reservedFrameRx_idle h, fun s p words f t h hparse hreserved => exec_reservedFrameRx_accepted h hparse hreserved⟩

end Sys2Proof.Machine

namespace Sys2Proof.Machine

/-! ## Lanes that are dropped (12, R354) -/

/-- A state in which port `p` became `x`, the lanes of a mask left LANES and entered LANE_FAULTS, with the records and faults this brought. -/
structure State.LanesLeft (s u : State) (p m : Nat) (x : PortSt) : Prop where
  frame : u = { s with regs := u.regs, halo := u.halo, log := u.log, agenda := u.agenda }
  regs : SameRegs s u [odKey (0x1110 + p) 0x09 0, odKey (0x1110 + p) 0x11 0, odKey 0x0500 0x06 0, odKey 0x0500 0x07 0]
  own : u.port p = x
  others : ∀ q, q ≠ p → u.port q = s.port q
  lanes : u.reg (0x1110 + p) 0x09 = wd (s.regN (0x1110 + p) 0x09 &&& (15 ^^^ m))
  faults : u.reg (0x1110 + p) 0x11 = wd (s.regN (0x1110 + p) 0x11 ||| m)

theorem State.lanesWithout_moved (s : State) (p m : Nat) : s.regsMoved (s.lanesWithout p m) :=
  (State.regsMoved.setRegN s _ _ _).trans (State.regsMoved.setRegN _ _ _ _)

theorem State.LanesLeft.of_noted {s b c : State} {p : Nat} {x : PortSt} (m : Nat) (hport : s.PortTo b p x) (hnoted : b.Noted c) :
    s.LanesLeft (c.lanesWithout p m) p m x := by
  have hmoved := c.lanesWithout_moved p m
  have hsame (q : Nat) : (c.lanesWithout p m).port q = b.port q := (State.port_of_halo (by rw [hmoved]) q).trans (hnoted.port q)
  have hregs : SameRegs s c logKeys := (SameRegs.of_eq [] hport.regs).trans hnoted.regs
  have hreg {j : Nat} (hj : j < 256) : c.regN (0x1110 + p) j = s.regN (0x1110 + p) j :=
    congrArg BitVec.toNat (hregs.reg _ _ _ (not_mem_logKeys (by omega) hj (by decide)))
  refine ⟨by rw [hmoved, hnoted.frame, hport.frame], (hregs.trans (c.lanesWithout_regs p m)).mono (by simp [logKeys, or_comm, or_left_comm]),
    (hsame p).trans hport.own, fun q hq => (hsame q).trans (hport.others q hq), ?_, ?_⟩
  · rw [c.lanesWithout_lanes, hreg (by decide)]
  · rw [c.lanesWithout_faults, hreg (by decide)]

/-- A width is judged on objects alone. -/
theorem State.wideWithout_of_regs {s u : State} (h : u.regs = s.regs) (p m : Nat) : u.wideWithout p m = s.wideWithout p m := by
  unfold State.wideWithout State.regN
  rw [State.reg_of_regs h, State.reg_of_regs h]

/-- The port that sends a control word. -/
def PortSt.telling (x : PortSt) (kind v : Nat) : PortSt := { x with ctl := x.ctl ++ [wd (2 ^ 36 + kind * 2 ^ 32 + v)] }

theorem lane_mask_lt (lane : Fin 4) : 2 ^ lane.val < 16 := Nat.pow_lt_pow_right (by decide) lane.isLt

/-- A bad lane with enough lanes beside it is dropped. -/
theorem State.laneBad_drops {s : State} {p : Nat} {lane : Fin 4} (hlane : (s.regN (0x1110 + p) 0x09).testBit lane.val = true)
    (hwide : s.wideWithout p (2 ^ lane.val) = true) :
    s.LanesLeft (s.laneBad p lane) p (2 ^ lane.val) ((s.port p).telling 4 (2 ^ lane.val)) ∧
      (s.laneBad p lane).agenda = s.agenda ++ [.faultRaise (Fin.ofNat 512 (0x42 + p)) 0x10 2 (wd lane.val) false s.clock] := by
  obtain ⟨b, hb⟩ : ∃ b, s.control p 4 (2 ^ lane.val) = b := ⟨_, rfl⟩
  obtain ⟨c, hc⟩ : ∃ c, b.logPut 0x0801 (wd (p * 4 + lane)) 0 = c := ⟨_, rfl⟩
  have hport : s.PortTo b p ((s.port p).telling 4 (2 ^ lane.val)) := hb ▸ State.PortTo.control s p 4 (2 ^ lane.val)
  have hlog : b.Noted c := hc ▸ State.Noted.logPut b _ _ _
  have hnoted := hlog.trans (.raiseFault c (0x42 + p) 0x10 2 (wd lane))
  have hagenda : c.agenda = s.agenda := by rw [← hc, State.agenda_logPut, hport.frame]
  have hclock : c.clock = s.clock := by rw [hlog.clock, hport.frame]
  have heq : s.laneBad p lane = (c.raiseFault (0x42 + p) 0x10 2 (wd lane)).lanesWithout p (2 ^ lane.val) := by
    rw [State.laneBad, hlane, if_neg Bool.noConfusion, if_pos hwide, hb]
    dsimp only
    rw [hc]
    exact hnoted.stopLanes (lane_mask_lt lane) ((State.wideWithout_of_regs hport.regs _ _).trans hwide)
  rw [heq]
  refine ⟨.of_noted _ hport hnoted, ?_⟩
  rw [State.lanesWithout_moved, ← hagenda, ← hclock]
  rfl

/-! ## Codewords (12, R349, R354) -/

/-- The port that has counted a bad codeword on a lane. -/
def PortSt.spoilt (x : PortSt) (lane t : Nat) : PortSt :=
  { x with badCw := x.badCw.filter (fun e => t < e.2 + msEt 1) ++ [(lane, t)] }

/-- A codeword that the FEC could not correct is counted. -/
def State.badCounted (s : State) (p : Nat) : State := s.addReg (0x1110 + p) 0x0E 1

/-- It leaves the word stream, and its lane and instant are listed (12, R349, R354). -/
def State.spoil (s : State) (p lane : Nat) : State :=
  (s.badCounted p).onPort p (fun x => { x with badCw := (((s.badCounted p).port p).spoilt lane (s.badCounted p).clock).badCw })

/-- A data codeword is kept until those before it have come (12, R349). -/
def State.hold (s : State) (p : Nat) (cw : Codeword) : State :=
  s.onPort p (fun x => { x with cwHeld := x.cwHeld ++ [(cw.seq, cw.words)] })

/-- A codeword of a lane that is listened to. -/
def State.codeword (s : State) (port lane : Fin 4) (cw : Codeword) : State :=
  if cw.bad ∨ 2 ≤ cw.kind.toNat then
    (s.spoil port lane).when
      (16 ≤ ((((s.badCounted port).port port).spoilt lane (s.badCounted port).clock).badCw.filter (fun e => e.1 = lane.val)).length) (fun s => s.laneBad port lane)
  else if cw.kind = 1 then s
  else (s.hold port cw).cwDrain port (((s.hold port cw).port port).cwHeld.length + 64)

/-- Whether a port listens to a lane: in TRAINING to all, later to those of LANES. -/
def State.deaf (s : State) (p lane : Nat) : Prop := s.portState p < 2 ∨ (2 < s.portState p ∧ (s.regN (0x1110 + p) 0x09).testBit lane = false)

section Codewords

variable {s : State} {p lane : Fin 4} {cw : Codeword} {t : Nat}

theorem State.not_deaf (h : 2 ≤ s.portState p) (hlane : s.portState p = 2 ∨ (s.regN (0x1110 + p) 0x09).testBit lane.val = true) :
    ¬ s.deaf p lane := by
  rintro (hdown | ⟨htrained, hoff⟩)
  · omega
  · obtain h2 | hon := hlane
    · omega
    · rw [hon] at hoff
      cases hoff

/-- The corrected symbols are counted first. -/
def State.symbolsCounted (s : State) (p : Nat) (cw : Codeword) : State := s.addReg80 (0x1110 + p) 0x0D cw.corrected

theorem exec_codewordRx_heard {u : State} (hheard : ¬ s.deaf p lane) (hu : ((s.at t).symbolsCounted p cw).codeword p lane cw = u)
    (hmoves : (s.at t).moves u) (hstate : u.reg 0x0100 0x00 = s.reg 0x0100 0x00) : exec (.codewordRx p lane cw t) s = .next u := by
  change execCodewordRx p lane cw t s = _
  refine State.perform_moves (t := t) ?_ hmoves hstate
  rw [State.tick_posted_nil]
  have hat : ¬ (s.at t).deaf p lane := hheard
  unfold State.deaf at hat
  dsimp only
  rw [if_neg hat, ← hu, State.symbolsCounted]
  generalize (s.at t).addReg80 (0x1110 + p) 0x0D cw.corrected = b
  rfl

theorem exec_codewordRx_idle (h : s.deaf p lane) : exec (.codewordRx p lane cw t) s = .next (s.at t) := by
  change execCodewordRx p lane cw t s = _
  refine State.perform_moves (t := t) ?_ rfl rfl
  rw [State.tick_posted_nil]
  have hat : (s.at t).deaf p lane := h
  unfold State.deaf at hat
  dsimp only
  rw [if_pos hat]

theorem State.symbolsCounted_moved (s : State) (p : Nat) (cw : Codeword) : s.regsMoved (s.symbolsCounted p cw) := .addReg80 ..

theorem State.symbolsCounted_regs (s : State) (p : Nat) (cw : Codeword) :
    SameRegs s (s.symbolsCounted p cw) [odKey (0x1110 + p) 0x0D 0, odKey (0x1110 + p) 0x0D 1] := SameRegs.addReg80 s _ _ _

theorem State.symbolsCounted_count (s : State) (p : Nat) (cw : Codeword) :
    (s.symbolsCounted p cw).reg80 (0x1110 + p) 0x0D = s.reg80 (0x1110 + p) 0x0D + BitVec.ofNat 80 cw.corrected := State.reg80_addReg80 ..

theorem State.codeword_bad (s : State) (p lane : Fin 4) {cw : Codeword} (h : cw.bad = true ∨ 2 ≤ cw.kind.toNat) : s.codeword p lane cw =
    (s.spoil p lane).when (16 ≤ (((s.port p).spoilt lane s.clock).badCw.filter (fun e => e.1 = lane.val)).length) (fun s => s.laneBad p lane) :=
  if_pos h

theorem State.codeword_idle (s : State) (p lane : Fin 4) {cw : Codeword} (hgood : cw.bad = false) (hidle : cw.kind = 1) :
    s.codeword p lane cw = s := by
  rw [State.codeword, if_neg (by simp [hgood, hidle]), if_pos hidle]

theorem State.codeword_data (s : State) (p lane : Fin 4) {cw : Codeword} (hgood : cw.bad = false) (hdata : cw.kind = 0) :
    s.codeword p lane cw = (s.hold p cw).cwDrain p (((s.hold p cw).port p).cwHeld.length + 64) := by
  rw [State.codeword, if_neg (by simp [hgood, hdata]), if_neg (by simp [hdata])]

theorem State.badCounted_moved (s : State) (p : Nat) : s.regsMoved (s.badCounted p) := State.regsMoved.addReg s _ _ _ _

theorem State.spoil_regs (s : State) (p lane : Nat) : SameRegs s (s.spoil p lane) [odKey (0x1110 + p) 0x0E 0] := SameRegs.addReg s _ _ _ _

theorem State.spoil_port (s : State) (p lane : Nat) : (s.badCounted p).PortTo (s.spoil p lane) p ((s.port p).spoilt lane s.clock) :=
  State.PortTo.onPort (s.badCounted p) p (fun x => { x with badCw := (((s.badCounted p).port p).spoilt lane (s.badCounted p).clock).badCw })

theorem State.spoil_count (s : State) (p lane : Nat) : (s.spoil p lane).reg (0x1110 + p) 0x0E = s.reg (0x1110 + p) 0x0E + 1 :=
  State.reg_addReg_same s ..

/-- How many bad codewords of a lane are listed once this one is. -/
theorem PortSt.spoilt_count (x : PortSt) (lane t : Nat) : ((x.spoilt lane t).badCw.filter (fun e => e.1 = lane)).length =
    (x.badCw.filter (fun e => e.1 = lane ∧ t < e.2 + msEt 1)).length + 1 := by
  simp [PortSt.spoilt, List.filter_append, List.filter_filter]

/-- Bad codewords of a lane within 1 ms are some of those listed. -/
theorem PortSt.recent_le (x : PortSt) (lane t : Nat) :
    (x.badCw.filter (fun e => e.1 = lane ∧ t < e.2 + msEt 1)).length ≤ (x.badCw.filter (fun e => e.1 = lane)).length :=
  (List.monotone_filter_right _ (fun e he => by simpa using (of_decide_eq_true he).1)).length_le

/-- A codeword that the FEC could not correct. -/
theorem exec_codewordRx_spoilt (h : 2 ≤ s.portState p) (hlane : s.portState p = 2 ∨ (s.regN (0x1110 + p) 0x09).testBit lane.val = true)
    (hbad : cw.bad = true ∨ 2 ≤ cw.kind.toNat) (hfew : ((s.port p).badCw.filter (fun e => e.1 = lane.val)).length < 15) :
    ∃ u, exec (.codewordRx p lane cw t) s = .next u ∧
      u.reg (0x1110 + p) 0x0E = s.reg (0x1110 + p) 0x0E + 1 ∧
      u.reg80 (0x1110 + p) 0x0D = s.reg80 (0x1110 + p) 0x0D + BitVec.ofNat 80 cw.corrected ∧
      u.port p = { s.port p with badCw := (s.port p).badCw.filter (fun e => (s.at t).clock < e.2 + msEt 1) ++ [(lane.val, (s.at t).clock)] } ∧
      (∀ q, q ≠ p.val → u.port q = s.port q) ∧
      u = { s.at t with regs := u.regs, halo := u.halo } ∧
      SameRegs s u [odKey (0x1110 + p) 0x0D 0, odKey (0x1110 + p) 0x0D 1, odKey (0x1110 + p) 0x0E 0] := by
  obtain ⟨b, hb⟩ : ∃ b, (s.at t).symbolsCounted p cw = b := ⟨_, rfl⟩
  have hmoved : (s.at t).regsMoved b := hb ▸ State.symbolsCounted_moved ..
  have hregs : SameRegs s b [odKey (0x1110 + p) 0x0D 0, odKey (0x1110 + p) 0x0D 1] := hb ▸ (s.at t).symbolsCounted_regs p cw
  have hcount : b.reg80 (0x1110 + p) 0x0D = s.reg80 (0x1110 + p) 0x0D + BitVec.ofNat 80 cw.corrected := hb ▸ (s.at t).symbolsCounted_count p cw
  have hport (q : Nat) : b.port q = s.port q := State.port_of_halo (by rw [hmoved]; rfl) q
  have hclock : b.clock = (s.at t).clock := by rw [hmoved]
  have hspoil := b.spoil_port p lane
  have hspoilregs := b.spoil_regs p lane
  have hall := hregs.trans hspoilregs
  have hframe : b.spoil p lane = { s.at t with regs := (b.spoil p lane).regs, halo := (b.spoil p lane).halo } := by
    rw [hspoil.frame, b.badCounted_moved, hmoved]
  have hless : ¬ 16 ≤ (((b.port p).spoilt lane b.clock).badCw.filter (fun e => e.1 = lane.val)).length := by
    have := (s.port p).recent_le lane b.clock
    rw [PortSt.spoilt_count, hport]
    omega
  refine ⟨b.spoil p lane, exec_codewordRx_heard (State.not_deaf h hlane) ?_ (by rw [State.moves, hframe]) (hall.reg _ _ _ (by simp [odKey]; omega)),
    ?_, ?_, ?_, fun q hq => (hspoil.others q hq).trans (hport q), hframe, hall⟩
  · rw [hb, State.codeword_bad _ _ _ hbad, decide_eq_false hless, State.when_false]
  · rw [b.spoil_count, hregs.reg _ _ _ (by simp [odKey]; omega)]
  · rw [← hcount, State.reg80, State.reg80, hspoilregs.reg _ _ _ (by simp [odKey]), hspoilregs.reg _ _ _ (by simp [odKey]; omega)]
  · rw [hspoil.own, hport, hclock]
    rfl

/-- The 16th within 1 ms drops the lane. -/
theorem exec_codewordRx_drops (h : 2 ≤ s.portState p) (hlane : s.portState p = 2 ∨ (s.regN (0x1110 + p) 0x09).testBit lane.val = true)
    (hbad : cw.bad = true ∨ 2 ≤ cw.kind.toNat)
    (hmany : 15 ≤ ((s.port p).badCw.filter (fun e => e.1 = lane.val ∧ (s.at t).clock < e.2 + msEt 1)).length)
    (hactive : (s.regN (0x1110 + p) 0x09).testBit lane.val = true) (hwide : s.wideWithout p (2 ^ lane.val) = true) :
    ∃ u, exec (.codewordRx p lane cw t) s = .next u ∧
      (u.port p).ctl = (s.port p).ctl ++ [wd (2 ^ 36 + 4 * 2 ^ 32 + 2 ^ lane.val)] ∧
      u.reg (0x1110 + p) 0x09 = wd (s.regN (0x1110 + p) 0x09 &&& (15 ^^^ 2 ^ lane.val)) ∧
      (∀ q, q ≠ p.val → u.port q = s.port q) ∧
      u = { s.at t with regs := u.regs, halo := u.halo, log := u.log, agenda := u.agenda } := by
  obtain ⟨b, hb⟩ : ∃ b, (s.at t).symbolsCounted p cw = b := ⟨_, rfl⟩
  have hmoved : (s.at t).regsMoved b := hb ▸ State.symbolsCounted_moved ..
  have hregs : SameRegs s b [odKey (0x1110 + p) 0x0D 0, odKey (0x1110 + p) 0x0D 1] := hb ▸ (s.at t).symbolsCounted_regs p cw
  have hport (q : Nat) : b.port q = s.port q := State.port_of_halo (by rw [hmoved]; rfl) q
  have hclock : b.clock = (s.at t).clock := by rw [hmoved]
  have hspoil := b.spoil_port p lane
  have hspoilregs := hregs.trans (b.spoil_regs p lane)
  obtain ⟨c, hc⟩ : ∃ c, b.spoil p lane = c := ⟨_, rfl⟩
  rw [hc] at hspoil hspoilregs
  have hcframe : c = { s.at t with regs := c.regs, halo := c.halo } := by
    rw [hspoil.frame, b.badCounted_moved, hmoved]
  have hlanes : c.regN (0x1110 + p) 0x09 = s.regN (0x1110 + p) 0x09 := congrArg BitVec.toNat (hspoilregs.reg _ _ _ (by simp [odKey]; omega))
  have hwidth : c.regN (0x1110 + p) 0x03 = s.regN (0x1110 + p) 0x03 := congrArg BitVec.toNat (hspoilregs.reg _ _ _ (by simp [odKey]; omega))
  obtain ⟨hdrop, -⟩ := State.laneBad_drops (s := c) (p := p) (lane := lane) (by rwa [hlanes]) (by rwa [State.wideWithout, hlanes, hwidth])
  obtain ⟨u, hu⟩ : ∃ u, c.laneBad p lane = u := ⟨_, rfl⟩
  rw [hu] at hdrop
  have hframe : u = { s.at t with regs := u.regs, halo := u.halo, log := u.log, agenda := u.agenda } := by rw [hdrop.frame, hcframe]
  have hfull : 16 ≤ (((b.port p).spoilt lane b.clock).badCw.filter (fun e => e.1 = lane.val)).length := by
    rw [PortSt.spoilt_count, hport, hclock]
    omega
  refine ⟨u, exec_codewordRx_heard (State.not_deaf h hlane) ?_ (by rw [State.moves, hframe])
      ((hspoilregs.trans hdrop.regs).reg _ _ _ (by simp [odKey]; omega)),
    ?_, by rw [hdrop.lanes, hlanes], fun q hq => (hdrop.others q hq).trans ((hspoil.others q hq).trans (hport q)), hframe⟩
  · rw [hb, State.codeword_bad _ _ _ hbad, decide_eq_true hfull, State.when_true, hc, hu]
  · rw [hdrop.own, hspoil.own, hport]
    rfl

theorem exec_codewordRx_idleWord (h : 2 ≤ s.portState p) (hlane : s.portState p = 2 ∨ (s.regN (0x1110 + p) 0x09).testBit lane.val = true)
    (hgood : cw.bad = false) (hidle : cw.kind = 1) :
    ∃ u, exec (.codewordRx p lane cw t) s = .next u ∧
      u.reg80 (0x1110 + p) 0x0D = s.reg80 (0x1110 + p) 0x0D + BitVec.ofNat 80 cw.corrected ∧
      u = { s.at t with regs := u.regs } ∧
      SameRegs s u [odKey (0x1110 + p) 0x0D 0, odKey (0x1110 + p) 0x0D 1] := by
  have hmoved := (s.at t).symbolsCounted_moved p cw
  have hregs : SameRegs s ((s.at t).symbolsCounted p cw) [odKey (0x1110 + p) 0x0D 0, odKey (0x1110 + p) 0x0D 1] := (s.at t).symbolsCounted_regs p cw
  exact ⟨_, exec_codewordRx_heard (State.not_deaf h hlane) (State.codeword_idle _ _ _ hgood hidle) (by rw [State.moves, hmoved])
    (hregs.reg _ _ _ (by simp [odKey]; omega)), (s.at t).symbolsCounted_count p cw, hmoved, hregs⟩

/-! ### Data codewords -/

/-- With no codeword kept none leaves the window. -/
theorem State.cwDrain_of_none (s : State) (p : Fin 4) (n : Nat) (h : (s.port p).cwHeld.find? (fun e => e.1 = (s.port p).cwNext) = none)
    (hfew : (s.port p).cwHeld.length ≤ 64) : s.cwDrain p n = s := by
  cases n with
  | zero => rfl
  | succ n =>
    unfold State.cwDrain
    dsimp only
    rw [h]
    exact if_neg (Nat.not_lt.mpr hfew)

/-- The codeword that is next leaves the window. -/
theorem State.cwDrain_of_next (s : State) (p : Fin 4) (n : Nat) {e : BitVec 12 × List Word}
    (h : (s.port p).cwHeld.find? (fun e => e.1 = (s.port p).cwNext) = some e) : s.cwDrain p (n + 1) =
      (e.2.foldl (fun s w => s.streamWord p w)
        (s.setPort p { s.port p with cwNext := (s.port p).cwNext + 1, cwHeld := (s.port p).cwHeld.filter (fun d => d.1 ≠ e.1) })).cwDrain p n := by
  rw [State.cwDrain]
  dsimp only
  rw [h]

/-- Between frames an idle word of the stream brings nothing. -/
theorem State.foldl_streamWord_zero (s : State) (p : Fin 4) {ws : List Word} (h : ∀ w ∈ ws, w = 0) (hstream : (s.port p).stream = []) :
    ws.foldl (fun s w => s.streamWord p w) s = s := by
  induction ws with
  | nil => rfl
  | cons w ws ih =>
    have hw : s.streamWord p w = s := by
      rw [h w (List.mem_cons_self ..)]
      unfold State.streamWord
      dsimp only
      rw [hstream]
      rfl
    rw [List.foldl_cons, hw]
    exact ih fun v hv => h v (List.mem_cons_of_mem _ hv)

/-- A data codeword is received: the objects move as told, and the window of port `p` goes on from its being kept. -/
theorem exec_codewordRx_data {x : PortSt} (h : 2 ≤ s.portState p)
    (hlane : s.portState p = 2 ∨ (s.regN (0x1110 + p) 0x09).testBit lane.val = true) (hgood : cw.bad = false) (hdata : cw.kind = 0)
    (hheld : (s.port p).cwHeld = [])
    (hdrain : ∀ b : State, b.port p = { s.port p with cwHeld := [(cw.seq, cw.words)] } → b.PortTo (b.cwDrain p 65) p x) :
    ∃ u, exec (.codewordRx p lane cw t) s = .next u ∧
      u.port p = x ∧
      u.reg80 (0x1110 + p) 0x0D = s.reg80 (0x1110 + p) 0x0D + BitVec.ofNat 80 cw.corrected ∧
      u = { s.at t with regs := u.regs, halo := u.halo } ∧
      SameRegs s u [odKey (0x1110 + p) 0x0D 0, odKey (0x1110 + p) 0x0D 1] := by
  obtain ⟨b, hb⟩ : ∃ b, (s.at t).symbolsCounted p cw = b := ⟨_, rfl⟩
  have hmoved : (s.at t).regsMoved b := hb ▸ State.symbolsCounted_moved ..
  have hregs : SameRegs s b [odKey (0x1110 + p) 0x0D 0, odKey (0x1110 + p) 0x0D 1] := hb ▸ (s.at t).symbolsCounted_regs p cw
  have hcount : b.reg80 (0x1110 + p) 0x0D = s.reg80 (0x1110 + p) 0x0D + BitVec.ofNat 80 cw.corrected := hb ▸ (s.at t).symbolsCounted_count p cw
  have hport : b.port p = s.port p := State.port_of_halo (by rw [hmoved]; rfl) p
  have hhold : b.PortTo (b.hold p cw) p { s.port p with cwHeld := [(cw.seq, cw.words)] } := by
    have := State.PortTo.onPort b p (fun x => { x with cwHeld := x.cwHeld ++ [(cw.seq, cw.words)] })
    rwa [hport, hheld] at this
  have hto := hhold.trans (hdrain _ hhold.own)
  obtain ⟨u, hu⟩ : ∃ u, (b.hold p cw).cwDrain p 65 = u := ⟨_, rfl⟩
  rw [hu] at hto
  have hframe : u = { s.at t with regs := u.regs, halo := u.halo } := by rw [hto.frame, hmoved]
  have hall : SameRegs s u [odKey (0x1110 + p) 0x0D 0, odKey (0x1110 + p) 0x0D 1] := (hregs.trans (ls := []) (SameRegs.of_eq _ hto.regs)).mono (by simp)
  refine ⟨u, exec_codewordRx_heard (State.not_deaf h hlane) ?_ (by rw [State.moves, hframe]) (hall.reg _ _ _ (by simp [odKey]; omega)), hto.own, ?_,
    hframe, hall⟩
  · rw [hb, State.codeword_data _ _ _ hgood hdata, hhold.own, ← hu]
    rfl
  · rw [← hcount, State.reg80, State.reg80, State.reg_of_regs hto.regs, State.reg_of_regs hto.regs]

/-- One in order is taken: its idle words bring nothing. -/
theorem exec_codewordRx_inOrder (h : 2 ≤ s.portState p) (hlane : s.portState p = 2 ∨ (s.regN (0x1110 + p) 0x09).testBit lane.val = true)
    (hgood : cw.bad = false) (hdata : cw.kind = 0) (hheld : (s.port p).cwHeld = []) (hseq : cw.seq = (s.port p).cwNext)
    (hstream : (s.port p).stream = []) (hwords : cw.words.all (· = 0) = true) :
    ∃ u, exec (.codewordRx p lane cw t) s = .next u ∧
      u.port p = { s.port p with cwNext := (s.port p).cwNext + 1 } ∧
      u.reg80 (0x1110 + p) 0x0D = s.reg80 (0x1110 + p) 0x0D + BitVec.ofNat 80 cw.corrected ∧
      u = { s.at t with regs := u.regs, halo := u.halo } ∧
      SameRegs s u [odKey (0x1110 + p) 0x0D 0, odKey (0x1110 + p) 0x0D 1] := by
  refine exec_codewordRx_data h hlane hgood hdata hheld fun b hb => ?_
  have hfind : (b.port p).cwHeld.find? (fun e => e.1 = (b.port p).cwNext) = some (cw.seq, cw.words) := by
    rw [hb]
    simp [hseq]
  have hx : ({ b.port p with cwNext := (b.port p).cwNext + 1, cwHeld := (b.port p).cwHeld.filter (fun d => d.1 ≠ cw.seq) } : PortSt) =
      { s.port p with cwNext := (s.port p).cwNext + 1 } := by
    rw [hb]
    simp [hheld]
  have hset := State.PortTo.setPort b p { s.port p with cwNext := (s.port p).cwNext + 1 }
  rw [State.cwDrain_of_next b p 64 hfind, hx]
  generalize b.setPort p _ = c at hset
  rw [State.foldl_streamWord_zero c p (by simpa using hwords) (by rw [hset.own]; exact hstream),
    State.cwDrain_of_none c p 64 (by rw [hset.own]; simp [hheld]) (by rw [hset.own]; simp [hheld])]
  exact hset

/-- One that is ahead is kept. -/
theorem exec_codewordRx_ahead (h : 2 ≤ s.portState p) (hlane : s.portState p = 2 ∨ (s.regN (0x1110 + p) 0x09).testBit lane.val = true)
    (hgood : cw.bad = false) (hdata : cw.kind = 0) (hheld : (s.port p).cwHeld = []) (hseq : cw.seq ≠ (s.port p).cwNext) :
    ∃ u, exec (.codewordRx p lane cw t) s = .next u ∧
      u.port p = { s.port p with cwHeld := [(cw.seq, cw.words)] } ∧
      u = { s.at t with regs := u.regs, halo := u.halo } ∧
      SameRegs s u [odKey (0x1110 + p) 0x0D 0, odKey (0x1110 + p) 0x0D 1] := by
  obtain ⟨u, hu, hown, -, hframe, hregs⟩ := exec_codewordRx_data (x := { s.port p with cwHeld := [(cw.seq, cw.words)] }) h hlane hgood hdata hheld
    fun b hb => by
      rw [State.cwDrain_of_none b p 65 (by rw [hb]; simp [hseq]) (by rw [hb]; simp), ← hb]
      exact .refl b p
  exact ⟨u, hu, hown, hframe, hregs⟩

end Codewords

end Sys2Proof.Machine

namespace Sys2Proof.Machine

section Lanes

variable {s : State} {p lane : Fin 4} {lanes : BitVec 4} {t : Nat}

/-- Loss of codeword lock (12, R354). -/
theorem exec_codewordLockLoss (hlink : s.portState p = 3 ∨ s.portState p = 4) (hlane : (s.regN (0x1110 + p) 0x09).testBit lane.val = true)
    (hwide : s.regN (0x1110 + p) 0x03 ≤ lanesOf (s.regN (0x1110 + p) 0x09 &&& (15 ^^^ 2 ^ lane.val))) :
    ∃ u, exec (.codewordLockLoss p lane t) s = .next u ∧
      (u.port p).ctl = (s.port p).ctl ++ [wd (2 ^ 36 + 4 * 2 ^ 32 + 2 ^ lane.val)] ∧
      u.reg (0x1110 + p) 0x09 = wd (s.regN (0x1110 + p) 0x09 &&& (15 ^^^ 2 ^ lane.val)) ∧
      u.reg (0x1110 + p) 0x11 = wd (s.regN (0x1110 + p) 0x11 ||| 2 ^ lane.val) ∧
      u.agenda = s.agenda ++ [.faultRaise (Fin.ofNat 512 (0x42 + p)) 0x10 2 (wd lane.val) false ((s.at t).clock)] ∧
      (∀ q, q ≠ p.val → u.port q = s.port q) ∧
      u = { s.at t with regs := u.regs, halo := u.halo, log := u.log, agenda := u.agenda } ∧
      SameRegs s u [odKey (0x1110 + p) 0x09 0, odKey (0x1110 + p) 0x11 0, odKey 0x0500 0x06 0, odKey 0x0500 0x07 0] := by
  obtain ⟨hdrop, hdue⟩ := State.laneBad_drops (s := s.at t) hlane ((s.wideWithout_iff p (lane_mask_lt lane)).mpr hwide)
  refine ⟨(s.at t).laneBad p lane, ?_, by rw [hdrop.own]; rfl, hdrop.lanes, hdrop.faults, hdue, hdrop.others, hdrop.frame, hdrop.regs⟩
  change execCodewordLockLoss p lane t s = _
  refine State.perform_moves (t := t) ?_ (by rw [State.moves, hdrop.frame]) (hdrop.regs.reg _ _ _ (by simp [odKey]; omega))
  rw [State.tick_posted_nil]
  dsimp only
  rw [State.at_portLink, (s.portLink_iff p).mpr hlink, State.when_true]

/-- The records and faults of the lanes that LANE_DROP names. -/
theorem State.Noted.lanesNamed (s : State) (p n m : Nat) : s.Noted (s.repeat n (fun l s =>
    s.when (m.testBit l && (s.regN (0x1110 + p) 0x09).testBit l) (fun s =>
      (s.logPut 0x0801 (wd (p * 4 + l)) 0).raiseFault (0x42 + p) 0x10 2 (wd l)))) :=
  State.repeat_rel State.Noted.refl State.Noted.trans n
    (fun _ _ s => State.when_rel State.Noted.refl s _ (fun _ => (State.Noted.logPut s _ _ _).trans (State.Noted.raiseFault _ _ _ _ _))) s

/-- LANE_DROP is answered. -/
theorem exec_laneDropRx (hlink : s.portState p = 3 ∨ s.portState p = 4)
    (hwide : s.regN (0x1110 + p) 0x03 ≤ lanesOf (s.regN (0x1110 + p) 0x09 &&& (15 ^^^ lanes.toNat))) :
    ∃ u, exec (.laneDropRx p lanes t) s = .next u ∧
      (u.port p).ctl = (s.port p).ctl ++ [wd (2 ^ 36 + 5 * 2 ^ 32 + lanes.toNat)] ∧
      u.reg (0x1110 + p) 0x09 = wd (s.regN (0x1110 + p) 0x09 &&& (15 ^^^ lanes.toNat)) ∧
      u.reg (0x1110 + p) 0x11 = wd (s.regN (0x1110 + p) 0x11 ||| lanes.toNat) ∧
      (∀ q, q ≠ p.val → u.port q = s.port q) ∧
      u = { s.at t with regs := u.regs, halo := u.halo, log := u.log, agenda := u.agenda } ∧
      SameRegs s u [odKey (0x1110 + p) 0x09 0, odKey (0x1110 + p) 0x11 0, odKey 0x0500 0x06 0, odKey 0x0500 0x07 0] := by
  have henough := (s.wideWithout_iff p lanes.isLt).mpr hwide
  have htell := State.PortTo.control (s.at t) p 5 lanes.toNat
  obtain ⟨b, hb⟩ : ∃ b, (s.at t).control p 5 lanes.toNat = b := ⟨_, rfl⟩
  rw [hb] at htell
  have hnoted := State.Noted.lanesNamed b p 4 lanes.toNat
  obtain ⟨c, hc⟩ : ∃ c, b.repeat 4 (fun l s =>
    s.when (lanes.toNat.testBit l && (s.regN (0x1110 + p) 0x09).testBit l) (fun s =>
      (s.logPut 0x0801 (wd (p * 4 + l)) 0).raiseFault (0x42 + p) 0x10 2 (wd l))) = c := ⟨_, rfl⟩
  rw [hc] at hnoted
  have hleft := State.LanesLeft.of_noted lanes.toNat htell hnoted
  have hstop := hnoted.stopLanes lanes.isLt ((State.wideWithout_of_regs htell.regs p _).trans henough)
  refine ⟨c.lanesWithout p lanes.toNat, ?_, by rw [hleft.own]; rfl, hleft.lanes, hleft.faults, hleft.others, hleft.frame, hleft.regs⟩
  change execLaneDropRx p lanes t s = _
  refine State.perform_moves (t := t) ?_ (by rw [State.moves, hleft.frame]) (hleft.regs.reg _ _ _ (by simp [odKey]; omega))
  rw [State.tick_posted_nil]
  dsimp only
  rw [State.at_portLink, (s.portLink_iff p).mpr hlink, if_pos rfl, State.at_wideWithout, if_pos henough, hb, hc, hstop]

/-- LANE_DROP_ACK. -/
theorem exec_laneDropAckRx (hlink : s.portState p = 3 ∨ s.portState p = 4) (hnamed : s.regN (0x1110 + p) 0x09 &&& lanes.toNat ≠ 0)
    (hwide : s.regN (0x1110 + p) 0x03 ≤ lanesOf (s.regN (0x1110 + p) 0x09 &&& (15 ^^^ lanes.toNat))) :
    ∃ u, exec (.laneDropAckRx p lanes t) s = .next u ∧
      u.reg (0x1110 + p) 0x09 = wd (s.regN (0x1110 + p) 0x09 &&& (15 ^^^ lanes.toNat)) ∧
      u.reg (0x1110 + p) 0x11 = wd (s.regN (0x1110 + p) 0x11 ||| lanes.toNat) ∧
      u = { s.at t with regs := u.regs } ∧
      SameRegs s u [odKey (0x1110 + p) 0x09 0, odKey (0x1110 + p) 0x11 0] := by
  have hmoved := (s.at t).lanesWithout_moved p lanes.toNat
  have hregs : SameRegs s ((s.at t).lanesWithout p lanes.toNat) [odKey (0x1110 + p) 0x09 0, odKey (0x1110 + p) 0x11 0] :=
    (s.at t).lanesWithout_regs p lanes.toNat
  refine ⟨(s.at t).lanesWithout p lanes.toNat, ?_, (s.at t).lanesWithout_lanes p _, (s.at t).lanesWithout_faults p _, hmoved, hregs⟩
  change execLaneDropAckRx p lanes t s = _
  refine State.perform_moves (t := t) ?_ (by rw [State.moves, hmoved]) (hregs.reg _ _ _ (by simp [odKey]; omega))
  rw [State.tick_posted_nil]
  dsimp only
  rw [State.at_portLink, State.at_regN, (s.portLink_iff p).mpr hlink, decide_eq_true hnamed, Bool.and_true, State.when_true]
  exact (s.at t).stopLanes_wide lanes.isLt ((s.wideWithout_iff p lanes.isLt).mpr hwide)

/-! ## The link is lost (12, R355, R375) -/

/-- A linked port that loses its link goes DOWN. -/
theorem exec_linkLossTimeout_eq (hlink : s.portState p = 3 ∨ s.portState p = 4) :
    exec (.linkLossTimeout p t) s = .next ((s.at t).portDown p 5) := by
  have hdown := (s.at t).portDown_downed 5 p.isLt
  change execLinkLossTimeout p t s = _
  refine State.perform_moves (t := t) ?_ (by rw [State.moves, hdown.frame]) hdown.outside.devState
  rw [State.tick_posted_nil]
  dsimp only
  rw [State.at_portLink, (s.portLink_iff p).mpr hlink, State.when_true]

theorem exec_linkLossTimeout_elsewhere (hlink : s.portState p = 3 ∨ s.portState p = 4) (hrole : s.portRole p ≠ 1) :
    ∃ u, exec (.linkLossTimeout p t) s = .next u ∧
      u.portState p = 1 ∧
      u.reg (0x1110 + p) 0x10 = s.reg (0x1110 + p) 0x10 + BitVec.ofNat 40 (s.port p).txq.length ∧
      ((∀ e ∈ (s.port p).txq, e.inp = none) → u.port p = { PortSt.idle with since := (s.at t).clock }) ∧
      ((∀ e ∈ (s.port p).txq, e.inp = none) → (∀ q < 4, ∀ e ∈ (s.port q).txq, e.inp ≠ some p.val) → ∀ q, q ≠ p.val → u.port q = s.port q) ∧
      u.agenda = s.agenda ++ [.faultRaise (Fin.ofNat 512 (0x42 + p)) 0x11 2 0 false ((s.at t).clock)] ∧
      u = { s.at t with regs := u.regs, halo := u.halo, log := u.log, agenda := u.agenda } ∧
      SameRegs s u ([7, 8, 9, 0x10].map (fun k => odKey (0x1110 + p) k 0) ++ [odKey (0x0904 + p) 0x05 0, odKey 0x0500 0x06 0, odKey 0x0500 0x07 0]) := by
  have hfail := (s.at t).linkFails_failed p
  have hlost := (s.at t).portLost_lost p
  rw [exec_linkLossTimeout_eq hlink, State.portDown_elsewhere (s.at t) 5 hrole]
  exact ⟨_, rfl, hfail.state, hfail.discards, fun hi => (hfail.port p).trans (hlost.own hi),
    fun hi hf q hq => (hfail.port q).trans (hlost.others hi hf q hq), hfail.due, hfail.frame, hfail.regs.mono (by simp [lostKeys, logKeys, or_comm, or_left_comm])⟩

theorem exec_linkLossTimeout_ring (hlink : s.portState p = 3 ∨ s.portState p = 4) (hrole : s.portRole p = 1) (hp : p.val < 2) (hsize : s.ringSize ≠ 0) :
    ∃ u, exec (.linkLossTimeout p t) s = .next u ∧
      u.portState p = 1 ∧
      u.reg 0x1102 0x04 = s.reg 0x1102 0x04 + 1 ∧
      u.reg80 0x1102 0x05 = (s.at t).now ∧
      u = { s.at t with regs := u.regs, halo := u.halo, log := u.log, agenda := u.agenda } ∧
      SameOutside s u ofLinks := by
  have hdown := (s.at t).portDown_downed 5 p.isLt
  have hfail := (s.at t).linkFails_failed p
  have hwrap := ((s.at t).linkFails p).ringWrap_wrapped 5 (hfail.role.trans hrole) (by rwa [hfail.ringSize]) hp
  have hcount : ((s.at t).linkFails p).reg 0x1102 4 = s.reg 0x1102 4 := hfail.regs.reg _ _ _ (by simp [lostKeys, logKeys, odKey]; omega)
  have hnow : ((s.at t).linkFails p).now = (s.at t).now := hfail.regs.now (by rw [hfail.frame]) (by simp [lostKeys, logKeys, odKey]; omega)
    (by simp [lostKeys, logKeys, odKey]; omega)
  rw [exec_linkLossTimeout_eq hlink]
  exact ⟨_, rfl, hdown.state, hwrap.count.trans (by rw [hcount]), hwrap.time.trans hnow, hdown.frame, hdown.outside⟩

/-- A port that is not linked meets none of these. -/
theorem exec_lanes_idle (i : Fin 4) (h : s.portState p ≠ 3 ∧ s.portState p ≠ 4) :
    exec (if i = 0 then .linkLossTimeout p t else if i = 1 then .codewordLockLoss p lane t else if i = 2 then .laneDropRx p lanes t
      else .laneDropAckRx p lanes t) s = .next (s.at t) := by
  have hno : (s.at t).portLink p = false := (s.portLink_eq_false p).mpr h
  match i with
  | 0 =>
    change execLinkLossTimeout p t s = _
    refine State.perform_moves (t := t) ?_ rfl rfl
    rw [State.tick_posted_nil]
    dsimp only
    rw [hno, State.when_false]
  | 1 =>
    change execCodewordLockLoss p lane t s = _
    refine State.perform_moves (t := t) ?_ rfl rfl
    rw [State.tick_posted_nil]
    dsimp only
    rw [hno, State.when_false]
  | 2 =>
    change execLaneDropRx p lanes t s = _
    refine State.perform_moves (t := t) ?_ rfl rfl
    rw [State.tick_posted_nil]
    dsimp only
    rw [hno, if_neg Bool.false_ne_true]
  | 3 =>
    change execLaneDropAckRx p lanes t s = _
    refine State.perform_moves (t := t) ?_ rfl rfl
    rw [State.tick_posted_nil]
    dsimp only
    rw [hno, Bool.false_and, State.when_false]

end Lanes

/-- Settles O29, from a rule for each row; what a dropped lane, a kept codeword and a failed link leave is each said once (`State.LanesLeft`,
`exec_codewordRx_data`, `State.Failed`). -/
theorem haloLanesAndLoss : Obligations.HaloLanesAndLoss := by
  unfold Obligations.HaloLanesAndLoss
  exact ⟨fun s p lane cw t h hlane hbad hfew => exec_codewordRx_spoilt h hlane hbad hfew,
    fun s p lane cw t h hlane hbad hmany hactive hwide => exec_codewordRx_drops h hlane hbad hmany hactive hwide,
    fun s p lane cw t h hlane hgood hidle => exec_codewordRx_idleWord h hlane hgood hidle,
    fun s p lane cw t h hlane hgood hdata hheld hseq hstream hwords => exec_codewordRx_inOrder h hlane hgood hdata hheld hseq hstream hwords,
    fun s p lane cw t h hlane hgood hdata hheld hseq => exec_codewordRx_ahead h hlane hgood hdata hheld hseq,
    fun s p lane cw t h => exec_codewordRx_idle h, fun s p lane t hlink hlane hwide => exec_codewordLockLoss hlink hlane hwide,
    fun s p lanes t hlink hwide => exec_laneDropRx hlink hwide, fun s p lanes t hlink hnamed hwide => exec_laneDropAckRx hlink hnamed hwide,
    fun s p t hlink hrole => exec_linkLossTimeout_elsewhere hlink hrole,
    fun s p t hlink hrole hp hsize => exec_linkLossTimeout_ring hlink hrole hp hsize, fun s p lane lanes i t h => exec_lanes_idle i h⟩

end Sys2Proof.Machine

namespace Sys2Proof.Machine

/-! ## RING_STATE frames (12, R363, R375, R376) -/

theorem fld_lt_pow (w : Word) (lo n : Nat) : fld w lo n < 2 ^ n := Nat.mod_lt _ (Nat.two_pow_pos n)

theorem ofLinks_rewired {s u : State} (h : s.Rewired u) : SameOutside s u ofLinks := h.regs.ofLinks ofLinks_ringKeys

section RingFrames

variable {s : State} {p : Fin 4} {f : Frame} {t : Nat}

theorem exec_ringBrokenRx_eq (hty : f.ty = 9) (hkind : fld (fpay f 0) 36 4 = 1) {u : State}
    (hu : (if ((s.at t).acceptBroadcast p f).1 then ((s.at t).acceptBroadcast p f).2.addBroken (fld (fpay f 1) 0 24)
      else ((s.at t).acceptBroadcast p f).2) = u)
    (hmoves : (s.at t).moves u) (hstate : u.reg 0x0100 0x00 = s.reg 0x0100 0x00) : exec (.ringBrokenRx p f t) s = .next u := by
  change execRingBrokenRx p f t s = _
  refine State.perform_moves (t := t) ?_ hmoves hstate
  rw [State.tick_posted_nil]
  exact (if_pos ⟨hty, hkind⟩).trans hu

/-- BROKEN, not seen before. -/
theorem exec_ringBrokenRx (hty : f.ty = 9) (hkind : fld (fpay f 0) 36 4 = 1) (hnew : ((s.at t).acceptBroadcast p f).1 = true)
    (hunlisted : s.linkBroken (fld (fpay f 1) 0 24) = false) (hfree : ∃ i < 8, bit (s.reg 0x1102 0x02 i) 24 = false) :
    ∃ u, exec (.ringBrokenRx p f t) s = .next u ∧
      u.linkBroken (fld (fpay f 1) 0 24) = true ∧
      (∀ b < 64, s.linkBroken b = true → u.linkBroken b = true) ∧
      u = { s.at t with regs := u.regs, halo := u.halo, log := u.log } ∧
      SameOutside s u ofLinks := by
  obtain ⟨seen, ports, haccept⟩ := State.acceptBroadcast_accepts hnew
  obtain ⟨b, hb⟩ : ∃ b : State, b = { s.at t with halo := { s.halo with seen := seen, ports := ports } } := ⟨_, rfl⟩
  have hbregs : b.regs = s.regs := by rw [hb]; rfl
  have hwire : s.SameWiring b := .of_regs hbregs
  obtain ⟨hin, hkept⟩ := State.addBroken_lists (s := b) (fld_lt_pow (fpay f 1) 0 24) ((hwire.linkBroken _).trans hunlisted)
    (by simpa only [State.reg_of_regs hbregs] using hfree)
  have hadd := b.addBroken_rewired (fld (fpay f 1) 0 24)
  obtain ⟨u, hu⟩ : ∃ u, b.addBroken (fld (fpay f 1) 0 24) = u := ⟨_, rfl⟩
  rw [hu] at hin hkept hadd
  have hframe : u = { s.at t with regs := u.regs, halo := u.halo, log := u.log } := by rw [hadd.frame, hb]
  have hout : SameOutside s u ofLinks := SameOutside.trans (fun k _ => by rw [hbregs]) (ofLinks_rewired hadd)
  refine ⟨u, exec_ringBrokenRx_eq hty hkind ?_ (by rw [State.moves, hframe]) hout.devState, hin,
    fun c _ hc => hkept c ((hwire.linkBroken c).trans hc), hframe, hout⟩
  rw [hnew, if_pos rfl, haccept, ← hu, hb]
  rfl

/-- Whether link `b` ends at a ring port of this device. -/
def State.besideLink (s : State) (b : Nat) : Bool :=
  s.linkBroken b && (List.range 2).any (fun p => s.portRole p = 1 && s.ringSize ≠ 0 && s.ringLink p = b)

theorem exec_ringRestoredRx_eq (hty : f.ty = 9) (hkind : fld (fpay f 0) 36 4 = 2) {u : State}
    (hu : (if ((s.at t).acceptBroadcast p f).1 then
        (((s.at t).acceptBroadcast p f).2.dropBroken (fld (fpay f 1) 0 24)).when (((s.at t).acceptBroadcast p f).2.besideLink (fld (fpay f 1) 0 24))
          (fun s => s.logPut 0x0806 (wd (fld (fpay f 1) 0 24)) 0)
      else ((s.at t).acceptBroadcast p f).2) = u)
    (hmoves : (s.at t).moves u) (hstate : u.reg 0x0100 0x00 = s.reg 0x0100 0x00) : exec (.ringRestoredRx p f t) s = .next u := by
  change execRingRestoredRx p f t s = _
  refine State.perform_moves (t := t) ?_ hmoves hstate
  rw [State.tick_posted_nil]
  exact (if_pos ⟨hty, hkind⟩).trans hu

/-- A link leaves BROKEN, which is logged or not. -/
structure State.Unlisted (s u : State) (b : Nat) : Prop where
  frame : u = { s with regs := u.regs, log := u.log, halo := { s.halo with ports := u.halo.ports } }
  outside : SameOutside s u ofLinks
  gone : u.linkBroken b = false
  port : ∀ q, u.port q = (s.dropBroken b).port q

theorem State.dropBroken_unlisted (s : State) (b : Nat) (logged : Bool) :
    s.Unlisted ((s.dropBroken b).when logged (fun s => s.logPut 0x0806 (wd b) 0)) b := by
  have hdrop := s.dropBroken_rewired b
  have hgone := s.linkBroken_dropBroken b
  obtain ⟨c, hc⟩ : ∃ c, s.dropBroken b = c := ⟨_, rfl⟩
  rw [hc] at hdrop hgone ⊢
  have hnoted : c.Noted (c.when logged (fun s => s.logPut 0x0806 (wd b) 0)) :=
    State.when_rel State.Noted.refl c _ (fun _ => State.Noted.logPut c _ _ _)
  have hagenda : (c.when logged (fun s => s.logPut 0x0806 (wd b) 0)).agenda = c.agenda := by
    cases logged
    · rfl
    · exact c.agenda_logPut _ _ _
  have hwire : c.SameWiring (c.when logged (fun s => s.logPut 0x0806 (wd b) 0)) :=
    hnoted.regs.wiring fun i j w hi hw => not_mem_logKeys (by unfold isWiring at hi; omega) (by unfold isWiring at hi; omega) hw
  exact ⟨by rw [hnoted.frame, hagenda, hdrop.frame], (ofLinks_rewired hdrop).trans (hnoted.regs.ofLinks ofLinks_logKeys),
    (hwire.linkBroken b).trans hgone, fun q => by rw [hnoted.port, hc]⟩

/-- RESTORED, not seen before. -/
theorem exec_ringRestoredRx (hty : f.ty = 9) (hkind : fld (fpay f 0) 36 4 = 2) (hnew : ((s.at t).acceptBroadcast p f).1 = true) :
    ∃ u, exec (.ringRestoredRx p f t) s = .next u ∧
      u.linkBroken (fld (fpay f 1) 0 24) = false ∧
      u = { s.at t with regs := u.regs, halo := u.halo, log := u.log } ∧
      SameOutside s u ofLinks := by
  obtain ⟨seen, ports, haccept⟩ := State.acceptBroadcast_accepts hnew
  obtain ⟨b, hb⟩ : ∃ b : State, b = { s.at t with halo := { s.halo with seen := seen, ports := ports } } := ⟨_, rfl⟩
  have haccept' : ((s.at t).acceptBroadcast p f).2 = b := by rw [haccept, hb]; rfl
  have hout := b.dropBroken_unlisted (fld (fpay f 1) 0 24) (b.besideLink (fld (fpay f 1) 0 24))
  obtain ⟨u, hu⟩ : ∃ u, (b.dropBroken (fld (fpay f 1) 0 24)).when (b.besideLink (fld (fpay f 1) 0 24))
    (fun s => s.logPut 0x0806 (wd (fld (fpay f 1) 0 24)) 0) = u := ⟨_, rfl⟩
  rw [hu] at hout
  have hframe : u = { s.at t with regs := u.regs, halo := u.halo, log := u.log } := by rw [hout.frame, hb]
  have hsame : SameOutside s u ofLinks := SameOutside.trans (fun k _ => by rw [hb]; rfl) hout.outside
  refine ⟨u, exec_ringRestoredRx_eq hty hkind ?_ (by rw [State.moves, hframe]) hsame.devState, hout.gone, hframe, hsame⟩
  rw [hnew, if_pos rfl, haccept', hu]

/-- A copy is dropped and counted. -/
theorem exec_ringFrame_copy (hty : f.ty = 9) (hcopy : ((s.at t).acceptBroadcast p f).1 = false)
    (hkind : fld (fpay f 0) 36 4 = 1 ∨ fld (fpay f 0) 36 4 = 2) :
    ∃ u, exec (if fld (fpay f 0) 36 4 = 1 then .ringBrokenRx p f t else .ringRestoredRx p f t) s = .next u ∧
      u.reg (0x1110 + p) 0x10 = s.reg (0x1110 + p) 0x10 + 1 ∧
      (∀ q, q ≠ p.val → u.port q = s.port q) ∧
      u = { s.at t with regs := u.regs, halo := { s.halo with seen := u.halo.seen, ports := u.halo.ports } } ∧
      SameRegs s u [odKey (0x1110 + p) 0x10 0] := by
  obtain ⟨seen, hdrop⟩ := State.acceptBroadcast_drops hcopy
  obtain ⟨b, hb⟩ : ∃ b : State, b = { s.at t with halo := { s.halo with seen := seen } } := ⟨_, rfl⟩
  have hdrop' : ((s.at t).acceptBroadcast p f).2 = b.dropFrame p f := by rw [hdrop, hb]; rfl
  have hregs : SameRegs s (b.dropFrame p f) [odKey (0x1110 + p) 0x10 0] :=
    SameRegs.trans (t := b) (ks := []) (SameRegs.of_eq [] (by rw [hb]; rfl)) (SameRegs.addReg b (0x1110 + p) 0x10 1 0)
  have hframe : b.dropFrame p f = { s.at t with
      regs := (b.dropFrame p f).regs, halo := { s.halo with seen := (b.dropFrame p f).halo.seen, ports := (b.dropFrame p f).halo.ports } } := by
    rw [hb]
    rfl
  have hmoves : (s.at t).moves (b.dropFrame p f) := by rw [State.moves, hframe]
  have hstate := hregs.reg 0x0100 0x00 0 (by simp [odKey]; omega)
  refine ⟨b.dropFrame p f, ?_, ?_, fun q hq => ?_, hframe, hregs⟩
  · obtain hone | htwo := hkind
    · rw [if_pos hone]
      exact exec_ringBrokenRx_eq hty hone (by rw [hcopy, if_neg Bool.false_ne_true, hdrop']) hmoves hstate
    · rw [if_neg (by rw [htwo]; decide)]
      exact exec_ringRestoredRx_eq hty htwo (by rw [hcopy, if_neg Bool.false_ne_true, hdrop']) hmoves hstate
  · exact (State.reg_addReg_same b (0x1110 + p) 0x10 1 0).trans (by rw [hb]; rfl)
  · refine (State.port_onPort_other _ _ (Ne.symm hq)).trans ?_
    rw [hb]
    rfl

theorem State.dropFrame_moves (s : State) (p : Nat) (f : Frame) :
    s.moves (s.dropFrame p f) ∧ SameRegs s (s.dropFrame p f) [odKey (0x1110 + p) 0x10 0] := ⟨rfl, SameRegs.addReg s _ _ _ _⟩

theorem exec_ringBrokenRx_other (h : f.ty ≠ 9 ∨ fld (fpay f 0) 36 4 ≠ 1) : exec (.ringBrokenRx p f t) s = .next ((s.at t).dropFrame p f) := by
  obtain ⟨hmoves, hregs⟩ := (s.at t).dropFrame_moves p f
  change execRingBrokenRx p f t s = _
  refine State.perform_moves (t := t) ?_ hmoves (hregs.reg _ _ _ (by simp [odKey]; omega))
  rw [State.tick_posted_nil]
  exact if_neg fun hboth => h.elim (fun hn => hn hboth.1) (fun hn => hn hboth.2)

theorem exec_ringRestoredRx_other (h : f.ty ≠ 9 ∨ fld (fpay f 0) 36 4 ≠ 2) :
    exec (.ringRestoredRx p f t) s = .next ((s.at t).dropFrame p f) := by
  obtain ⟨hmoves, hregs⟩ := (s.at t).dropFrame_moves p f
  change execRingRestoredRx p f t s = _
  refine State.perform_moves (t := t) ?_ hmoves (hregs.reg _ _ _ (by simp [odKey]; omega))
  rw [State.tick_posted_nil]
  exact if_neg fun hboth => h.elim (fun hn => hn hboth.1) (fun hn => hn hboth.2)

end RingFrames

/-! ## RING_STATE of this device (12, R375, R376) -/

section RingOwn

variable {s : State} {p : Fin 4} {t : Nat}

/-- Whether RING_STATE BROKEN of a port's link is resent: the link is in BROKEN and its port not UP. -/
def State.resends (s : State) (p : Nat) : Bool :=
  s.portRole p = 1 && p < 2 && s.ringSize ≠ 0 && s.linkBroken (s.ringLink p) && s.portState p ≠ 3

theorem exec_ringStateResend_eq {u : State} (hu : (s.at t).when (s.resends p) (fun x => x.ringState 1 (s.ringLink p)) = u)
    (hmoves : (s.at t).moves u) (hstate : u.reg 0x0100 0x00 = s.reg 0x0100 0x00) : exec (.ringStateResend p t) s = .next u := by
  change execRingStateResend p t s = _
  refine State.perform_moves (t := t) ?_ hmoves hstate
  rw [State.tick_posted_nil]
  exact hu

theorem exec_ringStateResend (hrole : s.portRole p = 1) (hp : p.val < 2) (hsize : s.ringSize ≠ 0)
    (hbroken : s.linkBroken (s.ringLink p) = true) (hstate : s.portState p ≠ 3) :
    ∃ u, exec (.ringStateResend p t) s = .next u ∧
      u.halo.bseq = s.halo.bseq + 1 ∧
      (∀ q < 4, s.portOpen q = true → (u.port q).txq = (s.port q).txq ++ [⟨3, { mkFrame 9 0xFFFFFF s.ownDevice [wd (1 * 2 ^ 36) ||| wd (s.halo.bseq + 1).toNat, wd (s.ringLink p)] with vc := s.regB (0x1110 + q) 0x04 }, none, none⟩]) ∧
      (∀ q < 4, s.portOpen q = false → u.port q = s.port q) ∧
      u = { s.at t with halo := u.halo } := by
  have htold := (s.at t).ringState_told 1 (s.ringLink p)
  obtain ⟨u, hu⟩ : ∃ u, (s.at t).ringState 1 (s.ringLink p) = u := ⟨_, rfl⟩
  rw [hu] at htold
  have hframe : u = { s.at t with halo := u.halo } := by rw [htold.frame]
  have hresends : s.resends p = true := by simp [State.resends, hrole, hp, hsize, hbroken, hstate]
  exact ⟨u, exec_ringStateResend_eq (by rw [hresends, State.when_true, hu]) (by rw [State.moves, hframe]) (by rw [hframe]; rfl),
    by rw [htold.frame]; rfl, htold.sent, fun q _ hq => htold.others q hq, hframe⟩

theorem exec_ringStateResend_idle
    (h : s.portRole p ≠ 1 ∨ 2 ≤ p.val ∨ s.ringSize = 0 ∨ s.linkBroken (s.ringLink p) = false ∨ s.portState p = 3) :
    exec (.ringStateResend p t) s = .next (s.at t) := by
  have hresends : s.resends p = false := by
    obtain h | h | h | h | h := h <;> simp [State.resends, h]
    omega
  exact exec_ringStateResend_eq (by rw [hresends, State.when_false]) rfl rfl

/-- Whether RESTORE_HOLD has passed since a broken link came UP again. -/
def State.restored (s : State) (p : Nat) : Prop :=
  (s.port p).restoring ∧ s.portState p = 3 ∧ (s.port p).since + usEt (s.regN 0x1102 0x03) ≤ s.clock

theorem exec_restoreHoldExpiry_idle
    (h : (s.port p).restoring = false ∨ s.portState p ≠ 3 ∨ (s.at t).clock < (s.port p).since + usEt (s.regN 0x1102 3)) :
    exec (.restoreHoldExpiry p t) s = .next (s.at t) := by
  have hnot : ¬ (s.at t).restored p := by
    rintro ⟨hdue, hup, hheld⟩
    obtain h | h | h := h
    · exact Bool.false_ne_true (h.symm.trans hdue)
    · exact h hup
    · exact absurd hheld (Nat.not_le.mpr h)
  unfold State.restored at hnot
  change execRestoreHoldExpiry p t s = _
  refine State.perform_moves (t := t) ?_ rfl rfl
  rw [State.tick_posted_nil]
  dsimp only
  rw [if_neg hnot]

/-- When the link of a port is whole, taking a link out of BROKEN brings no RESTORED due on it. -/
theorem State.dropBroken_calm (s : State) (p : Nat) (h : (s.port p).restoring = false) :
    ((s.dropBroken (s.ringLink p)).port p).restoring = false := by
  rw [State.dropBroken_eq]
  split
  · have hlink : (s.unlist (s.ringLink p) 8).ringLink p = s.ringLink p := by
      have hregs := s.unlist_regs (s.ringLink p) le_rfl
      have hsize : (s.unlist (s.ringLink p) 8).ringSize = s.ringSize := congrArg BitVec.toNat (hregs.reg _ _ _ (by decide))
      have hpos : (s.unlist (s.ringLink p) 8).ringPos = s.ringPos := congrArg BitVec.toNat (hregs.reg _ _ _ (by decide))
      generalize s.unlist (s.ringLink p) 8 = b at hsize hpos
      rw [State.ringLink, hsize, hpos, State.ringLink]
    refine (State.Rejudged.linksChanged _).calm p ?_ ?_
    · rw [hlink]
      exact s.linkBroken_unlist _
    · rwa [State.port_of_halo (by rw [s.unlist_moved])]
  · exact h

/-- RESTORE_HOLD has passed. -/
theorem exec_restoreHoldExpiry (hrole : s.portRole p = 1) (hup : s.portState p = 3) (hdue : (s.port p).restoring = true)
    (hheld : (s.port p).since + usEt (s.regN 0x1102 3) ≤ (s.at t).clock) :
    ∃ u, exec (.restoreHoldExpiry p t) s = .next u ∧
      (u.port p).restoring = false ∧
      u.linkBroken (s.ringLink p) = false ∧
      u.halo.bseq = s.halo.bseq + 1 ∧
      (s.port p).txq ++ [⟨3, { mkFrame 9 0xFFFFFF s.ownDevice [wd (2 * 2 ^ 36) ||| wd (s.halo.bseq + 1).toNat, wd (s.ringLink p)] with vc := s.regB (0x1110 + p) 0x04 }, none, none⟩] <+: (u.port p).txq ∧
      u = { s.at t with regs := u.regs, halo := u.halo, log := u.log } ∧
      SameOutside s u ofLinks := by
  have hset := State.PortTo.setPort (s.at t) p { s.port p with restoring := false }
  obtain ⟨a, ha⟩ : ∃ a, (s.at t).setPort p { s.port p with restoring := false } = a := ⟨_, rfl⟩
  rw [ha] at hset
  have hopen : a.portOpen p = true := by
    rw [State.portOpen_of_regs (s := s) hset.regs]
    simp [State.portOpen, hrole, hup]
  have htold := a.ringState_told 2 (s.ringLink p)
  obtain ⟨b, hb⟩ : ∃ b, a.ringState 2 (s.ringLink p) = b := ⟨_, rfl⟩
  rw [hb] at htold
  have hbregs : b.regs = s.regs := by rw [htold.frame]; exact hset.regs
  have hlink : b.ringLink p = s.ringLink p := State.SameWiring.ringLink (.of_regs hbregs) p
  have hbrest : (b.port p).restoring = false := by rw [htold.restoring, hset.own]
  have hcalm := b.dropBroken_calm p hbrest
  rw [hlink] at hcalm
  have hwait := (b.dropBroken_rewired (s.ringLink p)).waiting p
  have hout := b.dropBroken_unlisted (s.ringLink p) (s.linkBroken (s.ringLink p))
  obtain ⟨u, hu⟩ : ∃ u, (b.dropBroken (s.ringLink p)).when (s.linkBroken (s.ringLink p)) (fun x => x.logPut 0x0806 (wd (s.ringLink p)) 0) = u :=
    ⟨_, rfl⟩
  rw [hu] at hout
  have hbseq : a.halo.bseq = s.halo.bseq := by rw [← ha]; rfl
  have hframe : u = { s.at t with regs := u.regs, halo := u.halo, log := u.log } := by rw [hout.frame, htold.frame, hset.frame]
  have hsame : SameOutside s u ofLinks := SameOutside.trans (fun k _ => by rw [hbregs]) hout.outside
  have hdone : (s.at t).restored p := ⟨hdue, hup, hheld⟩
  unfold State.restored at hdone
  refine ⟨u, ?_, by rw [hout.port]; exact hcalm, hout.gone, ?_, ?_, hframe, hsame⟩
  · change execRestoreHoldExpiry p t s = _
    refine State.perform_moves (t := t) ?_ (by rw [State.moves, hframe]) hsame.devState
    rw [State.tick_posted_nil]
    dsimp only
    rw [if_pos hdone, State.at_ringLink, State.at_port, State.at_linkBroken, ha, hb, hu]
  · rw [hout.frame, htold.frame]
    exact congrArg (· + 1) hbseq
  · have hsent := htold.sent p p.isLt hopen
    rw [hset.own, State.ringFrame, hbseq, State.ownDevice, State.regN, State.regB, State.reg_of_regs hset.regs, State.reg_of_regs hset.regs] at hsent
    rw [hout.port]
    exact hsent ▸ hwait

end RingOwn

end Sys2Proof.Machine

namespace Sys2Proof.Machine

/-! ## LINK_INFO (12, R351, R357, R374) -/

/-- The objects that tell of the partner are set. -/
def State.peerTold (s : State) (p : Nat) (f : Frame) : State :=
  ((s.setRegN (0x1110 + p) 0x0A (fld (fpay f 0) 0 24)).setRegN (0x1110 + p) 0x0B
    (let k := fld (fpay f 0) 32 8; if k = 1 ∨ k = 2 then k else 0)).setRegN (0x1110 + p) 0x0C (fld (fpay f 0) 24 8)

theorem State.peerTold_regs (s : State) (p : Nat) (f : Frame) : SameRegs s (s.peerTold p f) ([0xA, 0xB, 0xC].map (fun k => odKey (0x1110 + p) k 0)) :=
  ((SameRegs.setRegN s (0x1110 + p) 0x0A _).trans (SameRegs.setRegN _ (0x1110 + p) 0x0B _)).trans (SameRegs.setRegN _ (0x1110 + p) 0x0C _)

theorem State.peerTold_moved (s : State) (p : Nat) (f : Frame) : s.regsMoved (s.peerTold p f) :=
  ((State.regsMoved.setRegN s _ _ _).trans (State.regsMoved.setRegN _ _ _ _)).trans (State.regsMoved.setRegN _ _ _ _)

theorem State.peerTold_device (s : State) (p : Nat) (f : Frame) : (s.peerTold p f).reg (0x1110 + p) 0x0A = wd (fld (fpay f 0) 0 24) := by
  unfold State.peerTold
  rw [(SameRegs.setRegN _ (0x1110 + p) 0x0C _).reg _ _ _ (by simp [odKey]), (SameRegs.setRegN _ (0x1110 + p) 0x0B _).reg _ _ _ (by simp [odKey]),
    State.reg_setRegN_same]

theorem State.peerTold_port (s : State) (p : Nat) (f : Frame) : (s.peerTold p f).reg (0x1110 + p) 0x0C = wd (fld (fpay f 0) 24 8) :=
  State.reg_setRegN_same ..

/-- The port that has received LINK_INFO: the first one of a link grants its credits (R351). -/
def PortSt.informed (x : PortSt) (f : Frame) (t : Nat) : PortSt :=
  if x.granted then { x with peer := f.payload }
  else { (({ x with peer := f.payload } : PortSt).setCredit false (fld (fpay f 1) 8 8) t).setCredit true (fld (fpay f 1) 0 8) t with granted := true }

theorem PortSt.informed_peer (x : PortSt) (f : Frame) (t : Nat) : (x.informed f t).peer = f.payload := by
  unfold PortSt.informed
  split <;> rfl

theorem PortSt.informed_granted (x : PortSt) (f : Frame) (t : Nat) : (x.informed f t).granted = true := by
  unfold PortSt.informed
  split
  · next h => exact h
  · rfl

theorem PortSt.informed_trained (x : PortSt) (f : Frame) (t : Nat) : (x.informed f t).trained = x.trained := by
  unfold PortSt.informed
  split <;> rfl

theorem PortSt.informed_first (x : PortSt) (f : Frame) (t : Nat) (h : x.granted = false) :
    (x.informed f t).credit0 = fld (fpay f 1) 8 8 ∧ (x.informed f t).credit1 = fld (fpay f 1) 0 8 := by
  rw [PortSt.informed, h]
  exact ⟨rfl, rfl⟩

theorem PortSt.informed_later (x : PortSt) (f : Frame) (t : Nat) (h : x.granted = true) :
    (x.informed f t).credit0 = x.credit0 ∧ (x.informed f t).credit1 = x.credit1 := by
  rw [PortSt.informed, h]
  exact ⟨rfl, rfl⟩

/-- The credits are granted when LINK_INFO is the first one. -/
def State.granting (s : State) (p : Nat) (f : Frame) : State :=
  s.when (!(s.port p).granted) (fun s => s.onPort p (fun x =>
    { (x.setCredit false (fld (fpay f 1) 8 8) s.clock).setCredit true (fld (fpay f 1) 0 8) s.clock with granted := true }))

theorem State.granting_informs {s : State} {p : Nat} {f : Frame} {x : PortSt} (h : s.port p = { x with peer := f.payload }) :
    s.PortTo (s.granting p f) p (x.informed f s.clock) := by
  unfold State.granting PortSt.informed
  rw [h]
  cases hgranted : x.granted with
  | true =>
    have := State.PortTo.refl s p
    rw [h, hgranted] at this
    exact this
  | false =>
    have := State.PortTo.onPort s p (fun x =>
      { (x.setCredit false (fld (fpay f 1) 8 8) s.clock).setCredit true (fld (fpay f 1) 0 8) s.clock with granted := true })
    rw [h] at this
    exact this

/-- A port is judged once it has trained. -/
def State.judgedWhenTrained (s : State) (p : Nat) : State := s.when (s.portState p ≠ 2 || (s.port p).trained) (fun s => s.judgePort p)

/-- What judging a port that has trained leaves of it. -/
theorem State.judgedWhenTrained_own (s : State) {p : Nat} (hp : p < 4) : (s.judgedWhenTrained p).port p =
    { s.port p with since := ((s.judgedWhenTrained p).port p).since, restoring := ((s.judgedWhenTrained p).port p).restoring } := by
  unfold State.judgedWhenTrained
  cases (s.portState p ≠ 2 || (s.port p).trained : Bool) with
  | false => rfl
  | true => exact (s.judgePort_judged hp).own

theorem State.judgedWhenTrained_others (s : State) {p q : Nat} (hp : p < 4) (hq : q ≠ p) : (s.judgedWhenTrained p).port q = s.port q :=
  State.when_rel (R := fun s u => u.port q = s.port q) (fun _ => rfl) s _ (fun _ => (s.judgePort_judged hp).others q hq)

theorem State.judgedWhenTrained_frame (s : State) {p : Nat} (hp : p < 4) : s.judgedWhenTrained p =
    { s with regs := (s.judgedWhenTrained p).regs, log := (s.judgedWhenTrained p).log, halo := (s.judgedWhenTrained p).halo } :=
  State.when_rel (R := fun s u => u = { s with regs := u.regs, log := u.log, halo := u.halo }) (fun _ => rfl) s _
    (fun _ => by rw [(s.judgePort_judged hp).frame])

theorem State.judgedWhenTrained_regs (s : State) {p : Nat} (hp : p < 4) : SameRegs s (s.judgedWhenTrained p) (judgeKeys p) :=
  State.when_rel (R := fun s u => SameRegs s u (judgeKeys p)) (fun s => SameRegs.refl s _) s _ (fun _ => (s.judgePort_judged hp).regs)

theorem State.judgedWhenTrained_waits {s : State} {p : Nat} (hstate : s.portState p = 2) (htrained : (s.port p).trained = false) :
    s.judgedWhenTrained p = s := by
  rw [State.judgedWhenTrained, hstate, htrained]
  rfl

theorem State.judgedWhenTrained_state {s : State} {p : Nat} (hp : p < 4) (h : s.portState p ≠ 2 ∨ (s.port p).trained = true) :
    (s.judgedWhenTrained p).portState p = if s.portChecks p = true then 3 else 4 := by
  have hjudge : (s.portState p ≠ 2 || (s.port p).trained) = true := by simpa using h
  rw [State.judgedWhenTrained, hjudge, State.when_true]
  exact (s.judgePort_judged hp).state

section LinkInfo

variable {s : State} {p : Fin 4} {f : Frame} {t : Nat}

theorem exec_linkInfoRx_idle (h : f.ty ≠ 0xA ∨ s.portState p < 2) : exec (.linkInfoRx p f t) s = .next (s.at t) := by
  change execLinkInfoRx p f t s = _
  refine State.perform_moves (t := t) ?_ rfl rfl
  rw [State.tick_posted_nil]
  exact if_pos h

/-- LINK_INFO is read into port `p` and its objects. -/
def State.linkInfoRead (s : State) (p : Nat) (f : Frame) : State :=
  ((s.onPort p (fun x => { x with peer := f.payload })).peerTold p f).granting p f

theorem exec_linkInfoRx_eq {u : State} (hty : f.ty = 0xA) (hstate : 2 ≤ s.portState p)
    (hu : ((s.at t).linkInfoRead p f).judgedWhenTrained p = u) (hmoves : (s.at t).moves u) (hkept : u.reg 0x0100 0x00 = s.reg 0x0100 0x00) :
    exec (.linkInfoRx p f t) s = .next u := by
  have hnot : ¬ (f.ty ≠ 0xA ∨ (s.at t).portState p < 2) := fun h => h.elim (fun hn => hn hty) (fun hlow => Nat.not_le.mpr hlow hstate)
  change execLinkInfoRx p f t s = _
  refine State.perform_moves (t := t) ?_ hmoves hkept
  rw [State.tick_posted_nil]
  exact (if_neg hnot).trans hu

/-- What reading LINK_INFO leaves. -/
structure State.Informed (s u : State) (p : Nat) (f : Frame) : Prop where
  frame : u = { s with regs := u.regs, halo := u.halo }
  regs : SameRegs s u ([0xA, 0xB, 0xC].map (fun k => odKey (0x1110 + p) k 0))
  device : u.reg (0x1110 + p) 0x0A = wd (fld (fpay f 0) 0 24)
  peerPort : u.reg (0x1110 + p) 0x0C = wd (fld (fpay f 0) 24 8)
  own : u.port p = (s.port p).informed f s.clock
  others : ∀ q, q ≠ p → u.port q = s.port q

theorem State.linkInfoRead_informed (s : State) (p : Nat) (f : Frame) : s.Informed (s.linkInfoRead p f) p f := by
  have hpeer := State.PortTo.onPort s p (fun x => { x with peer := f.payload })
  obtain ⟨a, ha⟩ : ∃ a, s.onPort p (fun x => { x with peer := f.payload }) = a := ⟨_, rfl⟩
  rw [ha] at hpeer
  have htold := a.peerTold_regs p f
  have hmoved := a.peerTold_moved p f
  have hdevice := a.peerTold_device p f
  have hpeerPort := a.peerTold_port p f
  obtain ⟨b, hb⟩ : ∃ b, a.peerTold p f = b := ⟨_, rfl⟩
  rw [hb] at htold hmoved hdevice hpeerPort
  have hport (q : Nat) : b.port q = a.port q := State.port_of_halo (by rw [hmoved]) q
  have hclock : b.clock = s.clock := by rw [hmoved, hpeer.frame]
  have hgrant := State.granting_informs (s := b) (f := f) ((hport p).trans hpeer.own)
  obtain ⟨u, hu⟩ : ∃ u, b.granting p f = u := ⟨_, rfl⟩
  rw [hu, hclock] at hgrant
  have heq : s.linkInfoRead p f = u := by rw [State.linkInfoRead, ha, hb, hu]
  rw [heq]
  refine ⟨by rw [hgrant.frame, hmoved, hpeer.frame], ?_, (State.reg_of_regs hgrant.regs _ _ _).trans hdevice,
    (State.reg_of_regs hgrant.regs _ _ _).trans hpeerPort, hgrant.own,
    fun q hq => (hgrant.others q hq).trans ((hport q).trans (hpeer.others q hq))⟩
  exact (((SameRegs.of_eq [] hpeer.regs).trans htold).trans (ls := []) (SameRegs.of_eq _ hgrant.regs)).mono (by simp)

/-- What reading LINK_INFO, then judging the port, leaves. -/
theorem exec_linkInfoRx (hty : f.ty = 0xA) (hstate : 2 ≤ s.portState p) :
    ∃ u, exec (.linkInfoRx p f t) s = .next u ∧
      (u.port p).peer = f.payload ∧
      u.reg (0x1110 + p) 0x0A = wd (fld (fpay f 0) 0 24) ∧
      u.reg (0x1110 + p) 0x0C = wd (fld (fpay f 0) 24 8) ∧
      ((s.port p).granted = false → (u.port p).credit0 = fld (fpay f 1) 8 8 ∧ (u.port p).credit1 = fld (fpay f 1) 0 8) ∧
      ((s.port p).granted = true → (u.port p).credit0 = (s.port p).credit0 ∧ (u.port p).credit1 = (s.port p).credit1) ∧
      (u.port p).granted = true ∧
      (s.portState p = 2 → (s.port p).trained = false → u.portState p = 2) ∧
      (s.portState p ≠ 2 ∨ (s.port p).trained = true → u.portState p = (if (s.onPort p (fun x => { x with peer := f.payload })).portChecks p = true then 3 else 4)) ∧
      (∀ q, q ≠ p.val → u.port q = s.port q) ∧
      u = { s.at t with regs := u.regs, halo := u.halo, log := u.log } ∧
      SameRegs s u ([7, 0xA, 0xB, 0xC].map (fun k => odKey (0x1110 + p) k 0) ++ [odKey (0x0904 + p) 0x05 0, odKey 0x0500 0x06 0, odKey 0x0500 0x07 0]) := by
  have hread := (s.at t).linkInfoRead_informed p f
  obtain ⟨b, hb⟩ : ∃ b, (s.at t).linkInfoRead p f = b := ⟨_, rfl⟩
  rw [hb] at hread
  have hown := b.judgedWhenTrained_own p.isLt
  have hothers := fun {q} => b.judgedWhenTrained_others (q := q) p.isLt
  have hframe := b.judgedWhenTrained_frame p.isLt
  have hjregs := b.judgedWhenTrained_regs p.isLt
  have hwaits := State.judgedWhenTrained_waits (s := b) (p := p)
  have hstates := State.judgedWhenTrained_state (s := b) p.isLt
  obtain ⟨u, hu⟩ : ∃ u, b.judgedWhenTrained p = u := ⟨_, rfl⟩
  simp only [hu] at hown hothers hframe hjregs hwaits hstates
  have hbstate : b.portState p = s.portState p := congrArg BitVec.toNat (hread.regs.reg _ _ _ (by simp [odKey]))
  have hbtrained : (b.port p).trained = (s.port p).trained := by rw [hread.own, PortSt.informed_trained]; rfl
  have hwire : (s.onPort p (fun x => { x with peer := f.payload })).SameWiring b :=
    SameRegs.wiring (ks := [0xA, 0xB, 0xC].map (fun k => odKey (0x1110 + p) k 0)) hread.regs (by simp [isWiring, odKey]; omega)
  have hchecks : b.portChecks p = (s.onPort p (fun x => { x with peer := f.payload })).portChecks p :=
    hwire.portChecks (by rw [hread.own, PortSt.informed_peer, State.port_onPort_same])
  have hall : SameRegs s u ([7, 0xA, 0xB, 0xC].map (fun k => odKey (0x1110 + p) k 0) ++ [odKey (0x0904 + p) 0x05 0, odKey 0x0500 0x06 0, odKey 0x0500 0x07 0]) :=
    SameRegs.mono (ks := [0xA, 0xB, 0xC].map (fun k => odKey (0x1110 + p) k 0) ++ judgeKeys p) (SameRegs.trans hread.regs hjregs)
      (by simp +contextual [judgeKeys, or_imp])
  have huframe : u = { s.at t with regs := u.regs, halo := u.halo, log := u.log } := by rw [hframe, hread.frame]
  have hinformed : u.port p = { (s.port p).informed f (s.at t).clock with since := (u.port p).since, restoring := (u.port p).restoring } := by
    rw [hread.own] at hown
    exact hown
  refine ⟨u, exec_linkInfoRx_eq hty hstate (by rw [hb, hu]) (by rw [State.moves, huframe]) (hall.reg _ _ _ (by simp [odKey]; omega)), ?_, ?_, ?_,
    fun hfirst => ?_, fun hlater => ?_, ?_, fun htwo hnot => ?_, fun htrained => ?_, fun q hq => (hothers hq).trans (hread.others q hq), huframe, hall⟩
  · rw [hinformed]
    exact PortSt.informed_peer ..
  · rw [hjregs.reg _ _ _ (by simp [judgeKeys, odKey]; omega), hread.device]
  · rw [hjregs.reg _ _ _ (by simp [judgeKeys, odKey]; omega), hread.peerPort]
  · rw [hinformed]
    exact PortSt.informed_first _ _ _ hfirst
  · rw [hinformed]
    exact PortSt.informed_later _ _ _ hlater
  · rw [hinformed]
    exact PortSt.informed_granted ..
  · rw [hwaits (hbstate.trans htwo) (hbtrained.trans hnot), hbstate, htwo]
  · rw [hstates (by rwa [hbstate, hbtrained]), hchecks]

end LinkInfo

/-! ## Frames for other devices (12, R360) -/

section Forwarded

variable {s : State} {p : Fin 4} {f : Frame} {t out : Nat}

/-- Whether a frame ends at this device. -/
def State.endsHere (s : State) (f : Frame) : Prop := f.dest.toNat = s.ownDevice ∨ f.dest.toNat = 0xFFFFFE ∨ f.dest.toNat = 0xFFFFFF

theorem State.not_endsHere (hown : f.dest.toNat ≠ s.ownDevice) (hlocal : f.dest ≠ 0xFFFFFE) (hall : f.dest ≠ 0xFFFFFF) : ¬ s.endsHere f := by
  rintro (h | h | h)
  · exact hown h
  · exact hlocal (BitVec.eq_of_toNat_eq h)
  · exact hall (BitVec.eq_of_toNat_eq h)

/-- The frames that answer a request with no route. -/
def State.unroutableReply (s : State) (f : Frame) : List Frame :=
  s.replyFrames f.src.toNat f.src.toNat (BitVec.ofNat 16 (fld (fpay f 2) 24 16)) 0x0063 0 []

theorem exec_forwardedFrameRx_eq {u : State} (hends : ¬ s.endsHere f)
    (hu : (match s.route (some p.val) f.dest.toNat with
      | some q => (s.at t).egress (some p.val) q (frameHop f) true
      | none =>
        if f.ty = 2 then
          if bit (fpay f 2) 23 then (((s.at t).freeBuffer p f.vc).unroutableReply f).foldl (fun s g => s.sendFrame none g) ((s.at t).freeBuffer p f.vc)
          else (s.at t).freeBuffer p f.vc
        else ((s.at t).freeBuffer p f.vc).addReg 0x1100 0x05 1) = u)
    (hmoves : (s.at t).moves u) (hkept : u.reg 0x0100 0x00 = s.reg 0x0100 0x00) : exec (.forwardedFrameRx p f t) s = .next u := by
  have hnot : ¬ (s.at t).endsHere f := hends
  unfold State.endsHere at hnot
  change execForwardedFrameRx p f t s = _
  refine State.perform_moves (t := t) ?_ hmoves hkept
  rw [State.tick_posted_nil]
  dsimp only
  rw [if_neg hnot, State.at_route]
  exact hu

theorem exec_forwardedFrameRx_own (h : f.dest.toNat = s.ownDevice ∨ f.dest = 0xFFFFFE ∨ f.dest = 0xFFFFFF) :
    exec (.forwardedFrameRx p f t) s = .next (s.at t) := by
  have hends : (s.at t).endsHere f := h.imp id (Or.imp (fun h => by rw [h]; rfl) (fun h => by rw [h]; rfl))
  unfold State.endsHere at hends
  change execForwardedFrameRx p f t s = _
  refine State.perform_moves (t := t) ?_ rfl rfl
  rw [State.tick_posted_nil]
  dsimp only
  rw [if_pos hends]

theorem exec_forwardedFrameRx_routed (hends : ¬ s.endsHere f) (hroute : s.route (some p.val) f.dest.toNat = some out) :
    ∃ u, exec (.forwardedFrameRx p f t) s = .next u ∧
      (u.port out).txq = (s.port out).txq ++ [⟨frameClass f.ty.toNat, { frameHop f with vc := s.vcFor (some p.val) out (frameHop f) }, some p.val, some f.vc⟩] ∧
      (∀ q, q ≠ out → u.port q = s.port q) ∧
      u = { s.at t with halo := u.halo } := by
  refine ⟨(s.at t).egress (some p.val) out (frameHop f) true, exec_forwardedFrameRx_eq hends (by rw [hroute]) rfl rfl,
    State.egress_port .., fun q hq => State.egress_other _ _ _ _ (Ne.symm hq), State.egress_eq ..⟩

theorem exec_forwardedFrameRx_discarded (hends : ¬ s.endsHere f) (hroute : s.route (some p.val) f.dest.toNat = none) (hty : f.ty ≠ 2) :
    ∃ u, exec (.forwardedFrameRx p f t) s = .next u ∧
      u.reg 0x1100 0x05 = s.reg 0x1100 0x05 + 1 ∧
      (u.port p).ctl = (s.port p).ctl ++ [wd (2 ^ 36 + 2 ^ 32 + (b2n f.vc * 2 ^ 31 + 2 ^ 24))] ∧
      (∀ q, q ≠ p.val → u.port q = s.port q) ∧
      u = { s.at t with regs := u.regs, halo := u.halo } ∧
      SameRegs s u [odKey 0x1100 0x05 0] := by
  have hfree := State.PortTo.control (s.at t) p 1 (b2n f.vc * 2 ^ 31 + 2 ^ 24)
  obtain ⟨b, hb⟩ : ∃ b, (s.at t).freeBuffer p f.vc = b := ⟨_, rfl⟩
  rw [show (s.at t).control p 1 (b2n f.vc * 2 ^ 31 + 2 ^ 24) = b from hb] at hfree
  have hmoved : b.regsMoved (b.addReg 0x1100 0x05 1) := State.regsMoved.addReg b _ _ _ _
  have hport (q : Nat) : (b.addReg 0x1100 0x05 1).port q = b.port q := State.port_of_halo (by rw [hmoved]) q
  have hregs : SameRegs s (b.addReg 0x1100 0x05 1) [odKey 0x1100 0x05 0] :=
    (SameRegs.of_eq [] hfree.regs).trans (SameRegs.addReg b _ _ _ _)
  have hframe : b.addReg 0x1100 0x05 1 = { s.at t with regs := (b.addReg 0x1100 0x05 1).regs, halo := (b.addReg 0x1100 0x05 1).halo } := by
    rw [hmoved, hfree.frame]
  refine ⟨b.addReg 0x1100 0x05 1, exec_forwardedFrameRx_eq hends ?_ (by rw [State.moves, hframe]) (hregs.reg _ _ _ (by decide)), ?_, ?_,
    fun q hq => (hport q).trans (hfree.others q hq), hframe, hregs⟩
  · rw [hroute]
    dsimp only
    rw [if_neg hty, hb]
  · rw [State.reg_addReg_same, State.reg_of_regs hfree.regs]
    rfl
  · rw [hport, hfree.own]
    rfl

theorem State.route_of_regs {s u : State} (h : u.regs = s.regs) (inp : Option Nat) (d : Nat) : u.route inp d = s.route inp d := by
  have hu : u.route inp d = ({ s with regs := u.regs } : State).route inp d := rfl
  rw [hu, h]

/-- A reply that tells a code alone is one frame. -/
theorem State.unroutableReply_eq (s : State) (f : Frame) : s.unroutableReply f =
    [mkFrame 3 f.src.toNat s.ownDevice [wd (fld (fpay f 2) 24 16 * 2 ^ 24 + 0x63 * 256 + 8), wd (f.src.toNat * 65536)]] := by
  have hseq : (BitVec.ofNat 16 (fld (fpay f 2) 24 16)).toNat = fld (fpay f 2) 24 16 := by
    rw [BitVec.toNat_ofNat]
    exact Nat.mod_eq_of_lt (fld_lt_pow ..)
  have hparts : shares 94 11 ([] : List Word) = [[]] := rfl
  simp [State.unroutableReply, State.replyFrames, hparts, hseq, b2n]

/-- The first word of such a reply tells SEQ and code. -/
theorem replyWord_fields {q : Nat} (h : q < 2 ^ 16) :
    fld (wd (q * 2 ^ 24 + 0x63 * 256 + 8)) 24 16 = q ∧ fld (wd (q * 2 ^ 24 + 0x63 * 256 + 8)) 8 16 = 0x63 := by
  have hto : (wd (q * 2 ^ 24 + 0x63 * 256 + 8)).toNat = q * 2 ^ 24 + 0x63 * 256 + 8 := wd_toNat_of_lt (by omega)
  simp only [fld, hto, Nat.shiftRight_eq_div_pow]
  omega

theorem exec_forwardedFrameRx_answered (hends : ¬ s.endsHere f) (hroute : s.route (some p.val) f.dest.toNat = none) (hty : f.ty = 2)
    (hwhole : bit (fpay f 2) 23 = true) (hback : s.route none f.src.toNat = some out) :
    ∃ u, exec (.forwardedFrameRx p f t) s = .next u ∧
      ((u.port out).txq.map (fun x => (x.frame.ty, x.frame.dest, fld (fpay x.frame 0) 24 16, fld (fpay x.frame 0) 8 16))).getLast? = some (3, f.src, fld (fpay f 2) 24 16, 0x63) ∧
      u = { s.at t with halo := u.halo } := by
  have hfree := State.PortTo.control (s.at t) p 1 (b2n f.vc * 2 ^ 31 + 2 ^ 24)
  obtain ⟨b, hb⟩ : ∃ b, (s.at t).freeBuffer p f.vc = b := ⟨_, rfl⟩
  rw [show (s.at t).control p 1 (b2n f.vc * 2 ^ 31 + 2 ^ 24) = b from hb] at hfree
  obtain ⟨g, hg⟩ : ∃ g, mkFrame 3 f.src.toNat b.ownDevice [wd (fld (fpay f 2) 24 16 * 2 ^ 24 + 0x63 * 256 + 8), wd (f.src.toNat * 65536)] = g := ⟨_, rfl⟩
  have hdest : g.dest = f.src := by rw [← hg]; exact BitVec.ofNat_toNat ..
  have hsend : b.sendFrame none g = b.egress none out g false := by
    have hout : b.route none g.dest.toNat = some out := by rw [hdest, State.route_of_regs (s := s) hfree.regs, hback]
    unfold State.sendFrame
    rw [hout]
    rfl
  obtain ⟨hseq, hcode⟩ := replyWord_fields (fld_lt_pow (fpay f 2) 24 16)
  have hframe : b.egress none out g false = { s.at t with halo := (b.egress none out g false).halo } := by
    rw [State.egress_eq, hfree.frame]
  refine ⟨b.egress none out g false, exec_forwardedFrameRx_eq hends ?_ (by rw [State.moves, hframe]) (by rw [hframe]; rfl), ?_, hframe⟩
  · rw [hroute]
    dsimp only
    rw [if_pos hty, if_pos hwhole, hb, State.unroutableReply_eq, hg, List.foldl_cons, List.foldl_nil, hsend]
  · rw [State.egress_port, List.map_append, List.map_cons, List.map_nil, List.getLast?_concat]
    have hty3 : g.ty = 3 := by rw [← hg]; rfl
    have hword : fpay g 0 = wd (fld (fpay f 2) 24 16 * 2 ^ 24 + 0x63 * 256 + 8) := by rw [← hg]; rfl
    change some (g.ty, g.dest, fld (fpay g 0) 24 16, fld (fpay g 0) 8 16) = _
    rw [hty3, hdest, hword, hseq, hcode]

end Forwarded

/-- Settles O30, from a rule for each row; a change of BROKEN, RING_STATE and judging are each said once (`State.Rewired`, `State.RingTold`,
`State.Judged`). -/
theorem haloRingAndRoutes : Obligations.HaloRingAndRoutes := by
  unfold Obligations.HaloRingAndRoutes
  exact ⟨fun s p f t hty hkind hnew hunlisted hfree => exec_ringBrokenRx hty hkind hnew hunlisted hfree,
    fun s p f t hty hkind hnew => exec_ringRestoredRx hty hkind hnew, fun s p f t hty hcopy hkind => exec_ringFrame_copy hty hcopy hkind,
    fun s p t hrole hp hsize hbroken hstate => exec_ringStateResend hrole hp hsize hbroken hstate,
    fun s p t hrole _ _ _ hup hdue hheld => exec_restoreHoldExpiry hrole hup hdue hheld, fun s p t h => exec_restoreHoldExpiry_idle h,
    fun s p t h => exec_ringStateResend_idle h, fun s p f t h => exec_ringBrokenRx_other h, fun s p f t h => exec_ringRestoredRx_other h,
    fun s p f t hty hstate => exec_linkInfoRx hty hstate, fun s p f t h => exec_linkInfoRx_idle h,
    fun s p f t out hown hlocal hall hroute => exec_forwardedFrameRx_routed (State.not_endsHere hown hlocal hall) hroute,
    fun s p f t hown hlocal hall hroute hty => exec_forwardedFrameRx_discarded (State.not_endsHere hown hlocal hall) hroute hty,
    fun s p f t out hown hlocal hall hroute hty hwhole hback =>
      exec_forwardedFrameRx_answered (State.not_endsHere hown hlocal hall) hroute hty hwhole hback,
    fun s p f t h => exec_forwardedFrameRx_own h⟩

end Sys2Proof.Machine

/-! The family of the host interface (13): O32, O33, O35, O36 and O37. -/

namespace Sys2Proof.Machine

/-! ## Accesses that move what their statements leave alone

Two things that the frames of O32, O33 and O36 do not name. A write of JUMP_LINE_TARGET (06, R218) through any path keeps the target it
replaces in the sequencer, as in O1 and O5. And a read meets the upsets of memory cells that its operand names (log entry 10): the lines turn
over in HBM, whatever object is read. -/

/-- The host's G1 write latch has zeros in the high registers of JUMP_LINE_TARGET of cluster 0. -/
def targetLatched : State := { readyDevice with host := { readyDevice.host with wlatch := some (0x3002, 2, [0, 0, 0]) } }

/-- A write of 5 to register 0 of JUMP_LINE_TARGET through G1 keeps the target it replaces. -/
theorem g1Reg0Write_jumpLineTarget_moves_seqs :
    ∃ u, exec (.g1Reg0Write 0x442020 5 Env.calm 9) targetLatched = .next u ∧ u.seqs ≠ targetLatched.seqs :=
  ⟨_, rfl, by decide +kernel⟩

/-- Refutes O32: its clause on a one-word write of register 0 leaves every unit as it was, but the write of 5 to JUMP_LINE_TARGET of cluster
0 in `targetLatched` lists the target it replaces in the sequencer. -/
theorem not_g1RegistersReachObjects : ¬ Obligations.G1RegistersReachObjects := by
  unfold Obligations.G1RegistersReachObjects
  rintro ⟨-, -, -, hwrite, -⟩
  obtain ⟨u, hu, -, -, -, hframe, -⟩ := hwrite targetLatched 0x442020 5 9 0x3002 2 0 _ (by decide) (by decide +kernel) rfl rfl
    (by decide) rfl rfl (by decide) (.inl rfl) rfl (by decide +kernel)
  obtain ⟨v, hv, hseqs⟩ := g1Reg0Write_jumpLineTarget_moves_seqs
  obtain rfl : u = v := Host.Outcome.next.inj (hu.symm.trans hv)
  exact hseqs ((congrArg State.seqs hframe).trans rfl)

/-- The DOM port points at word 4 of a DOMAIN. -/
def domainPointed : State := { readyDevice with host := { readyDevice.host with domTarget := 0x099000, domOffset := 4 } }

/-- Bit 0 of line 7 of HBM has turned over. -/
def lineUpset : Env := { Env.calm with upset := [(7, 1)] }

/-- A read of the DOM port that meets the upset leaves it in HBM. -/
theorem domDataLoRead_upset_moves_hbm : ∃ u, exec (.domDataLoRead lineUpset 9) domainPointed = .next u ∧ u.hbm ≠ domainPointed.hbm :=
  ⟨_, rfl, by decide +kernel⟩

/-- Refutes O33: its first clause leaves HBM as it was, but the read of word 4 of a DOMAIN in `domainPointed` meets an upset of line 7, which
the line then holds. -/
theorem not_g1WindowsReachDomains : ¬ Obligations.G1WindowsReachDomains := by
  unfold Obligations.G1WindowsReachDomains
  rintro ⟨hread, -⟩
  obtain ⟨u, hu, hhbm⟩ := domDataLoRead_upset_moves_hbm
  have hframe := Host.Outcome.next.inj (hu.symm.trans (hread domainPointed lineUpset 9 (by decide +kernel)))
  exact hhbm ((congrArg State.hbm hframe).trans rfl)

/-- A WRITE of one word to JUMP_LINE_TARGET of cluster 0 with a buffer of 64 bytes. -/
def targetWrite : Desc := ⟨1, [0x0200000000000007, 0x3002020000000000, 1, 0x20000, 64, 0, 0, 0], 0, 0, false, false, false⟩

/-- Ring 4 runs with that descriptor at its front. -/
def targetOffered : State :=
  readyDevice.onRing 4 (fun x => { x with desc := 0x4000, cpl := 0x8000, size := 4, state := 1, head := 2, phase := true, prog := [targetWrite] })

/-- The ring's write keeps the target it replaces. -/
theorem g3Write_jumpLineTarget_moves_seqs :
    ∃ u, exec (.g3Write 4 [5] Env.calm 9) targetOffered = .next u ∧ u.seqs ≠ targetOffered.seqs :=
  ⟨_, rfl, by decide +kernel⟩

/-- Refutes O36: its clause on WRITE leaves every unit as it was, but the write of 5 to JUMP_LINE_TARGET of cluster 0 in `targetOffered` lists
the target it replaces in the sequencer. -/
theorem not_ringDescriptorsAct : ¬ Obligations.RingDescriptorsAct := by
  unfold Obligations.RingDescriptorsAct
  rintro ⟨-, -, -, hwrite, -⟩
  obtain ⟨u, hu, -, -, -, -, -, -, hframe, -⟩ := hwrite targetOffered 4 9 0x3002 2 5 targetWrite [] _ rfl rfl (by decide) (by decide)
    (by decide) (by decide) (by simp) (by decide) (by decide) rfl rfl rfl (by decide) (.inl rfl) (by decide) (by decide) (by decide)
    (by decide +kernel)
  obtain ⟨v, hv, hseqs⟩ := g3Write_jumpLineTarget_moves_seqs
  obtain rfl : u = v := Host.Outcome.next.inj (hu.symm.trans hv)
  exact hseqs ((congrArg State.seqs hframe).trans rfl)

end Sys2Proof.Machine

namespace Sys2Proof.Machine

/-! ## Host accesses (13) -/

/-- The state that the body of a host access at instant `t` finds: LOCAL has reached `t`, nothing is read or written to host memory yet. -/
def State.accessed (s : State) (t : Nat) : State := { s.at t with host := { s.host with read := 0, dma := [] } }

section Accessed

variable (s : State) (t : Nat)

theorem State.hostAt_posted_nil : ({ s with posted := [] } : State).hostAt t = s.accessed t := rfl

@[simp] theorem State.accessed_ring (r : Nat) : (s.accessed t).ring r = s.ring r := rfl

variable {s}

/-- An access that a path carries runs its body (02, R76). -/
theorem State.g1At_of_carries (hcar : s.carries = true) (f : State → State) : ({ s with posted := [] } : State).g1At t f = f (s.accessed t) :=
  if_pos hcar

/-- An access that no path carries only lets time pass (02, R76). -/
theorem State.g1At_of_not_carries (hcar : s.carries = false) (f : State → State) :
    ({ s with posted := [] } : State).g1At t f = s.accessed t := if_neg (ne_true_of_eq_false hcar)

end Accessed

section Access

variable {c : Instr} {s u : State} {t : Nat} {f : State → State}

/-- An access that moves at most objects, the log, the agenda and the interface, and not STATE, answers what its body makes. -/
theorem exec_access (hc : exec c s = s.perform f) (h : f { s with posted := [] } = u)
    (hu : u = { s.accessed t with regs := u.regs, log := u.log, agenda := u.agenda, host := u.host })
    (hs : u.reg 0x0100 0x00 = s.reg 0x0100 0x00) : exec c s = .next u := by
  have hclock : s.clock ≤ u.clock := by rw [hu]; exact s.clock_le_at t
  exact hc.trans (State.perform_next h hs (by rw [hu]; rfl) (by rw [hu]; rfl) (by rw [hu]; rfl) hclock)

variable (hc : exec c s = s.perform (fun s => s.g1At t f))

include hc

/-- An access that a path carries answers what its body makes. -/
theorem exec_carried (hcar : s.carries = true) (h : f (s.accessed t) = u)
    (hu : u = { s.accessed t with regs := u.regs, log := u.log, agenda := u.agenda, host := u.host })
    (hs : u.reg 0x0100 0x00 = s.reg 0x0100 0x00) : exec c s = .next u :=
  exec_access hc ((State.g1At_of_carries t hcar f).trans h) hu hs

/-- No path carries the access: nothing is read and nothing else happens (02, R76). -/
theorem exec_not_carried (hcar : s.carries = false) : exec c s = .next (s.accessed t) :=
  exec_access hc (State.g1At_of_not_carries t hcar f) rfl rfl

/-- An access that the interface does not take counts in BAD_ACCESS alone (13, R382). -/
theorem exec_badAccess (hcar : s.carries = true) (h : f (s.accessed t) = (s.accessed t).badAccess) :
    exec c s = .next ((s.accessed t).addReg 0x1000 5 1) :=
  exec_carried hc hcar h rfl ((SameRegs.addReg _ 0x1000 5 1 0).reg _ _ _ (by decide))

end Access

/-! The bodies of the rows of the rings, each by its definition. -/

section Rows

variable (s : State) (r : Fin 64) (t : Nat)

theorem exec_ringEnable_eq (v : BitVec 32) :
    exec (.ringEnable r v t) s = s.perform (fun s => s.g1At t (fun s => s.ringEnable r v.toNat)) := rfl

theorem exec_ringDisable_eq : exec (.ringDisable r t) s = s.perform (fun s => s.g1At t (fun s => s.ringDisable r)) := rfl

theorem exec_headDoorbell_eq (v : BitVec 32) :
    exec (.headDoorbell r v t) s = s.perform (fun s => s.g1At t (fun s => s.ringHead r v.toNat)) := rfl

theorem exec_descriptorFetch_eq (ds : List (List (BitVec 64))) :
    exec (.descriptorFetch r ds t) s = s.perform (fun s => (s.hostAt t).ringFetch r (ds.map (fun d => d.map BitVec.toNat))) := rfl

theorem exec_g3Nop_eq : exec (.g3Nop r t) s =
    s.perform (fun s => if ((s.hostAt t).ringFront r 5).isSome then (s.hostAt t).ringEnd r 0 0 0 false else s.hostAt t) := rfl

theorem exec_g3Completion_eq : exec (.g3Completion r t) s = s.perform (fun s => (s.hostAt t).ringComplete r) := rfl

/-- DMA_ERROR and DMA_TIMEOUT do the same (13, R401). -/
theorem exec_dmaFailure_eq {c : Instr} {a : BitVec 64} (hc : c = .dmaError r a t ∨ c = .dmaTimeout r a t) : exec c s =
    s.perform (fun s => if ((s.hostAt t).ring r).state = 1 then (s.hostAt t).ringError r a.toNat else s.hostAt t) := by
  obtain rfl | rfl := hc <;> rfl

end Rows

/-! ## The rings' registers (13, R396, R397, R402) -/

@[simp] theorem State.ring_onRing_same (s : State) (r : Nat) (f : RingSt → RingSt) : (s.onRing r f).ring r = f (s.ring r) :=
  SMap.get_set_same ..

theorem State.ring_onRing_other (s : State) {r k : Nat} (f : RingSt → RingSt) (h : k ≠ r) : (s.onRing r f).ring k = s.ring k :=
  SMap.get_set_other _ _ _ (Ne.symm h)

/-- An access that changes one ring alone. -/
theorem exec_onRing {c : Instr} {s : State} {t r : Nat} {f : State → State} {g : RingSt → RingSt}
    (hc : exec c s = s.perform (fun s => s.g1At t f)) (hcar : s.carries = true) (h : f (s.accessed t) = (s.accessed t).onRing r g) :
    ∃ u, exec c s = .next u ∧ u.ring r = g (s.ring r) ∧ (∀ k < 64, k ≠ r → u.ring k = s.ring k) ∧
      u = { s.at t with host := { s.host with rings := u.host.rings, read := 0, dma := [] } } :=
  ⟨_, exec_carried hc hcar h rfl rfl, (s.accessed t).ring_onRing_same r g, fun _ _ hk => (s.accessed t).ring_onRing_other g hk, rfl⟩

/-- What ENABLE with a legal size leaves of a disabled ring (13, R396). -/
def RingSt.enabled (x : RingSt) (control : Nat) : RingSt :=
  { x with
    size := control >>> 16 % 32, vecOn := control >>> 6 % 2 == 1, vec := control % 64, state := 1, abort := 0, head := 0, tail := 0
    phase := true, fetched := 0, prog := [], done := [], stopping := false, half := none, starts := x.starts + 1 }

theorem State.ringEnable_of_legal {s : State} {r control : Nat} (hstate : (s.ring r).state = 0) (hlow : 4 ≤ control >>> 16 % 32)
    (hhigh : control >>> 16 % 32 ≤ 16) : s.ringEnable r control = s.onRing r (fun x => x.enabled control) := by
  unfold State.ringEnable
  rw [if_neg (by omega)]
  rfl

theorem State.ringEnable_of_illegal {s : State} {r control : Nat}
    (h : (s.ring r).state ≠ 0 ∨ control >>> 16 % 32 < 4 ∨ 16 < control >>> 16 % 32) : s.ringEnable r control = s.badAccess := if_pos h

theorem exec_ringEnable_legal {s : State} {r : Fin 64} {v : BitVec 32} {t : Nat} (hcar : s.carries = true) (hstate : (s.ring r).state = 0)
    (hlow : 4 ≤ v.toNat >>> 16 % 32) (hhigh : v.toNat >>> 16 % 32 ≤ 16) :
    ∃ u, exec (.ringEnable r v t) s = .next u ∧ u.ring r = (s.ring r).enabled v.toNat ∧ (∀ k < 64, k ≠ r.val → u.ring k = s.ring k) ∧
      u = { s.at t with host := { s.host with rings := u.host.rings, read := 0, dma := [] } } :=
  exec_onRing (g := fun x => x.enabled v.toNat) (exec_ringEnable_eq s r t v) hcar (State.ringEnable_of_legal (s := s.accessed t) hstate hlow hhigh)

theorem exec_ringEnable_illegal {s : State} {r : Fin 64} {v : BitVec 32} {t : Nat} (hcar : s.carries = true)
    (h : (s.ring r).state ≠ 0 ∨ v.toNat >>> 16 % 32 < 4 ∨ 16 < v.toNat >>> 16 % 32) :
    exec (.ringEnable r v t) s = .next ((s.accessed t).addReg 0x1000 5 1) :=
  exec_badAccess (exec_ringEnable_eq s r t v) hcar (State.ringEnable_of_illegal (s := s.accessed t) h)

/-- ENABLE 0 of a ring with nothing submitted disables it (13, R402). -/
theorem exec_ringDisable_idle {s : State} {r : Fin 64} {t : Nat} (hcar : s.carries = true)
    (h : (s.ring r).state ≠ 1 ∨ ((s.ring r).prog.takeWhile (fun d => d.begun) = [] ∧ (s.ring r).done = [])) :
    ∃ u, exec (.ringDisable r t) s = .next u ∧
      u.ring r = { s.ring r with state := 0, abort := 0, stopping := false, prog := [], done := [] } ∧
      (∀ k < 64, k ≠ r.val → u.ring k = s.ring k) ∧
      u = { s.at t with host := { s.host with rings := u.host.rings, read := 0, dma := [] } } := by
  obtain ⟨u, hu, hring, hrest⟩ := exec_onRing (exec_ringDisable_eq s r t) hcar rfl
  exact ⟨u, hu, hring.trans (if_neg (by tauto)), hrest⟩

/-- ENABLE 0 of a ring with descriptors submitted lets those complete first (13, R402). -/
theorem exec_ringDisable_busy {s : State} {r : Fin 64} {t : Nat} (hcar : s.carries = true) (hstate : (s.ring r).state = 1)
    (h : (s.ring r).prog.takeWhile (fun d => d.begun) ≠ [] ∨ (s.ring r).done ≠ []) :
    ∃ u, exec (.ringDisable r t) s = .next u ∧
      u.ring r = { s.ring r with stopping := true, prog := (s.ring r).prog.takeWhile (fun d => d.begun) } ∧
      (∀ k < 64, k ≠ r.val → u.ring k = s.ring k) ∧
      u = { s.at t with host := { s.host with rings := u.host.rings, read := 0, dma := [] } } := by
  obtain ⟨u, hu, hring, hrest⟩ := exec_onRing (exec_ringDisable_eq s r t) hcar rfl
  exact ⟨u, hu, hring.trans (if_pos ⟨hstate, h⟩), hrest⟩

theorem exec_headDoorbell_legal {s : State} {r : Fin 64} {v : BitVec 32} {t : Nat} (hcar : s.carries = true)
    (h : v.toNat < (s.ring r).entries) :
    ∃ u, exec (.headDoorbell r v t) s = .next u ∧ u.ring r = { s.ring r with head := v.toNat } ∧
      (∀ k < 64, k ≠ r.val → u.ring k = s.ring k) ∧
      u = { s.at t with host := { s.host with rings := u.host.rings, read := 0, dma := [] } } :=
  exec_onRing (g := fun x => { x with head := v.toNat }) (exec_headDoorbell_eq s r t v) hcar (if_neg (Nat.not_le.mpr h))

theorem exec_headDoorbell_illegal {s : State} {r : Fin 64} {v : BitVec 32} {t : Nat} (hcar : s.carries = true)
    (h : (s.ring r).entries ≤ v.toNat) : exec (.headDoorbell r v t) s = .next ((s.accessed t).addReg 0x1000 5 1) :=
  exec_badAccess (exec_headDoorbell_eq s r t v) hcar (if_pos h)

/-- No path carries a write of a ring's register. -/
theorem exec_ringRegister_not_carried {s : State} {r : Fin 64} {v : BitVec 32} {t : Nat} {c : Instr} (hcar : s.carries = false)
    (hc : c = .ringEnable r v t ∨ c = .ringDisable r t ∨ c = .headDoorbell r v t) : exec c s = .next (s.accessed t) := by
  obtain rfl | rfl | rfl := hc
  · exact exec_not_carried (exec_ringEnable_eq s r t v) hcar
  · exact exec_not_carried (exec_ringDisable_eq s r t) hcar
  · exact exec_not_carried (exec_headDoorbell_eq s r t v) hcar

/-! ## Descriptors end (13, R397, R398, R400, R401) -/

/-- The completion of a descriptor (13, table of completion entries). -/
def Desc.completion (d : Desc) (abort count epoch : Nat) (blocked : Bool) : Cpl :=
  ⟨d.idx, d.bits 0 0 16, abort, blocked, if abort = 8 then epoch else 0, count, d.bits 0 46 1 == 1⟩

/-- The descriptors behind one that ends: the first of them comes to the front. -/
def behind (now : Nat) : List Desc → List Desc
  | [] => []
  | e :: es => { e with since := now } :: es

@[simp] theorem map_d_behind (now : Nat) (ds : List Desc) : (behind now ds).map (fun e => e.d) = ds.map (fun e => e.d) := by
  cases ds <;> rfl

/-- A ring whose front descriptor has ended with a completion. -/
def RingSt.ended (x : RingSt) (now : Nat) (ds : List Desc) (c : Cpl) : RingSt := { x with prog := behind now ds, done := x.done ++ [c] }

/-- A state in which the front descriptor of a ring has ended with a completion. -/
def State.ended (s : State) (r : Fin 64) (ds : List Desc) (c : Cpl) : State :=
  (s.onRing r (fun x => x.ended s.clock ds c)).due (.g3Completion r s.clock)

@[simp] theorem State.ring_ended_same (s : State) (r : Fin 64) (ds : List Desc) (c : Cpl) :
    (s.ended r ds c).ring r = (s.ring r).ended s.clock ds c :=
  State.ring_onRing_same s r (fun x => x.ended s.clock ds c)

theorem State.ring_ended_other (s : State) (r : Fin 64) (ds : List Desc) (c : Cpl) {k : Nat} (h : k ≠ r.val) :
    (s.ended r ds c).ring k = s.ring k := State.ring_onRing_other s (fun x => x.ended s.clock ds c) h

theorem State.descEnd_cons {s : State} {r : Fin 64} {d : Desc} {ds : List Desc} (abort count epoch : Nat) (blocked : Bool)
    (h : (s.ring r).prog = d :: ds) : s.descEnd r abort count epoch blocked = s.ended r ds (d.completion abort count epoch blocked) := by
  have hr : Fin.ofNat 64 r.val = r := by simp
  unfold State.descEnd
  rw [h, hr]
  cases ds <;> rfl

theorem State.descEnd_nil {s : State} {r : Nat} (abort count epoch : Nat) (blocked : Bool) (h : (s.ring r).prog = []) :
    s.descEnd r abort count epoch blocked = s := by
  unfold State.descEnd
  rw [h]

/-- A descriptor that was fetched and is valid. -/
def Desc.sound (d : Desc) : Prop := d.invalid = false ∧ d.bad = false

theorem Desc.sound_behind {now : Nat} {ds : List Desc} (h : ∀ e ∈ ds, e.sound) : ∀ e ∈ (behind now ds).head?, e.sound := by
  cases ds with
  | nil => nofun
  | cons d ds =>
    rintro e ⟨⟩
    exact h d (List.mem_cons_self ..)

/-- A sound descriptor at the front stays, and so does an empty ring. -/
theorem State.ringKick_of_sound {s : State} {r : Nat} (n : Nat) (h : ∀ d ∈ (s.ring r).prog.head?, d.sound) : s.ringKick r n = s := by
  cases n with
  | zero => rfl
  | succ n =>
    unfold State.ringKick
    split
    · next d ds hprog =>
      obtain ⟨hvalid, hgood⟩ := h d (by simp [hprog])
      simp [hvalid, hgood]
    · rfl

/-- The front descriptor ends, and a sound one comes to the front. -/
theorem State.ringEnd_cons {s : State} {r : Fin 64} {d : Desc} {ds : List Desc} (abort count epoch : Nat) (blocked : Bool)
    (h : (s.ring r).prog = d :: ds) (hds : ∀ e ∈ ds, e.sound) :
    s.ringEnd r abort count epoch blocked = s.ended r ds (d.completion abort count epoch blocked) := by
  rw [State.ringEnd, State.descEnd_cons abort count epoch blocked h]
  refine State.ringKick_of_sound 16 ?_
  rw [State.ring_ended_same]
  exact Desc.sound_behind hds

/-- A lone descriptor whose fetch failed ends with 0x0069 (13, R401). -/
theorem State.ringKick_bad {s : State} {r : Fin 64} {d : Desc} {n : Nat} (h : (s.ring r).prog = [d]) (hbad : d.bad = true) :
    s.ringKick r (n + 1) = s.ended r [] (d.completion 0x69 0 0 false) := by
  unfold State.ringKick
  simp only [h, hbad, if_true]
  rw [State.descEnd_cons 0x69 0 0 false h]
  exact State.ringKick_of_sound n (by rw [State.ring_ended_same]; nofun)

/-- A lone descriptor that is invalid ends with 0x0068 (13, R398). -/
theorem State.ringKick_invalid {s : State} {r : Fin 64} {d : Desc} {n : Nat} (h : (s.ring r).prog = [d]) (hbad : d.bad = false)
    (hout : d.out = false) (hinv : d.invalid = true) : s.ringKick r (n + 1) = s.ended r [] (d.completion 0x68 0 0 false) := by
  unfold State.ringKick
  simp only [h, hbad, hout, hinv, Bool.false_eq_true, Bool.not_false, Bool.and_self, if_false, if_true]
  rw [State.descEnd_cons 0x68 0 0 false h]
  exact State.ringKick_of_sound n (by rw [State.ring_ended_same]; nofun)

/-! ## DESCRIPTOR_FETCH (13, R397, R398) -/

/-- How many descriptors HEAD offers. -/
def RingSt.ready (x : RingSt) : Nat := (x.head + x.entries - x.fetched) % x.entries

/-- Descriptors as they come into a ring. -/
def RingSt.fetchedDescs (x : RingSt) (now : Nat) (ds : List (List Nat)) : List Desc :=
  ds.zipIdx.map (fun e => (⟨(x.fetched + e.2) % x.entries, e.1, 0, now, false, false, false⟩ : Desc))

theorem RingSt.map_d_fetchedDescs (x : RingSt) (now : Nat) (ds : List (List Nat)) : (x.fetchedDescs now ds).map (fun d => d.d) = ds := by
  rw [RingSt.fetchedDescs, List.map_map]
  exact List.zipIdx_map_fst 0 ds

/-- A ring that has taken descriptors in. -/
def RingSt.fetches (x : RingSt) (now : Nat) (ds : List (List Nat)) : RingSt :=
  { x with fetched := (x.fetched + ds.length) % x.entries, prog := x.prog ++ x.fetchedDescs now ds }

/-- A running ring that has room for all that is read takes it all in. -/
theorem State.ringFetch_all {s : State} {r : Nat} {ds : List (List Nat)} (hstate : (s.ring r).state = 1) (hgo : (s.ring r).stopping = false)
    (hprog : (s.ring r).prog = []) (hroom : ds.length ≤ 16) (hready : ds.length ≤ (s.ring r).ready) :
    s.ringFetch r ds = (s.onRing r (fun x => x.fetches s.clock ds)).ringKick r 16 := by
  have hn : min ds.length (min (16 - (s.ring r).prog.length) (s.ring r).ready) = ds.length := by
    rw [hprog, List.length_nil]; omega
  unfold RingSt.ready at hn
  unfold State.ringFetch
  simp only [hn, List.take_length]
  rw [if_neg (by simp [hstate, hgo])]
  rfl

theorem Desc.invalid_congr {d e : Desc} (h : d.d = e.d) : d.invalid = e.invalid := by
  simp only [Desc.invalid, Desc.op, Desc.count, Desc.bits, Desc.f, h]
  rfl

theorem RingSt.sound_fetchedDescs {x : RingSt} {now : Nat} {ds : List (List Nat)}
    (h : ∀ d ∈ ds, (⟨0, d, 0, 0, false, false, false⟩ : Desc).invalid = false) : ∀ d ∈ x.fetchedDescs now ds, d.sound := by
  intro d hd
  obtain ⟨⟨w, k⟩, hmem, rfl⟩ := List.mem_map.mp hd
  exact ⟨(Desc.invalid_congr rfl).trans (h w (List.fst_mem_of_mem_zipIdx hmem)), rfl⟩

/-- Valid descriptors come into progress. -/
theorem exec_descriptorFetch_valid {s : State} {r : Fin 64} {ds : List (List (BitVec 64))} {t : Nat} (hstate : (s.ring r).state = 1)
    (hgo : (s.ring r).stopping = false) (hprog : (s.ring r).prog = []) (hroom : ds.length ≤ 16) (hready : ds.length = (s.ring r).ready)
    (hvalid : ∀ d ∈ ds, (⟨0, d.map BitVec.toNat, 0, 0, false, false, false⟩ : Desc).invalid = false) :
    ∃ u, exec (.descriptorFetch r ds t) s = .next u ∧
      u.ring r = (s.ring r).fetches (s.at t).clock (ds.map (fun d => d.map BitVec.toNat)) ∧
      (∀ k < 64, k ≠ r.val → u.ring k = s.ring k) ∧
      u = { s.at t with host := { s.host with rings := u.host.rings, read := 0, dma := [] } } := by
  have hfetch := State.ringFetch_all (s := s.accessed t) (ds := ds.map (fun d => d.map BitVec.toNat)) hstate hgo hprog (by simpa using hroom)
    (by simpa using hready.le)
  have hsound : ∀ d ∈ (((s.accessed t).onRing r (fun x => x.fetches (s.accessed t).clock (ds.map (fun d => d.map BitVec.toNat)))).ring r).prog.head?,
      d.sound := by
    rw [State.ring_onRing_same, State.accessed_ring, RingSt.fetches, hprog]
    intro d hd
    exact RingSt.sound_fetchedDescs (by simpa using hvalid) d (List.mem_of_mem_head? hd)
  rw [State.ringKick_of_sound 16 hsound] at hfetch
  exact ⟨_, exec_access (exec_descriptorFetch_eq s r t ds) hfetch rfl rfl, (s.accessed t).ring_onRing_same r _, fun k _ hk => (s.accessed t).ring_onRing_other _ hk, rfl⟩

/-- An invalid descriptor that comes to the front completes with 0x0068. -/
theorem exec_descriptorFetch_invalid {s : State} {r : Fin 64} {d : List (BitVec 64)} {t : Nat} (hstate : (s.ring r).state = 1)
    (hgo : (s.ring r).stopping = false) (hprog : (s.ring r).prog = []) (hready : 0 < (s.ring r).ready)
    (hinv : (⟨0, d.map BitVec.toNat, 0, 0, false, false, false⟩ : Desc).invalid = true) :
    ∃ u c, exec (.descriptorFetch r [d] t) s = .next u ∧
      u.ring r = { s.ring r with fetched := ((s.ring r).fetched + 1) % (s.ring r).entries, done := (s.ring r).done ++ [c] } ∧
      (c.idx, c.abort, c.count) = ((s.ring r).fetched % (s.ring r).entries, 0x68, 0) ∧
      (∀ k < 64, k ≠ r.val → u.ring k = s.ring k) ∧
      u = { s.at t with agenda := s.agenda ++ [.g3Completion r ((s.at t).clock)], host := { s.host with rings := u.host.rings, read := 0, dma := [] } } := by
  have hfetch := State.ringFetch_all (s := s.accessed t) (ds := [d.map BitVec.toNat]) hstate hgo hprog (by simp) hready
  have hlone : (((s.accessed t).onRing r (fun x => x.fetches (s.accessed t).clock [d.map BitVec.toNat])).ring r).prog =
      [⟨(s.ring r).fetched % (s.ring r).entries, d.map BitVec.toNat, 0, (s.at t).clock, false, false, false⟩] := by
    rw [State.ring_onRing_same, State.accessed_ring, RingSt.fetches, hprog]
    rfl
  rw [State.ringKick_invalid hlone rfl rfl ((Desc.invalid_congr rfl).trans hinv)] at hfetch
  refine ⟨_, Desc.completion ⟨(s.ring r).fetched % (s.ring r).entries, d.map BitVec.toNat, 0, (s.at t).clock, false, false, false⟩ 0x68 0 0 false,
    exec_access (exec_descriptorFetch_eq s r t [d]) hfetch rfl rfl, ?_, rfl, fun k _ hk => ?_, rfl⟩
  · rw [State.ring_ended_same, State.ring_onRing_same, State.accessed_ring]
    simp [RingSt.ended, RingSt.fetches, behind, hprog]
  · rw [State.ring_ended_other _ _ _ _ hk, State.ring_onRing_other _ _ hk, State.accessed_ring]

/-- A ring that is not running, or is stopping, takes nothing in. -/
theorem exec_descriptorFetch_idle {s : State} {r : Fin 64} {ds : List (List (BitVec 64))} {t : Nat}
    (h : (s.ring r).state ≠ 1 ∨ (s.ring r).stopping = true) : exec (.descriptorFetch r ds t) s = .next (s.accessed t) :=
  exec_access (exec_descriptorFetch_eq s r t ds) (if_pos h) rfl rfl

/-! ## G3_NOP (13, R397) -/

theorem State.ringFront_eq {s : State} {r op : Nat} {d : Desc} {ds : List Desc} (hstate : (s.ring r).state = 1)
    (hprog : (s.ring r).prog = d :: ds) (hop : d.op = op) (hout : d.out = false) (hbad : d.bad = false)
    (hfence : d.bits 0 45 1 = 0 ∨ (s.ring r).done = []) : s.ringFront r op = some d := by
  unfold State.ringFront
  simp only [hprog]
  exact if_pos ⟨by omega, hbad, hop, hout, hfence⟩

theorem State.ringFront_none {s : State} {r : Nat} (op : Nat) (h : (s.ring r).state = 0 ∨ (s.ring r).prog = []) : s.ringFront r op = none := by
  unfold State.ringFront
  cases hprog : (s.ring r).prog with
  | nil => simp only [hprog]
  | cons d ds =>
    have hstate : (s.ring r).state = 0 := h.resolve_right (by simp [hprog])
    simp [hprog, hstate]

theorem exec_g3Nop {s : State} {r : Fin 64} {t : Nat} {d : Desc} {ds : List Desc} (hstate : (s.ring r).state = 1)
    (hprog : (s.ring r).prog = d :: ds) (hop : d.op = 5) (hout : d.out = false) (hbad : d.bad = false)
    (hfence : d.bits 0 45 1 = 0 ∨ (s.ring r).done = []) (hds : ∀ e ∈ ds, e.sound) :
    ∃ u, exec (.g3Nop r t) s = .next u ∧
      (u.ring r).prog.map (fun e => e.d) = ds.map (fun e => e.d) ∧
      (u.ring r).done = (s.ring r).done ++ [⟨d.idx, d.bits 0 0 16, 0, false, 0, 0, d.bits 0 46 1 == 1⟩] ∧
      (∀ k < 64, k ≠ r.val → u.ring k = s.ring k) ∧
      u = { s.at t with agenda := s.agenda ++ [.g3Completion r ((s.at t).clock)], host := { s.host with rings := u.host.rings, read := 0, dma := [] } } := by
  have hfront : (s.accessed t).ringFront r 5 = some d := State.ringFront_eq hstate hprog hop hout hbad hfence
  refine ⟨(s.accessed t).ended r ds (d.completion 0 0 0 false), ?_, ?_, ?_, fun k _ hk => State.ring_ended_other _ _ _ _ hk, rfl⟩
  · refine exec_access (t := t) (exec_g3Nop_eq s r t) ?_ rfl rfl
    rw [State.hostAt_posted_nil, hfront]
    exact State.ringEnd_cons (s := s.accessed t) 0 0 0 false hprog hds
  · rw [State.ring_ended_same]
    exact map_d_behind _ ds
  · rw [State.ring_ended_same]
    rfl

theorem exec_g3Nop_idle {s : State} {r : Fin 64} {t : Nat} (h : (s.ring r).state = 0 ∨ (s.ring r).prog = []) :
    exec (.g3Nop r t) s = .next (s.accessed t) := by
  have hfront : (s.accessed t).ringFront r 5 = none := State.ringFront_none 5 h
  refine exec_access (t := t) (exec_g3Nop_eq s r t) ?_ rfl rfl
  rw [State.hostAt_posted_nil, hfront]
  rfl

/-! ## G3_COMPLETION (13, R397, R400, R402) -/

/-- The two words of a completion entry, where they go in host memory (13, table of completion entries). -/
def RingSt.entryOf (x : RingSt) (c : Cpl) : List (Nat × Nat) :=
  [(x.cpl / 16 * 16 + 16 * c.idx, b2n x.phase * 2 ^ 63 + b2n c.blocked * 2 ^ 62 + c.abort * 2 ^ 32 + c.tag * 2 ^ 16 + c.idx),
    (x.cpl / 16 * 16 + 16 * c.idx + 8, c.epoch * 2 ^ 32 + c.count)]

/-- A ring whose oldest completion has been written. -/
def RingSt.completes (x : RingSt) (c : Cpl) (cs : List Cpl) : RingSt :=
  { x with done := cs, tail := (c.idx + 1) % x.entries, phase := x.phase != decide (x.entries ≤ c.idx + 1) }

/-- A state in which the oldest completion of a ring has been written. -/
def State.completes (s : State) (r : Nat) (c : Cpl) (cs : List Cpl) : State :=
  (s.dmaWrite ((s.ring r).entryOf c)).onRing r (fun x => x.completes c cs)

@[simp] theorem State.ring_completes_same (s : State) (r : Nat) (c : Cpl) (cs : List Cpl) :
    (s.completes r c cs).ring r = (s.ring r).completes c cs := State.ring_onRing_same ..

theorem State.ring_completes_other (s : State) {r k : Nat} (c : Cpl) (cs : List Cpl) (h : k ≠ r) :
    (s.completes r c cs).ring k = s.ring k := State.ring_onRing_other _ _ h

theorem State.ringComplete_cons {s : State} {r : Nat} {c : Cpl} {cs : List Cpl} (h : (s.ring r).done = c :: cs) :
    s.ringComplete r =
      let b := (s.completes r c cs).when (c.irq && (s.ring r).vecOn) (fun b => b.raiseVector (s.ring r).vec)
      b.when ((b.ring r).stopping && (b.ring r).prog.isEmpty && (b.ring r).done.isEmpty)
        (fun b => b.onRing r (fun x => { x with state := 0, stopping := false })) := by
  unfold State.ringComplete
  simp only [h]
  rfl

theorem State.ringComplete_nil {s : State} {r : Nat} (h : (s.ring r).done = []) : s.ringComplete r = s := by
  unfold State.ringComplete
  simp only [h]

/-- The completion of a ring that goes on, without an interrupt. -/
theorem exec_g3Completion_goesOn {s : State} {r : Fin 64} {t : Nat} {c : Cpl} {cs : List Cpl} (hdone : (s.ring r).done = c :: cs)
    (hgo : (s.ring r).stopping = false) (hirq : c.irq = false) :
    ∃ u, exec (.g3Completion r t) s = .next u ∧
      u.host.dma = (s.ring r).entryOf c ∧
      u.ring r = (s.ring r).completes c cs ∧
      (∀ k < 64, k ≠ r.val → u.ring k = s.ring k) ∧
      u = { s.at t with host := { s.host with rings := u.host.rings, read := 0, dma := u.host.dma } } := by
  have hgo' : ((s.ring r).completes c cs).stopping = false := hgo
  refine ⟨(s.accessed t).completes r c cs, ?_, rfl, State.ring_completes_same .., fun k _ hk => State.ring_completes_other _ _ _ hk, rfl⟩
  refine exec_access (t := t) (exec_g3Completion_eq s r t) ?_ rfl rfl
  rw [State.hostAt_posted_nil, State.ringComplete_cons (s := s.accessed t) hdone]
  simp [State.when, hirq, hgo']

/-- The last completion of a stopping ring disables it; its interrupt follows. -/
theorem exec_g3Completion_last {s : State} {r : Fin 64} {t : Nat} {c : Cpl} (hdone : (s.ring r).done = [c])
    (hstop : (s.ring r).stopping = true) (hprog : (s.ring r).prog = []) (hirq : c.irq = true) (hvec : (s.ring r).vecOn = true) :
    ∃ u, exec (.g3Completion r t) s = .next u ∧
      u.ring r = { (s.ring r).completes c [] with state := 0, stopping := false } ∧
      (∀ k < 64, k ≠ r.val → u.ring k = s.ring k) ∧
      u = { s.at t with agenda := s.agenda ++ [.msixSend (Fin.ofNat 64 (s.ring r).vec) ((s.at t).clock)], host := { s.host with rings := u.host.rings, read := 0, dma := u.host.dma } } := by
  obtain ⟨b, hb⟩ : ∃ b, ((s.accessed t).completes r c []).raiseVector (s.ring r).vec = b := ⟨_, rfl⟩
  have hsame : b.ring r = (s.ring r).completes c [] := hb ▸ State.ring_completes_same ..
  have hframe : b = { s.at t with agenda := s.agenda ++ [.msixSend (Fin.ofNat 64 (s.ring r).vec) ((s.at t).clock)], host := { s.host with rings := b.host.rings, read := 0, dma := b.host.dma } } :=
    hb ▸ rfl
  have hcomplete : (s.accessed t).ringComplete r = b.onRing r (fun x => { x with state := 0, stopping := false }) := by
    rw [State.ringComplete_cons (s := s.accessed t) hdone]
    simp [State.when, hirq, hvec, hb, hsame, RingSt.completes, hstop, hprog]
  refine ⟨b.onRing r (fun x => { x with state := 0, stopping := false }), ?_, ?_, fun k _ hk => ?_, ?_⟩
  · refine exec_access (t := t) (exec_g3Completion_eq s r t) hcomplete ?_ ?_
    · rw [hframe]; rfl
    · rw [hframe]; rfl
  · rw [State.ring_onRing_same, hsame]
  · rw [State.ring_onRing_other _ _ hk, ← hb]
    exact State.ring_completes_other _ _ _ hk
  · rw [hframe]; rfl

theorem exec_g3Completion_idle {s : State} {r : Fin 64} {t : Nat} (h : (s.ring r).done = []) :
    exec (.g3Completion r t) s = .next (s.accessed t) :=
  exec_access (exec_g3Completion_eq s r t) (State.ringComplete_nil (s := s.accessed t) h) rfl rfl

end Sys2Proof.Machine

namespace Sys2Proof.Machine

/-! ## A ring's host memory access fails (13, R401) -/

/-- The log entry of a failed host memory access. -/
def State.dmaLogged (s : State) (r address : Nat) : State := s.logPut 0x0808 (wd r) (wd address)

section DmaLogged

variable (s : State) (r a : Nat)

theorem State.dmaLogged_frame : s.dmaLogged r a = { s with log := (s.dmaLogged r a).log, regs := (s.dmaLogged r a).regs } :=
  s.logPut_eq 0x0808 (wd r) (wd a) false

theorem State.dmaLogged_regs : SameRegs s (s.dmaLogged r a) [odKey 0x0500 6 0, odKey 0x0500 7 0] := s.logPut_regs 0x0808 (wd r) (wd a) false

@[simp] theorem State.dmaLogged_ring (k : Nat) : (s.dmaLogged r a).ring k = s.ring k := by
  rw [State.dmaLogged_frame]
  rfl

end DmaLogged

/-- What a failed access leaves of its ring: ERROR with 0x0069, nothing in progress, completions to write. -/
structure State.RingFailed (s u : State) (r : Nat) (done : List Cpl) : Prop where
  state : (u.ring r).state = 2
  abort : (u.ring r).abort = 0x69
  prog : (u.ring r).prog = []
  done : (u.ring r).done = done
  others : ∀ k ≠ r, u.ring k = s.ring k
  frame : u = { s with agenda := u.agenda, host := { s.host with rings := u.host.rings } }

/-- The completions of a ring whose front descriptor, if it has one, failed. -/
def RingSt.failedFront (x : RingSt) : List Cpl :=
  match x.prog with
  | [] => []
  | d :: _ => [d.completion 0x69 0 0 false]

/-- An address in no ready descriptor: the descriptor at the front fails. -/
theorem State.ringError_front {s : State} {r : Fin 64} {a : Nat} (h : (s.ring r).readyAt a = none) :
    (s.dmaLogged r a).RingFailed (s.ringError r a) r ((s.ring r).done ++ (s.ring r).failedFront) := by
  obtain ⟨b, hb⟩ : ∃ b, s.dmaLogged r a = b := ⟨_, rfl⟩
  have hring (k : Nat) : b.ring k = s.ring k := hb ▸ s.dmaLogged_ring r a k
  have herror : s.ringError r a =
      (b.descEnd r 0x69 0 0 false).onRing r (fun x => { x with state := 2, abort := 0x69, prog := [], starts := x.starts + 1 }) := by
    have hnone : (b.ring r).readyAt a = none := by rw [hring, h]
    unfold State.dmaLogged at hb
    simp only [State.ringError, hb, hnone]
  rw [hb, herror]
  cases hprog : (s.ring r).prog with
  | nil =>
    rw [State.descEnd_nil 0x69 0 0 false ((congrArg RingSt.prog (hring r)).trans hprog)]
    refine ⟨?_, ?_, ?_, ?_, fun k hk => State.ring_onRing_other b _ hk, rfl⟩ <;> rw [State.ring_onRing_same]
    rw [hring, RingSt.failedFront, hprog, List.append_nil]
  | cons d ds =>
    rw [State.descEnd_cons 0x69 0 0 false ((congrArg RingSt.prog (hring r)).trans hprog)]
    refine ⟨?_, ?_, ?_, ?_, fun k hk => (State.ring_onRing_other _ _ hk).trans (State.ring_ended_other b r _ _ hk), rfl⟩ <;>
      rw [State.ring_onRing_same]
    rw [State.ring_ended_same, hring, RingSt.failedFront, hprog]
    rfl

/-- A descriptor whose fetch failed: its fields were never read. -/
def Desc.unread (i now : Nat) : Desc := ⟨i, [], 0, now, false, false, true⟩

/-- It completes with TAG 0 and without an interrupt: the model's choice. -/
theorem Desc.completion_unread (i now : Nat) : (Desc.unread i now).completion 0x69 0 0 false = ⟨i, 0, 0x69, false, 0, 0, false⟩ := by
  simp [Desc.unread, Desc.completion, Desc.bits, Desc.f]

/-- An address in a ready descriptor, with nothing in progress: the fetch of that descriptor failed. -/
theorem State.ringError_fetch {s : State} {r : Fin 64} {a i : Nat} (hprog : (s.ring r).prog = []) (h : (s.ring r).readyAt a = some i) :
    (s.dmaLogged r a).RingFailed (s.ringError r a) r ((s.ring r).done ++ [⟨i, 0, 0x69, false, 0, 0, false⟩]) := by
  obtain ⟨b, hb⟩ : ∃ b, s.dmaLogged r a = b := ⟨_, rfl⟩
  have hring (k : Nat) : b.ring k = s.ring k := hb ▸ s.dmaLogged_ring r a k
  have herror : s.ringError r a = (b.onRing r (fun x =>
      { x with state := 2, abort := 0x69, prog := x.prog ++ [Desc.unread i b.clock] })).ringKick r 17 := by
    have hsome : (b.ring r).readyAt a = some i := by rw [hring, h]
    unfold State.dmaLogged at hb
    simp only [State.ringError, hb, hsome]
    rfl
  rw [hb, herror, State.ringKick_bad (d := Desc.unread i b.clock) (by rw [State.ring_onRing_same, hring, hprog]; rfl) rfl,
    Desc.completion_unread]
  refine ⟨?_, ?_, ?_, ?_, fun k hk => (State.ring_ended_other _ r _ _ hk).trans (State.ring_onRing_other b _ hk), rfl⟩ <;>
    rw [State.ring_ended_same, State.ring_onRing_same]
  · rfl
  · rfl
  · rfl
  · rw [hring]
    rfl

/-- A failed access of a running ring. -/
theorem exec_dmaFailure {s : State} {c : Instr} {r : Fin 64} {a : BitVec 64} {t : Nat} {done : List Cpl}
    (hc : c = .dmaError r a t ∨ c = .dmaTimeout r a t) (hstate : (s.ring r).state = 1)
    (h : ((s.accessed t).dmaLogged r a.toNat).RingFailed ((s.accessed t).ringError r a.toNat) r done) :
    ∃ u, exec c s = .next u ∧
      (u.ring r).state = 2 ∧
      (u.ring r).abort = 0x69 ∧
      (u.ring r).prog = [] ∧
      (u.ring r).done = done ∧
      (∀ k < 64, k ≠ r.val → u.ring k = s.ring k) ∧
      u = { s.at t with regs := u.regs, agenda := u.agenda, log := u.log, host := { s.host with rings := u.host.rings, read := 0, dma := [] } } ∧
      SameRegs s u [odKey 0x0500 6 0, odKey 0x0500 7 0] := by
  have hlogged := (s.accessed t).dmaLogged_frame r a.toNat
  have hregs := (s.accessed t).dmaLogged_regs r a.toNat
  have hrings := (s.accessed t).dmaLogged_ring r a.toNat
  generalize (s.accessed t).dmaLogged r a.toNat = b at h hlogged hregs hrings
  obtain ⟨hstate', habort, hprog, hdone, hothers, hframe⟩ := h
  have hbody : exec c s = .next ((s.accessed t).ringError r a.toNat) := by
    refine exec_access (t := t) (exec_dmaFailure_eq s r t hc) (if_pos hstate) (by rw [hframe, hlogged]) ?_
    rw [hframe]
    exact hregs.reg 0x0100 0x00 0 (by decide)
  generalize (s.accessed t).ringError r a.toNat = u at hbody hstate' habort hprog hdone hothers hframe
  refine ⟨u, hbody, hstate', habort, hprog, hdone, fun k _ hk => (hothers k hk).trans (hrings k), ?_, ?_⟩
  · rw [hframe, hlogged]
    rfl
  · rw [hframe]
    exact hregs

/-- A failed access while its ring is not running. -/
theorem exec_dmaFailure_idle {s : State} {c : Instr} {r : Fin 64} {a : BitVec 64} {t : Nat}
    (hc : c = .dmaError r a t ∨ c = .dmaTimeout r a t) (hstate : (s.ring r).state ≠ 1) : exec c s = .next (s.accessed t) :=
  exec_access (exec_dmaFailure_eq s r t hc) (if_neg hstate) rfl rfl

/-- Settles O35, from a rule for each row; how a descriptor ends is said once (`State.descEnd_cons`, `State.ringKick_of_sound`), and how an
access fails (`State.RingFailed`). -/
theorem ringsRun : Obligations.RingsRun := by
  unfold Obligations.RingsRun
  refine ⟨?_, fun s r v t hcar h => exec_ringEnable_illegal hcar h, fun s r t hcar h => exec_ringDisable_idle hcar h,
    fun s r t hcar hstate h => exec_ringDisable_busy hcar hstate h, fun s r v t hcar h => exec_headDoorbell_legal hcar h,
    fun s r v t hcar h => exec_headDoorbell_illegal hcar h, ?_, ?_, ?_, ?_, fun s r v t c hcar hc => exec_ringRegister_not_carried hcar hc,
    fun s r ds t h => exec_descriptorFetch_idle h, fun s r t h => exec_g3Completion_idle h, fun s r t h => exec_g3Nop_idle h, ?_, ?_, ?_,
    fun s r a t h => exec_dmaFailure_idle (.inl rfl) h, ?_, ?_, fun s r a t h => exec_dmaFailure_idle (.inr rfl) h⟩
  · intro s r v t hcar hstate hlow hhigh
    obtain ⟨u, hu, hring, hrest⟩ := exec_ringEnable_legal (t := t) hcar hstate hlow hhigh
    refine ⟨u, hu, ?_, ?_, ?_, ?_, ?_, ?_, ?_, ?_, ?_, hrest⟩ <;> rw [hring] <;> rfl
  · intro s r ds t hstate hgo hprog hroom hready hvalid
    obtain ⟨u, hu, hring, hrest⟩ := exec_descriptorFetch_valid (t := t) hstate hgo hprog hroom hready hvalid
    refine ⟨u, hu, ?_, ?_, hrest⟩
    · rw [hring, RingSt.fetches, hprog]
      exact RingSt.map_d_fetchedDescs _ _ _
    · rw [hring, RingSt.fetches, List.length_map]
  · intro s r t d ds hstate hprog hop hout hbad hfence hds
    exact exec_g3Nop hstate hprog hop hout hbad hfence hds
  · intro s r t c cs hdone hgo hirq
    exact exec_g3Completion_goesOn hdone hgo hirq
  · intro s r t c hdone hstop hprog hirq hvec
    obtain ⟨u, hu, hring, hrest⟩ := exec_g3Completion_last (t := t) hdone hstop hprog hirq hvec
    refine ⟨u, hu, ?_, ?_, ?_, ?_, hrest⟩ <;> rw [hring] <;> rfl
  · intro s r d t hstate hgo hprog hready hinv
    obtain ⟨u, c, hu, hring, hc, hrest⟩ := exec_descriptorFetch_invalid (t := t) hstate hgo hprog hready hinv
    refine ⟨u, hu, ?_, ?_, ?_, ?_, hrest⟩ <;> rw [hring]
    · exact hprog
    · exact List.length_append
    · simpa using hc
  · intro s r a t hstate h
    exact exec_dmaFailure (.inl rfl) hstate (State.ringError_front (s := s.accessed t) h)
  · intro s r a t i hstate hprog h
    exact exec_dmaFailure (.inl rfl) hstate (State.ringError_fetch (s := s.accessed t) hprog h)
  · intro s r a t hstate h
    exact exec_dmaFailure (.inr rfl) hstate (State.ringError_front (s := s.accessed t) h)
  · intro s r a t i hstate hprog h
    exact exec_dmaFailure (.inr rfl) hstate (State.ringError_fetch (s := s.accessed t) hprog h)

end Sys2Proof.Machine

namespace Sys2Proof.Machine

/-! ## Lines with bad parity (01, R22, R23; 15, R432) -/

/-- A row of HBM is listed for repair, unless it is already. -/
def State.listRow (s : State) (a : Nat) : State :=
  if (a % 64, a / 2048) ∈ s.mem.repairs then s
  else
    let w := s.reg 0x0D01 0x00 (a % 64)
    let s := { s with mem := { s.mem with repairs := s.mem.repairs ++ [(a % 64, a / 2048)] } }
    (s.addReg 0x0D00 0x05 1).setRegW 0x0D01 0x00 (a % 64) (setFld w 21 7 (min 127 (fld w 21 7 + 1)))

theorem State.listRow_frame (s : State) (a : Nat) : s.listRow a = { s with regs := (s.listRow a).regs, mem := (s.listRow a).mem } := by
  unfold State.listRow
  split <;> rfl

theorem State.listRow_regs (s : State) (a : Nat) : SameRegs s (s.listRow a) [odKey 0x0D00 0x05 0, odKey 0x0D01 0x00 (a % 64)] := by
  unfold State.listRow
  split
  · exact SameRegs.refl _ _
  · obtain ⟨b, hb⟩ : ∃ b, ({ s with mem := { s.mem with repairs := s.mem.repairs ++ [(a % 64, a / 2048)] } } : State) = b := ⟨_, rfl⟩
    have hsame : SameRegs s b [] := hb ▸ SameRegs.of_eq [] rfl
    simp only [hb]
    exact hsame.trans ((SameRegs.addReg b 0x0D00 0x05 1 0).trans (SameRegs.setRegW _ 0x0D01 0x00 (a % 64) _))

/-- What finding bad parity in line `a` leaves: the line with POISON posted; beside it objects, the log, the agenda and the list of rows. -/
structure State.LineFound (s u : State) (a : Nat) (l : LineData) : Prop where
  posted : u.posted = (a, poisoned l) :: s.posted
  frame : u = { s with posted := u.posted, regs := u.regs, agenda := u.agenda, log := u.log, mem := u.mem }
  state : u.reg 0x0100 0x00 = s.reg 0x0100 0x00

theorem State.LineFound.hbmRaw {s u : State} {a : Nat} {l : LineData} (h : s.LineFound u a l) (b : Nat) :
    u.hbmRaw b = if a = b then poisoned l else s.hbmRaw b := by
  have hbm : u.hbm = s.hbm := by rw [h.frame]
  rw [State.hbmRaw_eq u b, State.hbmRaw_eq s b, h.posted, hbm]
  by_cases hab : a = b <;> simp [hab]

/-- A read that finds bad parity returns the line with POISON and sets it in the stored line. -/
theorem State.hbmRead_bad {s : State} {a : Nat} {l : LineData} (reader : Nat) (hroom : a < 0x60000000) (hl : s.hbmRaw a = l)
    (hbad : parityBad l = true) (hclear : linePoison l = false) :
    (s.hbmRead a reader).1 = poisoned l ∧ s.LineFound (s.hbmRead a reader).2 a l := by
  obtain ⟨b, hb⟩ : ∃ b, (s.hbmPut a (poisoned l)).addReg 0x0D00 0x04 1 = b := ⟨_, rfl⟩
  have hbframe : b = { s with posted := (a, poisoned l) :: s.posted, regs := b.regs } := by
    rw [← hb, State.hbmPut_of_room s _ hroom]
    rfl
  have hbregs : SameRegs s b [odKey 0x0D00 0x04 0] := by
    rw [← hb, State.hbmPut_of_room s _ hroom]
    exact SameRegs.addReg _ 0x0D00 0x04 1 0
  obtain ⟨k, hk⟩ : ∃ k, (b.listRow a).logPut 0x0905 (wd a) (wd reader) = k := ⟨_, rfl⟩
  have hkframe : k = { s with posted := (a, poisoned l) :: s.posted, regs := k.regs, log := k.log, mem := k.mem } := by
    rw [← hk, State.logPut_eq, State.listRow_frame, hbframe]
  have hkregs := hbregs.trans ((b.listRow_regs a).trans (hk ▸ (b.listRow a).logPut_regs 0x0905 (wd a) (wd reader) false))
  have hread : s.hbmRead a reader = (poisoned l, k.raiseFault (0x46 + a % 64) 0x13 1 (wd a)) := by
    rw [← hk, ← hb]
    simp only [State.hbmRead, Nat.not_le.mpr hroom, hl, hbad, hclear, Bool.false_eq_true, if_false, if_true]
    rfl
  rw [hread]
  refine ⟨rfl, ?_, ?_, hkregs.reg 0x0100 0x00 0 (by simp [odKey]; omega)⟩
  · change k.posted = _
    rw [hkframe]
  · rw [hkframe]
    rfl

/-- The bit that POISON is. -/
theorem linePoison_poisoned (l : LineData) : linePoison (poisoned l) = true := by
  simp [linePoison, poisoned]

/-! ## The window of BAR2 (13, R384 to R386) -/

/-- The line of HBM that byte `o` of BAR2 shows. -/
def State.bar2At (s : State) (o : Nat) : Nat := s.regN 0x1000 4 + o / 64

/-- Bytes of a slot from `a` on, as one number. -/
def slotPart (l : LineData) (a len : Nat) : Nat := slotNumber l / 2 ^ (8 * a) % 2 ^ (8 * len)

theorem State.accessed_hbmRaw (s : State) (t a : Nat) : (s.accessed t).hbmRaw a = s.line a := s.at_hbmRaw t a

/-- A request of one slot is one line's. -/
theorem bar2_lines {o len : Nat} (hlen : 1 ≤ len) (hfit : o % 64 + len ≤ 64) : (o + len - 1) / 64 - o / 64 + 1 = 1 := by omega

section Window

variable {s : State} {o t : Nat}

/-- What the last line of a read adds. -/
theorem State.bar2Gather_step (lo hi i acc : Nat) : s.bar2Gather lo hi 1 i acc =
    let a := max lo (64 * i) - 64 * i
    let b := min hi (64 * i + 64) - 64 * i
    let r := s.bar2Line (s.regN 0x1000 4 + i) (a < 8)
    (acc + (slotNumber r.1 / 2 ^ (8 * a)) % 2 ^ (8 * (b - a)) * 2 ^ (8 * (64 * i + a - lo)), r.2) := rfl

/-- A read within one slot returns the slot's bytes. -/
theorem State.bar2Gather_one {len : Nat} (hlen : 1 ≤ len) (hfit : o % 64 + len ≤ 64) :
    s.bar2Gather o (o + len) 1 (o / 64) 0 =
      (slotPart (s.bar2Line (s.bar2At o) (o % 64 < 8)).1 (o % 64) len, (s.bar2Line (s.bar2At o) (o % 64 < 8)).2) := by
  have hfirst : max o (64 * (o / 64)) - 64 * (o / 64) = o % 64 := by omega
  have hlast : min (o + len) (64 * (o / 64) + 64) - 64 * (o / 64) = o % 64 + len := by omega
  have hplace : 64 * (o / 64) + o % 64 - o = 0 := by omega
  rw [State.bar2Gather_step]
  dsimp only
  rw [hfirst, hlast, hplace, Nat.add_sub_cancel_left, Nat.mul_zero, Nat.pow_zero, Nat.mul_one, Nat.zero_add]
  unfold slotPart State.bar2At
  rfl

/-- A write within one slot reaches one line. -/
theorem State.bar2Scatter_one {bytes : List Byte} (hfit : o % 64 + bytes.length ≤ 64) :
    s.bar2Scatter o bytes 1 (o / 64) = s.bar2Put (s.bar2At o) (o % 64) bytes := by
  have hfirst : max o (64 * (o / 64)) - 64 * (o / 64) = o % 64 := by omega
  have hplace : 64 * (o / 64) + o % 64 - o = 0 := by omega
  have hall : bytes.take (64 - o % 64) = bytes := List.take_of_length_le (by omega)
  simp only [State.bar2Scatter, hfirst, hplace, List.drop_zero, hall]
  rfl

/-- A user line is implemented. -/
theorem State.lineUse_user {a : Nat} (h : s.lineUse a = .user) : a < 0x60000000 := by
  by_contra habsent
  rw [State.lineUse, if_pos (Nat.le_of_not_lt habsent)] at h
  cases h

/-- An access whose body posts lines ends with them landed. -/
theorem exec_posting {c : Instr} {f : State → State} {x : State} (hc : exec c s = s.perform (fun s => s.g1At t f)) (hcar : s.carries = true)
    (h : f (s.accessed t) = x) (hx : x = { s.accessed t with posted := x.posted, regs := x.regs, agenda := x.agenda, log := x.log, mem := x.mem, host := x.host })
    (hstate : x.reg 0x0100 0x00 = s.reg 0x0100 0x00) : exec c s = .next x.landed := by
  have hpending : x.pending = s.pending := by rw [hx]; rfl
  have hhbm : x.hbm = s.hbm := by rw [hx]; rfl
  have hclock : x.clock = (s.at t).clock := by rw [hx]; rfl
  rw [hc]
  exact State.perform_landed ((State.g1At_of_carries t hcar f).trans h) hstate hpending hhbm (hclock ▸ s.clock_le_at t)

/-! ## BAR2_READ -/

theorem exec_bar2Read_eq (s : State) (o len t : Nat) : exec (.bar2Read o len [] t) s = s.perform (fun s => s.g1At t (fun s =>
    if len = 0 then s
    else
      let r := s.bar2Gather o (o + len) ((o + len - 1) / 64 - o / 64 + 1) (o / 64) 0
      r.2.hostRead r.1)) := rfl

/-- The body of a read within one slot. -/
theorem State.bar2Read_body {len : Nat} (hlen : 1 ≤ len) (hfit : o % 64 + len ≤ 64) :
    (if len = 0 then s
      else
        let r := s.bar2Gather o (o + len) ((o + len - 1) / 64 - o / 64 + 1) (o / 64) 0
        r.2.hostRead r.1) =
      (s.bar2Line (s.bar2At o) (o % 64 < 8)).2.hostRead (slotPart (s.bar2Line (s.bar2At o) (o % 64 < 8)).1 (o % 64) len) := by
  rw [if_neg (by omega), bar2_lines hlen hfit]
  dsimp only
  rw [State.bar2Gather_one hlen hfit]

/-- A read of a slot that finds no bad parity returns its bytes and changes nothing. -/
theorem exec_bar2Read {len : Nat} {l : LineData} (hcar : s.carries = true) (hlen : 1 ≤ len) (hfit : o % 64 + len ≤ 64)
    (h : (s.accessed t).bar2Line (s.bar2At o) (o % 64 < 8) = (l, s.accessed t)) :
    exec (.bar2Read o len [] t) s = .next { s.at t with host := { s.host with read := slotPart l (o % 64) len, dma := [] } } := by
  refine exec_carried (exec_bar2Read_eq s o len t) hcar ?_ rfl rfl
  have hbody := State.bar2Read_body (s := s.accessed t) hlen hfit
  rw [show (s.accessed t).bar2At o = s.bar2At o from rfl, h] at hbody
  exact hbody

/-- A user line is shown as it is read. -/
theorem State.bar2Line_user {a : Nat} (w0 : Bool) (h : s.lineUse a = .user) : s.bar2Line a w0 = s.hbmRead a 6 := by
  simp only [State.bar2Line, h]

/-- Lines that BAR2 does not show read as a poisoned line of zeros (13, table of BAR2 access by HBM region). -/
theorem State.bar2Line_hidden {a : Nat} (w0 : Bool) (h : s.lineUse a ∈ [LineUse.links, LineUse.replies, LineUse.absent]) :
    s.bar2Line a w0 = (mkLine 0 0 true 0 0 0 0 0 0, s) := by
  simp only [List.mem_cons, List.not_mem_nil, or_false] at h
  obtain h | h | h := h <;> simp only [State.bar2Line, h]

/-- A read whose body finds bad parity and returns `v`. -/
theorem exec_bar2Read_found {len v : Nat} {l : LineData} {x : State} (hcar : s.carries = true) (hfound : (s.accessed t).LineFound x (s.bar2At o) l)
    (hbody : (if len = 0 then s.accessed t
      else
        let r := (s.accessed t).bar2Gather o (o + len) ((o + len - 1) / 64 - o / 64 + 1) (o / 64) 0
        r.2.hostRead r.1) = x.hostRead v) :
    ∃ u, exec (.bar2Read o len [] t) s = .next u ∧
      (∀ a, u.line a = if s.bar2At o = a then poisoned l else s.line a) ∧
      u.host = { s.host with read := v, dma := [] } := by
  have hlines (a : Nat) : x.hbmRaw a = if s.bar2At o = a then poisoned l else s.line a := s.accessed_hbmRaw t a ▸ hfound.hbmRaw a
  refine ⟨(x.hostRead v).landed, exec_posting (exec_bar2Read_eq s o len t) hcar hbody ?_ hfound.state,
    fun a => (State.line_landed _ a).trans (hlines a), ?_⟩
  · rw [hfound.frame]
    rfl
  · rw [hfound.frame]
    rfl

/-- A read that finds bad parity returns the line with POISON and leaves it so. -/
theorem exec_bar2Read_bad {len : Nat} {l : LineData} (hcar : s.carries = true) (hlen : 1 ≤ len) (hfit : o % 64 + len ≤ 64)
    (huse : s.lineUse (s.bar2At o) = .user) (hl : s.line (s.bar2At o) = l) (hbad : parityBad l = true) (hclear : linePoison l = false) :
    ∃ u, exec (.bar2Read o len [] t) s = .next u ∧
      (∀ a, u.line a = if s.bar2At o = a then poisoned l else s.line a) ∧
      u.host = { s.host with read := slotPart (poisoned l) (o % 64) len, dma := [] } := by
  obtain ⟨hline, hfound⟩ := State.hbmRead_bad (s := s.accessed t) 6 (State.lineUse_user huse) ((s.accessed_hbmRaw t _).trans hl) hbad hclear
  have hbody := State.bar2Read_body (s := s.accessed t) hlen hfit
  rw [show (s.accessed t).bar2At o = s.bar2At o from rfl, State.bar2Line_user (s := s.accessed t) _ huse, hline] at hbody
  exact exec_bar2Read_found hcar hfound hbody

/-! ## BAR2_WRITE -/

theorem exec_bar2Write_eq (s : State) (o : Nat) (bytes : List Byte) (poisoned : Bool) (t : Nat) :
    exec (.bar2Write o bytes poisoned t) s = s.perform (fun s => s.g1At t (fun s =>
      if poisoned then s.addReg 0x1000 0x06 1
      else if bytes.isEmpty then s
      else s.bar2Scatter o bytes ((o + bytes.length - 1) / 64 - o / 64 + 1) (o / 64))) := rfl

/-- The body of a sound write within one slot. -/
theorem State.bar2Write_body {bytes : List Byte} (hlen : 1 ≤ bytes.length) (hfit : o % 64 + bytes.length ≤ 64) :
    (if false = true then s.addReg 0x1000 0x06 1
      else if bytes.isEmpty then s
      else s.bar2Scatter o bytes ((o + bytes.length - 1) / 64 - o / 64 + 1) (o / 64)) = s.bar2Put (s.bar2At o) (o % 64) bytes := by
  have hsome : bytes.isEmpty = false := by
    cases bytes with
    | nil => simp at hlen
    | cons b bytes => rfl
  rw [if_neg (by decide), hsome, if_neg (by decide), bar2_lines hlen hfit, State.bar2Scatter_one hfit]

/-- A poisoned write is counted and discarded (01, R26). -/
theorem exec_bar2Write_poisoned {bytes : List Byte} (hcar : s.carries = true) :
    exec (.bar2Write o bytes true t) s = .next ((s.accessed t).addReg 0x1000 6 1) :=
  exec_carried (exec_bar2Write_eq s o bytes true t) hcar rfl rfl ((SameRegs.addReg (s.accessed t) 0x1000 6 1 0).reg _ _ _ (by decide))

/-- A write that reaches its line with nothing but an entry in the log. -/
theorem exec_bar2Write_logged {bytes : List Byte} {code : Nat} {source : Word} (hcar : s.carries = true) (hlen : 1 ≤ bytes.length)
    (hfit : o % 64 + bytes.length ≤ 64)
    (h : (s.accessed t).bar2Put (s.bar2At o) (o % 64) bytes = (s.accessed t).logPut code (wd (s.bar2At o)) source) :
    exec (.bar2Write o bytes false t) s = .next ((s.accessed t).logPut code (wd (s.bar2At o)) source) :=
  exec_carried (exec_bar2Write_eq s o bytes false t) hcar ((State.bar2Write_body (s := s.accessed t) hlen hfit).trans h)
    (by rw [State.logPut_eq]) (((s.accessed t).logPut_regs code (wd (s.bar2At o)) source false).reg _ _ _ (by decide))

/-- A write that stores one line. -/
theorem exec_bar2Write_stores {bytes : List Byte} {l : LineData} (hcar : s.carries = true) (hlen : 1 ≤ bytes.length)
    (hfit : o % 64 + bytes.length ≤ 64) (hroom : s.bar2At o < 0x60000000)
    (h : (s.accessed t).bar2Put (s.bar2At o) (o % 64) bytes = (s.accessed t).hbmPut (s.bar2At o) l) :
    ∃ u, exec (.bar2Write o bytes false t) s = .next u ∧
      u.line (s.bar2At o) = l ∧
      (∀ a, a ≠ s.bar2At o → u.line a = s.line a) ∧
      u = { s.at t with hbm := u.hbm, host := { s.host with read := 0, dma := [] } } := by
  have hbody := (State.bar2Write_body (s := s.accessed t) hlen hfit).trans h
  have hsame := State.hbmRaw_hbmPut_same (s.accessed t) l hroom
  have hother (a : Nat) (ha : a ≠ s.bar2At o) := (State.hbmRaw_hbmPut_other (s.accessed t) l (Ne.symm ha)).trans (s.accessed_hbmRaw t a)
  have hput := State.hbmPut_of_room (s.accessed t) l hroom
  generalize (s.accessed t).hbmPut (s.bar2At o) l = x at hbody hsame hother hput
  have hwritten : exec (.bar2Write o bytes false t) s = .next x.landed :=
    exec_posting (exec_bar2Write_eq s o bytes false t) hcar hbody (by rw [hput]) (by rw [hput]; rfl)
  refine ⟨x.landed, hwritten, (State.line_landed x _).trans hsame, fun a ha => (State.line_landed x a).trans (hother a ha), ?_⟩
  obtain ⟨m, hm⟩ := x.landed_eq
  rw [hm, hput]
  rfl

/-- A whole line: bytes 0 to 49 at least, without POISON (13, R385). -/
theorem State.bar2Put_whole {a : Nat} {bytes : List Byte} (huse : s.lineUse a = .user) (hlen : 50 ≤ bytes.length) :
    s.bar2Put a 0 bytes = s.hbmPut a (lineOfSlot (spliceSlot 0 0 bytes) false) := by
  simp only [State.bar2Put, huse]
  exact if_pos ⟨trivial, hlen⟩

/-- Part of a line whose parity agrees: the named bytes change, POISON stays (13, R385). -/
theorem State.bar2Put_part {line a : Nat} {bytes : List Byte} (huse : s.lineUse line = .user) (ha : a < 50)
    (hpart : 0 < a ∨ bytes.length < 50) (hgood : parityBad (s.hbmRaw line) = false) :
    s.bar2Put line a bytes =
      s.hbmPut line (lineOfSlot (spliceSlot (slotNumber (s.hbmRaw line)) a bytes) (linePoison (s.hbmRaw line))) := by
  simp only [State.bar2Put, huse]
  rw [if_neg (by omega), if_neg (by omega), State.hbmRead_good 6 (State.lineUse_user huse) hgood]

/-- Bytes 50 to 63 of a slot belong to no line (13, table of a BAR2 line slot). -/
theorem State.bar2Put_tail {line a : Nat} {bytes : List Byte} (huse : s.lineUse line = .user) (ha : 50 ≤ a) : s.bar2Put line a bytes = s := by
  simp only [State.bar2Put, huse]
  rw [if_neg (by omega), if_pos ha]

/-- The log code of a write to a line of a context, the pool or its links. -/
theorem State.bar2Put_region {a n b : Nat} {bytes : List Byte}
    (h : s.lineUse a = .live n ∨ s.lineUse a = .result n ∨ s.lineUse a = .pool ∨ s.lineUse a = .links) :
    s.bar2Put a b bytes = s.logPut (if s.lineUse a = .live n ∨ s.lineUse a = .result n then 0x0603 else 0x0608) (wd a) s.bar2Source := by
  obtain h | h | h | h := h <;> simp [State.bar2Put, h]

theorem State.bar2Put_reserved {a b : Nat} {bytes : List Byte} (h : s.lineUse a = .replies ∨ s.lineUse a = .journal) :
    s.bar2Put a b bytes = s.logPut 0x0807 (wd a) 0 := by
  obtain h | h := h <;> simp [State.bar2Put, h]

theorem State.bar2Put_absent {a b : Nat} {bytes : List Byte} (h : s.lineUse a = .absent) :
    s.bar2Put a b bytes = s.logPut 0x0203 (wd a) s.bar2Source := by
  simp [State.bar2Put, h]

/-- Bytes 50 to 63 alone change nothing. -/
theorem exec_bar2Write_tail {bytes : List Byte} (hcar : s.carries = true) (ho : 50 ≤ o % 64) (hfit : o % 64 + bytes.length ≤ 64)
    (huse : s.lineUse (s.bar2At o) = .user) : exec (.bar2Write o bytes false t) s = .next (s.accessed t) := by
  refine exec_carried (exec_bar2Write_eq s o bytes false t) hcar ?_ rfl rfl
  cases bytes with
  | nil => rfl
  | cons b bytes =>
    exact (State.bar2Write_body (s := s.accessed t) (by simp) hfit).trans (State.bar2Put_tail (s := s.accessed t) huse ho)

end Window

/-- Settles O37: a request of one slot reads one line (`State.bar2Gather_one`) or reaches one (`State.bar2Scatter_one`); what it meets there
is said by the line's use. -/
theorem bar2ReachesHbm : Obligations.Bar2ReachesHbm := by
  unfold Obligations.Bar2ReachesHbm
  refine ⟨?_, ?_, fun s o bytes t hcar => exec_bar2Write_poisoned hcar, ?_, ?_, ?_, ?_,
    fun s o bytes t hcar ho hfit huse => exec_bar2Write_tail hcar ho hfit huse, ?_, ?_, ?_⟩
  · rintro s o len t l hcar hlen hfit huse rfl hgood
    refine exec_bar2Read hcar hlen hfit ?_
    exact (State.bar2Line_user (s := s.accessed t) _ huse).trans (State.hbmRead_good (s := s.accessed t) 6 (State.lineUse_user huse) hgood)
  · intro s o bytes t hcar ho hlen hfit huse
    refine exec_bar2Write_stores hcar (by omega) (by omega) (State.lineUse_user huse) ?_
    rw [ho]
    exact State.bar2Put_whole (s := s.accessed t) huse hlen
  · intro s o n bytes t hcar hlen hfit huse
    exact exec_bar2Write_logged hcar hlen hfit (State.bar2Put_region (s := s.accessed t) huse)
  · intro s o bytes t hcar hlen hfit huse
    exact exec_bar2Write_logged hcar hlen hfit (State.bar2Put_reserved (s := s.accessed t) huse)
  · intro s o bytes t hcar hlen hfit huse
    exact exec_bar2Write_logged hcar hlen hfit (State.bar2Put_absent (s := s.accessed t) huse)
  · rintro s o bytes t l hcar hlen hfit ho hpart huse rfl hgood
    exact exec_bar2Write_stores hcar hlen hfit (State.lineUse_user huse) (State.bar2Put_part (s := s.accessed t) huse ho hpart hgood)
  · rintro s o len t bytes p c hcar (rfl | rfl)
    · exact exec_not_carried (exec_bar2Read_eq s o len t) hcar
    · exact exec_not_carried (exec_bar2Write_eq s o bytes p t) hcar
  · intro s o len t hcar hlen hfit huse
    exact exec_bar2Read hcar hlen hfit (State.bar2Line_hidden (s := s.accessed t) _ huse)
  · rintro s o len t l hcar hlen hfit huse rfl hbad hclear
    obtain ⟨u, hu, hline, hhost⟩ := exec_bar2Read_bad (t := t) hcar hlen hfit huse rfl hbad hclear
    refine ⟨u, hu, ?_, fun a ha => (hline a).trans (if_neg (Ne.symm ha)), hhost⟩
    have hpoison := (hline (s.bar2At o)).trans (if_pos rfl)
    exact (congrArg linePoison hpoison).trans (linePoison_poisoned _)

end Sys2Proof.Machine
